-- ==== Sys2Proof/Word.lean ====
section
/-! DEFINITION. Word and byte types, bit fields, little-endian bytes (R8) and saturating counts. -/

namespace Sys2Proof

/-- A byte. -/
abbrev Byte := BitVec 8

/-- A 64-bit register or scalar word (R24, R79). -/
abbrev W64 := BitVec 64

/-- An FP32 value as its 32 bits (R37). -/
abbrev F32 := BitVec 32

/-- Field `[lo + w - 1 : lo]` of a 64-bit word, as a number. -/
def fld (v : W64) (lo w : Nat) : Nat := v.toNat / 2 ^ lo % 2 ^ w

/-- `v` with field `[lo + w - 1 : lo]` replaced by `x` modulo its width. -/
def setFld (v : W64) (lo w : Nat) (x : Nat) : W64 :=
  let old := v.toNat / 2 ^ lo % 2 ^ w
  BitVec.ofNat 64 (v.toNat - old * 2 ^ lo + x % 2 ^ w * 2 ^ lo)

/-- The low `n` bytes of a number, least significant byte first (R8). -/
def leBytes : (n x : Nat) → List Byte
  | 0, _ => []
  | n + 1, x => BitVec.ofNat 8 x :: leBytes n (x / 256)

/-- The number whose bytes, least significant first, are given (R8). -/
def leNat : List Byte → Nat
  | [] => 0
  | b :: bs => b.toNat + 256 * leNat bs

/-- A saturating increment of a counter of width `w` bits (the RC counters of the register maps). -/
def satAdd (w x d : Nat) : Nat := min (2 ^ w - 1) (x + d)

/-- Sign extension of the low `w` bits of a number to an integer. -/
def sext (w x : Nat) : Int :=
  if x % 2 ^ w < 2 ^ (w - 1) then (x % 2 ^ w : Nat) else (x % 2 ^ w : Nat) - (2 ^ w : Nat)

/-- Exactly `n` elements of a list: cut or padded with `d`. -/
def padTo {α : Type} (d : α) (n : Nat) (l : List α) : List α :=
  (l ++ List.replicate n d).take n

/-- Element `i` of a list, `d` beyond its end. -/
def nthD {α : Type} (d : α) (l : List α) (i : Nat) : α := (l[i]?).getD d

/-- A list with element `i` replaced (unchanged when `i` is beyond the end). -/
def setNth {α : Type} : List α → Nat → α → List α
  | [], _, _ => []
  | _ :: t, 0, x => x :: t
  | h :: t, n + 1, x => h :: setNth t n x

/-- `n` bytes from offset `o` of a list of bytes, bytes beyond the end read as zero. -/
def bytesAt (l : List Byte) (o n : Nat) : List Byte := padTo 0 n (l.drop o)

/-- Ceiling division. -/
def ceilDiv (a b : Nat) : Nat := (a + b - 1) / b

end Sys2Proof
end

