-- ==== Sys2Proof/Syntax.lean ====
section
/-! DEFINITION. The operands of the part's commands and the commands themselves: one constructor of
`Instr` per row of spec/opcode_table.json. A command is a step of the part (95_what_each_step_holds.md):
a register access, a descriptor consumed from a ring, an instruction issued by a sliver core, a message
arriving from the fabric, a timer or a completion. -/

namespace Sys2Proof

/-- The path a register access comes by (R6, R28, R439, R452). -/
inductive Path where
  | host | manager | towpath
deriving DecidableEq, Repr

/-- A layer of an object: tenant, object, layer (R29, R160). -/
structure LayerKey where
  tenant : Nat
  object : Nat
  layer : Nat
deriving DecidableEq, Repr

/-- A berth: tenant, object, layer, berth index (R26, R161). -/
structure BerthKey where
  tenant : Nat
  object : Nat
  layer : Nat
  berth : Nat
deriving DecidableEq, Repr

/-- The layer of a berth. -/
def BerthKey.lk (k : BerthKey) : LayerKey := ⟨k.tenant, k.object, k.layer⟩

/-- A disturbance of stored bytes: the byte at a slot offset (R148) is XORed with `flip` before it is read. -/
structure Upset where
  off : Nat
  flip : Byte
deriving DecidableEq, Repr

/-- A fault in an accumulator element: plane, row, column and the value it now holds (R422). -/
structure AccUpset where
  plane : Nat
  row : Nat
  col : Nat
  val : F32
deriving DecidableEq, Repr

/-- A flipped bit of a ledger entry: 0 to 127 key, 128 to 255 care, 256 to 319 value, 320 up the
locator (R218). -/
structure LedgerUpset where
  index : Nat
  bit : Nat
deriving DecidableEq, Repr

/-- The attention and convoy fields of a SWEEP descriptor (R33, R333). -/
structure SweepDesc where
  tenant : Nat
  wrid : Nat
  prog : Nat
  layer : Nat
  object : Nat
  nq : Nat
  treeNodes : Nat
  scale : F32
  window : Nat
  lo : Nat
  hi : Nat
  treeBase : Nat
  sink : Nat
  k : Nat
  mergePoint : Nat
  filter : Nat
  treeOff : Nat
  qbuf : Nat
  qlen : Nat
  reserve : Nat
  launch : Nat
  minLead : Nat
  deadline : Nat
  backup : Nat
  slotLen : Nat
  slot : Nat
  cq : Bool
  qfmt : Bool
  noncausal : Bool
  recompute : Bool
deriving DecidableEq, Repr

/-- The four fabric times of a convoy (R63). -/
structure Times where
  t : Nat
  b : Option Nat
  c : Nat
  d : Nat
deriving DecidableEq, Repr

/-- What a peer's reservation request and the ARM it leads to tell a merge point (R62, R63); no command of the table
carries it. -/
structure PeerRequest where
  seq : Nat
  tenant : Nat
  desc : SweepDesc
  qbuf : List Byte
  nkv : Nat
  gq : Nat
  d : Nat
  members : List Nat
  times : Times
  late : Bool
deriving DecidableEq, Repr

/-- ARM (R64): descriptor fields, queries, SEQ, times, member index, merge point and the accepting part. -/
structure ArmMsg where
  gsid : Nat
  seq : Nat
  member : Nat
  origin : Nat
  src : Nat
  epoch : Nat
  fwd : Bool
  late : Bool
  desc : SweepDesc
  qbuf : List Byte
  times : Times
deriving DecidableEq, Repr

/-- ARM_ACK (R64): the answering package, its count of visible positions and its layer ceiling. -/
structure ArmAckMsg where
  gsid : Nat
  seq : Nat
  member : Nat
  src : Nat
  count : Nat
  kappa : F32
deriving DecidableEq, Repr

/-- BACKUP (R67, R414): the ARM content, the member's range and, when held, its count and ceiling. -/
structure BackupMsg where
  arm : ArmMsg
  ack : Option (Nat × F32)
deriving DecidableEq, Repr

/-- A partial record (R49): the header fields the part uses and O. -/
structure Partial where
  m : F32
  l : F32
  lMan : F32
  lSkip : F32
  eL : F32
  eO : F32
  nExact : Nat
  nMan : Nat
  nDrop : Nat
  nSel : Nat
  nSkip : Nat
  nTwin : Nat
  nSuspect : Nat
  flags : Nat
  qpos : Nat
  qid : Nat
  sweep : Nat
  seq : Nat
  part : Nat
  twinAttempt : Bool
  merged : Bool
  member : Nat
  o : List F32
deriving DecidableEq, Repr

/-- PART (R65, R66): one record landing from a source. -/
structure PartMsg where
  gsid : Nat
  seq : Nat
  member : Nat
  src : Nat
  twin : Bool
  row : Nat
  body : Partial
deriving DecidableEq, Repr

/-- A publication of a peer merge point (R340). -/
structure PubMsg where
  gsid : Nat
  seq : Nat
  filled : Nat
  members : Nat
  final : Bool
  recs : List Partial
deriving DecidableEq, Repr

/-- What a sluice releases (R266): a sweep, a core's gated instruction, an entry of a core flight, an
entry of a host flight. -/
inductive SluiceRef where
  | convoy (gsid seq : Nat) (twin : Bool)
  | core (core : Nat)
  | coreFlight (core flight : Nat)
  | hostFlight (handle : Nat)
deriving DecidableEq, Repr

/-- Why a run starts: the group's first runs, a replacement run (R104) or a retry run (R91). -/
inductive RunKind where
  | first | replacement | retry
deriving DecidableEq, Repr

/-- One stored payload line with its side record (R201). `bytes` are the stored bytes, LEN × 16 of them. -/
structure StoredLine where
  lcode : Nat
  len : Nat
  poison : Bool
  shift : Int
  ver : Nat
  tag : W64
  check0 : List Byte
  check1 : List Byte
  bytes : List Byte
deriving DecidableEq, Repr

/-- A slot label (R153). -/
structure SlotLabel where
  object : Nat
  tenant : Nat
  layer : Nat
  berth : Nat
  gen : Nat
  kind : Nat
deriving DecidableEq, Repr

/-- A stored manifest (R150): 3,968 encrypted bytes, 112 check bytes and the tag. -/
structure StoredManifest where
  bytes : List Byte
  check : List Byte
  tag : W64
deriving DecidableEq, Repr

/-- The content of a berth slot (R148): payload lines with side records, manifest and label. -/
structure SlotImage where
  lines : List StoredLine
  man : StoredManifest
  label : SlotLabel
deriving DecidableEq, Repr

/-- The three parts of BARGE_DATA in the order R177 step 3 sends them. -/
inductive BargePhase where
  | manifest | payload | label
deriving DecidableEq, Repr

/-- A HOME block of a reply (R230): object, layer, block, homed berths. -/
structure HomeBlock where
  tenant : Nat
  object : Nat
  layer : Nat
  block : Nat
  homed : Nat
  epoch : Nat
deriving DecidableEq, Repr

/-- A PTP Sync event message (R254): domain, sequence, arrival on the local count, origin time, correction. -/
structure PtpSyncMsg where
  domain : Nat
  seqId : Nat
  twoStep : Bool
  rx : W64
  origin : W64
  corr : Int
deriving DecidableEq, Repr

/-- The dataset of an Announce message (R254), compared by the default best master clock algorithm. -/
structure PtpAnnounce where
  domain : Nat
  prio1 : Nat
  clockClass : Nat
  accuracy : Nat
  variance : Nat
  prio2 : Nat
  identity : Nat
deriving DecidableEq, Repr

/-- The base header of an arriving Yelam packet (R279) with the outcome of the checks the port makes on
its cipher layers (R297 steps 1, 2 and 6). -/
structure Pkt where
  engine : Nat
  macsecOk : Bool
  encapOk : Bool
  tagOk : Bool
  ver : Nat
  vc : Nat
  ackReq : Bool
  dconn : Nat
  en : Bool
  tag : Nat
  last : Bool
  first : Bool
  ece : Bool
  marked : Bool
  len : Nat
  frameLen : Nat
  psn : Nat
  apsn : Nat
  ctr : Nat
  txtime : Nat
deriving DecidableEq, Repr

/-- The RMA extension (R280) with the message length the first packet carries and its NOTIFY flag. -/
structure RmaExt where
  addr : W64
  mkey : Nat
  mgen : Nat
  opnd0 : W64
  opnd1 : W64
  msgLen : Nat
  notify : Bool
deriving DecidableEq, Repr

/-- The RESPONSE extension (R280). -/
structure RespExt where
  rpsn : Nat
  status : Nat
  result : W64
deriving DecidableEq, Repr

/-- The ACK extension (R280). -/
structure AckExt where
  sack : W64
  owd : Nat
  status : Nat
  spsn : Nat
deriving DecidableEq, Repr

/-- CONN_REQ or CONN_ACC (R290). `verifies` is the outcome of its tag under the setup key. -/
structure ConnSetup where
  pkg : Nat
  conn : Nat
  peerConn : Nat
  kind : Nat
  tenant : Nat
  encap : Bool
  nonce : BitVec 128
  verifies : Bool
deriving DecidableEq, Repr

/-- Where a composition operation comes from (R349): a ring of a basin, or BSN_CMD. -/
inductive ComposeSrc where
  | ring (basin : BitVec 6) (ring : BitVec 8)
  | cmd
deriving DecidableEq, Repr

/-- The body of a journal record (R410). -/
inductive JBody where
  | object (attrs : List Byte) (destroy : Bool)
  | image (img : SlotImage)
  | lines (ls : List (Nat × StoredLine))
  | count
  | drop
  | free
deriving DecidableEq, Repr

/-- A journal record (R410). -/
structure JRecord where
  durable : Bool
  key : BerthKey
  jseq : Nat
  gen : Nat
  count : Nat
  body : JBody
deriving DecidableEq, Repr

/-- An entry of an INDEX answer (R410). -/
structure JIndexEntry where
  key : BerthKey
  count : Nat
  gen : Nat
deriving DecidableEq, Repr

/-- JOURNAL_ACK (R410): status, RECV, DURABLE, and the FETCH or INDEX content. `below` tells that USED fell
below 7/8 of MAX (R413). -/
structure JAckMsg where
  tenant : Nat
  status : Nat
  recv : Nat
  durable : Nat
  refused : Option Nat
  below : Bool
  images : List JRecord
  index : Option (List JIndexEntry)
deriving DecidableEq, Repr

/-- A towpath command frame (R439): CMD, ADDR, LEN, data, the PEC received, the address byte of each START and
whether the controller addressed the target in I3C. -/
structure TwpFrame where
  cmd : Byte
  addr : BitVec 24
  len : Byte
  data : List Byte
  pec : Byte
  addrW : Byte
  i3c : Bool
deriving DecidableEq, Repr

/-- The commands of the part: one constructor per row of spec/opcode_table.json. -/
inductive Instr where
  /-- R6: A write to a register field that has no step of its own takes effect according to the field's access code.
  -/
  | registerWrite (path : Path) (off : BitVec 24) (val : BitVec 64)
  /-- R22: At the end of each window the timebase stores each region's pace-monitor step count and updates part pace,
  setting BELOW_FLOOR if a region is under FLOOR. -/
  | paceWindowEnd (counts : List Nat)
  /-- R333: A keeper consumes a SWEEP descriptor, checks it, assigns a local sweep number, copies the query buffer,
  sets QUEUED and begins forming the convoy. -/
  | sweep (basin : BitVec 6) (ring : BitVec 8)
  /-- R62: Once the merge pool has room, in arrival order, the merge point reserves the member slots and the accepting
  part fixes T, B, C and D and sends ARM. -/
  | mergeSlotReserve (gsid : BitVec 24)
  /-- R64: A member receives ARM, binds the program, counts its visible positions and answers ARM_ACK with its count
  and layer ceiling, forwarding through tombstones where needed. -/
  | arm (m : ArmMsg)
  /-- R64: The merge point receives a member's ARM_ACK and keeps its count and layer ceiling in the member slot,
  moving the status word to RUNNING when all have arrived after T. -/
  | armAck (m : ArmAckMsg)
  /-- R360: The originating part receives STALE_MAP for an ARM, updates its HOME entries and re-sends ARM to the named
  package or queries the part set. -/
  | staleMap (gsid : BitVec 24) (seq : BitVec 32) (member : BitVec 10) (ref : BitVec 64)
  /-- R267: When local fabric time passes an armed entry's launch time, the sluice releases it within 25 ns: a sweep
  launch, a gated instruction or a flight entry. -/
  | sluiceRelease (which : SluiceRef)
  /-- R191: At T plus GRACE the walker fixes each berth of the sweep as resident or not and tickets non-resident
  berths from their manifests or as skipped. -/
  | graceExpiry (gsid : BitVec 24) (seq : BitVec 32) (twin : Bool)
  /-- R65: At C a member stops starting exact berths, converts queued EXACT tickets to MANIFEST or SKIP and applies
  R55 and R57 to every unstarted berth. -/
  | memberCutoff (gsid : BitVec 24) (seq : BitVec 32) (twin : Bool)
  /-- R65: Once all its region partials are in, a member merges them in region order and sends its records to the
  merge point on the partial channel. -/
  | memberRecordsSend (gsid : BitVec 24) (seq : BitVec 32) (twin : Bool)
  /-- R78: When all runs of a group in a region have emitted, their records are merged in ascending logical core order
  into the region partial. -/
  | regionPartialMerge (gsid : BitVec 24) (seq : BitVec 32) (twin : Bool) (region : BitVec 5) (group : BitVec 16)
  /-- R67: At B the merge point sends BACKUP to the twin of each member whose slot is still EMPTY. -/
  | backupPoint (gsid : BitVec 24) (seq : BitVec 32)
  /-- R414: A twin receives BACKUP and computes the member's share from its journal under the same cutoff, setting
  TWIN_ATTEMPT and counting N_TWIN. -/
  | backup (m : BackupMsg)
  /-- R67: A twin or member receives CANCEL for a convoy and stops its work for it. -/
  | cancelMsg (gsid : BitVec 24) (seq : BitVec 32)
  /-- R66: A partial record lands at the merge point; when a source's records are complete the slot fills, the merge
  is recomputed and published, and the sweep finishes at full coverage. -/
  | part (m : PartMsg)
  /-- R69: At D the merge point adds skip records for each EMPTY slot, publishes the final merge and sets DONE. -/
  | mergeDeadline (gsid : BitVec 24) (seq : BitVec 32)
  /-- R432: When a peer merge point sends no final publication by D plus 2^24 ticks, the accepting part ends the sweep
  FAILED with MERGE_LOST. -/
  | mergeLostTimeout (gsid : BitVec 24)
  /-- R82: The part starts a run on a core: clears its registers and stores, writes the run block, tree table,
  frequencies, query rows and data section, and fetches the image if needed. -/
  | runStart (core : BitVec 12) (gsid : BitVec 24) (seq : BitVec 32) (twin : Bool) (group : BitVec 16) (kind : RunKind)
  /-- R104: A run that has not ended at D is stopped with RUN_OVERDUE and contributes nothing. -/
  | runOverdue (core : BitVec 12)
  /-- R123: br branches to its target index when its predicate allows. -/
  | br (core : BitVec 12)
  /-- R123: br.r branches to a register plus offset, raising IFETCH_RANGE or HOLD_VIOLATION for a bad target. -/
  | brR (core : BitVec 12)
  /-- R123: loop decrements its scalar and branches while it is non-zero. -/
  | loopI (core : BitVec 12)
  /-- R123: call pushes the return index and branches, raising CALL_DEPTH at 16 nested calls. -/
  | call (core : BitVec 12)
  /-- R123: ret pops a return index, raising CALL_DEPTH when none is open. -/
  | ret (core : BitVec 12)
  /-- R123: halt checks that END was taken and emit.part done, cancels the run's flights, waits for gated work and
  ends the run. -/
  | halt (core : BitVec 12)
  /-- R115: nop does nothing for one step. -/
  | nop (core : BitVec 12)
  /-- R124: add writes the 64-bit sum of two scalars. -/
  | add (core : BitVec 12)
  /-- R124: add.i writes the sum of a scalar and the sign-extended immediate. -/
  | addI (core : BitVec 12)
  /-- R124: sub writes the 64-bit difference of two scalars. -/
  | sub (core : BitVec 12)
  /-- R124: sub.i subtracts the sign-extended immediate from a scalar. -/
  | subI (core : BitVec 12)
  /-- R124: and writes the bitwise AND of two scalars. -/
  | andR (core : BitVec 12)
  /-- R124: and.i writes the bitwise AND of a scalar and the immediate. -/
  | andI (core : BitVec 12)
  /-- R124: or writes the bitwise OR of two scalars. -/
  | orR (core : BitVec 12)
  /-- R124: or.i writes the bitwise OR of a scalar and the immediate. -/
  | orI (core : BitVec 12)
  /-- R124: xor writes the bitwise XOR of two scalars. -/
  | xorR (core : BitVec 12)
  /-- R124: xor.i writes the bitwise XOR of a scalar and the immediate. -/
  | xorI (core : BitVec 12)
  /-- R124: shl shifts a scalar left by the low 6 bits of b. -/
  | shl (core : BitVec 12)
  /-- R124: shl.i shifts a scalar left by the immediate. -/
  | shlI (core : BitVec 12)
  /-- R124: shr shifts a scalar right logically. -/
  | shr (core : BitVec 12)
  /-- R124: shr.i shifts a scalar right logically by the immediate. -/
  | shrI (core : BitVec 12)
  /-- R124: sra shifts a scalar right arithmetically. -/
  | sra (core : BitVec 12)
  /-- R124: sra.i shifts a scalar right arithmetically by the immediate. -/
  | sraI (core : BitVec 12)
  /-- R124: mul writes the low 64 bits of the product of two scalars. -/
  | mul (core : BitVec 12)
  /-- R124: mul.i writes the low 64 bits of a scalar times the immediate. -/
  | mulI (core : BitVec 12)
  /-- R124: mov writes the sign-extended immediate to a scalar. -/
  | mov (core : BitVec 12)
  /-- R124: movh places the immediate in bits 63 to 34 above the low 34 bits of a scalar. -/
  | movh (core : BitVec 12)
  /-- R124: cmp.eq sets a predicate when two scalars are equal. -/
  | cmpEq (core : BitVec 12)
  /-- R124: cmp.eq.i sets a predicate when a scalar equals the immediate. -/
  | cmpEqI (core : BitVec 12)
  /-- R124: cmp.ne sets a predicate when two scalars differ. -/
  | cmpNe (core : BitVec 12)
  /-- R124: cmp.ne.i sets a predicate when a scalar differs from the immediate. -/
  | cmpNeI (core : BitVec 12)
  /-- R124: cmp.lt sets a predicate on a signed less-than. -/
  | cmpLt (core : BitVec 12)
  /-- R124: cmp.lt.i sets a predicate on a signed less-than against the immediate. -/
  | cmpLtI (core : BitVec 12)
  /-- R124: cmp.ltu sets a predicate on an unsigned less-than. -/
  | cmpLtu (core : BitVec 12)
  /-- R124: cmp.ltu.i sets a predicate on an unsigned less-than against the immediate. -/
  | cmpLtuI (core : BitVec 12)
  /-- R124: ext extracts a bit field of given lsb and width from a scalar. -/
  | ext (core : BitVec 12)
  /-- R124: plog sets a predicate from a truth table of two predicates. -/
  | plog (core : BitVec 12)
  /-- R124: ld.d loads 8 bytes from a local address into a scalar. -/
  | ldD (core : BitVec 12) (memErr : Bool)
  /-- R124: ld.w loads 4 bytes zero-extended from a local address. -/
  | ldW (core : BitVec 12) (memErr : Bool)
  /-- R124: ld.h loads 2 bytes zero-extended from a local address. -/
  | ldH (core : BitVec 12) (memErr : Bool)
  /-- R124: ld.b loads 1 byte zero-extended from a local address. -/
  | ldB (core : BitVec 12) (memErr : Bool)
  /-- R124: st.d stores 8 bytes of a scalar to a local address. -/
  | stD (core : BitVec 12)
  /-- R124: st.w stores the low 4 bytes of a scalar. -/
  | stW (core : BitVec 12)
  /-- R124: st.h stores the low 2 bytes of a scalar. -/
  | stH (core : BitVec 12)
  /-- R124: st.b stores the low byte of a scalar. -/
  | stB (core : BitVec 12)
  /-- R124: vld loads 128 bytes into a vector register. -/
  | vld (core : BitVec 12) (memErr : Bool)
  /-- R124: vst stores a vector register as 128 bytes. -/
  | vst (core : BitVec 12)
  /-- R126: tld.k loads one key tile of a staged berth with its metadata. -/
  | tldK (core : BitVec 12)
  /-- R126: tld.v loads one value tile of a staged berth and raises v_max. -/
  | tldV (core : BitVec 12)
  /-- R127: tld.man loads the ticket's or named berth's manifest into the manifest latch. -/
  | tldMan (core : BitVec 12)
  /-- R128: tld.man.next takes the next ticket of the run's queue into a scalar, waiting while the queue is empty. -/
  | tldManNext (core : BitVec 12)
  /-- R91: tld.man.requeue hands back an EXACT ticket before C, resetting berth-local state and passing the berth to
  another run or a retry run. -/
  | tldManRequeue (core : BitVec 12) (newCore : BitVec 12)
  /-- R129: tst.ld loads a tile of the given format from local store without berth metadata. -/
  | tstLd (core : BitVec 12) (memErr : Bool)
  /-- R129: tst.st stores a tile to local store in its own format. -/
  | tstSt (core : BitVec 12)
  /-- R130: dot.qk accumulates query-key products into an accumulator's score plane. -/
  | dotQk (core : BitVec 12)
  /-- R130: acc.pv accumulates weight-value products into the value plane for the chunk. -/
  | accPv (core : BitVec 12)
  /-- R130: scale.s multiplies each score row by a vector lane. -/
  | scaleS (core : BitVec 12)
  /-- R130: scale.o multiplies each row's value elements in the plane by a vector lane. -/
  | scaleO (core : BitVec 12)
  /-- R130: rope rotates the query rows at their positions and converts one chunk to the query operand. -/
  | rope (core : BitVec 12)
  /-- R131: msk.causal masks positions hidden by the causal rule and the range. -/
  | mskCausal (core : BitVec 12)
  /-- R131: msk.win masks positions hidden by the window and sink rule. -/
  | mskWin (core : BitVec 12)
  /-- R131: msk.tree masks positions hidden by the tree rule. -/
  | mskTree (core : BitVec 12)
  /-- R133: smx.upd applies remaining masks, scales scores, updates running maxima, rescales sums and values, and
  counts exact positions. -/
  | smxUpd (core : BitVec 12)
  /-- R135: smx.upd.man folds the latched manifest's approximation into every row with its error bounds. -/
  | smxUpdMan (core : BitVec 12)
  /-- R136: smx.upd.skip counts the berth's visible positions as skipped and bounds their mass by the layer ceiling.
  -/
  | smxUpdSkip (core : BitVec 12)
  /-- R134: smx.exp forms converted weights from a scaled plane and adds them to the row sums. -/
  | smxExp (core : BitVec 12)
  /-- R137: abft.acc adds weighted manifest row sums to each row's check accumulator. -/
  | abftAcc (core : BitVec 12)
  /-- R138: abft.chk compares each row's value sum with its check accumulator and marks failing rows suspect. -/
  | abftChk (core : BitVec 12) (upset : Option AccUpset) (memErr : Bool)
  /-- R139: merge.part folds berth-local state into the row state, counts uncounted positions as skipped, releases the
  ticket and frees its bay. -/
  | mergePart (core : BitVec 12)
  /-- R140: merge.part.drop resets berth-local state without folding. -/
  | mergePartDrop (core : BitVec 12)
  /-- R140: merge.part.r merges one partial record in local store into another. -/
  | mergePartR (core : BitVec 12)
  /-- R141: emit.part skips any held tickets and copies every row state to the core's merge slot. -/
  | emitPart (core : BitVec 12)
  /-- R142: ch.add adds to a chamber counter and releases satisfied waiters and firing. -/
  | chAdd (core : BitVec 12)
  /-- R142: ch.set sets a chamber counter. -/
  | chSet (core : BitVec 12)
  /-- R142: ch.set.thr sets a chamber threshold. -/
  | chSetThr (core : BitVec 12)
  /-- R142: ch.wait waits until the chamber counter reaches a value or the wait times out. -/
  | chWait (core : BitVec 12)
  /-- R143: at passes the next chamber or fabric instruction to the core's sluice for release at a fabric time. -/
  | atGate (core : BitVec 12)
  /-- R142: until waits until local fabric time passes a value and returns the time. -/
  | untilTime (core : BitVec 12)
  /-- R144: flight.arm arms a core flight from a table of timed entries and returns a handle. -/
  | flightArm (core : BitVec 12)
  /-- R144: flight.arm.cancel cancels the unreleased entries of a core flight. -/
  | flightArmCancel (core : BitVec 12)
  /-- R145: fx.put posts a write of local bytes to a Yelam address on a basin connection. -/
  | fxPut (core : BitVec 12)
  /-- R145: fx.get posts a read of a Yelam range into local memory. -/
  | fxGet (core : BitVec 12)
  /-- R145: fx.add posts a 64-bit remote atomic add. -/
  | fxAdd (core : BitVec 12)
  /-- R145: fx.cas posts a remote compare-and-swap. -/
  | fxCas (core : BitVec 12)
  /-- R145: fx.flush posts a FLUSH of a connection in fast or durable mode. -/
  | fxFlush (core : BitVec 12)
  /-- R146: snd.scan forms upper estimates for up to n manifests of the run's sounding share and submits them to the
  collector. -/
  | sndScan (core : BitVec 12)
  /-- R146: snd.top waits until the member's selection is fixed and returns the count selected. -/
  | sndTop (core : BitVec 12)
  /-- R147: hold.begin opens a hold sequence. -/
  | holdBegin (core : BitVec 12)
  /-- R100: hold.end makes the hold's effects visible together and releases waiters and locks. -/
  | holdEnd (core : BitVec 12)
  /-- R147: brk is a no-op, or halts the core and presents its code when the debug TAP is unlocked. -/
  | brk (core : BitVec 12)
  /-- R263: The periodic timeout test ends waits whose time has passed registration plus TIMEOUT. -/
  | chamberWaitTimeout
  /-- R164: A page walker translates a berth through the PLB or page tables and installs the translation. -/
  | pageWalk (core : BitVec 12) (berth : BitVec 25)
  /-- R165: A spilled leaf table read back from flash lands and its walk continues. -/
  | leafReadDone (k : LayerKey) (leaf : BitVec 18)
  /-- R90: A berth is staged into a bay after its lines pass the read path, and the walker posts its ticket. -/
  | stageComplete (cluster : BitVec 9) (bay : BitVec 4) (ups : List Upset)
  /-- R154: A flash manifest or payload read completes and its data is verified and delivered to the requester or
  staging copy. -/
  | flashReadDone (k : BerthKey) (payload : Bool) (ups : List Upset)
  /-- R169: A staging copy is discarded 50 ms after it landed. -/
  | stagingCopyExpiry (k : BerthKey)
  /-- R200: A staged base berth unused for 1 ms is released. -/
  | baseBerthExpiry (cluster : BitVec 9) (bay : BitVec 4)
  /-- R176: A queued local barge reserves a destination slot, sets BARGING and starts copying. -/
  | localBargeStart (k : BerthKey)
  /-- R176: When the copy completes, the barge rewrites the manifest and switches SLOT, STATE, ARRIVED and GEN in one
  write, then invalidates PLBs. -/
  | bargeSwitch (k : BerthKey)
  /-- R167: Every affected PLB acknowledges an invalidation and the event's effect may be relied on. -/
  | plbInvalAcked
  /-- R176: A DRAINING source slot is freed once no staged read of it remains. -/
  | sourceDrainFree (slot : BitVec 32)
  /-- R170: A flash block erase completes and its slots become erased. -/
  | flashBlockEraseDone (channel : BitVec 5) (block : List Nat)
  /-- R170: A slot program fails; the slot is retired and its barge aborted. -/
  | flashProgramFail (k : BerthKey)
  /-- R177: A destination receives BARGE_RESERVE and at once reserves a slot, charges quota and creates an ARRIVING
  entry, or refuses. -/
  | bargeReserve (src : BitVec 10) (epoch : BitVec 16) (k : BerthKey) (tier : Bool)
  /-- R177: The source receives BARGE_GRANT and sends the manifest, lines and label, or returns the entry to RESIDENT
  on refusal. -/
  | bargeGrant (src : BitVec 10) (k : BerthKey) (status : BitVec 16)
  /-- R177: The destination writes the arriving berth bytes into the reserved slot and frees its pool space. -/
  | bargeData (src : BitVec 10) (k : BerthKey) (phase : BargePhase) (slot : SlotImage)
  /-- R177: The source compares GEN and COUNT, then makes a tombstone, updates the ledger and sends BARGE_COMMIT, or
  aborts. -/
  | bargeReady (src : BitVec 10) (k : BerthKey)
  /-- R358: A barge held at its commit step by a covering convoy proceeds once that convoy's C has passed. -/
  | bargeCommitAfterCutoff (k : BerthKey)
  /-- R177: The destination receives BARGE_COMMIT, sets the entry RESIDENT, updates its ledger and sends HOME_NOTE. -/
  | bargeCommit (src : BitVec 10) (k : BerthKey)
  /-- R357: A tombstone expires TOMB_MS after its commit and the entry becomes FREE. -/
  | tombstoneExpiry (k : BerthKey)
  /-- R185: The periodic scan decays every score, recomputes ceilings and counts, applies class changes and queues
  sinks, rises and drops. -/
  | evictionScan (k : LayerKey)
  /-- R190: Every 2^27 ticks the part measures flash latency and launch interval and moves each object's lead one step
  toward its target. -/
  | prefetchLeadUpdate (p99 : BitVec 32)
  /-- R211: After staging reads of the berth have drained, an append or truncation codes, encrypts and writes its
  lines and then manifest, GEN and COUNT. -/
  | berthWrite (k : BerthKey)
  /-- R223: LOOKUP loads a cursor's search and returns the first match, its count and MULTI. -/
  | ledgerCursorLookup (cur : BitVec 6) (key : BitVec 128) (mask : BitVec 128)
  /-- R223: NEXT returns the lowest matching entry above the cursor or END. -/
  | ledgerCursorNext (cur : BitVec 6)
  /-- R243: CLOSE frees a host cursor. -/
  | ledgerCursorClose (cur : BitVec 6)
  /-- R243: A read of LDG_RETIRE_LOG returns and removes the oldest logged retirement. -/
  | ldgRetireLogRead
  /-- R226: A refused HOME insert is retried every 100 ms until it succeeds or the tenant leaves ACTIVE. -/
  | homeInsertRetry
  /-- R228: The dredge tests the next ledger entry's parity and locator. -/
  | dredgeVisit (ups : List LedgerUpset)
  /-- R230: A ledger rebuild finishes, inserting missing entries and releasing held lookups. -/
  | rebuildDone
  /-- R227: A part applies a HOME_NOTE by inserting, updating or deleting a HOME entry unless its epoch is older. -/
  | homeNote (src : BitVec 10) (epoch : BitVec 16) (k : LayerKey) (block : BitVec 25) (homed : BitVec 25) (gain : Bool)
  /-- R230: A part answers HOME_QUERY with its HOME blocks of the tenant's objects. -/
  | homeQuery (src : BitVec 10) (tenant : BitVec 12)
  /-- R360: A part receives HOME_REPLY and rebuilds HOME entries or sends ARM to the answering homes. -/
  | homeReply (src : BitVec 10) (blocks : List HomeBlock)
  /-- R236: When collector room frees, the oldest waiting sweep takes room for all its candidates and sounding starts.
  -/
  | soundingRoomGrant
  /-- R233: A flash sweep engine reads, verifies and decrypts a manifest, applies the filter and submits the estimate.
  -/
  | engineEstimate (gsid : BitVec 24) (seq : BitVec 32) (twin : Bool) (berth : BitVec 25)
  /-- R237: When every unit has finished, the collector fixes the selection and the walker issues the remaining
  tickets in order. -/
  | selectionFixed (gsid : BitVec 24) (seq : BitVec 32)
  /-- R239: At low priority the part inserts a filled or arrived berth into the layer's neighbour graph. -/
  | graphInsert (k : BerthKey)
  /-- R251: A time-strand frame arrives; the receiver advances its lock state, takes the time from good frames and
  repeats the frame with HOPS incremented. -/
  | strandFrame (bits : BitVec 512) (spacing : BitVec 32)
  /-- R251: No transition on TSTR_IN for 1,024 ns puts the receiver in NO_SIGNAL. -/
  | strandNoSignal
  /-- R254: A PTP Sync message is timestamped and used for offset measurement. -/
  | ptpSync (m : PtpSyncMsg)
  /-- R254: A two-step master's Follow_Up supplies the Sync origin time. -/
  | ptpFollowUp (seqId : BitVec 16) (origin : BitVec 64) (corr : Int)
  /-- R254: A Delay_Resp completes a path delay measurement. -/
  | ptpDelayResp (seqId : BitVec 16) (rx : BitVec 64) (corr : Int)
  /-- R254: A peer delay response completes a peer delay measurement. -/
  | ptpPdelayResp (seqId : BitVec 16) (t2 : BitVec 64) (t3 : BitVec 64) (t4 : BitVec 64)
  /-- R254: An Announce message feeds the best master clock algorithm. -/
  | ptpAnnounce (m : PtpAnnounce)
  /-- R256: Loss of the time source in use puts the part in HOLDOVER, freezing the frequency term. -/
  | sourceLoss
  /-- R256: After HOLD_MAX without a source the part leaves HOLDOVER for FREE. -/
  | holdoverExpiry
  /-- R271: A write of TB_SET sets local fabric time when SRC is none, or is ignored with SET_REFUSED. -/
  | tbSet (val : BitVec 64)
  /-- R259: CH_ALLOC allocate assigns the lowest fitting run of chamber blocks to a basin or refuses with
  CHAMBER_FULL. -/
  | chAllocate (basin : BitVec 6) (blocks : BitVec 12)
  /-- R264: CH_ALLOC free releases chamber blocks and their waiters with CHAMBER_FREED. -/
  | chFree (basin : BitVec 6) (blocks : BitVec 12) (base : BitVec 16)
  /-- R262: A write of CH_CFG sets FIRE_EN and VECTOR and fires a chamber already at its threshold. -/
  | chCfgWrite (val : BitVec 64)
  /-- R304: A port loses alignment or its SAK; the part holds its frames, stops timers and moves PTP to another
  engine. -/
  | portDown (port : BitVec 3)
  /-- R304: A port returns within HOLD and sends its held frames in order before resuming timers. -/
  | portUp (port : BitVec 3)
  /-- R305: HOLD ends with the port still down; held frames are discarded, requests complete LINK_LOST and connections
  move and re-establish. -/
  | portHoldExpiry (port : BitVec 3)
  /-- R276: A failing lane is remapped onto the engine's spare channel, taking its ports down and up. -/
  | laneRemap (engine : BitVec 2) (lane : BitVec 3)
  /-- R276: A write of PRT_ENGn_CTL changes the engine mode or SPARE_FOR, which acts as a remap. -/
  | prtEngCtlWrite (engine : BitVec 2) (val : BitVec 64)
  /-- R277: A port installs a new SAK when a packet number reaches 2^62 or 24 hours pass. -/
  | sakRekey (port : BitVec 3)
  /-- R277: An EAPOL MKA frame is processed to distribute SAKs. -/
  | mkaFrame (port : BitVec 3) (ckn : List Byte) (sak : List Byte)
  /-- R275: An LLDP frame is received. -/
  | lldpFrame (port : BitVec 3) (frame : List Byte) (prot : Bool)
  /-- R283: A target rules on a READ_REQ and returns the data in READ_RESP. -/
  | readReq (h : Pkt) (r : RmaExt)
  /-- R283: A READ_RESP places its data at the requester's local address and completes the read. -/
  | readResp (h : Pkt) (r : RespExt) (data : List Byte)
  /-- R302: A WRITE packet is ruled on at the message's first packet and its bytes placed, with notify entries where
  asked. -/
  | write (h : Pkt) (r : RmaExt) (data : List Byte)
  /-- R284: A target performs an indivisible 64-bit add and returns the old value. -/
  | atomicAdd (h : Pkt) (r : RmaExt)
  /-- R284: A target performs an indivisible compare-and-swap and returns the old value. -/
  | cas (h : Pkt) (r : RmaExt)
  /-- R284: The requester receives the old value and completes the atomic. -/
  | atomicResp (h : Pkt) (r : RespExt)
  /-- R285: A target adds to a chamber counter on behalf of a remote CH_ADD. -/
  | fabricChAdd (h : Pkt) (r : RmaExt)
  /-- R288: A target answers FLUSH once earlier operations have taken effect, and in durable mode are journalled at
  its twin. -/
  | flush (h : Pkt) (r : RmaExt) (durable : Bool)
  /-- R288: The requester completes FLUSH with the first failure since the previous FLUSH. -/
  | flushResp (h : Pkt) (r : RespExt)
  /-- R295: An ENABLE, or a request with EN, starts the matching DISABLED work request or enters the tag in the enable
  latch. -/
  | enable (h : Pkt) (r : RmaExt) (tag : BitVec 32)
  /-- R289: An ACK frees acknowledged packets, triggers fast retransmission, carries rulings and updates the window.
  -/
  | ack (h : Pkt) (a : AckExt)
  /-- R289: A receiver acknowledges 2,000 ns after an unacknowledged arrival. -/
  | ackTimer (conn : BitVec 24)
  /-- R289: The retransmit timer expires and every unacknowledged packet is resent with the timeout doubled. -/
  | retransmitTimeout (conn : BitVec 24)
  /-- R305: A connection with no acknowledgement progress for CONN_LOSS is lost and re-established. -/
  | connLossExpiry (conn : BitVec 24)
  /-- R282: A request answered NAK TARGET_BUSY is resent after 16 µs. -/
  | targetBusyRetry (conn : BitVec 24)
  /-- R290: A part verifies CONN_REQ and answers CONN_ACC with its random value. -/
  | connReq (m : ConnSetup)
  /-- R290: The opening part receives CONN_ACC, derives traffic keys and completes the open. -/
  | connAcc (m : ConnSetup)
  /-- R290: An unanswered CONN_REQ is resent after 100 µs, and after three retries the open completes CONN_DOWN. -/
  | connReqRetry (conn : BitVec 24)
  /-- R290: A part receives CONN_CLOSE and closes its side of the connection. -/
  | connCloseMsg (conn : BitVec 24)
  /-- R291: A spilled connection context has loaded and its waiting packets and posts proceed. -/
  | contextLoadDone (conn : BitVec 24)
  /-- R292: A CONN_DB write advances a send queue tail, posting work requests. -/
  | connDbSend (basin : BitVec 6) (conn : BitVec 24) (index : BitVec 16)
  /-- R293: A CONN_DB write advances a receive queue head. -/
  | connDbRecv (basin : BitVec 6) (conn : BitVec 24) (index : BitVec 16)
  /-- R293: A CONN_DB write advances a connection completion queue head. -/
  | connDbCompletion (basin : BitVec 6) (conn : BitVec 24) (index : BitVec 16)
  /-- R294: The next send work request starts once its chamber wait and enable conditions hold, or completes
  CHAMBER_TIMEOUT. -/
  | wrStart (conn : BitVec 24)
  /-- R311: At a frame boundary a port picks the next frame by guard, strict classes, DRR and weir credit. -/
  | portFrameSelect (port : BitVec 3)
  /-- R319: A write changing BYTE_MODE or OVERHEAD refills meters and zeroes weir credits and deficits at the next
  frame boundary. -/
  | trfCtlWrite (val : BitVec 64)
  /-- R314: A write of a tenant's meter rate or enable fills or clamps its buckets. -/
  | trfMrateWrite (val : BitVec 64)
  /-- R322: A hot reset or function-level reset resets only the PCIe island. -/
  | pcieHotReset
  /-- R326: From HANDOVER the part zeroes fixed rings, resets indices and status words and sets MODE to SERVICE. -/
  | serviceEntry
  /-- R329: A host write of SQ_TAIL makes new submission entries visible to the keeper or is ignored and counted. -/
  | sqTail (basin : BitVec 6) (ring : BitVec 8) (val : BitVec 64)
  /-- R329: A host write of CQ_HEAD frees completion entries and releases held rings. -/
  | cqHead (basin : BitVec 6) (ring : BitVec 8) (val : BitVec 64)
  /-- R343: A host write of EVT_HEAD frees event ring entries. -/
  | evtHead (basin : BitVec 6) (val : BitVec 64)
  /-- R343: A host write of EXC_HEAD frees exception log entries. -/
  | excHead (basin : BitVec 6) (val : BitVec 64)
  /-- R341: A RELEASE write frees a final sweep's slot and number and sets its status word IDLE with a new SEQ. -/
  | release (basin : BitVec 6) (val : BitVec 64)
  /-- R344: COAL_US after the first uninterrupted completion entry, the ring raises its vector. -/
  | coalTimer (basin : BitVec 6) (ring : BitVec 8)
  /-- R342: A CANCEL descriptor abandons a sweep at the merge point unless finish came first. -/
  | cancel (basin : BitVec 6) (ring : BitVec 8)
  /-- R157: A CREATE_OBJECT descriptor creates an object on the part with its geometry and attributes. -/
  | createObject (basin : BitVec 6) (ring : BitVec 8)
  /-- R332: An UPDATE_OBJECT descriptor changes the non-fixed attributes named by UMASK. -/
  | updateObject (basin : BitVec 6) (ring : BitVec 8)
  /-- R332: A DESTROY_OBJECT descriptor frees the object's berths on the part. -/
  | destroyObject (basin : BitVec 6) (ring : BitVec 8)
  /-- R172: An APPEND descriptor writes positions in order, opening berths, aborting barges and journalling at the
  twin. -/
  | append (basin : BitVec 6) (ring : BitVec 8) (ups : List Upset)
  /-- R173: A TRUNCATE descriptor sets a berth's count and frees later berths of the layer homed on the part. -/
  | truncate (basin : BitVec 6) (ring : BitVec 8) (ups : List Upset)
  /-- R107: A LOAD_PROGRAM descriptor checks and installs a signed image into a program entry. -/
  | loadProgram (basin : BitVec 6) (ring : BitVec 8)
  /-- R108: A RETIRING image is freed when its last run ends, completing any waiting load. -/
  | retiringImageFree (basin : BitVec 6) (entry : BitVec 4)
  /-- R332: A RING_CONFIG descriptor adds, changes or removes a submission or completion ring. -/
  | ringConfig (basin : BitVec 6) (ring : BitVec 8)
  /-- R301: A MOOR_REG descriptor registers a mooring and returns its key and generation. -/
  | moorReg (basin : BitVec 6) (ring : BitVec 8)
  /-- R303: A MOOR_REVOKE descriptor marks a mooring REVOKING and completes when it is INVALID. -/
  | moorRevoke (basin : BitVec 6) (ring : BitVec 8)
  /-- R303: A MOOR_DEREG descriptor frees an INVALID mooring entry. -/
  | moorDereg (basin : BitVec 6) (ring : BitVec 8)
  /-- R269: A FLIGHT_ARM descriptor arms a host flight of timed sweeps and chamber operations. -/
  | flightArmDesc (basin : BitVec 6) (ring : BitVec 8)
  /-- R270: A FLIGHT_CANCEL descriptor cancels the unreleased entries of a host flight at one instant. -/
  | flightCancel (basin : BitVec 6) (ring : BitVec 8)
  /-- R290: A CONN_OPEN descriptor sets up a connection and sends CONN_REQ. -/
  | connOpen (basin : BitVec 6) (ring : BitVec 8)
  /-- R332: A CONN_CLOSE descriptor closes a connection, completing queued requests with WR_CANCELLED. -/
  | connClose (basin : BitVec 6) (ring : BitVec 8)
  /-- R351: A COMPOSE descriptor builds a new basin from clusters, slots, chambers and weir settings. -/
  | compose (src : ComposeSrc)
  /-- R14: Once a cluster's last run ends, it is zeroed, its PLB invalidated and it passes to its new basin. -/
  | clusterPass (cluster : BitVec 9)
  /-- R351: A RESIZE descriptor changes an active basin's clusters, chambers, weights, flash mask or weir. -/
  | resize (src : ComposeSrc)
  /-- R352: A DECOMPOSE descriptor empties and frees a basin. -/
  | decompose (src : ComposeSrc)
  /-- R353: A BASIN_TENANT descriptor adds or removes a tenant from a basin. -/
  | basinTenant (src : ComposeSrc)
  /-- R356: A MAP_EPOCH descriptor installs a newer map epoch. -/
  | mapEpoch (src : ComposeSrc)
  /-- R356: A write of BSN_EPOCH installs a newer epoch or is ignored with OLD_WR. -/
  | bsnEpochWrite (val : BitVec 64)
  /-- R362: Writing GO executes the descriptor in BSN_CMDBUF as if consumed from basin 0's ring 0. -/
  | bsnCmdGo (val : BitVec 64)
  /-- R355: A MOVE_OBJECT descriptor moves an object to another basin or starts a pull-on-demand move to a peer. -/
  | moveObject (basin : BitVec 6) (ring : BitVec 8)
  /-- R354: When the last old-basin sweep of a moved object passes D, its ledger entries are replaced for the new
  basin. -/
  | moveLedgerSwitch (tenant : BitVec 12) (object : BitVec 32)
  /-- R355: At PULL_RATE the part barges untouched berths of a moving object to the peer. -/
  | backgroundPull (k : BerthKey)
  /-- R379: A TENANT_RESERVE descriptor sets a slot's OWNER_HASH and makes it RESERVED. -/
  | tenantReserve (src : ComposeSrc)
  /-- R380: A TENANT_REMOVE descriptor sets the slot DRAINING and invalidates the tenant's PLB entries. -/
  | tenantRemove (src : ComposeSrc)
  /-- R380: After the drain, a keeper cursor fences every ledger entry of the tenant. -/
  | removalFence
  /-- R380: After fencing, the tenant's sweeps are abandoned and its barges cancelled. -/
  | removalCancel
  /-- R380: The slot becomes SCRUBBING, keys are zeroed and the tenant's storage, tables, connections and moorings
  freed. -/
  | removalScrub
  /-- R380: The removal record is written, the slot set EMPTY and the descriptor completed. -/
  | removalReport
  /-- R375: A BIND descriptor checks and binds a base object or projection table. -/
  | bind (basin : BitVec 6) (ring : BitVec 8)
  /-- R376: An UNBIND descriptor removes a binding not in use. -/
  | unbind (basin : BitVec 6) (ring : BitVec 8)
  /-- R367: An SPDM KEY_EXCHANGE opens a session or is answered Busy. -/
  | keyExchange (sess : BitVec 32) (reqCert : List Byte)
  /-- R367: An SPDM FINISH completes a session handshake. -/
  | finish (sess : BitVec 32) (mutAuth : Bool)
  /-- R368: An SPDM GET_MEASUREMENTS returns a signed snapshot of the measurement report. -/
  | getMeasurements (index : BitVec 8)
  /-- R365: An SPDM GET_CERTIFICATE returns a certificate chain from slot 0 or 1. -/
  | getCertificate (slot : BitVec 4)
  /-- R367: An SPDM CHALLENGE is answered signed with the Alias key. -/
  | challenge (slot : BitVec 4) (nonce : List Byte)
  /-- R367: An SPDM KEY_UPDATE refreshes session keys. -/
  | keyUpdate (sess : BitVec 32)
  /-- R367: An SPDM HEARTBEAT keeps a session alive. -/
  | heartbeat (sess : BitVec 32)
  /-- R367: An SPDM END_SESSION closes a session. -/
  | endSession (sess : BitVec 32)
  /-- R371: GET_SLOT returns a key slot's state, owner hash and basin mask. -/
  | getSlot (sess : BitVec 32) (tenant : BitVec 16)
  /-- R371: KEY_LOAD installs a tenant's memory and connection keys and makes the slot ACTIVE. -/
  | keyLoad (sess : BitVec 32) (tenant : BitVec 16) (mem : BitVec 256) (conn : BitVec 256)
  /-- R371: KEY_CONN replaces a tenant's connection key for later connections. -/
  | keyConn (sess : BitVec 32) (tenant : BitVec 16) (conn : BitVec 256)
  /-- R366: OWNER_CLAIM writes the requester's hash into owner entry 0 of an unowned part. -/
  | ownerClaim (sess : BitVec 32)
  /-- R366: OWNER_TRANSFER writes a new owner hash into the next entry. -/
  | ownerTransfer (sess : BitVec 32) (hash : BitVec 384)
  /-- R371: SYS_KEY installs a manager key, a pair system key or a MACsec CAK. -/
  | sysKey (sess : BitVec 32) (kind : BitVec 8) (peer : BitVec 16) (port : BitVec 8) (ckn : BitVec 128) (key : BitVec 256)
  /-- R377: DEBUG_UNLOCK enables the debug TAP for the named basins and updates the debug record. -/
  | debugUnlock (sess : BitVec 32) (basins : BitVec 64)
  /-- R371: TENANT0_KEY replaces slot 0's keys when tenant 0 holds nothing. -/
  | tenant0Key (sess : BitVec 32) (mem : BitVec 256) (conn : BitVec 256)
  /-- R369: LOCK_INTERFACE freezes the BAR, MSI-X and IDE configuration. -/
  | lockInterface
  /-- R369: START_INTERFACE enters the TDISP RUN state. -/
  | startInterface
  /-- R369: STOP_INTERFACE cancels every sweep, zeroes host areas and enters CONFIG_UNLOCKED. -/
  | stopInterface
  /-- R369: An IDE_KM message programs IDE stream keys within an SPDM session. -/
  | ideKm (sess : BitVec 32) (stream : BitVec 2) (key : BitVec 256)
  /-- R369: An IDE integrity failure puts the interface in ERROR. -/
  | ideIntegrityFail
  /-- R369: An IDE key expiry puts the interface in ERROR. -/
  | ideKeyExpiry
  /-- R391: Power-on resets the part. -/
  | powerOn (straps : BitVec 6) (mainOk : Bool) (bkpOk : Bool)
  /-- R391: A low pulse of at least 5 µs on PORST_N resets the part and starts the stretch. -/
  | pinReset (widthNs : BitVec 32)
  /-- R392: 200 µs after supplies are good and the pin is free, the part releases PORST_N and the boot sequence
  starts. -/
  | resetStretchEnd
  /-- R390: Both inputs fall below 8.0 V and the always-on well loses its contents. -/
  | aonPowerLoss
  /-- R386: VIN_MAIN leaves range and the part switches to VIN_BACKUP and holds low-water pace. -/
  | vinMainLoss
  /-- R386: After VIN_MAIN has been in range for 10 ms the part switches back and lifts low-water pace. -/
  | vinMainStable
  /-- R387: The joined supply below 10.2 V for 20 µs pulls PORST_N low. -/
  | brownOut
  /-- R391: A junction reaching 115 °C pulls PORST_N low. -/
  | thermalTrip
  /-- R391: When every junction falls below 95 °C the part releases PORST_N after a trip. -/
  | thermalClear
  /-- R391: A write of RST_CTL.SWRST pulls PORST_N low. -/
  | swrst (val : BitVec 64)
  /-- R407: A read of RST_CAUSE returns and removes the oldest reset-cause entry. -/
  | rstCauseRead
  /-- R389: A write of PWR_CTL.FORCE_LW applies or lifts the backup class's low-water pace on VIN_MAIN. -/
  | forceLw (val : BitVec 64)
  /-- R395: BOOT_CMD.LOAD starts copying and verifying the image in the buffer. -/
  | bootLoad
  /-- R396: The image checks finish; on pass identity is derived and keepers start, on failure the sequencer waits
  again. -/
  | imageVerifyDone
  /-- R405: The keepers apply the settings record or factory defaults and declare themselves running, making MODE
  HANDOVER. -/
  | keepersRunning
  /-- R397: After 2 s in SERVICE the boot-attempt count clears to 0. -/
  | bootCountClear
  /-- R398: A write of BOOT_ATTEMPT.CLEAR sets the failed-start count to 0. -/
  | attemptClear (val : BitVec 64)
  /-- R398: BOOT_CMD.DIAG with selection 0 runs the stacked-DRAM test in RECOVERY. -/
  | diagDramTest
  /-- R398: BOOT_CMD.DIAG with selection 1 runs the flash channel scan in RECOVERY. -/
  | diagFlashScan
  /-- R398: BOOT_CMD.DIAG with selection 2 runs the optical loopback in RECOVERY. -/
  | diagOpticalLoopback
  /-- R398: A diagnostic finishes and reports its result in BOOT_STAT. -/
  | diagDone (pass : Bool) (detail : BitVec 48)
  /-- R399: A keeper's watchdog expires; it is restarted, rolled back during an update, or escalated to a reset. -/
  | keeperWatchdogExpiry (keeper : BitVec 2) (pc : BitVec 28)
  /-- R400: KPR_UPD.STAGE starts checking a new keeper image into the free buffer. -/
  | updStage
  /-- R400: The staging checks finish and STATE becomes STAGED or FAILED. -/
  | updateStaged
  /-- R400: KPR_UPD.SWITCH restarts keeper 0 on the staged image. -/
  | updSwitch
  /-- R400: After 125 ms without a watchdog expiry the next keeper switches, and after the last the update is done. -/
  | keeperSwitchNext
  /-- R403: KPR_SET.SAVE captures the settings and writes both copies with a new SEQ. -/
  | settingsSave (force : Bool)
  /-- R403: Both settings copies have been written and the save completes. -/
  | settingsSaveDone
  /-- R409: A write of TWN_CFG enables or disables pairing, starting SEEDING or returning to NONE. -/
  | twnCfgWrite (path : Path) (val : BitVec 64)
  /-- R411: A twin applies arriving journal records in JSEQ order and acknowledges them. -/
  | journalRecords (tenant : BitVec 12) (recs : List JRecord)
  /-- R410: A twin answers FETCH with the IMAGE records of the journalled berths in the range. -/
  | journalFetch (k : LayerKey) (first : BitVec 25) (last : BitVec 25)
  /-- R410: A twin answers INDEX with an entry per journalled berth of the tenant. -/
  | journalIndex (tenant : BitVec 12)
  /-- R411: A source receives JOURNAL_ACK, completing durable appends and advancing seeding, lag and JFULL. -/
  | journalAck (m : JAckMsg)
  /-- R409: No JOURNAL_ACK for CONN_LOSS while records are outstanding sets the pair LOST. -/
  | journalAckTimeout
  /-- R412: A durable record that has waited JFLUSH µs causes its log page to be programmed. -/
  | journalFlushTimer (tenant : BitVec 12)
  /-- R412: A working copy without LINES for 1 s is programmed as a new image slot and freed. -/
  | workingCopyIdle (k : BerthKey)
  /-- R416: A valid owner-signed QSET certificate replaces the quorum set in force. -/
  | qset (cert : List Byte)
  /-- R417: A valid EXPEL makes the named part fence itself, or makes others cut it off and back up its slots. -/
  | expel (cert : List Byte)
  /-- R419: A valid TAKEOVER makes the twin home the expelled part's journalled berths. -/
  | takeover (cert : List Byte)
  /-- R420: A valid REJOIN makes a reset part pair with its twin and re-home held slots from the twin's index. -/
  | rejoin (cert : List Byte)
  /-- R415: A manager receives a part's REQUEST certificate about an unreachable peer or twin. -/
  | request (cert : List Byte)
  /-- R421: Every REQ_MS while a peer is CONN_DOWN or the twin LOST, the part sends a REQUEST certificate. -/
  | requestTimer
  /-- R424: Every INTERVAL_MS a cluster moves the next logical core onto the spare and starts testing the released
  core. -/
  | selfTestStart (cluster : BitVec 9)
  /-- R424: A core test ends; a passing core becomes the spare and a failing one is marked FAILED. -/
  | selfTestDone (cluster : BitVec 9) (pass : Bool)
  /-- R427: TWN_SVC REGION_BYPASS takes a region out of service, stopping runs and moving its flash channel. -/
  | regionBypass (region : BitVec 12)
  /-- R426: TWN_SVC REGION_RETURN returns a region and its clusters and chambers to service. -/
  | regionReturn (region : BitVec 12)
  /-- R426: TWN_SVC REGION_TEST bypasses a region and tests all its cores and cluster stores. -/
  | regionTest (region : BitVec 12) (failed : List (BitVec 12))
  /-- R428: TWN_SVC FLASH_DRAIN barges every home and journal slot off a channel and isolates it. -/
  | flashDrain (channel : BitVec 12)
  /-- R428: TWN_SVC FLASH_ISOLATE takes a channel out at once and refetches its berths from the twin. -/
  | flashIsolate (channel : BitVec 12)
  /-- R426: TWN_SVC FLASH_RETURN returns an empty channel to service. -/
  | flashReturn (channel : BitVec 12)
  /-- R429: TWN_SVC HBM_RETIRE barges homes off a stacked-DRAM channel, withdraws its slots and records the
  retirement. -/
  | hbmRetire (channel : BitVec 12)
  /-- R420: TWN_SVC RELEASE_HELD marks a tenant's remaining held slots stale. -/
  | releaseHeld (tenant : BitVec 12)
  /-- R427: An uncorrectable crossbar or pace-monitor fault makes the part bypass the region itself. -/
  | regionFaultBypass (region : BitVec 5)
  /-- R427: Runs still going in a bypassed region after C or 2^24 ticks are stopped and replaced by skip records. -/
  | bypassRunTimeout (core : BitVec 12)
  /-- R428: A detected flash channel failure isolates the channel as FLASH_ISOLATE does. -/
  | flashChannelFailure (channel : BitVec 5)
  /-- R193: A write of BTH_PLB_INV invalidates the named basin's PLB entries. -/
  | plbInvBasin (val : BitVec 64)
  /-- R193: A write of BTH_PLB_INV with ALL invalidates every PLB entry of every cluster. -/
  | plbInvAll (val : BitVec 64)
  /-- R437: The towpath target takes a dynamic address through ENTDAA. -/
  | entdaa (addr : BitVec 7)
  /-- R437: The towpath target takes its static address as dynamic address. -/
  | setdasa
  /-- R437: The towpath target takes a new dynamic address. -/
  | setnewda (addr : BitVec 7)
  /-- R437: The towpath target drops its dynamic address. -/
  | rstdaa
  /-- R441: ENEC enables in-band interrupts from the towpath target. -/
  | enec
  /-- R437: DISEC disables in-band interrupts. -/
  | disec
  /-- R437: GETPID returns the provisional ID. -/
  | getpid
  /-- R437: GETBCR returns the bus characteristics register. -/
  | getbcr
  /-- R437: GETDCR returns the device characteristics register. -/
  | getdcr
  /-- R437: GETSTATUS returns the target status. -/
  | getstatus
  /-- R437: GETMWL returns the maximum write length. -/
  | getmwl
  /-- R437: GETMRL returns the maximum read length. -/
  | getmrl
  /-- R437: SETMWL sets the maximum write length. -/
  | setmwl (len : BitVec 16)
  /-- R437: SETMRL sets the maximum read length. -/
  | setmrl (len : BitVec 16)
  /-- R439: A towpath REG_READ frame returns register words, with their side effects. -/
  | regRead (f : TwpFrame)
  /-- R439: A towpath REG_WRITE frame writes registers of the permitted blocks. -/
  | regWrite (f : TwpFrame)
  /-- R440: A towpath IMG_WRITE frame places image bytes into the image buffer while waiting for an image. -/
  | imgWrite (f : TwpFrame)
  /-- R439: A towpath STATUS frame returns the status of the last write frame. -/
  | statusRead (f : TwpFrame)
  /-- R442: Every 1 ms the towpath island updates each sensor and its alarm. -/
  | sensorUpdate (vals : List (BitVec 16))
  /-- R445: Every 10 ms the keepers poll the carrier regulators over the local bus. -/
  | regulatorPoll
  /-- R445: A write of LBS_XFER with GO queues a host transfer on the local bus. -/
  | lbsXfer (val : BitVec 64)
  /-- R445: A local bus transfer ends and reports OK, NACK, TIMEOUT or STUCK. -/
  | lbsTransferDone (ack : Bool) (data : BitVec 64)
  /-- R446: SCL held low beyond TIMEOUT_MS ends a transfer by timeout and starts a bus clear. -/
  | lbsTimeout
  /-- R446: A write of LBS_CTL.CLEAR runs the bus clear sequence. -/
  | lbsClear (sda : List Bool) (sclHigh : Bool)
  /-- R446: 10 ms after a failed clear attempt the clear repeats, setting STUCK after the last. -/
  | lbsClearRetry (sda : List Bool) (sclHigh : Bool)
  /-- R449: JTAG EXTEST drives pins from the boundary register when allowed, or is refused. -/
  | extest
  /-- R448: JTAG SAMPLE/PRELOAD captures and preloads the boundary register. -/
  | samplePreload (pins : BitVec 128) (preload : BitVec 128)
  /-- R448: JTAG IDCODE selects the identification register. -/
  | idcode
  /-- R449: JTAG CLAMP holds outputs from the boundary register when allowed. -/
  | clamp
  /-- R449: JTAG HIGHZ floats outputs when allowed. -/
  | highz
  /-- R450: JTAG DBG_SEL scans a read or write of a DBG_ register. -/
  | dbgSel (scan : BitVec 96)
  /-- R448: JTAG BYPASS selects the one-bit bypass register. -/
  | bypass
  /-- R453: HALT stops the selected core, deferring inside a hold. -/
  | dbgHalt
  /-- R453: A deferred halt that sees no completed hold.end within 4,096 steps is forced. -/
  | haltDeferLimit (core : BitVec 12)
  /-- R454: FORCE_HALT aborts any hold, raises HALT_ABORTED_HOLD and halts the core. -/
  | forceHalt
  /-- R451: RESUME continues a halted run. -/
  | resume
  /-- R451: STEP executes one instruction and halts. -/
  | stepOne
  /-- R451: RDREG reads a register of a halted core. -/
  | rdreg
  /-- R451: WRREG writes a register of a halted core. -/
  | wrreg
  /-- R451: RDMEM reads 8 bytes at a local address of a halted core. -/
  | rdmem
  /-- R451: WRMEM writes 8 bytes at a local address at or above 0x7500. -/
  | wrmem
  /-- R451: BREAK sets or clears one of four breakpoints of a core. -/
  | breakSet
  /-- R452: QREAD reads a BAR0 register by the quiet path, returning shadows for side-effect fields. -/
  | qread
  /-- R251: Transitions return on TSTR_IN while the strand receiver is in NO_SIGNAL, and the receiver enters SEARCH.
  -/
  | strandTransitionsReturn
  /-- R412: A journal log page or image slot finishes programming on the twin, DURABLE advances and the twin answers
  JOURNAL_ACK. -/
  | journalPageProgrammed (tenant : BitVec 12)
  /-- R340: A publication sent by a peer merge point on the partial channel arrives at the accepting part, which
  writes it into the result slot and status word. -/
  | publicationArrival (m : PubMsg)
  /-- R369: A change to the BAR, MSI-X or IDE configuration while the interface is locked puts the TDI in ERROR. -/
  | frozenConfigChange
  /-- R6: A host read of an RC or RSE register field returns its value and performs its clearing or log-popping side
  effect. -/
  | registerRead (path : Path) (off : BitVec 24)
  /-- R323: A host write TLP to BAR2 lands in a host area or mooring share, or is discarded and counted in BAD_ACCESS
  or NON_IDE. -/
  | bar2Write (off : BitVec 36) (data : List Byte) (ide : Bool)
  /-- R394: Memory training and flash initialisation finish, the system area is laid out, basin 0's host area is
  zeroed, and FLASH_READY, DRAM_READY and WAIT_IMAGE are set. -/
  | dramReady
  /-- R367: An SPDM GET_VERSION request is answered with versions 1.2 and 1.3. -/
  | getVersion
  /-- R367: An SPDM GET_CAPABILITIES request is answered with the supported capability flags. -/
  | getCapabilities
  /-- R367: An SPDM NEGOTIATE_ALGORITHMS request fixes P-384, SHA-384, secp384r1 and AES-256-GCM for the connection.
  -/
  | negotiateAlgorithms
  /-- R365: An SPDM GET_DIGESTS request returns the digests of the certificate chains in slots 0 and 1. -/
  | getDigests
  /-- R254: At each logMinDelayReqInterval the PTP slave sends and timestamps a Delay_Req, or a Pdelay_Req in peer
  mode. -/
  | ptpDelayReqTimer
deriving DecidableEq, Repr

end Sys2Proof
end

