-- ==== Sys2Proof/Config.lean ====
section
/-! DEFINITION. What the spec leaves to the implementation, as constants without a body: no proof can see
their values. Each is named in the assumption log. -/

namespace Sys2Proof.Config

/-- The bits of a NaN the part forms (R37, R41 state no payload). Log entry 1. -/
opaque nanBits : BitVec 32

/-- The result `smx.exp` would give for a score difference, one of those R39 allows. Log entry 2. -/
opaque expCand : BitVec 32 → BitVec 32

/-- The upper exponential of a positive argument, one of those R39 allows. Log entry 2. -/
opaque expUpCand : BitVec 32 → BitVec 32

/-- The cosine and sine of p times theta (R42 bounds the error only). Log entry 2. -/
opaque cosCand : Nat → BitVec 32 → BitVec 32
opaque sinCand : Nat → BitVec 32 → BitVec 32

/-- The fixed order of a tile sum (R37): for an arrangement, the terms left and the operand (0 or 1), the place
of the next operand. Log entry 3. -/
opaque sumPick : Nat → Nat → Nat → Nat

/-- A fresh free value: where the spec leaves a result open, one draw per use of the model's counter.
Log entry 4. -/
opaque freeValue : Nat → BitVec 64

/-- AES-XTS of one data unit (R204): memory or binding key, tweak and length give a
permutation of the data unit. Log entry 5. -/
opaque xts : BitVec 256 → BitVec 128 → (n : Nat) → Equiv.Perm (Fin n → BitVec 8)

/-- AES-CMAC under the line tag key of a memory key, low 64 bits (R205). Log entry 5. -/
opaque lineTag : BitVec 256 → List (BitVec 8) → BitVec 64

/-- SHA-384 (R106, R364, R374). Log entry 5. -/
opaque sha384 : List (BitVec 8) → BitVec 384

/-- HMAC-SHA-384 and the SP 800-108 derivation with a label and context (R204, R296, R364). Log entry 5. -/
opaque hmac384 : List (BitVec 8) → List (BitVec 8) → BitVec 384
opaque kdf256 : List (BitVec 8) → String → List (BitVec 8) → BitVec 256

/-- ML-DSA-87 verification: public key, message, signature (R106, R396). Log entry 5. -/
opaque mldsaVerify : List (BitVec 8) → List (BitVec 8) → List (BitVec 8) → Bool

/-- ECDSA P-384 verification of a certificate or certificate chain (R365, R415). Log entry 5. -/
opaque ecdsaVerify : List (BitVec 8) → List (BitVec 8) → List (BitVec 8) → Bool

/-- AES-CMAC of a package header (R374), unwrap of a member's binding key (R375): none when it fails, and
AES-GCM decryption of a projection table (R374). Log entry 5. -/
opaque cmac : BitVec 256 → List (BitVec 8) → BitVec 128
opaque unwrapKey : BitVec 256 → List (BitVec 8) → Option (BitVec 256)
opaque gcmOpen : BitVec 256 → List (BitVec 8) → Option (List (BitVec 8))

/-- The fused unique device secret and the part's fuse words (R364). Log entry 6. -/
opaque uds : BitVec 256
opaque fuses : List (BitVec 8)

/-- The DeviceID public key (R364, R365). Log entry 6. -/
opaque devicePub : List (BitVec 8)

/-- Part number, silicon revision and boot sequencer revision as block 1 of the report shows them (R368), the chain of an SPDM
certificate slot under a keeper image (R365), the hash of the leaf key of a requester's chain (R366), the signature of the
Alias key (R364). Log entry 5. -/
opaque hwIdent : List (BitVec 8)
opaque certChain : (slot : Nat) → (keeper : BitVec 384) → (svn : Nat) → List (BitVec 8)
opaque leafHash : List (BitVec 8) → BitVec 384
opaque aliasSign : (keeper : BitVec 384) → (svn : Nat) → List (BitVec 8) → List (BitVec 8)

/-- The fused hash of the keeper image's public key and the fused image key (R396). Log entry 6. -/
opaque imageKeyHash : BitVec 384
opaque imageKey : BitVec 256

/-- The stacked-DRAM berth slots with bytes on a channel (R429: which slots these are is unspecified), and whether a channel fails
the test of a start, by draw (R394 step 3). Log entry 7. -/
opaque channelSlots : (channel : Nat) → List Nat
opaque channelFails : (channel draw : Nat) → Bool

/-- Usable slots of a flash channel: factory-retired slots differ from part to part (R156). Log entry 7. -/
opaque flashUsable : Nat → Nat

/-- The erase block and the wear order of a channel's slot indices (R156, R170: which block holds a slot index
is unspecified). Log entry 7. -/
opaque blockOf : Nat → Nat → Nat

/-- A value the fuses, a pin or a device outside the block determines (die serial, sensor trim, PID). Log entry 6. -/
opaque fuseWord : Nat → BitVec 64

/-- The twin of a part under a map epoch, where it has one in service: the map that the manager keeps and installs by
epoch (R356, R408). Log entry 6. -/
opaque twinOf : (epoch pkg : Nat) → Option Nat

/-- What a peer's reservation request tells this merge point, by sweep and draw (R62). Log entry 9. -/
opaque peerRequest : (gsid draw : Nat) → Option PeerRequest

/-- Whether a package holds a binding of a base object with a given digest, by draw (R215). Log entry 9. -/
opaque peerHolds : (pkg : Nat) → (digest : BitVec 384) → (draw : Nat) → Bool

/-- Whether the host has created an object on a peer, by draw (R355). Log entry 9. -/
opaque peerObject : (pkg tenant object draw : Nat) → Bool

end Sys2Proof.Config
end

