-- ==== Sys2Proof/Machine/Num.lean ====
section
/-! DEFINITION. FP32, BF16 and Microscaling arithmetic (R35 to R42): exact values, directed rounding,
conversions, sums in the fixed order, exponentials and rotations within the bounds of the spec. -/

namespace Sys2Proof.Machine

/-- An exact value: NaN, a signed infinity, or (-1)^neg × m × 2^e. -/
inductive Num where
  | nan
  | inf (neg : Bool)
  | fin (neg : Bool) (m : Nat) (e : Int)
deriving DecidableEq, Repr

/-- Rounding directions of the chapter: to nearest even, toward +∞, toward −∞ (R52, R56). -/
inductive Rnd where
  | even | up | down
deriving DecidableEq, Repr

/-- The NaN the part forms. -/
def nan32 : F32 :=
  if Config.nanBits.toNat / 2 ^ 23 % 256 = 255 ∧ Config.nanBits.toNat % 2 ^ 23 ≠ 0 then Config.nanBits
  else 0x7FC00000

/-- +∞ and −∞. -/
def posInf : F32 := 0x7F800000
def negInf : F32 := 0xFF800000

/-- The value of an FP32 word. -/
def num (x : F32) : Num :=
  let s : Bool := decide (2 ^ 31 ≤ x.toNat)
  let ex : Nat := x.toNat / 2 ^ 23 % 256
  let fr := x.toNat % 2 ^ 23
  if ex = 255 then (if fr = 0 then .inf s else .nan)
  else if ex = 0 then .fin s fr (-149)
  else .fin s (2 ^ 23 + fr) ((ex : Int) - 150)

/-- One rounding of m × 2^e to a multiple of 2^u. -/
def roundUnit (r : Rnd) (neg : Bool) (m : Nat) (e u : Int) : Nat :=
  if u ≤ e then m * 2 ^ (e - u).toNat
  else
    let k := (u - e).toNat
    let q := m / 2 ^ k
    let rem := m % 2 ^ k
    match r with
    | .even => if 2 ^ k < 2 * rem ∨ (2 * rem = 2 ^ k ∧ q % 2 = 1) then q + 1 else q
    | .up => if rem ≠ 0 ∧ neg = false then q + 1 else q
    | .down => if rem ≠ 0 ∧ neg = true then q + 1 else q

/-- An exact value rounded to FP32. -/
def toF32 (r : Rnd) : Num → F32
  | .nan => nan32
  | .inf neg => if neg then negInf else posInf
  | .fin neg m e =>
    let sgn : Nat := if neg then 2 ^ 31 else 0
    if m = 0 then BitVec.ofNat 32 sgn
    else
      let u : Int := max ((Nat.log2 m : Int) + e - 23) (-149)
      let q := roundUnit r neg m e u
      let bits := (u + 149).toNat * 2 ^ 23 + q
      if 255 * 2 ^ 23 ≤ bits then
        match r, neg with
        | .up, true => 0xFF7FFFFF
        | .down, false => 0x7F7FFFFF
        | _, true => negInf
        | _, false => posInf
      else BitVec.ofNat 32 (sgn + bits)

/-- The exact sum. Unlike infinities give NaN. -/
def Num.add : Num → Num → Num
  | .nan, _ | _, .nan => .nan
  | .inf a, .inf b => if a = b then .inf a else .nan
  | .inf a, _ => .inf a
  | _, .inf b => .inf b
  | .fin s m e, .fin t n f =>
    let g := min e f
    let a : Int := (if s then -1 else 1) * (m * 2 ^ (e - g).toNat : Nat)
    let b : Int := (if t then -1 else 1) * (n * 2 ^ (f - g).toNat : Nat)
    let c := a + b
    if c = 0 then .fin (s && t) 0 g else .fin (c < 0) c.natAbs g

/-- The exact product. -/
def Num.mul : Num → Num → Num
  | .nan, _ | _, .nan => .nan
  | .inf a, .inf b => .inf (a != b)
  | .inf a, .fin t n _ => if n = 0 then .nan else .inf (a != t)
  | .fin s m _, .inf b => if m = 0 then .nan else .inf (s != b)
  | .fin s m e, .fin t n f => .fin (s != t) (m * n) (e + f)

/-- The negated value. -/
def Num.neg : Num → Num
  | .nan => .nan
  | .inf a => .inf (!a)
  | .fin s m e => .fin (!s) m e

/-- The quotient with a sticky bit below 64 quotient bits, exact for every rounding to FP32. -/
def Num.div : Num → Num → Num
  | .nan, _ | _, .nan => .nan
  | .inf _, .inf _ => .nan
  | .inf a, .fin t _ _ => .inf (a != t)
  | .fin s _ _, .inf b => .fin (s != b) 0 0
  | .fin s m e, .fin t n f =>
    if n = 0 then (if m = 0 then .nan else .inf (s != t))
    else
      let k := 64 + Nat.log2 n
      let q := m * 2 ^ k / n
      let rem := m * 2 ^ k % n
      .fin (s != t) (2 * q + (if rem = 0 then 0 else 1)) (e - f - k - 1)

/-- Integer square root by bits: the largest r below 2^k with r² ≤ n. -/
def isqrt (n : Nat) : Nat → Nat → Nat
  | 0, r => r
  | k + 1, r => let c := r + 2 ^ k
    isqrt n k (if c * c ≤ n then c else r)

/-- The square root of a non-negative value with a sticky bit. -/
def Num.sqrt : Num → Num
  | .nan => .nan
  | .inf neg => if neg then .nan else .inf false
  | .fin neg m e =>
    if m = 0 then .fin neg 0 0
    else if neg then .nan
    else
      let odd := e % 2 ≠ 0
      let n := (if odd then 2 * m else m) * 2 ^ 128
      let f := (if odd then e - 1 else e) / 2 - 64
      let r := isqrt n (Nat.log2 n / 2 + 1) 0
      .fin false (2 * r + (if r * r = n then 0 else 1)) (f - 1)

/-- The magnitude. -/
def Num.abs : Num → Num
  | .nan => .nan
  | .inf _ => .inf false
  | .fin _ m e => .fin false m e

/-- Strict order; false when either side is a NaN. -/
def Num.lt : Num → Num → Bool
  | .nan, _ | _, .nan => false
  | .inf a, .inf b => a && !b
  | .inf a, .fin .. => a
  | .fin .., .inf b => !b
  | .fin s m e, .fin t n f =>
    let g := min e f
    let a : Int := (if s then -1 else 1) * (m * 2 ^ (e - g).toNat : Nat)
    let b : Int := (if t then -1 else 1) * (n * 2 ^ (f - g).toNat : Nat)
    decide (a < b)

/-- Whether a word is a NaN, finite, or an infinity. -/
def isNan (x : F32) : Bool := x.toNat / 2 ^ 23 % 256 = 255 && x.toNat % 2 ^ 23 ≠ 0
def isFinite (x : F32) : Bool := x.toNat / 2 ^ 23 % 256 ≠ 255

/-- FP32 operations with one rounding each (R37, R52). -/
def fAdd (r : Rnd) (a b : F32) : F32 := toF32 r ((num a).add (num b))
def fSub (r : Rnd) (a b : F32) : F32 := toF32 r ((num a).add (num b).neg)
def fMul (r : Rnd) (a b : F32) : F32 := toF32 r ((num a).mul (num b))
def fDiv (r : Rnd) (a b : F32) : F32 := toF32 r ((num a).div (num b))
def fSqrt (r : Rnd) (a : F32) : F32 := toF32 r (num a).sqrt
def fLt (a b : F32) : Bool := (num a).lt (num b)
def fLe (a b : F32) : Bool := !isNan a && !isNan b && !fLt b a

/-- The larger of two values; a NaN never wins over a number. -/
def fMax (a b : F32) : F32 :=
  if isNan a then b else if isNan b then a else if fLt a b then b else a

/-- The smaller of two values; a NaN never wins over a number. -/
def fMin (a b : F32) : F32 :=
  if isNan a then b else if isNan b then a else if fLt b a then b else a

/-- A difference where two infinities of one sign give −∞ (R40). -/
def fDiff (a b : F32) : F32 :=
  if a = b ∧ (a = negInf ∨ a = posInf) then negInf else fSub .even a b

/-- The FP32 value of a natural number. -/
def fNat (r : Rnd) (n : Nat) : F32 := toF32 r (.fin false n 0)

/-! ### Exponentials (R39) -/

/-- Fixed-point precision of the enclosures. -/
def expP : Nat := 256

/-- Sum of the Taylor terms of e^y for y = n / 2^expP, each term rounded down. -/
def expTaylor (y : Nat) : Nat → Nat → Nat → Nat → Nat
  | 0, _, _, acc => acc
  | k + 1, i, term, acc =>
    let t := term * y / 2 ^ expP / i
    expTaylor y k (i + 1) t (acc + t)

/-- `k` squarings of a fixed-point value, rounded down, or up with slack. -/
def sqLo : Nat → Nat → Nat
  | 0, x => x
  | k + 1, x => sqLo k (x * x / 2 ^ expP)
def sqHi : Nat → Nat → Nat
  | 0, x => x
  | k + 1, x => sqHi k (x * x / 2 ^ expP + 2)

/-- Lower and upper bounds of e^(m × 2^e) × 2^expP for 0 ≤ m × 2^e < 128. -/
def expPos (m : Nat) (e : Int) : Nat × Nat :=
  let y := if 0 ≤ e + expP - 9 then m * 2 ^ (e + expP - 9).toNat else m / 2 ^ (-(e + expP - 9)).toNat
  let s := expTaylor y 60 1 (2 ^ expP) (2 ^ expP)
  (sqLo 9 s, sqHi 9 (s + 2 ^ 70))

/-- Bounds of e^x × 2^expP for a value with |x| < 128. -/
def expBounds (neg : Bool) (m : Nat) (e : Int) : Nat × Nat :=
  let (lo, hi) := expPos m e
  if neg then (2 ^ (2 * expP) / hi, 2 ^ (2 * expP) / lo + 1) else (lo, hi)

/-- The scaled integer value of an FP32 magnitude. -/
def scaled (x : F32) : Nat :=
  match num x with
  | .fin _ m e => m * 2 ^ (e + expP).toNat
  | _ => 0

/-- One unit in the last place of a scaled value. -/
def ulpScaled (lo : Nat) : Nat :=
  2 ^ (max ((Nat.log2 lo : Int) - expP - 23) (-149) + expP).toNat

/-- e^x of a score difference x ≤ 0 (R39): within 2 ulp, 0 below −87.336. -/
def expSmx (x : F32) : F32 :=
  match num x with
  | .nan => nan32
  | .inf neg => if neg then 0 else posInf
  | .fin neg m e =>
    if m = 0 then 0x3F800000
    else if (Num.fin neg m e).lt ((Num.fin true 87336 0).div (.fin false 1000 0)) then 0
    else if neg = false then posInf
    else
      let (lo, hi) := expBounds neg m e
      let c := Config.expCand x
      let u := ulpScaled lo
      if isFinite c ∧ c.toNat < 2 ^ 31 ∧ lo ≤ scaled c + 2 * u ∧ hi ≤ scaled c + 2 * u
          ∧ scaled c ≤ lo + 2 * u then c
      else toF32 .even (.fin false lo (-(expP : Int)))

/-- An upper bound of e^x: rounded toward +∞ for x ≤ 0 (R56), within 2 ulp above for 0 < x ≤ 88.722,
+∞ beyond (R39). -/
def expUp (x : F32) : F32 :=
  match num x with
  | .nan => nan32
  | .inf neg => if neg then 0 else posInf
  | .fin neg m e =>
    if m = 0 then 0x3F800000
    else if neg then
      if (Num.fin neg m e).lt (.fin true 104 0) then 1
      else toF32 .up (.fin false (expBounds neg m e).2 (-(expP : Int)))
    else if ((Num.fin false 88722 0).div (.fin false 1000 0)).lt (.fin neg m e) then posInf
    else
      let (lo, hi) := expBounds neg m e
      let c := Config.expUpCand x
      let u := ulpScaled lo
      if isFinite c ∧ c.toNat < 2 ^ 31 ∧ hi ≤ scaled c ∧ scaled c ≤ lo + 2 * u then c
      else toF32 .up (.fin false hi (-(expP : Int)))

/-- A lower bound of e^x for x ≤ 0 (R56: e^−δ is never above its true value). -/
def expDown (x : F32) : F32 :=
  match num x with
  | .nan => nan32
  | .inf neg => if neg then 0 else posInf
  | .fin neg m e =>
    if m = 0 then 0x3F800000
    else if neg then
      if (Num.fin neg m e).lt (.fin true 104 0) then 0
      else toF32 .down (.fin false (expBounds neg m e).1 (-(expP : Int)))
    else toF32 .down (.fin false (expBounds neg m e).1 (-(expP : Int)))

/-! ### Rotations (R42) -/

/-- arctan(1/n) × 2^512 by its series. -/
def atanInv (n : Nat) : Nat → Nat → Nat → Int → Int
  | 0, _, _, acc => acc
  | k + 1, i, pw, acc =>
    let t : Int := (pw / (2 * i + 1) : Nat)
    atanInv n k (i + 1) (pw / (n * n)) (if i % 2 = 0 then acc + t else acc - t)

/-- π × 2^512 (Machin's formula), within 2^20. -/
def piFix : Nat :=
  (16 * atanInv 5 240 0 (2 ^ 512 / 5) 0 - 4 * atanInv 239 80 0 (2 ^ 512 / 239) 0).toNat

/-- Terms of the sine or cosine series in 2^-256 fixed point. -/
def trigSeries (y2 : Nat) : Nat → Nat → Nat → Bool → Int → Int
  | 0, _, _, _, acc => acc
  | k + 1, i, term, sub, acc =>
    let t := term * y2 / 2 ^ 256 / (i * (i + 1))
    trigSeries y2 k (i + 2) t (!sub) (if sub then acc - (t : Int) else acc + t)

/-- cos and sin of p × θ, scaled by 2^256, through reduction modulo 2π. -/
def cosSinFix (p : Nat) (theta : F32) : Int × Int :=
  match num theta with
  | .fin neg m e =>
    let a := if 0 ≤ e + 512 then p * m * 2 ^ (e + 512).toNat else p * m / 2 ^ (-(e + 512)).toNat
    let r := a % (2 * piFix)
    let y := r / 2 ^ 256
    let y2 := y * y / 2 ^ 256
    let c := trigSeries y2 80 1 (2 ^ 256) true (2 ^ 256)
    let s := trigSeries y2 80 2 y true y
    (c, if neg then -s else s)
  | _ => (0, 0)

/-- A candidate accepted when it lies within 2^-21 of the fixed-point value, else the nearest FP32. -/
def trigPick (v : Int) (c : F32) : F32 :=
  let near : Bool := match num c with
    | .fin neg m e =>
      let x : Int := (if neg then -1 else 1) * (if 0 ≤ e + 256 then m * 2 ^ (e + 256).toNat else 0 : Nat)
      decide ((x - v).natAbs + 2 ^ 8 ≤ 2 ^ 235) && decide (-256 ≤ e)
    | _ => false
  if near then c else toF32 .even (.fin (v < 0) v.natAbs (-256))

/-- cos(p × θ) and sin(p × θ) with absolute error at most 2^-21 (R42). -/
def cosRot (p : Nat) (theta : F32) : F32 :=
  if isFinite theta then trigPick (cosSinFix p theta).1 (Config.cosCand p theta) else nan32
def sinRot (p : Nat) (theta : F32) : F32 :=
  if isFinite theta then trigPick (cosSinFix p theta).2 (Config.sinCand p theta) else nan32

/-! ### The decay factor (R184) -/

/-- Largest n below 2^31 with n^h ≤ 2^(30h − f), by bits: ⌊2^(−f/h) × 2^30⌋. -/
def rootBits (h f : Nat) : Nat → Nat → Nat
  | 0, n => n
  | k + 1, n => let c := n + 2 ^ k
    rootBits h f k (if c ^ h ≤ 2 ^ (30 * h - f) then c else n)

/-- 2^(−g/h) rounded once to FP32, to nearest even (R184). -/
def decayFactor (g h : Nat) : F32 :=
  if h = 0 then 0x3F800000
  else if g % h = 0 then toF32 .even (.fin false 1 (-((g / h : Nat) : Int)))
  else toF32 .even (.fin false (2 * rootBits h (g % h) 31 0 + 1) (-((31 + g / h : Nat) : Int)))

/-! ### Stored formats (R35, R37) -/

/-- Value of an E2M1, E4M3 and BF16 code, and of an E8M0 scale. -/
def e2m1 (c : Nat) : Num :=
  let m := c % 2; let e := c / 2 % 4; let s := decide (8 ≤ c % 16)
  if e = 0 then .fin s m (-1) else .fin s (2 + m) ((e : Int) - 2)
def e4m3 (c : Nat) : Num :=
  let m := c % 8; let e := c / 8 % 16; let s := decide (128 ≤ c % 256)
  if e = 15 ∧ m = 7 then .nan
  else if e = 0 then .fin s m (-9) else .fin s (8 + m) ((e : Int) - 10)
def bf16 (c : Nat) : Num := num (BitVec.ofNat 32 (c % 2 ^ 16 * 2 ^ 16))
def e8m0 (c : Nat) : Num := if c % 256 = 255 then .nan else .fin false 1 (((c % 256 : Nat) : Int) - 127)

/-- Conversion to BF16: nearest even, NaNs and infinities kept (R37). -/
def toBf16 (x : F32) : Nat :=
  match num x with
  | .nan => 0x7FC0
  | _ =>
    let hi := x.toNat / 2 ^ 16
    let lo := x.toNat % 2 ^ 16
    if 2 ^ 15 < lo ∨ (lo = 2 ^ 15 ∧ hi % 2 = 1) then hi + 1 else hi

/-- One element rounded to nearest even and saturated: `p` significand bits, least unit `umin`, largest code. -/
def quantElem (p : Nat) (umin : Int) (maxCode signBit : Nat) : Num → Nat
  | .fin neg m e =>
    let sgn := if neg then signBit else 0
    if m = 0 then sgn
    else
      let u := max ((Nat.log2 m : Int) + e - (p - 1 : Nat)) umin
      let q := roundUnit .even neg m e u
      let code := (u - umin).toNat * 2 ^ (p - 1) + q
      sgn + min code maxCode
  | _ => 0

/-- floor(log2 |x|) of a non-zero finite value. -/
def ilog : Num → Option Int
  | .fin _ m e => if m = 0 then none else some ((Nat.log2 m : Int) + e)
  | _ => none

/-- The E8M0 code of an MX block (R37): clamp(⌊log2 max|x|⌋ − emax) + 127; 0xFF for a non-finite element. -/
def mxScale (emax : Int) (xs : List F32) : Nat :=
  if xs.any (fun x => !isFinite x) then 255
  else
    match (xs.filterMap (fun x => ilog (num x))).max? with
    | none => 0
    | some l => (max (-127) (min 127 (l - emax)) + 127).toNat

/-- A block of FP32 values as E4M3 codes with their scale code (R37). -/
def toE4M3 (xs : List F32) : List Nat × Nat :=
  let sc := mxScale 8 xs
  if sc = 255 then (xs.map (fun _ => 0), 255)
  else (xs.map (fun x => quantElem 4 (-9) 126 128 ((num x).mul (.fin false 1 (127 - sc)))), sc)

/-- A block of FP32 values as E2M1 codes with their scale code (R37). -/
def toE2M1 (xs : List F32) : List Nat × Nat :=
  let sc := mxScale 2 xs
  if sc = 255 then (xs.map (fun _ => 0), 255)
  else (xs.map (fun x => quantElem 2 (-1) 7 8 ((num x).mul (.fin false 1 (127 - sc)))), sc)

/-- Value of an element code under its format (0 MXFP4, 1 MXFP8, 2 BF16) and block scale. -/
def elemNum (fmt code scale : Nat) : Num :=
  match fmt with
  | 0 => (e2m1 code).mul (e8m0 scale)
  | 1 => (e4m3 code).mul (e8m0 scale)
  | _ => bf16 code

/-! ### Sums in the fixed order (R37) -/

/-- The list without its element `i`. -/
def dropNth {α : Type} : List α → Nat → List α
  | [], _ => []
  | _ :: t, 0 => t
  | h :: t, n + 1 => h :: dropNth t n

/-- Sum of exact terms in FP32, in the order fixed for the arrangement `k`: two terms at a time. -/
def sumTerms (k : Nat) : Nat → List Num → Num
  | 0, ts => ts.headD (.fin false 0 0)
  | n + 1, ts =>
    match ts with
    | [] => .fin false 0 0
    | [t] => t
    | _ =>
      let len := ts.length
      let i := Config.sumPick k len 0 % len
      let rest := dropNth ts i
      let j := Config.sumPick k len 1 % (len - 1)
      let s := toF32 .even ((nthD .nan ts i).add (nthD .nan rest j))
      sumTerms k n (dropNth rest j ++ [num s])

/-- The FP32 sum of exact terms under arrangement `k`. -/
def fSum (k : Nat) (ts : List Num) : F32 := toF32 .even (sumTerms k ts.length ts)

end Sys2Proof.Machine
end

