-- ==== Sys2Proof/Machine/RegTable.lean ====
section
/-! DEFINITION. The register map of BAR0 (R324): every register's fields with their access codes (R6) and
reset values, as the register tables of the chapters give them. Reserved bits are no field: they read as 0 and
ignore writes (R7). Register n of an array is looked up at the first register's offset. -/

namespace Sys2Proof.Machine

/-- Access codes (R6). -/
inductive Access where
  | RO | RW | W1C | WO | RC | RSE
deriving DecidableEq, Repr

/-- A register field: least bit, width, access code, reset value. -/
structure RField where
  lo : Nat
  w : Nat
  acc : Access
  rst : Nat
deriving DecidableEq, Repr

def rHubHostif : Nat := 0x000100
def rHubPaceCtl : Nat := 0x001000
def rHubPaceStat : Nat := 0x001008
def rHubPaceReg : Nat := 0x001100
def rBootStat : Nat := 0x010000
def rBootCmd : Nat := 0x010008
def rBootImg : Nat := 0x010010
def rBootAttempt : Nat := 0x010018
def rRstCtl : Nat := 0x020000
def rRstCause : Nat := 0x020008
def rPwrStat : Nat := 0x030000
def rPwrCtl : Nat := 0x030008
def rKprCtl : Nat := 0x040000
def rKprStat : Nat := 0x040008
def rKprUpd : Nat := 0x040010
def rKprUpdImg : Nat := 0x040018
def rKprSet : Nat := 0x040020
def rSecStat : Nat := 0x050000
def rSecSlotSel : Nat := 0x050008
def rSecSlot : Nat := 0x050010
def rSecRmv : Nat := 0x050018
def rSecErr : Nat := 0x050020
def rBsnCtl : Nat := 0x060000
def rBsnEpoch : Nat := 0x060008
def rBsnTomb : Nat := 0x060010
def rBsnSel : Nat := 0x060018
def rBsnInfo : Nat := 0x060020
def rBsnHost : Nat := 0x060028
def rBsnMoor : Nat := 0x060030
def rBsnClmask : Nat := 0x060040
def rBsnCmdbuf : Nat := 0x060100
def rBsnCmd : Nat := 0x060180
def rBsnCmdRes : Nat := 0x060188
def rTbCtl : Nat := 0x070000
def rTbStat : Nat := 0x070008
def rTbTime : Nat := 0x070010
def rTbStrandDly : Nat := 0x070018
def rTbPtpCtl : Nat := 0x070020
def rTbPtpStat : Nat := 0x070028
def rTbSet : Nat := 0x070030
def rChCtl : Nat := 0x080000
def rChStat : Nat := 0x080008
def rChAlloc : Nat := 0x080010
def rChAllocRes : Nat := 0x080018
def rChSel : Nat := 0x080020
def rChCfg : Nat := 0x080028
def rChVal : Nat := 0x080030
def rPrtCtl : Nat := 0x090000
def rPrtEngCtl : Nat := 0x090100
def rPrtEngStat : Nat := 0x090108
def rPrtEngFec : Nat := 0x090110
def rPrtEngMacsec : Nat := 0x090118
def rTrnCtl : Nat := 0x0A0000
def rTrnCc : Nat := 0x0A0008
def rTrnStat : Nat := 0x0A0010
def rTrnErr : Nat := 0x0A0018
def rTrnMoor : Nat := 0x0A0020
def rTrfCtl : Nat := 0x0B0000
def rTrfDrr : Nat := 0x0B0008
def rTrfMsel : Nat := 0x0B0010
def rTrfMrate : Nat := 0x0B0018
def rTrfMburst : Nat := 0x0B0020
def rTrfMstat : Nat := 0x0B0028
def rTrfWsel : Nat := 0x0B0030
def rTrfWcfg : Nat := 0x0B0038
def rTrfWstat : Nat := 0x0B0040
def rLdgCtl : Nat := 0x0C0000
def rLdgStat : Nat := 0x0C0008
def rLdgDredge : Nat := 0x0C0010
def rLdgRetireLog : Nat := 0x0C0018
def rLdgCurKey0 : Nat := 0x0C0100
def rLdgCurKey1 : Nat := 0x0C0108
def rLdgCurMask0 : Nat := 0x0C0110
def rLdgCurMask1 : Nat := 0x0C0118
def rLdgCurCmd : Nat := 0x0C0120
def rLdgCurRes : Nat := 0x0C0128
def rLdgCurVal : Nat := 0x0C0130
def rLdgCurEkey0 : Nat := 0x0C0138
def rLdgCurEkey1 : Nat := 0x0C0140
def rLdgCurEmask0 : Nat := 0x0C0148
def rLdgCurEmask1 : Nat := 0x0C0150
def rSndCtl : Nat := 0x0D0000
def rSndStat : Nat := 0x0D0008
def rSndPfStat : Nat := 0x0D0010
def rSndColl : Nat := 0x0D0018
def rSndGraph : Nat := 0x0D0020
def rBthCtl : Nat := 0x0E0000
def rBthFree : Nat := 0x0E0008
def rBthPtStat : Nat := 0x0E0010
def rBthQsel : Nat := 0x0E0020
def rBthQdram : Nat := 0x0E0028
def rBthQflash : Nat := 0x0E0030
def rBthBargeStat : Nat := 0x0E0040
def rBthPlbInv : Nat := 0x0E0050
def rBthLineStat : Nat := 0x0E0060
def rTwnCfg : Nat := 0x100000
def rTwnStat : Nat := 0x100008
def rTwnJour : Nat := 0x100010
def rTwnQset : Nat := 0x100018
def rTwnSpareSel : Nat := 0x100020
def rTwnSpare : Nat := 0x100028
def rTwnSt : Nat := 0x100030
def rTwnSvc : Nat := 0x100038
def rTwnSvcRes : Nat := 0x100040
def rDbgStat : Nat := 0x110000
def rDbgCoreSel : Nat := 0x110008
def rDbgCmd : Nat := 0x110010
def rDbgAddr : Nat := 0x110018
def rDbgData : Nat := 0x110020
def rDbgRes : Nat := 0x110028
def rTwpCtl : Nat := 0x120000
def rTwpStat : Nat := 0x120008
def rTwpSensSel : Nat := 0x120010
def rTwpSens : Nat := 0x120018
def rTwpWdtLog : Nat := 0x120020
def rLbsCtl : Nat := 0x130000
def rLbsStat : Nat := 0x130008
def rLbsXfer : Nat := 0x130010
def rLbsWdata : Nat := 0x130018
def rLbsRdata : Nat := 0x130020
def rSqTail : Nat := 0x800000
def rSqHead : Nat := 0x800800
def rCqHead : Nat := 0x801000
def rRelease : Nat := 0x801800
def rEvtHead : Nat := 0x801808
def rEvtTail : Nat := 0x801810
def rExcHead : Nat := 0x801818
def rExcTail : Nat := 0x801820
def rConnDb : Nat := 0x801828
def rBstat : Nat := 0x801830

/-- Registers of the HUB_ block. -/
def regsHub : List (Nat × List RField) := [
  -- HUB_HOSTIF
  (0x000100, [⟨0, 2, .RO, 0x0⟩, ⟨2, 1, .W1C, 0x0⟩, ⟨16, 16, .RC, 0x0⟩, ⟨32, 16, .RC, 0x0⟩]),
  -- HUB_PACE_CTL
  (0x001000, [⟨0, 4, .RW, 0x4⟩, ⟨16, 16, .RW, 0x4B0⟩]),
  -- HUB_PACE_STAT
  (0x001008, [⟨0, 16, .RO, 0x0⟩, ⟨16, 5, .RO, 0x0⟩, ⟨32, 1, .W1C, 0x0⟩]),
  -- HUB_PACE_REGn
  (0x001100, [⟨0, 32, .RO, 0x0⟩, ⟨32, 16, .RO, 0x0⟩, ⟨48, 1, .RO, 0x0⟩, ⟨49, 1, .RO, 0x0⟩])]

/-- Registers of the BOOT_ block. -/
def regsBoot : List (Nat × List RField) := [
  -- BOOT_STAT
  (0x010000, [⟨0, 3, .RO, 0x0⟩, ⟨3, 1, .RO, 0x0⟩, ⟨4, 1, .RO, 0x0⟩, ⟨8, 4, .RO, 0x0⟩, ⟨12, 4, .RO, 0x0⟩, ⟨16, 48, .RO, 0x0⟩]),
  -- BOOT_CMD
  (0x010008, [⟨0, 1, .WO, 0x0⟩, ⟨1, 1, .WO, 0x0⟩, ⟨2, 2, .WO, 0x0⟩]),
  -- BOOT_IMG
  (0x010010, [⟨0, 24, .RW, 0x0⟩]),
  -- BOOT_ATTEMPT
  (0x010018, [⟨0, 2, .RO, 0x0⟩, ⟨2, 1, .WO, 0x0⟩])]

/-- Registers of the RST_ block. -/
def regsRst : List (Nat × List RField) := [
  -- RST_CTL
  (0x020000, [⟨0, 1, .WO, 0x0⟩]),
  -- RST_CAUSE
  (0x020008, [⟨0, 3, .RSE, 0x0⟩, ⟨8, 1, .RSE, 0x0⟩])]

/-- Registers of the PWR_ block. -/
def regsPwr : List (Nat × List RField) := [
  -- PWR_STAT
  (0x030000, [⟨0, 1, .RO, 0x0⟩, ⟨1, 1, .RO, 0x0⟩, ⟨2, 1, .RO, 0x0⟩, ⟨3, 3, .RO, 0x0⟩, ⟨6, 1, .RO, 0x0⟩, ⟨7, 1, .W1C, 0x0⟩, ⟨16, 12, .RO, 0x0⟩]),
  -- PWR_CTL
  (0x030008, [⟨0, 1, .RW, 0x0⟩])]

/-- Registers of the KPR_ block. -/
def regsKpr : List (Nat × List RField) := [
  -- KPR_CTL
  (0x040000, [⟨0, 16, .RW, 0x32⟩]),
  -- KPR_STAT
  (0x040008, [⟨0, 16, .RC, 0x0⟩, ⟨16, 4, .RO, 0x0⟩, ⟨32, 32, .RO, 0x0⟩]),
  -- KPR_UPD
  (0x040010, [⟨0, 1, .WO, 0x0⟩, ⟨1, 1, .WO, 0x0⟩, ⟨2, 3, .RO, 0x0⟩, ⟨5, 4, .RO, 0x0⟩]),
  -- KPR_UPD_IMG
  (0x040018, [⟨0, 32, .RW, 0x0⟩, ⟨32, 24, .RW, 0x0⟩]),
  -- KPR_SET
  (0x040020, [⟨0, 1, .WO, 0x0⟩, ⟨1, 1, .WO, 0x0⟩, ⟨2, 1, .RO, 0x0⟩, ⟨3, 1, .RO, 0x0⟩, ⟨4, 1, .RO, 0x0⟩, ⟨16, 16, .RO, 0x0⟩, ⟨32, 32, .RO, 0x0⟩])]

/-- Registers of the SEC_ block. -/
def regsSec : List (Nat × List RField) := [
  -- SEC_STAT
  (0x050000, [⟨0, 2, .RO, 0x0⟩, ⟨2, 1, .RO, 0x0⟩, ⟨3, 4, .RO, 0x0⟩, ⟨7, 4, .RO, 0x0⟩, ⟨11, 1, .RO, 0x0⟩, ⟨16, 16, .RO, 0x0⟩]),
  -- SEC_SLOT_SEL
  (0x050008, [⟨0, 12, .RW, 0x0⟩]),
  -- SEC_SLOT
  (0x050010, [⟨0, 3, .RO, 0x2⟩, ⟨16, 16, .RO, 0x0⟩, ⟨32, 32, .RO, 0x0⟩]),
  -- SEC_RMV
  (0x050018, [⟨0, 12, .RO, 0x0⟩, ⟨12, 3, .RO, 0x0⟩, ⟨15, 1, .RO, 0x0⟩, ⟨32, 32, .RO, 0x0⟩]),
  -- SEC_ERR
  (0x050020, [⟨0, 16, .RC, 0x0⟩, ⟨16, 16, .RC, 0x0⟩, ⟨32, 32, .RC, 0x0⟩])]

/-- Registers of the BSN_ block. -/
def regsBsn : List (Nat × List RField) := [
  -- BSN_CTL
  (0x060000, [⟨0, 16, .RW, 0x64⟩, ⟨16, 16, .RW, 0x0⟩]),
  -- BSN_EPOCH
  (0x060008, [⟨0, 16, .RW, 0x0⟩, ⟨16, 1, .W1C, 0x0⟩, ⟨17, 1, .W1C, 0x0⟩, ⟨18, 1, .RO, 0x1⟩, ⟨32, 16, .RC, 0x0⟩, ⟨48, 16, .RC, 0x0⟩]),
  -- BSN_TOMB
  (0x060010, [⟨0, 24, .RO, 0x0⟩, ⟨24, 24, .RC, 0x0⟩]),
  -- BSN_SEL
  (0x060018, [⟨0, 6, .RW, 0x0⟩]),
  -- BSN_INFO
  (0x060020, [⟨0, 2, .RO, 0x2⟩, ⟨2, 10, .RO, 0x200⟩, ⟨12, 2, .RO, 0x0⟩, ⟨14, 1, .RO, 0x0⟩, ⟨16, 8, .RO, 0x1⟩, ⟨32, 32, .RO, 0xFFFFFFFF⟩]),
  -- BSN_HOST
  (0x060028, [⟨0, 23, .RO, 0x400000⟩, ⟨23, 23, .RO, 0x10000⟩]),
  -- BSN_MOOR
  (0x060030, [⟨0, 16, .RO, 0x0⟩, ⟨16, 16, .RO, 0x40⟩]),
  -- BSN_CLMASKn
  (0x060040, [⟨0, 64, .RO, 0x0⟩]),
  -- BSN_CMDBUFn
  (0x060100, [⟨0, 64, .RW, 0x0⟩]),
  -- BSN_CMD
  (0x060180, [⟨0, 1, .WO, 0x0⟩]),
  -- BSN_CMD_RES
  (0x060188, [⟨0, 16, .RO, 0x0⟩, ⟨16, 1, .RO, 0x0⟩, ⟨32, 32, .RO, 0x0⟩])]

/-- Registers of the TB_ block. -/
def regsTb : List (Nat × List RField) := [
  -- TB_CTL
  (0x070000, [⟨0, 2, .RW, 0x0⟩, ⟨2, 1, .RW, 0x1⟩, ⟨3, 1, .RW, 0x0⟩, ⟨8, 20, .RW, 0x80⟩]),
  -- TB_STAT
  (0x070008, [⟨0, 3, .RO, 0x0⟩, ⟨3, 2, .RO, 0x0⟩, ⟨5, 4, .RO, 0x0⟩, ⟨16, 16, .RO, 0x0⟩, ⟨32, 16, .RC, 0x0⟩, ⟨48, 1, .W1C, 0x0⟩, ⟨49, 1, .W1C, 0x0⟩, ⟨50, 1, .RO, 0x0⟩, ⟨51, 1, .W1C, 0x0⟩]),
  -- TB_TIME
  (0x070010, [⟨0, 64, .RO, 0x0⟩]),
  -- TB_STRAND_DLY
  (0x070018, [⟨0, 16, .RW, 0x0⟩]),
  -- TB_PTP_CTL
  (0x070020, [⟨0, 1, .RW, 0x0⟩, ⟨1, 7, .RW, 0x0⟩, ⟨8, 1, .RW, 0x0⟩, ⟨9, 1, .RW, 0x0⟩, ⟨10, 2, .RW, 0x0⟩, ⟨12, 4, .RW, 0x7⟩]),
  -- TB_PTP_STAT
  (0x070028, [⟨0, 32, .RO, 0x0⟩, ⟨32, 16, .RO, 0x0⟩, ⟨48, 16, .RC, 0x0⟩]),
  -- TB_SET
  (0x070030, [⟨0, 64, .WO, 0x0⟩])]

/-- Registers of the CH_ block. -/
def regsCh : List (Nat × List RField) := [
  -- CH_CTL
  (0x080000, [⟨0, 32, .RW, 0x1000000⟩]),
  -- CH_STAT
  (0x080008, [⟨0, 12, .RO, 0xFF0⟩, ⟨12, 17, .RO, 0x0⟩, ⟨32, 1, .W1C, 0x0⟩, ⟨33, 1, .W1C, 0x0⟩, ⟨48, 16, .RC, 0x0⟩]),
  -- CH_ALLOC
  (0x080010, [⟨0, 6, .WO, 0x0⟩, ⟨6, 12, .WO, 0x0⟩, ⟨18, 2, .WO, 0x0⟩, ⟨20, 16, .WO, 0x0⟩]),
  -- CH_ALLOC_RES
  (0x080018, [⟨0, 16, .RO, 0x0⟩, ⟨16, 4, .RO, 0x0⟩, ⟨20, 1, .RO, 0x0⟩]),
  -- CH_SEL
  (0x080020, [⟨0, 16, .RW, 0x0⟩]),
  -- CH_CFG
  (0x080028, [⟨0, 1, .RW, 0x0⟩, ⟨1, 6, .RW, 0x0⟩, ⟨7, 1, .W1C, 0x0⟩, ⟨8, 6, .RO, 0x0⟩, ⟨14, 1, .RO, 0x0⟩, ⟨15, 1, .RO, 0x0⟩]),
  -- CH_VAL
  (0x080030, [⟨0, 32, .RO, 0x0⟩, ⟨32, 32, .RO, 0x0⟩])]

/-- Registers of the PRT_ block. -/
def regsPrt : List (Nat × List RField) := [
  -- PRT_CTL
  (0x090000, [⟨0, 1, .RW, 0x0⟩, ⟨16, 16, .RW, 0x88B5⟩, ⟨32, 16, .RW, 0x9A21⟩, ⟨48, 3, .RW, 0x3⟩, ⟨51, 3, .RW, 0x5⟩, ⟨54, 3, .RW, 0x6⟩, ⟨57, 3, .RW, 0x7⟩]),
  -- PRT_ENGn_CTL
  (0x090100, [⟨0, 2, .RW, 0x0⟩, ⟨2, 1, .RW, 0x1⟩, ⟨8, 4, .RW, 0xF⟩]),
  -- PRT_ENGn_STAT
  (0x090108, [⟨0, 1, .RO, 0x0⟩, ⟨1, 1, .RO, 0x0⟩, ⟨2, 8, .RO, 0x0⟩, ⟨10, 4, .RO, 0xF⟩, ⟨14, 1, .W1C, 0x0⟩, ⟨15, 1, .W1C, 0x0⟩, ⟨32, 16, .RC, 0x0⟩, ⟨48, 16, .RC, 0x0⟩]),
  -- PRT_ENGn_FEC
  (0x090110, [⟨0, 32, .RC, 0x0⟩, ⟨32, 32, .RC, 0x0⟩]),
  -- PRT_ENGn_MACSEC
  (0x090118, [⟨0, 32, .RC, 0x0⟩, ⟨32, 16, .RC, 0x0⟩, ⟨48, 16, .RC, 0x0⟩])]

/-- Registers of the TRN_ block. -/
def regsTrn : List (Nat × List RField) := [
  -- TRN_CTL
  (0x0A0000, [⟨0, 16, .RW, 0x7D0⟩, ⟨16, 16, .RW, 0xFA0⟩, ⟨32, 16, .RW, 0x40⟩]),
  -- TRN_CC
  (0x0A0008, [⟨0, 24, .RW, 0x10C7⟩, ⟨24, 4, .RW, 0x8⟩, ⟨32, 16, .RW, 0x100⟩, ⟨48, 16, .RW, 0x4000⟩]),
  -- TRN_STAT
  (0x0A0010, [⟨0, 13, .RO, 0x0⟩, ⟨16, 21, .RO, 0x0⟩, ⟨48, 16, .RC, 0x0⟩]),
  -- TRN_ERR
  (0x0A0018, [⟨0, 16, .RC, 0x0⟩, ⟨16, 16, .RC, 0x0⟩, ⟨32, 12, .RC, 0x0⟩, ⟨44, 8, .RC, 0x0⟩, ⟨52, 12, .RC, 0x0⟩]),
  -- TRN_MOOR
  (0x0A0020, [⟨0, 17, .RO, 0x0⟩, ⟨32, 17, .RO, 0x0⟩])]

/-- Registers of the TRF_ block. -/
def regsTrf : List (Nat × List RField) := [
  -- TRF_CTL
  (0x0B0000, [⟨0, 1, .RW, 0x0⟩, ⟨1, 6, .RW, 0x0⟩, ⟨8, 8, .RW, 0x40⟩, ⟨24, 8, .RW, 0x32⟩]),
  -- TRF_DRR
  (0x0B0008, [⟨0, 8, .RW, 0x1⟩, ⟨8, 8, .RW, 0x2⟩, ⟨16, 8, .RW, 0x2⟩, ⟨24, 8, .RW, 0x4⟩, ⟨32, 8, .RW, 0x4⟩, ⟨40, 8, .RW, 0x8⟩]),
  -- TRF_MSEL
  (0x0B0010, [⟨0, 12, .RW, 0x0⟩]),
  -- TRF_MRATE
  (0x0B0018, [⟨0, 24, .RW, 0x0⟩, ⟨24, 24, .RW, 0x0⟩, ⟨48, 1, .RW, 0x0⟩]),
  -- TRF_MBURST
  (0x0B0020, [⟨0, 24, .RW, 0x0⟩, ⟨24, 24, .RW, 0x0⟩]),
  -- TRF_MSTAT
  (0x0B0028, [⟨0, 32, .RC, 0x0⟩, ⟨32, 16, .RC, 0x0⟩, ⟨48, 16, .RC, 0x0⟩]),
  -- TRF_WSEL
  (0x0B0030, [⟨0, 6, .RW, 0x0⟩]),
  -- TRF_WCFG
  (0x0B0038, [⟨0, 24, .RW, 0x0⟩, ⟨24, 24, .RW, 0x0⟩, ⟨48, 1, .RW, 0x0⟩]),
  -- TRF_WSTAT
  (0x0B0040, [⟨0, 32, .RO, 0x0⟩, ⟨32, 16, .RC, 0x0⟩])]

/-- Registers of the LDG_ block. -/
def regsLdg : List (Nat × List RField) := [
  -- LDG_CTL
  (0x0C0000, [⟨0, 16, .RW, 0x7D0⟩, ⟨16, 5, .RW, 0x7⟩]),
  -- LDG_STAT
  (0x0C0008, [⟨0, 19, .RO, 0x0⟩, ⟨19, 19, .RO, 0x0⟩, ⟨38, 1, .W1C, 0x0⟩, ⟨39, 1, .RO, 0x0⟩]),
  -- LDG_DREDGE
  (0x0C0010, [⟨0, 18, .RO, 0x0⟩, ⟨32, 16, .RO, 0x0⟩]),
  -- LDG_RETIRE_LOG
  (0x0C0018, [⟨0, 18, .RSE, 0x0⟩, ⟨18, 4, .RSE, 0x0⟩, ⟨22, 12, .RSE, 0x0⟩, ⟨63, 1, .RSE, 0x0⟩]),
  -- LDG_CURn_KEY0
  (0x0C0100, [⟨0, 64, .RW, 0x0⟩]),
  -- LDG_CURn_KEY1
  (0x0C0108, [⟨0, 64, .RW, 0x0⟩]),
  -- LDG_CURn_MASK0
  (0x0C0110, [⟨0, 64, .RW, 0x0⟩]),
  -- LDG_CURn_MASK1
  (0x0C0118, [⟨0, 64, .RW, 0x0⟩]),
  -- LDG_CURn_CMD
  (0x0C0120, [⟨0, 2, .WO, 0x0⟩]),
  -- LDG_CURn_RES
  (0x0C0128, [⟨0, 18, .RO, 0x0⟩, ⟨18, 1, .RO, 0x0⟩, ⟨19, 1, .RO, 0x0⟩, ⟨20, 1, .RO, 0x0⟩, ⟨21, 1, .RO, 0x0⟩, ⟨22, 19, .RO, 0x0⟩]),
  -- LDG_CURn_VAL
  (0x0C0130, [⟨0, 64, .RO, 0x0⟩]),
  -- LDG_CURn_EKEY0
  (0x0C0138, [⟨0, 64, .RO, 0x0⟩]),
  -- LDG_CURn_EKEY1
  (0x0C0140, [⟨0, 64, .RO, 0x0⟩]),
  -- LDG_CURn_EMASK0
  (0x0C0148, [⟨0, 64, .RO, 0x0⟩]),
  -- LDG_CURn_EMASK1
  (0x0C0150, [⟨0, 64, .RO, 0x0⟩])]

/-- Registers of the SND_ block. -/
def regsSnd : List (Nat × List RField) := [
  -- SND_CTL
  (0x0D0000, [⟨0, 1, .RW, 0x1⟩, ⟨1, 1, .RW, 0x1⟩, ⟨8, 8, .RW, 0x20⟩, ⟨16, 24, .RW, 0x400⟩]),
  -- SND_STAT
  (0x0D0008, [⟨0, 32, .RC, 0x0⟩, ⟨32, 32, .RC, 0x0⟩]),
  -- SND_PF_STAT
  (0x0D0010, [⟨0, 32, .RC, 0x0⟩, ⟨32, 32, .RC, 0x0⟩]),
  -- SND_COLL
  (0x0D0018, [⟨0, 21, .RO, 0x100000⟩, ⟨32, 16, .RO, 0x0⟩, ⟨48, 1, .W1C, 0x0⟩]),
  -- SND_GRAPH
  (0x0D0020, [⟨0, 23, .RO, 0x0⟩, ⟨32, 32, .RC, 0x0⟩])]

/-- Registers of the BTH_ block. -/
def regsBth : List (Nat × List RField) := [
  -- BTH_CTL
  (0x0E0000, [⟨0, 1, .RW, 0x1⟩, ⟨1, 1, .RW, 0x1⟩, ⟨2, 1, .RW, 0x1⟩, ⟨8, 16, .RW, 0x100⟩, ⟨24, 16, .RW, 0x400⟩]),
  -- BTH_FREE
  (0x0E0008, [⟨0, 23, .RO, 0x4B0000⟩, ⟨23, 32, .RO, 0x0⟩]),
  -- BTH_PT_STAT
  (0x0E0010, [⟨0, 20, .RO, 0x80000⟩, ⟨20, 1, .W1C, 0x0⟩, ⟨32, 25, .RO, 0x0⟩]),
  -- BTH_QSEL
  (0x0E0020, [⟨0, 12, .RW, 0x0⟩]),
  -- BTH_QDRAM
  (0x0E0028, [⟨0, 23, .RW, 0x7FFFFF⟩, ⟨32, 23, .RO, 0x0⟩]),
  -- BTH_QFLASH
  (0x0E0030, [⟨0, 32, .RW, 0xFFFFFFFF⟩, ⟨32, 32, .RO, 0x0⟩]),
  -- BTH_BARGE_STAT
  (0x0E0040, [⟨0, 16, .RO, 0x0⟩, ⟨16, 16, .RC, 0x0⟩, ⟨32, 16, .RC, 0x0⟩]),
  -- BTH_PLB_INV
  (0x0E0050, [⟨0, 6, .WO, 0x0⟩, ⟨6, 1, .WO, 0x0⟩]),
  -- BTH_LINE_STAT
  (0x0E0060, [⟨0, 16, .RC, 0x0⟩, ⟨16, 16, .RC, 0x0⟩, ⟨32, 16, .RC, 0x0⟩, ⟨48, 16, .RC, 0x0⟩])]

/-- Registers of the TWN_ block. -/
def regsTwn : List (Nat × List RField) := [
  -- TWN_CFG
  (0x100000, [⟨0, 10, .RW, 0x0⟩, ⟨10, 1, .RW, 0x0⟩, ⟨16, 16, .RW, 0x14⟩, ⟨32, 16, .RW, 0x1F4⟩]),
  -- TWN_STAT
  (0x100008, [⟨0, 2, .RO, 0x0⟩, ⟨2, 1, .RO, 0x0⟩, ⟨3, 1, .RO, 0x0⟩, ⟨4, 1, .RO, 0x0⟩, ⟨8, 8, .RC, 0x0⟩, ⟨16, 8, .RC, 0x0⟩, ⟨32, 32, .RO, 0x0⟩]),
  -- TWN_JOUR
  (0x100010, [⟨0, 32, .RW, 0xFFFFFFFF⟩, ⟨32, 32, .RO, 0x0⟩]),
  -- TWN_QSET
  (0x100018, [⟨0, 32, .RO, 0x0⟩, ⟨32, 8, .RO, 0x0⟩, ⟨40, 8, .RO, 0x0⟩]),
  -- TWN_SPARE_SEL
  (0x100020, [⟨0, 9, .RW, 0x0⟩]),
  -- TWN_SPARE
  (0x100028, [⟨0, 32, .RO, 0x76543210⟩, ⟨32, 4, .RO, 0x8⟩, ⟨36, 9, .RO, 0x0⟩, ⟨45, 1, .RO, 0x0⟩]),
  -- TWN_ST
  (0x100030, [⟨0, 1, .RW, 0x1⟩, ⟨8, 16, .RW, 0x3E8⟩, ⟨24, 16, .RC, 0x0⟩, ⟨40, 8, .RC, 0x0⟩]),
  -- TWN_SVC
  (0x100038, [⟨0, 4, .WO, 0x0⟩, ⟨4, 12, .WO, 0x0⟩]),
  -- TWN_SVC_RES
  (0x100040, [⟨0, 16, .RO, 0x0⟩, ⟨16, 1, .RO, 0x0⟩, ⟨32, 32, .RO, 0x0⟩])]

/-- Registers of the DBG_ block. -/
def regsDbg : List (Nat × List RField) := [
  -- DBG_STAT
  (0x110000, [⟨0, 1, .RO, 0x0⟩, ⟨1, 1, .W1C, 0x0⟩, ⟨2, 1, .RO, 0x0⟩, ⟨3, 1, .RO, 0x0⟩, ⟨4, 1, .W1C, 0x0⟩, ⟨16, 16, .RO, 0x0⟩, ⟨32, 11, .RO, 0x0⟩]),
  -- DBG_CORE_SEL
  (0x110008, [⟨0, 12, .RW, 0x0⟩]),
  -- DBG_CMD
  (0x110010, [⟨0, 4, .WO, 0x0⟩]),
  -- DBG_ADDR
  (0x110018, [⟨0, 64, .RW, 0x0⟩]),
  -- DBG_DATA
  (0x110020, [⟨0, 64, .RW, 0x0⟩]),
  -- DBG_RES
  (0x110028, [⟨0, 3, .RO, 0x0⟩, ⟨3, 1, .RO, 0x0⟩, ⟨4, 1, .RO, 0x0⟩])]

/-- Registers of the TWP_ block. -/
def regsTwp : List (Nat × List RField) := [
  -- TWP_CTL
  (0x120000, [⟨0, 1, .RW, 0x0⟩]),
  -- TWP_STAT
  (0x120008, [⟨0, 7, .RO, 0x0⟩, ⟨8, 7, .RO, 0x0⟩, ⟨15, 1, .RO, 0x0⟩, ⟨16, 8, .RC, 0x0⟩, ⟨24, 1, .W1C, 0x0⟩]),
  -- TWP_SENS_SEL
  (0x120010, [⟨0, 8, .RW, 0x0⟩]),
  -- TWP_SENS
  (0x120018, [⟨0, 16, .RO, 0x0⟩, ⟨16, 1, .RO, 0x0⟩, ⟨17, 1, .RO, 0x0⟩]),
  -- TWP_WDT_LOG
  (0x120020, [⟨0, 2, .RSE, 0x0⟩, ⟨2, 1, .RSE, 0x0⟩, ⟨3, 1, .RSE, 0x0⟩, ⟨4, 28, .RSE, 0x0⟩, ⟨32, 32, .RSE, 0x0⟩])]

/-- Registers of the LBS_ block. -/
def regsLbs : List (Nat × List RField) := [
  -- LBS_CTL
  (0x130000, [⟨0, 2, .RW, 0x1⟩, ⟨2, 1, .WO, 0x0⟩, ⟨3, 1, .RW, 0x1⟩, ⟨8, 8, .RW, 0x23⟩]),
  -- LBS_STAT
  (0x130008, [⟨0, 1, .RO, 0x0⟩, ⟨1, 1, .RO, 0x0⟩, ⟨2, 2, .RO, 0x0⟩, ⟨4, 4, .RO, 0x0⟩, ⟨8, 8, .RC, 0x0⟩, ⟨16, 16, .RC, 0x0⟩]),
  -- LBS_XFER
  (0x130010, [⟨0, 7, .WO, 0x0⟩, ⟨7, 1, .WO, 0x0⟩, ⟨8, 4, .WO, 0x0⟩, ⟨12, 4, .WO, 0x0⟩, ⟨16, 1, .WO, 0x0⟩]),
  -- LBS_WDATA
  (0x130018, [⟨0, 64, .RW, 0x0⟩]),
  -- LBS_RDATA
  (0x130020, [⟨0, 64, .RO, 0x0⟩])]

/-- Registers of the doorbell page of basin 0. -/
def regsDb : List (Nat × List RField) := [
  -- SQ_TAIL
  (0x800000, [⟨0, 12, .RW, 0x0⟩]),
  -- SQ_HEAD
  (0x800800, [⟨0, 12, .RO, 0x0⟩, ⟨12, 1, .RO, 0x0⟩]),
  -- CQ_HEAD
  (0x801000, [⟨0, 14, .RW, 0x0⟩]),
  -- RELEASE
  (0x801800, [⟨0, 24, .WO, 0x0⟩]),
  -- EVT_HEAD
  (0x801808, [⟨0, 10, .RW, 0x0⟩]),
  -- EVT_TAIL
  (0x801810, [⟨0, 10, .RO, 0x0⟩, ⟨16, 16, .RC, 0x0⟩]),
  -- EXC_HEAD
  (0x801818, [⟨0, 10, .RW, 0x0⟩]),
  -- EXC_TAIL
  (0x801820, [⟨0, 10, .RO, 0x0⟩, ⟨16, 16, .RC, 0x0⟩]),
  -- CONN_DB
  (0x801828, [⟨0, 24, .WO, 0x0⟩, ⟨24, 16, .WO, 0x0⟩, ⟨40, 2, .WO, 0x0⟩]),
  -- BSTAT
  (0x801830, [⟨0, 15, .RO, 0x0⟩, ⟨16, 15, .RO, 0x0⟩, ⟨32, 16, .RO, 0x0⟩])]

/-- The whole map. -/
def regTable : List (Nat × List RField) :=
  regsHub ++ regsBoot ++ regsRst ++ regsPwr ++ regsKpr ++ regsSec ++ regsBsn ++ regsTb ++ regsCh ++ regsPrt ++ regsTrn ++ regsTrf ++ regsLdg ++ regsSnd ++ regsBth ++ regsTwn ++ regsDbg ++ regsTwp ++ regsLbs ++ regsDb

/-- The offset under which a register of an array is looked up: pace registers, ledger cursors, engines, cluster
masks, command buffer, doorbell pages with their rings. -/
def regBase (off : Nat) : Nat :=
  if 0x001100 ≤ off ∧ off < 0x001200 then 0x001100
  else if 0x0C0100 ≤ off ∧ off < 0x0C0300 then 0x0C0100 + off % 0x80
  else if 0x090100 ≤ off ∧ off < 0x090200 then 0x090100 + off % 0x40
  else if 0x060040 ≤ off ∧ off < 0x060080 then 0x060040
  else if 0x060100 ≤ off ∧ off < 0x060180 then 0x060100
  else if 0x800000 ≤ off ∧ off < 0xC00000 then
    let o := off % 0x10000
    if o < 0x0800 then 0x800000
    else if o < 0x1000 then 0x800800
    else if o < 0x1800 then 0x801000
    else 0x800000 + o
  else off

/-- The fields of a register; none for an address that holds no register. -/
def regFields (off : Nat) : List RField :=
  if off % 8 = 0 then ((regTable.lookup (regBase off)).getD []) else []

/-- The reset value a register's table gives. -/
def regReset (off : Nat) : W64 :=
  (regFields off).foldl (fun v f => setFld v f.lo f.w f.rst) 0

end Sys2Proof.Machine
end

