-- ==== Sys2Proof/Machine/State.lean ====
section
/-! DEFINITION. The part's state as plain data, with the reset value of every field as its default. Docstrings
name the rule of spec/ that gives the machine the piece of state. -/

namespace Sys2Proof.Machine

/-- An association list: the first pair with a key counts; an absent key reads as its default. -/
abbrev AL (κ α : Type) := List (κ × α)

/-- Byte memory in canonical form: addresses strictly rising, no listed byte equal to zero (an unlisted byte
reads as zero, log entry 8). -/
abbrev Memory := List Host.Cell

/-- Reasons a step stops with a fault. No behaviour of this part stops the whole part, so only one reason
exists; the model never raises it (safe). -/
inductive Fault where
  /-- Raised by no command; the type must not be empty. Safe. -/
  | none
deriving DecidableEq, Repr

/-- Reasons a step is refused. -/
inductive Refusal where
  /-- A command whose meaning has not been written (safe: nothing can be proved about it). -/
  | notModelled (mnemonic : String)
deriving DecidableEq, Repr

/-! ### Sliver core (R79, R82, R117 to R122) -/

/-- Metadata of a tile or score plane: berth, KV head, chunk, first position, valid columns (R119, R126). -/
structure TMeta where
  berth : Nat
  head : Nat
  chunk : Nat
  first : Nat
  count : Nat
deriving DecidableEq, Repr

/-- What wrote a tile register: nothing since the run began or `tst.ld`, `tld.k`, `tld.v`, `rope`, `smx.exp`. -/
inductive TileSrc where
  | plain | key | value | query | weight
deriving DecidableEq, Repr

/-- A tile register (R79): element codes row by row, row scales, format tag (0 MXFP4, 1 MXFP8, 2 BF16),
metadata and origin. -/
structure Tile where
  tag : Nat := 0
  elems : List Nat := []
  scales : List Nat := []
  tmeta : Option TMeta := none
  src : TileSrc := .plain
deriving DecidableEq, Repr

/-- Metadata of a score plane (R119): operand metadata, mask rules applied (causal, window, tree), scaled. -/
structure SMeta where
  tmeta : TMeta
  causal : Bool := false
  win : Bool := false
  tree : Bool := false
  scaled : Bool := false
deriving DecidableEq, Repr

/-- An accumulator: value plane and score plane of 32 × 32 FP32, row by row (R119); absent elements are 0. -/
structure Acc where
  val : List F32 := []
  score : List F32 := []
  smeta : Option SMeta := none
deriving DecidableEq, Repr

/-- Berth-local state of one row (R121): counts, bounds, check accumulator, marks, positions counted. -/
structure RowLocal where
  nExact : Nat := 0
  nMan : Nat := 0
  nDrop : Nat := 0
  nSel : Nat := 0
  nSkip : Nat := 0
  lMan : F32 := 0
  lSkip : F32 := 0
  eL : F32 := 0
  eO : F32 := 0
  chk : F32 := 0
  suspect : Bool := false
  nonfinite : Bool := false
  counted : List Nat := []
deriving DecidableEq, Repr

/-- Hidden berth-local state (R121): berth of the first contribution, rows, largest value magnitude read. -/
structure BerthLocal where
  berth : Option Nat := none
  rows : AL Nat RowLocal := []
  vmax : F32 := 0
deriving DecidableEq, Repr

/-- A ticket (R87). `count` holds the captured COUNT once the ticket is taken. -/
structure Ticket where
  berth : Nat
  first : Nat
  count : Nat := 0
  mode : Nat
  part : Bool := false
  prot : Bool := false
  requeued : Bool := false
  stage : Nat := 0
deriving DecidableEq, Repr

/-- The manifest latch (R127): berth, the ticket's MODE, and the decrypted manifest; `man = none` is empty. -/
structure Latch where
  berth : Nat
  mode : Nat
  first : Nat
  count : Nat
  man : Option (List Byte) := none
deriving DecidableEq, Repr

/-- An operation on a chamber: counter add, counter set, threshold set, compare-and-swap (R142, R260). -/
inductive ChOp where
  | add (v : BitVec 32)
  | set (v : BitVec 32)
  | thr (v : BitVec 32)
  | cas (expect new : BitVec 32)
deriving DecidableEq, Repr

/-- A chamber or fabric instruction with its operands read (R143 to R145). -/
inductive GateOp where
  | chamber (pD : Nat) (ch : Nat) (op : ChOp)
  | put (dst : Nat) (addr : W64) (loc len conn : Nat)
  | get (dst : Nat) (addr : W64) (loc len conn : Nat)
  | fadd (dst pS : Nat) (addr opnd : W64) (conn : Nat)
  | fcas (dst pS : Nat) (addr expect new : W64) (conn : Nat)
  | flush (dst : Nat) (durable : Bool) (conn : Nat)
deriving DecidableEq, Repr

/-- An entry of a core sluice or flight: launch time and operation. `results` is false for flight entries,
whose results are discarded (R144). -/
structure Gated where
  time : Nat
  op : GateOp
  results : Bool := true
deriving DecidableEq, Repr

/-- A core flight: handle and the entries not yet released (R144, R266). -/
structure CoreFlight where
  handle : Nat
  left : List Gated
deriving DecidableEq, Repr

/-- A fabric instruction in progress: its destination scalar and success predicate (R118, R145). -/
structure FxPending where
  id : Nat
  dst : Nat
  pS : Option Nat
  results : Bool
  loc : Option Nat := none
deriving DecidableEq, Repr

/-- An open hold sequence (R99, R100): its age, the state to restart from, instructions so far, locations
locked, chamber operations not yet visible. -/
structure Hold where
  age : Nat
  ip : Nat
  s : AL Nat W64
  p : AL Nat Bool
  ls : Memory
  scratch : Memory
  count : Nat := 0
  locks : List Nat := []
  ops : List (Nat × ChOp) := []
deriving DecidableEq, Repr

/-- A `ch.wait` in progress (R142, R263): chamber, value, timeout, destination predicate. -/
structure ChWait where
  ch : Nat
  v : BitVec 32
  until_ : Nat
  pD : Nat
deriving DecidableEq, Repr

/-- A row of a run: query position, QID and the query row as delivered (R82). -/
structure RowInfo where
  qpos : Nat
  qid : Nat
  q : List Byte
deriving DecidableEq, Repr

/-- A run (R76 to R95): sweep, group, kind, start order, program image, control state, tickets and row state. -/
structure Run where
  gsid : Nat
  seq : Nat
  twin : Bool
  group : Nat
  kind : RunKind
  order : Nat
  prog : Nat
  image : List W64
  iflags : Nat
  ip : Nat
  stack : List Nat := []
  endTaken : Bool := false
  emitted : Bool := false
  rows : List RowInfo
  state : List Partial
  queue : List Ticket := []
  staging : List Nat := []
  held : List Ticket := []
  latch : Option Latch := none
  bl : BerthLocal := {}
  gate : Option Nat := none
  hold : Option Hold := none
  wait : Option ChWait := none
  fx : List FxPending := []
  handed : List Nat := []
  want : List Nat := []
  bad : List Nat := []
  steps : Nat := 0
deriving DecidableEq, Repr

/-- Halt state of a core under the debug TAP (R450 to R454). -/
inductive HaltSt where
  | running
  | requested
  | halted
  | forced
deriving DecidableEq, Repr

/-- A sliver core (R10, R79, R82): register files, core-local store (program area), the read-only part the
run block fills, scratch window, the run, sluice and flights, debug state. Registers are zero at reset (R79). -/
structure Core where
  s : AL Nat W64 := []
  v : AL Nat (List F32) := []
  t : AL Nat Tile := []
  a : AL Nat Acc := []
  p : AL Nat Bool := []
  ls : Memory := []
  hdr : List Byte := []
  scratch : Memory := []
  run : Option Run := none
  sluice : List Gated := []
  flights : List CoreFlight := []
  halt : HaltSt := .running
  breaks : AL Nat Nat := []
  stepOnce : Bool := false
  pass : Bool := false
  brkHit : Bool := false
  brkCode : Nat := 0
deriving DecidableEq, Repr

/-! ### Cluster (R84, R90, R166, R183) -/

/-- A translation of the PLB (R166). -/
structure PlbEntry where
  basin : Nat
  key : BerthKey
  slot : Nat
  state : Nat
  shadow : Nat
  shadowIx : Nat
  gen : Nat
deriving DecidableEq, Repr

/-- A staging bay (R84, R168): the berth staged, its expanded payload and manifest, base berth or not, and
the fabric time of last use. `ready` is false while the staging read is in progress. -/
structure Bay where
  basin : Nat
  key : BerthKey
  ready : Bool := false
  base : Bool := false
  core : Nat
  payload : List Byte := []
  man : List Byte := []
  slot : Nat
  requeued : Bool := false
  explicit : Bool := false
  lastUse : Nat := 0
deriving DecidableEq, Repr

/-- A contribution kept in a cluster's score latch (R183): berth, the run's core and per row (m, l). -/
structure ScoreEntry where
  key : BerthKey
  group : Nat
  region : Nat
  gsid : Nat
  seq : Nat
  twin : Bool
  core : Nat
  rows : List (F32 × F32)
deriving DecidableEq, Repr

/-- A cluster (R14): owner basin, the basin it passes to, CLUSTER_OUT (R425),
PLB in order of use, bays, score latch. -/
structure Cluster where
  owner : Option Nat := some 0
  passing : Option Nat := none
  failed : Bool := false
  plb : List PlbEntry := []
  bays : AL Nat Bay := []
  scores : List ScoreEntry := []
deriving DecidableEq, Repr

/-- The spare map of a cluster (R13, R423 to R425): the physical core of each logical core, the spare, failed physical
cores, the physical core under test, the logical core to test next, the logical core that waits for its test, when the last test
began, tests of this rotation, MEM_UNCORR counts in it. -/
structure SpareMap where
  map : List Nat := [0, 1, 2, 3, 4, 5, 6, 7]
  spare : Option Nat := some 8
  failed : List Nat := []
  testing : Option Nat := none
  next : Nat := 0
  pick : Option Nat := none
  began : Nat := 0
  tests : Nat := 0
  errs : AL Nat Nat := []
deriving DecidableEq, Repr

/-! ### Chambers (R258 to R264) -/

/-- Who waits in the waiter pool or in a core (R263). -/
inductive WaitSrc where
  | core (c : Nat)
  | wr (conn : Nat)
deriving DecidableEq, Repr

/-- A waiter (R261, R263). -/
structure Waiter where
  src : WaitSrc
  v : BitVec 32
  until_ : Nat
deriving DecidableEq, Repr

/-- A chamber (R258); `deferred` holds operations of other agents that wait for the hold that locks it (R100). -/
structure Chamber where
  counter : BitVec 32 := 0
  threshold : BitVec 32 := 0
  fireEn : Bool := false
  vector : Nat := 0
  fired : Bool := false
  owner : Nat := 0
  alloc : Bool := false
  out : Bool := false
  waiters : List Waiter := []
  deferred : List ChOp := []
deriving DecidableEq, Repr

/-! ### Berths, page tables, tiers (R148 to R193) -/

/-- A page-table entry (R162). -/
structure Pte where
  slot : Nat := 0
  count : Nat := 0
  state : Nat := 0
  pinned : Bool := false
  sink : Bool := false
  recent : Bool := false
  coded : Bool := false
  score : Nat := 0
  stamp : Nat := 0
  epoch : Nat := 0
  newpkg : Nat := 0
  basin : Nat := 0
  manBad : Bool := false
  shadow : Nat := 0xFFFFFFFF
  shadowIx : Nat := 0
  arrived : Nat := 0
  gen : Nat := 0
deriving DecidableEq, Repr

/-- A layer root with its tables (R160, R161): positions per berth, leaves held in flash with their slot and
position (R165), entries. -/
structure Layer where
  root : Nat
  basin : Nat
  p : Nat := 0
  kappa : F32 := 0
  sweeps : Nat := 0
  append : Nat := 0
  spilled : AL Nat (Nat × Nat) := []
  ptes : AL Nat Pte := []
  lastWalk : AL Nat Nat := []
  lastLaunch : Option Nat := none
deriving DecidableEq, Repr

/-- State of a stacked-DRAM slot (R175, R187, R238, R323); `working` holds a twin's working copy (R412). -/
inductive SlotSt where
  | free | home | reserved | draining | pack | graph | working | withdrawn
deriving DecidableEq, Repr

/-- A stacked-DRAM slot: state, owner, stored content, manifests of a pack. -/
structure Slot where
  st : SlotSt := .free
  key : Option BerthKey := none
  img : Option SlotImage := none
  tenant : Nat := 0
  pack : AL Nat (BerthKey × StoredManifest) := []
deriving DecidableEq, Repr

/-- State of a flash slot (R156, R170, R412); `held` after a reset (R420). -/
inductive FlashSt where
  | erased | home | reserved | draining | stale | retired | table | journal | held
deriving DecidableEq, Repr

/-- A flash slot. -/
structure FSlot where
  st : FlashSt := .erased
  key : Option BerthKey := none
  img : Option SlotImage := none
  tenant : Nat := 0
deriving DecidableEq, Repr

/-- A flash channel (R16, R17, R428): in service, the region that owns it, isolated, draining. -/
structure Channel where
  inService : Bool := true
  region : Option Nat := none
  draining : Bool := false
deriving DecidableEq, Repr

/-- An object (R157) with its part set, base, rotary table, current prefetch lead (R190), move and the berths (layer, berth) that
sweeps have touched since (R355). -/
structure Obj where
  basin : Nat
  nkv : Nat
  gq : Nat
  d : Nat
  fmt : Nat
  p : Nat
  cls : Nat := 0
  base : Nat := 0
  spread : List Nat := []
  pset : List Nat := []
  lseq : Option (List Nat) := none
  halfLife : Nat := 256
  sinkThr : Nat := 0x3D00
  riseThr : Nat := 0x3E80
  dropEn : Bool := false
  dropMin : Nat := 1048576
  dropThr : Nat := 0x3C00
  protSink : Nat := 4
  protRecent : Nat := 4096
  leadMin : Nat := 1
  leadMax : Nat := 8
  grace : Nat := 5369
  rope : Option (List F32) := none
  adjacent : Bool := false
  isBase : Bool := false
  lead : Nat := 2
  interval : Option Nat := none
  lastLaunch : Option (Nat × Nat) := none
  launched : Bool := false
  moving : Option Nat := none
  moveEffect : Bool := false
  moveBasin : Option Nat := none
  touched : List (Nat × Nat) := []
  attrBytes : List Byte := []
deriving DecidableEq, Repr

/-- Why a barge runs, which fixes whether R180 binds it. -/
inductive BargeWhy where
  | sink | rise | quota | classMove | spread | compact | repair | host | bypass | drain | move | recode | fill
deriving DecidableEq, Repr

/-- A barge in progress (R176, R177): destination (local slot, tier, or package), GEN and COUNT at its start,
step reached. -/
structure Barge where
  why : BargeWhy
  peer : Option Nat
  toFlash : Bool
  dest : Nat
  gen0 : Nat
  count0 : Nat
  incoming : Bool := false
  phase : Nat := 0
  img : Option SlotImage := none
  manOk : Bool := false
  jseq : Option Nat := none
deriving DecidableEq, Repr

/-- A queued local or peer barge (R187, R355). -/
structure BargeReq where
  key : BerthKey
  why : BargeWhy
  toFlash : Bool
  peer : Option Nat := none
deriving DecidableEq, Repr

/-- A staging copy (R169). -/
structure StCopy where
  slot : Nat
  landed : Nat
  gen : Nat
  img : SlotImage
  sweep : Option (Nat × Nat) := none
deriving DecidableEq, Repr

/-- A flash read in progress (R154): berth, payload or manifest alone, purpose. -/
structure FlashRead where
  key : BerthKey
  payload : Bool
  cluster : Option (Nat × Nat) := none
  neighbour : Bool := false
  sweep : Option (Nat × Nat) := none
deriving DecidableEq, Repr

/-- Quotas and use of a tenant (R181, R193). -/
structure Quota where
  dram : Nat := 0x7FFFFF
  flash : Nat := 0xFFFFFFFF
deriving DecidableEq, Repr

/-- An append or truncation that waits for its turn (R211, R213, R214): the berth it begins in, its first position (of a
truncation, the first invalid one), its records, and the job of its descriptor. -/
structure BerthOp where
  key : BerthKey
  basin : Nat
  first : Nat
  count : Nat
  data : List Byte
  truncate : Bool
  job : Nat
deriving DecidableEq, Repr

/-- A descriptor that completes later (R172, R214, R303, R290, R411): ring, header, work left, result. -/
structure Job where
  id : Nat
  basin : Nat
  ring : Nat
  op : Nat
  wrid : Nat
  cq : Bool
  status : Nat := 0
  result : W64 := 0
  left : Nat := 0
  durable : Option (Nat × Nat) := none
  sweep : Nat := 0
deriving DecidableEq, Repr

/-! ### Ledger (R218 to R231) -/

/-- A ledger entry (R218): key, care mask, value, their parity bits, the locator held twice. -/
structure LEntry where
  key : BitVec 128 := 0
  care : BitVec 128 := 0
  val : W64 := 0
  parity : BitVec 10 := 0
  loc0 : BitVec 17 := 0
  loc1 : BitVec 17 := 0
  retired : Bool := false
deriving DecidableEq, Repr

/-- A cursor (R223): search, index last returned, open, COUNT of its LOOKUP, entry returned. -/
structure Cursor where
  key : BitVec 128 := 0
  mask : BitVec 128 := 0
  at_ : Option Nat := none
  isOpen : Bool := false
  count : Nat := 0
  busy : Bool := false
  valid : Bool := false
  isEnd : Bool := false
  index : Nat := 0
  val : W64 := 0
  ekey : BitVec 128 := 0
  emask : BitVec 128 := 0
deriving DecidableEq, Repr

/-- A running rebuild (R230): kind and tenant, or everything when the locator failed, and HOME answers in. -/
structure Rebuild where
  kind : Option Nat
  tenant : Nat
  blocks : List HomeBlock := []
deriving DecidableEq, Repr

/-- A refused HOME insert waiting for its retry (R226). -/
structure HomeRetry where
  key : BitVec 128
  care : BitVec 128
  val : W64
  due : Nat
deriving DecidableEq, Repr

/-- The ledger and its dredge (R218, R223, R228, R229). -/
structure Ledger where
  entries : AL Nat LEntry := []
  retiredCount : Nat := 0
  log : List (Nat × Nat × Nat) := []
  next : Nat := 0
  passes : Nat := 0
  dredgeDue : Nat := 0
  cursors : AL Nat Cursor := []
  rebuilds : List Rebuild := []
  heldArms : List ArmMsg := []
  heldLookups : List (Nat × BitVec 128 × BitVec 128) := []
  retries : List HomeRetry := []
deriving DecidableEq, Repr

/-! ### Sweeps (R31 to R75) -/

/-- A slot of the merge point (R62, R66): the member's package, ARM_ACK, state (0 EMPTY, 1 FILLED,
2 FILLED_SUSPECT), records, records still landing per source, backup sent and landed. -/
structure MSlot where
  pkg : Nat
  ack : Option (Nat × F32) := none
  st : Nat := 0
  src : Nat := 0
  twin : Bool := false
  recs : List Partial := []
  landing : AL (Nat × Bool) (AL Nat Partial) := []
  backup : Bool := false
  backupDone : Bool := false
  noTwin : Bool := false
deriving DecidableEq, Repr

/-- A convoy at its merge point (R61 to R70). -/
structure Convoy where
  gsid : Nat
  seq : Nat
  origin : Nat
  tenant : Nat
  desc : SweepDesc
  qbuf : List Byte
  nkv : Nat
  gq : Nat
  d : Nat
  slots : List MSlot
  bytes : Nat
  times : Option Times := none
  late : Bool := false
  finished : Bool := false
  discard : Nat := 0
  last : List Partial := []
deriving DecidableEq, Repr

/-- A program image held in a table entry (R106, R108): code words, data, flags, entry point, digest. -/
structure Image where
  words : List W64
  data : List Byte
  iflags : Nat
  entry : Nat
  digest : BitVec 384
deriving DecidableEq, Repr

/-- A sweep this part accepted (R30, R339): its descriptor's ring, query buffer, SEQ, members, status word fields, result
slot; members whose ARM found no home (R360); the image a convoy of one member is bound to at acceptance (R109). -/
structure ASweep where
  num : Nat
  basin : Nat
  ring : Nat
  wrid : Nat
  tenant : Nat
  desc : SweepDesc
  qbuf : List Byte
  seq : Nat
  members : List Nat := []
  times : Option Times := none
  state : Nat := 1
  half : Bool := false
  susp : Bool := false
  approx : Bool := false
  skipped : Bool := false
  pub : Nat := 0
  useSeq : Nat := 0
  filled : Nat := 0
  code : Nat := 0
  rBytes : Nat := 0
  acks : List Nat := []
  lost : List Nat := []
  prog : Option Image := none
  lastRecs : List Partial := []
deriving DecidableEq, Repr

/-- A berth of a member's share of a sweep (R55, R87, R88, R191): first position, protected, decision at grace,
selection, estimate, groups it has been handed to, mode once fixed. -/
structure PBerth where
  berth : Nat
  first : Nat
  count : Nat
  prot : Bool := false
  mode : Option Nat := none
  flash : Bool := false
  est : Option F32 := none
  noMan : Bool := false
  filtered : Bool := false
  selected : Option Bool := none
  handed : List Nat := []
  started : List Nat := []
  requeued : AL Nat Nat := []
  man : Option (List Byte) := none
deriving DecidableEq, Repr

/-- Records of one run kept for the merge of its region (R78): core, start order, records by row. -/
structure RunRecs where
  region : Nat
  group : Nat
  core : Nat
  order : Nat
  recs : List Partial
deriving DecidableEq, Repr

/-- A new home that serves forwarded berths of a member's slot (R359). -/
structure Forwarded where
  pkg : Nat
  ack : Option (Nat × F32) := none
  recs : AL Nat Partial := []
  berths : List Nat := []
deriving DecidableEq, Repr

/-- Sounding of a selective sweep on this member (R232 to R241): room asked for and held in the collector, the
cores' share in ascending berth index with how many of it each group has scanned, each engine's share left,
selection fixed, neighbours being fetched and fetched so far. -/
structure Sounding where
  room : Bool := false
  asked : Nat := 0
  fixed : Bool := false
  coreShare : List Nat := []
  taken : AL Nat Nat := []
  engineLeft : List Nat := []
  running : List (Nat × F32) := []
  fetching : List Nat := []
  fetched : List Nat := []
  selectedCount : Nat := 0
deriving DecidableEq, Repr

/-- A sweep armed on this part as a member or a twin (R64, R65, R67, R109): program bound, berths, runs and
region partials. `stage` 0 armed, 1 launched, 2 past the cutoff, 3 records sent, 4 stopped. `fwdSeen` tells that a
forwarded ARM named it too (R359); `ack` is what a BACKUP carried of the member's ARM_ACK (R414). -/
structure MSweep where
  gsid : Nat
  seq : Nat
  twin : Bool
  member : Nat
  tenant : Nat
  basin : Nat
  mergeTo : Nat
  late : Bool
  desc : SweepDesc
  qbuf : List Byte
  times : Times
  nkv : Nat
  gq : Nat
  d : Nat
  fmt : Nat
  p : Nat
  rope : Option (List F32)
  adjacent : Bool
  grace : Nat
  count : Nat
  kappa : F32
  prog : Nat
  image : List W64
  data : List Byte
  iflags : Nat
  entry : Nat
  stage : Nat := 0
  plan : List PBerth := []
  graceDone : Bool := false
  nextOrder : Nat := 0
  live : List Nat := []
  runRecs : List RunRecs := []
  regionRecs : AL (Nat × Nat) (List Partial) := []
  fwd : List Forwarded := []
  fwdSeen : Bool := false
  excepted : List (Nat × Nat) := []
  snd : Option Sounding := none
  overdue : Bool := false
  ack : Option (Nat × F32) := none
  incs : AL (Nat × Nat) F32 := []
deriving DecidableEq, Repr

/-- A request waiting for the merge pool (R62), in order of arrival. -/
structure PoolReq where
  gsid : Nat
  bytes : Nat
deriving DecidableEq, Repr

/-! ### Host interface and basins (R327 to R363) -/

/-- A submission ring (R327 to R330). -/
structure SQ where
  base : Nat
  log2 : Nat
  cq : Nat
  head : Nat := 0
  tail : Nat := 0
deriving DecidableEq, Repr

/-- A completion ring with its coalescing state and the entries it holds back (R335, R336, R344). -/
structure CQ where
  base : Nat
  log2 : Nat
  vector : Nat := 0
  ien : Bool := false
  coalN : Nat := 0
  coalUs : Nat := 0
  head : Nat := 0
  tail : Nat := 0
  phase : Bool := true
  fresh : Nat := 0
  firstAt : Nat := 0
  back : List (List Byte) := []
deriving DecidableEq, Repr

/-- Indices of an event ring or exception log (R328, R343). -/
structure LogRing where
  head : Nat := 0
  tail : Nat := 0
  lost : Nat := 0
deriving DecidableEq, Repr

/-- A program table entry (R108): READY image, RETIRING image, loads that wait for the RETIRING one, with their jobs. -/
structure ProgEntry where
  ready : Option Image := none
  retiring : Option Image := none
  waiting : List (Image × Nat) := []
deriving DecidableEq, Repr

/-- A binding of bound data (R374, R375): kind 1 BASE, 2 PROJ. -/
structure Binding where
  kind : Nat
  entry : Nat
  object : Nat
  digest : BitVec 384
  nlayer : Nat := 0
  nberth : Nat := 0
  key : BitVec 256 := 0
  table : List Byte := []
deriving DecidableEq, Repr

/-- A basin (R347): state 0 FREE, 1 COMPOSING, 2 ACTIVE, 3 DECOMPOSING, its shares, rings, programs, tenants'
bindings and counters. -/
structure Basin where
  st : Nat := 0
  dramW : Nat := 1
  flash : BitVec 32 := 0
  rate : Nat := 0
  cap : Nat := 0
  weirOn : Bool := false
  credit : Int := 0
  creditAt : Nat := 0
  weirHeld : Nat := 0
  hostBase : Nat := 0
  hostSlots : Nat := 0
  moorBase : Nat := 0
  moorLen : Nat := 0
  sqs : AL Nat SQ := []
  cqs : AL Nat CQ := []
  evt : LogRing := {}
  exc : LogRing := {}
  progs : AL Nat ProgEntry := []
  pkey : Option (List Byte) := none
  binds : List Binding := []
  tenants : List Nat := []
  useCount : Nat := 0
deriving DecidableEq, Repr

/-- A composition operation waiting in its queue or in progress (R349, R351): the ring it came from (256 for BSN_CMD), its
descriptor, the step reached, its basin and the clusters that pass. -/
structure ComposeOp where
  ring : Nat
  desc : List Byte
  step : Nat := 0
  basin : Nat := 0
  clusters : List Nat := []
deriving DecidableEq, Repr

/-! ### Transport (R278 to R305) -/

/-- A send work request (R292) in a connection's queue, with its source: the ring, or a core's instruction. -/
structure WR where
  op : Nat
  signal : Bool := false
  durable : Bool := false
  disabled : Bool := false
  chWait : Bool := false
  en : Bool := false
  notify : Bool := false
  wrid : Nat := 0
  laddr : Nat := 0
  raddr : W64 := 0
  len : Nat := 0
  mkey : Nat := 0
  mgen : Nat := 0
  wch : Nat := 0
  wcount : Nat := 0
  tag : Nat := 0
  opnd0 : W64 := 0
  opnd1 : W64 := 0
  core : Option (Nat × Nat) := none
  bytes : List Byte := []
deriving DecidableEq, Repr

/-- A packet the part makes (R279, R280): sequence number, opcode, extension fields, payload, the work request it
serves, and, once sent, when and whether it was sent again for a gap. `len` is its payload length. -/
structure TxPkt where
  psn : Nat := 0
  op : Nat
  vc : Nat
  first : Bool := true
  last : Bool := true
  addr : W64 := 0
  mkey : Nat := 0
  mgen : Nat := 0
  opnd0 : W64 := 0
  opnd1 : W64 := 0
  rpsn : Nat := 0
  status : Nat := 0
  result : W64 := 0
  msgLen : Nat := 0
  notify : Bool := false
  durable : Bool := false
  en : Bool := false
  tag : Nat := 0
  data : List Byte := []
  wr : Option Nat := none
  ctr : Nat := 0
  sentAt : Nat := 0
  again : Bool := false
deriving DecidableEq, Repr

/-- A started work request not complete (R287): its first PSN, the target's ruling, bytes placed of a read. -/
structure LiveWR where
  id : Nat
  wr : WR
  psn : Nat
  ruled : Option Nat := none
  got : Nat := 0
deriving DecidableEq, Repr

/-- An arriving message in progress at the target (R302, R303): first PSN, its ruling, mooring, bytes placed, the notify
value, whether a durable mooring takes it. -/
structure InMsg where
  psn : Nat
  status : Nat
  moor : Option Nat
  len : Nat
  placed : Nat := 0
  notify : Option Nat := none
deriving DecidableEq, Repr

/-- State of a connection: closed, opening, established, re-establishing (R290, R305). -/
inductive ConnSt where
  | closed | opening | established | reopening
deriving DecidableEq, Repr

/-- A connection context (R289 to R299). `kind` 0 TENANT, 1 SYSTEM, 2 MANAGER. Queue sizes and indices; cached or being
loaded, last use; setup random values, retries and the CONN_OPEN that waits; next PSN sent and expected, nonce counter,
keys; posted work requests, started ones, packets waiting for the window and packets not acknowledged; window, delay
samples, round trip, timers; receiver state: acknowledgement due, arrivals ahead of a gap, rulings to return, first failure since the last FLUSH as target, failures by work request as sender, FLUSHes that wait; enable latch; completions held back; a message to resend after TARGET_BUSY with when it was first refused. -/
structure Conn where
  st : ConnSt := .closed
  kind : Nat := 0
  basin : Nat := 0
  tenant : Nat := 0
  peerPkg : Nat := 0
  peerConn : Nat := 0
  encap : Bool := false
  tc : Nat := 0
  cch : Nat := 0
  log2s : Nat := 4
  log2r : Nat := 4
  sq : Nat := 0
  rq : Nat := 0
  cq : Nat := 0
  sqHead : Nat := 0
  sqTail : Nat := 0
  rqHead : Nat := 0
  rqTail : Nat := 0
  cqHead : Nat := 0
  cqTail : Nat := 0
  cqBack : List (List Byte) := []
  port : Nat := 0
  live : Bool := false
  loading : Bool := false
  used : Nat := 0
  count : Nat := 0
  na : BitVec 128 := 0
  nb : BitVec 128 := 0
  retries : Nat := 0
  askedAt : Nat := 0
  lostAt : Nat := 0
  down : Bool := false
  openJob : Option Nat := none
  txPsn : Nat := 0
  rxPsn : Nat := 0
  ctr : Nat := 0
  keyTx : BitVec 256 := 0
  keyRx : BitVec 256 := 0
  queue : List WR := []
  liveWr : List LiveWR := []
  nextWr : Nat := 0
  txq : List TxPkt := []
  sent : List TxPkt := []
  window : Nat := 0
  ackedSince : Nat := 0
  base : List (Nat × Nat) := []
  srtt : Nat := 0
  rto : Nat := 0
  rtoAt : Option Nat := none
  progressAt : Option Nat := none
  ackDue : Option Nat := none
  ackCount : Nat := 0
  owd : Nat := 0
  ece : Bool := false
  ruling : Option (Nat × Nat) := none
  reorder : AL Nat Instr := []
  inMsg : Option InMsg := none
  rxFailed : Nat := 0
  failed : List (Nat × Nat) := []
  flushes : List (Nat × Nat × Nat) := []
  latch : List Nat := []
  waitUntil : Option Nat := none
  busy : Option (Nat × Nat × Nat) := none
deriving DecidableEq, Repr

/-- A mooring (R300). -/
structure Mooring where
  key : Nat := 0
  gen : Nat := 0
  st : Nat := 0
  mfl : Nat := 0
  conn : Nat := 0
  basin : Nat := 0
  tenant : Nat := 0
  base : Nat := 0
  len : Nat := 0
  inflight : Nat := 0
  jobs : List Nat := []
deriving DecidableEq, Repr

/-- A frame queued at a port (R304, R310): class, bytes on the wire, basin whose weir it passes, connection and PSN, held
through an outage, counted as delayed by its weir. -/
structure Frame where
  tc : Nat
  len : Nat
  basin : Option Nat
  conn : Nat
  psn : Nat
  held : Bool := false
  counted : Bool := false
deriving DecidableEq, Repr

/-- A port (R273, R277, R304, R311): up, end of its hold, when it went down, queued frames, DRR deficits, class of the next turn, basin last
served per class, start of the guard, MACsec CAK with its name, association key with its time and packet number, LLDP neighbour. -/
structure Port where
  up : Bool := false
  holdUntil : Option Nat := none
  downAt : Nat := 0
  frames : List Frame := []
  deficit : AL Nat Nat := []
  turn : Nat := 0
  served : AL Nat Nat := []
  guard : Option Nat := none
  cak : Option (List Byte × BitVec 256) := none
  sak : Option (List Byte) := none
  sakAt : Nat := 0
  pn : Nat := 0
  neighbour : List Byte := []
deriving DecidableEq, Repr

/-- An optical engine (R273, R276): failed lanes, the pair the spare serves. -/
structure Engine where
  failed : List Nat := []
  remapped : Bool := false
deriving DecidableEq, Repr

/-- A tenant's meter (R313, R314): rate and burst registers, buckets in 2^-30 of a packet or byte, time of the last packet,
packets by colour. -/
structure Meter where
  rate : W64 := 0
  burst : W64 := 0
  ct : Nat := 0
  pt : Nat := 0
  at_ : Nat := 0
  green : Nat := 0
  yellow : Nat := 0
  red : Nat := 0
deriving DecidableEq, Repr


/-! ### Fabric time (R245 to R257) -/

/-- The strand receiver (R251, R252): lock state (0 NO_SIGNAL, 1 SEARCH, 2 VERIFY, 3 LOCKED), VERIFY number,
SEQ, time, HOPS and SOURCE of the last good frame, frames since it, the last 32 outcomes (true is bad), whether TSTR_OUT
repeats. -/
structure Strand where
  st : Nat := 0
  n : Nat := 0
  seq : Nat := 0
  time : Nat := 0
  hops : Nat := 0
  source : Nat := 0
  since : Nat := 0
  hist : List Bool := []
  repeats : Bool := false
deriving DecidableEq, Repr

/-- The PTP slave (R254): best master, two-step Sync waiting for its Follow_Up, the last Sync's origin and local times in
ticks with its correction, the Delay_Req or Pdelay_Req sent, last sequence number, mean path delay in 1/16 tick. -/
structure Ptp where
  best : Option PtpAnnounce := none
  wait : Option PtpSyncMsg := none
  last : Option (Int × Int × Int) := none
  dreq : Option (Nat × Int) := none
  seqId : Nat := 0
  path : Int := 0
deriving DecidableEq, Repr

/-- The timebase (R245, R246, R256): tick count with 32 fractional bits, frequency term in 2^-32 tick per cycle, error left
to remove in 2^-32 tick, TB_STAT.STATE, the source steered to (0 none, 1 strand, 2 PTP), holdover limit. -/
structure Timebase where
  ticks : W64 := 0
  frac : BitVec 32 := 0
  freq : Int := 0
  err : Int := 0
  state : Nat := 0
  src : Nat := 0
  holdUntil : Option Nat := none
  strand : Strand := {}
  ptp : Ptp := {}
deriving DecidableEq, Repr

/-! ### Security (R364 to R382) -/

/-- A key slot (R370): state code, memory key, connection key, owner hash, KEY_CONN count. -/
structure KeySlot where
  st : Nat := 0
  mem : BitVec 256 := 0
  conn : BitVec 256 := 0
  owner : BitVec 384 := 0
  loads : Nat := 0
deriving DecidableEq, Repr

/-- An SPDM session (R367): handshake finished, mutual authentication, the requester's leaf hash, key updates. -/
structure Session where
  id : Nat
  done : Bool := false
  mutAuth : Bool := false
  leaf : BitVec 384 := 0
  updates : Nat := 0
deriving DecidableEq, Repr

/-- A tenant removal in progress (R380, R382). -/
structure Removal where
  tenant : Nat
  step : Nat := 1
  report : Nat := 0
  fenced : Nat := 0
  sweeps : Nat := 0
  barges : Nat := 0
  dram : Nat := 0
  flash : Nat := 0
  conns : Nat := 0
  moorings : Nat := 0
  dropped : Nat := 0
  start : Nat := 0
deriving DecidableEq, Repr

/-- The security engine (R364 to R378). -/
structure Sec where
  slots : AL Nat KeySlot := []
  sessions : List Session := []
  tdisp : Nat := 0
  ide : AL Nat (BitVec 256) := []
  dbgMask : BitVec 64 := 0
  dbgCount : Nat := 0
  dbgOwner : BitVec 384 := 0
  removal : Option Removal := none
  mgrKey : Option (BitVec 256) := none
  sysKeys : AL Nat (BitVec 256) := []
  bootDigest : BitVec 384 := 0
  bootSvn : Nat := 0
deriving DecidableEq, Repr

/-! ### Power, boot, management (R386 to R407, R437 to R455) -/

/-- A verified keeper image (R396): header values and digest. -/
structure KImage where
  version : Nat
  svn : Nat
  schemaMin : Nat
  schemaMax : Nat
  schemaOut : Nat
  digest : BitVec 384
deriving DecidableEq, Repr

/-- A copy of the settings record (R402): schema, SEQ, sections by kind. -/
structure SettingsCopy where
  schema : Nat
  seq : Nat
  sections : List (Nat × List Byte)
deriving DecidableEq, Repr

/-- Boot sequencer and keepers (R394 to R405): image copy and running image, staged image and the keepers on it with the times of
their switches, watchdog expiries outside an update, a save in progress, a diagnostic, events of the start that wait for the
event ring (R326). -/
structure Boot where
  inReset : Bool := true
  copy : Option (List Byte) := none
  image : Option KImage := none
  staged : Option KImage := none
  stagingImg : Option (List Byte) := none
  onNew : List Nat := []
  switchAt : AL Nat Nat := []
  serviceAt : Nat := 0
  countCleared : Bool := false
  expiries : List (Nat × Nat) := []
  saving : Option SettingsCopy := none
  diag : Option Nat := none
  reports : List (List Byte) := []
deriving DecidableEq, Repr

/-- The always-on well (R390): attempt counter, reset causes, watchdog log (keeper, rollback, pc, time), straps
(BKP_CLASS low, TWP_ADDR high), supplies. -/
structure Aon where
  powered : Bool := false
  attempt : Nat := 0
  causes : List Nat := []
  wdt : List (Nat × Bool × Nat × Nat) := []
  wdtLost : Bool := false
  straps : BitVec 6 := 0
  mainOk : Bool := false
  bkpOk : Bool := false
  onBackup : Bool := false
  switchEvt : Bool := false
  thermal : Bool := false
deriving DecidableEq, Repr

/-- What survives a reset in flash and in one-time-programmable stores (R366, R393, R402). -/
structure Nonvolatile where
  slots : AL Nat FSlot := []
  settings : AL Nat SettingsCopy := []
  owners : List (BitVec 384) := []
  blockWear : AL (Nat × Nat) Nat := []
deriving DecidableEq, Repr

/-- The towpath target (R437 to R442): dynamic address, IBIs enabled, status of the last write frame, the latest time by which
the last IMG_WRITE is placed, events that wait for IBIs to be enabled, sensors. -/
structure Towpath where
  dyn : Nat := 0
  ibi : Bool := false
  status : Nat := 0
  placeUntil : Nat := 0
  mwl : Nat := 256
  mrl : Nat := 256
  i3c : Bool := false
  pecErr : Nat := 0
  waiting : List Byte := []
  sensors : AL Nat (Nat × Bool) := []
deriving DecidableEq, Repr

/-- A local bus transfer (R445, R447). -/
structure LbsOp where
  host : Bool
  addr : Nat
  pec : Bool
  wlen : Nat
  rlen : Nat
  wdata : W64
deriving DecidableEq, Repr

/-- The local bus controller (R445, R446): transfer on the bus, transfers waiting, clear in progress, repeats. -/
structure Lbs where
  cur : Option LbsOp := none
  queue : List LbsOp := []
  clearing : Bool := false
  repeats : Nat := 0
  known : Bool := false
deriving DecidableEq, Repr

/-- The TAP (R448, R449): instruction code selected, preloaded boundary values, image loads barred, last scan out. -/
structure Jtag where
  ir : Nat := 0x02
  bound : BitVec 128 := 0
  blocked : Bool := false
  out : BitVec 128 := 0
deriving DecidableEq, Repr

/-! ### Twins (R408 to R428) -/

/-- A berth of a partner's journal (R412, R413): image with the log applied, COUNT, GEN, refused a record, payload dropped, slot
of its working copy, its image slot, the JSEQ that image covers, time of the last LINES, last record applied. -/
structure JEntry where
  img : Option SlotImage := none
  count : Nat := 0
  gen : Nat := 0
  unjournalled : Bool := false
  dropped : Bool := false
  working : Option Nat := none
  slot : Option Nat := none
  covers : Nat := 0
  linesAt : Nat := 0
  last : Nat := 0
deriving DecidableEq, Repr

/-- A journal slot being programmed (R412): the slot; the JSEQ up to which the source's records are in flash once it is done;
of an image its berth and the JSEQ it covers; of a log page the records it holds, by berth and JSEQ. -/
structure JProg where
  slot : Nat
  upTo : Nat
  key : Option BerthKey := none
  covers : Nat := 0
  recs : List (BerthKey × Nat) := []
deriving DecidableEq, Repr

/-- What this part holds for its twin, per tenant (R411 to R413): highest record applied, highest in flash, records ahead of a gap,
berths, objects, open page, when its first DURABLE record came, slots being programmed in order, log slots with the records in them
that nothing has superseded, a record refused for want of slots. -/
structure JSource where
  recv : Nat := 0
  durable : Nat := 0
  ahead : List JRecord := []
  berths : AL BerthKey JEntry := []
  objects : AL Nat (List Byte) := []
  page : List JRecord := []
  pageAt : Option Nat := none
  prog : List JProg := []
  logs : AL Nat (List (BerthKey × Nat)) := []
  full : Bool := false
deriving DecidableEq, Repr

/-- Records this part sent to its twin, per tenant (R410, R411): next JSEQ, records outstanding or held. -/
structure JOut where
  next : Nat := 1
  recv : Nat := 0
  durable : Nat := 0
  out : List JRecord := []
  held : List JRecord := []
deriving DecidableEq, Repr

/-- A QSET in force (R416). -/
structure QSet where
  version : Nat
  k : Nat
  n : Nat
  owner : List Byte
  keys : List (List Byte)
deriving DecidableEq, Repr

/-- Twin pairing (R408 to R421): state, records out and in, last record of the seeding per tenant, last JOURNAL_ACK awaited since,
when the twin was lost, the certificates' quorum, peers expelled, last REQUEST; after a REJOIN (R420) that it came, the tenants whose
INDEX has been asked for and not answered, the index entries that wait for their object, the images being fetched (also R428);
berths whose records were refused. -/
structure Twin where
  pair : Nat := 0
  out : AL Nat JOut := []
  src : AL Nat JSource := []
  seeding : AL Nat Nat := []
  ackAt : Option Nat := none
  lostAt : Nat := 0
  qset : Option QSet := none
  expelled : List Nat := []
  reqAt : Option Nat := none
  rejoined : Bool := false
  indexed : List Nat := []
  indexWait : List Nat := []
  claims : List JIndexEntry := []
  fetching : List BerthKey := []
  unjournalled : List BerthKey := []
deriving DecidableEq, Repr

/-! ### Outputs -/

/-- What the part sends. The list of them is the model's own record of the part's outputs. -/
inductive OutMsg where
  | arm (dst : Nat) (m : ArmMsg)
  | armAck (dst : Nat) (m : ArmAckMsg)
  | backup (dst : Nat) (m : BackupMsg)
  | cancel (dst gsid seq : Nat)
  | part (dst : Nat) (m : PartMsg)
  | publish (dst : Nat) (m : PubMsg)
  | staleMap (dst gsid seq member : Nat) (ref : W64)
  | reserveReq (dst gsid bytes : Nat)
  | reserved (dst gsid : Nat)
  | bargeReserve (dst : Nat) (k : BerthKey) (flash : Bool)
  | bargeGrant (dst : Nat) (k : BerthKey) (status : Nat)
  | bargeData (dst : Nat) (k : BerthKey) (phase : BargePhase) (img : SlotImage)
  | bargeReady (dst : Nat) (k : BerthKey)
  | bargeCommit (dst : Nat) (k : BerthKey)
  | homeNote (dst epoch : Nat) (k : LayerKey) (block homed : Nat) (gain : Bool)
  | homeQuery (dst tenant : Nat)
  | homeReply (dst : Nat) (blocks : List HomeBlock)
  | journal (dst tenant : Nat) (recs : List JRecord)
  | journalFetch (dst : Nat) (k : LayerKey) (first last : Nat)
  | journalIndex (dst tenant : Nat)
  | journalAck (dst : Nat) (m : JAckMsg)
  | cert (dst : Nat) (bytes : List Byte)
  | packet (conn : Nat) (p : TxPkt) (retx : Bool)
  | ack (conn apsn : Nat) (sack : W64) (owd status spsn : Nat) (ece : Bool)
  | nak (conn status psn : Nat)
  | connReq (dst : Nat) (m : ConnSetup)
  | connAcc (dst : Nat) (m : ConnSetup)
  | connClose (conn : Nat)
  | ptpReq (kind seqId : Nat)
  | frame (port : Nat) (f : Frame)
  | lldp (port : Nat)
  | msix (vector : Nat)
  | tstr (bits : Option (BitVec 512))
  | ibi (byte : Byte)
  | spdm (kind : Nat) (body : List Byte)
  | i3c (body : List Byte)
  | lbs (op : LbsOp)
  | lbsClear
  | tap (bits : BitVec 128)
  | read (val : W64)
  | unsupported
deriving DecidableEq, Repr

/-- An entry of a host flight: release time, kind (1 SWEEP, 2 CH_ADD, 3 CH_SET), chamber, value, descriptor. -/
structure FlightEntry where
  time : Nat
  kind : Nat
  ch : Nat
  value : BitVec 32
  desc : List Byte
deriving DecidableEq, Repr

/-- A host flight (R269): basin, submission ring, base time, lead, entries not yet released and how many were. -/
structure HostFlight where
  handle : Nat
  basin : Nat
  ring : Nat
  released : Nat := 0
  left : List FlightEntry
deriving DecidableEq, Repr

/-- A region (R17, R24, R427): bypassed or in test, until when its last runs may go on, and whether the present pace window began
before it returned to service. -/
structure Region where
  out : Bool := false
  pendingUntil : Option Nat := none
  midWindow : Bool := false
deriving DecidableEq, Repr

/-- A service action in progress (R426): OP, TARGET, COUNT so far. -/
structure Svc where
  op : Nat
  target : Nat
  count : Nat := 0
deriving DecidableEq, Repr

/-! ### The whole part -/

/-- Cores, clusters, regions and chambers; the service action in progress. -/
structure Fabric where
  cores : AL Nat Core := []
  clusters : AL Nat Cluster := []
  spares : AL Nat SpareMap := []
  regions : AL Nat Region := []
  chambers : AL Nat Chamber := []
  holdAge : Nat := 0
  handles : Nat := 0
  svc : Option Svc := none
deriving DecidableEq, Repr

/-- Berths and tiers: slots, layers, objects, quotas, barges, staging copies, flash channels. -/
structure Tiers where
  slots : AL Nat Slot := []
  layers : AL LayerKey Layer := []
  objects : AL (Nat × Nat) Obj := []
  quotas : AL Nat Quota := []
  barges : AL BerthKey Barge := []
  bargeQ : List BargeReq := []
  copies : AL BerthKey StCopy := []
  reads : List FlashRead := []
  channels : AL Nat Channel := []
  writes : List BerthOp := []
  noRetry : AL BerthKey Nat := []
  tombs : AL BerthKey Nat := []
  invals : List (List BerthKey) := []
  retiredCh : List Nat := []
  graphQ : List BerthKey := []
  nextRoot : Nat := 0
deriving DecidableEq, Repr

/-- Sweeps: accepted here, merged here, member work here, merge pool; `handed` holds SWEEP descriptors of released flight
entries (basin, ring, descriptor) that wait for a sweep number (R269, R330). -/
structure Sweeps where
  accepted : AL Nat ASweep := []
  convoys : AL Nat Convoy := []
  members : List MSweep := []
  poolUsed : Nat := 0
  poolQ : List PoolReq := []
  nextSeq : Nat := 0
  collFree : Nat := 1048576
  sndQ : List (Nat × Nat × Bool) := []
  flights : List HostFlight := []
  handed : List (Nat × Nat × List Byte) := []
deriving DecidableEq, Repr

/-- Host interface, basins, composition. -/
structure HostSide where
  basins : AL Nat Basin := []
  jobs : List Job := []
  nextJob : Nat := 0
  composeQ : List ComposeOp := []
  composing : Option ComposeOp := none
deriving DecidableEq, Repr

/-- Transport, ports, traffic; `waiting` holds packets that arrived for connections whose context is being loaded (R291),
`retx` the packets sent again that TRN_ERR has not counted yet (its unit is 1,024). -/
structure Net where
  conns : AL Nat Conn := []
  moorings : AL Nat Mooring := []
  ports : AL Nat Port := []
  engines : AL Nat Engine := []
  meters : AL Nat Meter := []
  waiting : List (Nat × Instr) := []
  retx : Nat := 0
deriving DecidableEq, Repr

/-- Basin 0 as every reset composes it (R348). -/
def basin0 : Basin :=
  { st := 2, flash := 0xFFFFFFFF, hostBase := 4194304, hostSlots := 65536, moorBase := 0, moorLen := 64,
    tenants := [0],
    sqs := [(0, { base := 0x5000000000, log2 := 8, cq := 0 })],
    cqs := [(0, { base := 0x5000008000, log2 := 10 })] }

/-- The part. `pending` is the queue of waiting commands, `sent` what the part has put out, newest last, `fresh`
the counter that feeds the model's free values. -/
structure State where
  pending : List Instr := []
  regs : AL Nat W64 := []
  tb : Timebase := {}
  fab : Fabric := {}
  tiers : Tiers := {}
  ledger : Ledger := {}
  sweeps : Sweeps := {}
  host : HostSide := { basins := [(0, basin0)] }
  dram : Memory := []
  net : Net := {}
  sec : Sec := {}
  boot : Boot := {}
  aon : Aon := {}
  nv : Nonvolatile := {}
  twin : Twin := {}
  towpath : Towpath := {}
  lbs : Lbs := {}
  jtag : Jtag := {}
  sent : List OutMsg := []
  fresh : Nat := 0
deriving DecidableEq, Repr

/-- The part right after reset: every register at the value its table gives (an empty map reads as those), every
other piece of state at the default its structure names; PORST_N still low. -/
def State.reset : State := {}

end Sys2Proof.Machine
end

