-- ==== Sys2Proof/Machine/Ops.lean ====
section
/-! DEFINITION. The named operations over state: association lists, byte memory, registers and counters, time,
outputs, free values, and the records the part writes for the host (completions, events, exception log). -/

namespace Sys2Proof.Machine

/-! ### Association lists -/

/-- The value under a key. -/
def alGet {κ α : Type} [DecidableEq κ] : AL κ α → κ → Option α
  | [], _ => none
  | (k, v) :: t, x => if k = x then some v else alGet t x

/-- The value under a key, or a default. -/
def alGetD {κ α : Type} [DecidableEq κ] (m : AL κ α) (k : κ) (d : α) : α := (alGet m k).getD d

/-- The map with a key set. -/
def alPut {κ α : Type} [DecidableEq κ] : AL κ α → κ → α → AL κ α
  | [], x, v => [(x, v)]
  | (k, w) :: t, x, v => if k = x then (x, v) :: t else (k, w) :: alPut t x v

/-- The map without a key. -/
def alDel {κ α : Type} [DecidableEq κ] : AL κ α → κ → AL κ α
  | [], _ => []
  | (k, w) :: t, x => if k = x then alDel t x else (k, w) :: alDel t x

/-- The map with the value under a key changed, when it is present. -/
def alMod {κ α : Type} [DecidableEq κ] (m : AL κ α) (k : κ) (f : α → α) : AL κ α :=
  match alGet m k with
  | some v => alPut m k (f v)
  | none => m

/-- Every value changed. -/
def alMap {κ α : Type} (m : AL κ α) (f : κ → α → α) : AL κ α := m.map (fun p => (p.1, f p.1 p.2))

/-! ### Byte memory -/

/-- The byte at an address: zero where none is listed. -/
def memRead : Memory → Nat → Byte
  | [], _ => 0
  | (x, b) :: t, a => if x = a then b else memRead t a

/-- A byte written, in canonical form. -/
def memWrite : Memory → Nat → Byte → Memory
  | [], a, b => if b = 0 then [] else [(a, b)]
  | (x, y) :: t, a, b =>
    if x < a then (x, y) :: memWrite t a b
    else if x = a then (if b = 0 then t else (a, b) :: t)
    else if b = 0 then (x, y) :: t else (a, b) :: (x, y) :: t

/-- Canonical form: addresses strictly rising from `lo`, no zero byte listed. -/
def memWfFrom : Nat → Memory → Bool
  | _, [] => true
  | lo, (x, b) :: t => decide (lo ≤ x) && decide (b ≠ 0) && memWfFrom (x + 1) t

/-- The canonical form of a memory. -/
def Memory.wf (m : Memory) : Bool := memWfFrom 0 m

/-- `n` bytes from an address. -/
def memReadN (m : Memory) (a : Nat) : Nat → List Byte
  | 0 => []
  | n + 1 => memRead m a :: memReadN m (a + 1) n

/-- Bytes written from an address upward. -/
def memWriteL (m : Memory) (a : Nat) : List Byte → Memory
  | [] => m
  | b :: bs => memWriteL (memWrite m a b) (a + 1) bs

/-- `n` bytes from an address zeroed. -/
def memZero (m : Memory) (a n : Nat) : Memory := m.filter (fun c => decide (c.1 < a ∨ a + n ≤ c.1))

/-- The little-endian number in `n` bytes at an address (R8). -/
def memNat (m : Memory) (a n : Nat) : Nat := leNat (memReadN m a n)

/-! ### Time and free values -/

/-- Local fabric time in ticks (R245). -/
def State.now (s : State) : Nat := s.tb.ticks.toNat

/-- Local fabric time has passed T: the tick value is at least T (R267). -/
def State.passed (s : State) (t : Nat) : Bool := decide (t ≤ s.now)

/-- The next free value, and the state with the draw counted. -/
def State.free (s : State) : W64 := Config.freeValue s.fresh
def State.drawn (s : State) : State := { s with fresh := s.fresh + 1 }

/-! ### Registers -/

/-- The stored value of a BAR0 register. -/
def State.reg (s : State) (off : Nat) : W64 := alGetD s.regs off (regReset off)

/-- A stored register replaced. -/
def State.setReg (s : State) (off : Nat) (v : W64) : State := { s with regs := alPut s.regs off v }

/-- A field of a stored register. -/
def State.fld (s : State) (off lo w : Nat) : Nat := Sys2Proof.fld (s.reg off) lo w

/-- A field of a stored register replaced. -/
def State.setFld (s : State) (off lo w x : Nat) : State := s.setReg off (Sys2Proof.setFld (s.reg off) lo w x)

/-- A saturating counter field raised by `d`. -/
def State.bump (s : State) (off lo w d : Nat) : State := s.setFld off lo w (satAdd w (s.fld off lo w) d)

/-- The mode of HUB_HOSTIF (R325): 0 EMULATED, 1 HANDOVER, 2 SERVICE, 3 RECOVERY. -/
def State.mode (s : State) : Nat := s.fld rHubHostif 0 2

/-- SERVICE, the mode in which registers beyond the emulated blocks are served (R324, R326), with the interface not in ERROR
(R369). -/
def State.inService (s : State) : Bool := decide (s.mode = 2) && decide (s.sec.tdisp ≠ 3)

/-- A host access that is not taken: in ERROR it counts in SEC_ERR.NON_IDE (R369). -/
def State.turnedAway (s : State) : State := if s.sec.tdisp = 3 then s.bump rSecErr 32 32 1 else s

/-- The value of a field after a write, by its access code (R6): RW takes the bits written, W1C clears the bits
written as 1, the others ignore the write. -/
def writeField (f : RField) (old val : W64) : W64 :=
  match f.acc with
  | .RW => Sys2Proof.setFld old f.lo f.w (Sys2Proof.fld val f.lo f.w)
  | .W1C => Sys2Proof.setFld old f.lo f.w
      (Sys2Proof.fld old f.lo f.w - (Sys2Proof.fld old f.lo f.w &&& Sys2Proof.fld val f.lo f.w))
  | _ => old

/-- The register after a read: RC fields are cleared (R6). -/
def readClear (fs : List RField) (old : W64) : W64 :=
  fs.foldl (fun v f => if f.acc = .RC then Sys2Proof.setFld v f.lo f.w 0 else v) old

/-! ### Outputs -/

/-- Whether an output goes out on an optical engine in a frame other than MKA and LLDP (R417). -/
def OutMsg.fabric : OutMsg → Bool
  | .lldp _ | .msix _ | .tstr _ | .ibi _ | .spdm _ _ | .i3c _ | .lbs _ | .lbsClear | .tap _ | .read _ | .unsupported => false
  | _ => true

/-- TWN_STAT.EXPELLED, set until the next reset (R417). -/
def State.expelled (s : State) : Bool := s.fld rTwnStat 3 1 = 1

/-- Whether the part takes a fabric message of a package: neither of the two is expelled (R417, R418). -/
def State.hears (s : State) (pkg : Nat) : Bool := !s.expelled && !s.twin.expelled.contains pkg

/-- A message sent; an expelled part sends none on the fabric (R417). -/
def State.send (s : State) (m : OutMsg) : State :=
  if m.fabric && s.expelled then s else { s with sent := s.sent ++ [m] }

/-- Messages sent in order. -/
def State.sends (s : State) (ms : List OutMsg) : State := ms.foldl State.send s

/-- Offsets of the MSI-X table and the pending-bit array (R324). -/
def rMsixTable : Nat := 0xFE0000
def rMsixPba : Nat := 0xFF0000

/-- Whether vector `v` is masked: bit 0 of its vector control word, set at reset as PCIe gives it. -/
def State.msixMasked (s : State) (v : Nat) : Bool :=
  decide (Sys2Proof.fld (alGetD s.regs (rMsixTable + 16 * v + 8) (BitVec.ofNat 64 (2 ^ 32))) 32 1 = 1)

/-- A vector raised: a message, or the pending bit while masked (R344). -/
def State.raiseMsix (s : State) (v : Nat) : State :=
  if s.msixMasked v then s.setFld rMsixPba v 1 1 else s.send (.msix v)

/-- A host read that completes with Unsupported Request (R323, R369). -/
def State.unsupported (s : State) : State := s.turnedAway.send .unsupported

/-! ### Components -/

/-- A core, cluster, chamber, region, basin or channel, at its reset value where the map lists none. -/
def State.core (s : State) (c : Nat) : Core := alGetD s.fab.cores c {}
def State.cluster (s : State) (c : Nat) : Cluster := alGetD s.fab.clusters c {}
def State.chamber (s : State) (c : Nat) : Chamber := alGetD s.fab.chambers c {}
def State.region (s : State) (r : Nat) : Region := alGetD s.fab.regions r {}
def State.basin (s : State) (b : Nat) : Basin := alGetD s.host.basins b {}
def State.channel (s : State) (c : Nat) : Channel := alGetD s.tiers.channels c {}

def State.setCore (s : State) (c : Nat) (x : Core) : State :=
  { s with fab := { s.fab with cores := alPut s.fab.cores c x } }
def State.setCluster (s : State) (c : Nat) (x : Cluster) : State :=
  { s with fab := { s.fab with clusters := alPut s.fab.clusters c x } }
def State.setChamber (s : State) (c : Nat) (x : Chamber) : State :=
  { s with fab := { s.fab with chambers := alPut s.fab.chambers c x } }
def State.setRegion (s : State) (r : Nat) (x : Region) : State :=
  { s with fab := { s.fab with regions := alPut s.fab.regions r x } }
def State.setBasin (s : State) (b : Nat) (x : Basin) : State :=
  { s with host := { s.host with basins := alPut s.host.basins b x } }
def State.setChannel (s : State) (c : Nat) (x : Channel) : State :=
  { s with tiers := { s.tiers with channels := alPut s.tiers.channels c x } }
def State.setDram (s : State) (m : Memory) : State := { s with dram := m }
def State.setRun (s : State) (c : Nat) (r : Run) : State := s.setCore c { s.core c with run := some r }

/-- The region of a cluster and the cluster and region of a core (R10). -/
def clusterOf (core : Nat) : Nat := core / 8
def regionOf (core : Nat) : Nat := core / 128

/-- The basin whose runs a core executes: its cluster's owner (R14). -/
def State.basinOf (s : State) (core : Nat) : Option Nat := (s.cluster (clusterOf core)).owner

/-- This part's package number on the fabric: fused or assigned outside the block (log entry 6). -/
def selfPkg : Nat := (Config.fuseWord 0).toNat % 1024

/-! ### Key slots (R364, R370) -/

/-- CDI_0 (R364). -/
def cdi0 : BitVec 384 :=
  Config.hmac384 (leBytes 32 Config.uds.toNat) (leBytes 48 (Config.sha384 Config.fuses).toNat)

/-- The key slot of a tenant: slot 0 is ACTIVE with the derived tenant-0 keys, others EMPTY (R370). -/
def State.keySlot (s : State) (t : Nat) : KeySlot :=
  alGetD s.sec.slots t
    (if t = 0 then { st := 2, mem := Config.kdf256 (leBytes 48 cdi0.toNat) "TENANT0-MEM" [],
                     conn := Config.kdf256 (leBytes 48 cdi0.toNat) "TENANT0-CONN" [] } else {})

def State.setKeySlot (s : State) (t : Nat) (k : KeySlot) : State :=
  { s with sec := { s.sec with slots := alPut s.sec.slots t k } }

/-- The tenant's key slot is ACTIVE. -/
def State.active (s : State) (t : Nat) : Bool := decide ((s.keySlot t).st = 2)

/-! ### Status codes (R103, R307, R346, R363, R385, R435) -/

def stOk : Nat := 0
def stLinePoisoned : Nat := 0x0103
def stAccessDenied : Nat := 0x0301
def stInvalidField : Nat := 0x0302
def stRevoked : Nat := 0x0303
def stLinkLost : Nat := 0x0304
def stTenantRetired : Nat := 0x0305
def stNotOwner : Nat := 0x0306
def stChamberTimeout : Nat := 0x0307
def stChamberOut : Nat := 0x0308
def stStaleMap : Nat := 0x0309
def stNoTwin : Nat := 0x030A
def stConnDown : Nat := 0x030B
def stTargetBusy : Nat := 0x030C
def stMooringFull : Nat := 0x030D
def stWrCancelled : Nat := 0x030E
def stChamberFreed : Nat := 0x030F
def stBargeNospace : Nat := 0x0310
def stSlotSmall : Nat := 0x0401
def stNotFound : Nat := 0x0402
def stAlreadyFinal : Nat := 0x0403
def stRingInUse : Nat := 0x0404
def stGeometryUnfit : Nat := 0x0405
def stQuotaExceeded : Nat := 0x0406
def stNoSlot : Nat := 0x0407
def stPtAreaFull : Nat := 0x0408
def stPositionOrder : Nat := 0x0409
def stBaseAbsent : Nat := 0x040A
def stBaseMismatch : Nat := 0x040B
def stBaseInUse : Nat := 0x040C
def stNoKey : Nat := 0x040D
def stBadSignature : Nat := 0x040E
def stBadImage : Nat := 0x040F
def stTimeUnlocked : Nat := 0x0410
def stFlightFull : Nat := 0x0411
def stChamberFull : Nat := 0x0412
def stChWaitersFull : Nat := 0x0413
def stLedgerFull : Nat := 0x0414
def stBargeBusy : Nat := 0x0415
def stComposeFull : Nat := 0x0416
def stObjectExists : Nat := 0x0417
def stBasinExists : Nat := 0x0418
def stBasinNotEmpty : Nat := 0x0419
def stClusterTaken : Nat := 0x041A
def stNoCores : Nat := 0x041B
def stSlotState : Nat := 0x041C
def stAuthFail : Nat := 0x041D
def stNotInSet : Nat := 0x041E
def stBindInvalid : Nat := 0x041F
def stExpelled : Nat := 0x0420
def stMergeLost : Nat := 0x0421
def stJournalFull : Nat := 0x0422

/-! ### Records for the host -/

/-- An event record or exception record written at a log ring's tail, or counted as lost when the ring is full
(R327, R343). `at_` is the ring's offset in the host area. -/
def logPut (s : State) (hostBase at_ : Nat) (r : LogRing) (rec32 : List Byte) : State × LogRing × Bool :=
  if (r.tail + 1) % 1024 = r.head then (s, { r with lost := satAdd 16 r.lost 1 }, false)
  else (s.setDram (memWriteL s.dram (hostBase * 0x14000 + at_ + 32 * r.tail) rec32),
        { r with tail := (r.tail + 1) % 1024 }, true)

/-- An event on a basin's event ring; a new record of basin 0 raises vector 0 (R344). -/
def State.event (s : State) (b : Nat) (rec32 : List Byte) : State :=
  let bs := s.basin b
  let (s1, r, wrote) := logPut s bs.hostBase 0x10000 bs.evt rec32
  let s2 := s1.setBasin b { bs with evt := r }
  if b = 0 ∧ wrote then s2.raiseMsix 0 else s2

/-- A record on a basin's exception log. -/
def State.excLog (s : State) (b : Nat) (rec32 : List Byte) : State :=
  let bs := s.basin b
  let (s1, r, _) := logPut s bs.hostBase 0x18000 bs.exc rec32
  s1.setBasin b { bs with exc := r }

/-- A 32-byte integrity event record (R216). -/
def eventRec (code tier line : Nat) (k : BerthKey) (time detail : Nat) : List Byte :=
  leBytes 2 code ++ leBytes 1 tier ++ leBytes 1 line ++ leBytes 2 k.tenant ++ leBytes 2 k.layer
    ++ leBytes 4 k.object ++ leBytes 4 k.berth ++ leBytes 8 time ++ leBytes 8 detail

/-- A part event without a berth: code, unit and count in DETAIL (R435). -/
def State.partEvent (s : State) (code unit count : Nat) : State :=
  s.event 0 (eventRec code 0 0 ⟨0, 0, 0, 0⟩ s.now (unit % 2 ^ 32 + 2 ^ 32 * (count % 2 ^ 32)))

/-- A part event whose count the spec does not give: a free value (log). -/
def State.unitEvent (s : State) (code unit : Nat) : State := s.drawn.partEvent code unit s.free.toNat

/-- A completion ring is full (R329: a ring of 2^k entries holds 2^k − 1). -/
def CQ.full (q : CQ) : Bool := decide ((q.tail + 1) % 2 ^ q.log2 = q.head)

/-- An entry written into a completion ring with room: PHASE and SQHEAD are set as it is written (R335), and the
ring's interrupt follows R344. -/
def cqWrite (s : State) (b c : Nat) (q : CQ) (e : List Byte) : State :=
  let ring := (nthD 0 e 0x18).toNat
  let sqh := ((alGet (s.basin b).sqs ring).map (·.head)).getD 0
  let e1 := e.take 0x0B ++ [if q.phase then 1 else 0] ++ (e.drop 0x0C).take 0x0E ++ leBytes 2 sqh ++ leBytes 4 0
  let s1 := s.setDram (memWriteL s.dram (q.base + 32 * q.tail) e1)
  let wrap := q.tail + 1 = 2 ^ q.log2
  let first := if q.fresh = 0 then s.now else q.firstAt
  let due := q.ien && (decide (max 1 q.coalN ≤ q.fresh + 1) || decide (q.coalUs = 0))
  let q1 := { q with tail := (q.tail + 1) % 2 ^ q.log2, phase := if wrap then !q.phase else q.phase,
                     fresh := if due then 0 else q.fresh + 1, firstAt := first }
  let s2 := s1.setBasin b { s1.basin b with cqs := alPut (s1.basin b).cqs c q1 }
  if due then s2.raiseMsix q.vector else s2

/-- The ring number that stands for BSN_CMD, whose completion goes to BSN_CMD_RES (R362). -/
def cmdRing : Nat := 256

/-- A completion entry posted to the ring a submission ring reports to: written, or held back without loss
while the ring is full (R336). -/
def State.postCq (s : State) (b ring : Nat) (e : List Byte) : State :=
  if ring = cmdRing then s.setReg rBsnCmdRes (BitVec.ofNat 64 (leNat (bytesAt e 8 2) + leNat (bytesAt e 0x10 4) * 2 ^ 32))
  else
  let bs := s.basin b
  let c := ((alGet bs.sqs ring).map (·.cq)).getD 0
  match alGet bs.cqs c with
  | none => s
  | some q =>
    if q.full || !q.back.isEmpty then
      s.setBasin b { bs with cqs := alPut bs.cqs c { q with back := q.back ++ [e] } }
    else cqWrite s b c q e

/-- A completion entry (R335) before PHASE and SQHEAD are filled in. -/
def cqEntry (wrid status op sweep result ring : Nat) : List Byte :=
  leBytes 8 wrid ++ leBytes 2 status ++ leBytes 1 op ++ [0] ++ leBytes 4 sweep ++ leBytes 8 result
    ++ leBytes 1 ring ++ [0] ++ leBytes 2 0 ++ leBytes 4 0

/-- A descriptor's completion: always on failure, on success when DFLAGS.CQ asks for it (R331). -/
def State.complete (s : State) (b ring wrid op : Nat) (cq : Bool) (status result : Nat) : State :=
  if cq || decide (status ≠ 0) || decide (ring = cmdRing) then s.postCq b ring (cqEntry wrid status op 0 result ring) else s

/-- A job's completion: the job leaves the list and its descriptor completes. -/
def State.finishJob (s : State) (id : Nat) (status result : Nat) : State :=
  match s.host.jobs.find? (fun j => decide (j.id = id)) with
  | none => s
  | some j =>
    let s1 := { s with host := { s.host with jobs := s.host.jobs.filter (fun j => decide (j.id ≠ id)) } }
    s1.complete j.basin j.ring j.wrid j.op j.cq status result

/-- A new job for a descriptor that completes later. -/
def State.addJob (s : State) (j : Job) : State :=
  { s with host := { s.host with jobs := s.host.jobs ++ [{ j with id := s.host.nextJob }],
                                 nextJob := s.host.nextJob + 1 } }

end Sys2Proof.Machine
end

