-- ==== Sys2Proof/Machine/Operands.lean ====
section
/-! DEFINITION. Operand forms: the core's instruction word with its fields and legality (R80, R113 to R116), local
addresses (R117), Yelam addresses (R25 to R27), and the fields of 128-byte descriptors (R331). -/

namespace Sys2Proof.Machine

/-! ### Instruction word (R113) -/

/-- The fields of an instruction word. -/
def opc (w : W64) : Nat := fld w 56 8
def predF (w : W64) : Nat := fld w 52 4
def dstF (w : W64) : Nat := fld w 46 6
def srcA (w : W64) : Nat := fld w 40 6
def srcB (w : W64) : Nat := fld w 34 6
def imm (w : W64) : Nat := fld w 0 34

/-- The immediate sign-extended from 34 bits to 64 (R115). -/
def simm (w : W64) : W64 := BitVec.ofInt 64 (sext 34 (imm w))

/-- The core's instructions: one per opcode and form (R115). -/
inductive CoreOp where
  | br | brR | loopI | call | ret | halt | nop
  | add | addI | sub | subI | andR | andI | orR | orI | xorR | xorI
  | shl | shlI | shr | shrI | sra | sraI | mul | mulI | mov | movh
  | cmpEq | cmpEqI | cmpNe | cmpNeI | cmpLt | cmpLtI | cmpLtu | cmpLtuI | ext | plog
  | ldD | ldW | ldH | ldB | stD | stW | stH | stB | vld | vst
  | tldK | tldV | tldMan | tldManNext | tldManRequeue | tstLd | tstSt
  | dotQk | accPv | scaleS | scaleO | rope | mskCausal | mskWin | mskTree
  | smxUpd | smxUpdMan | smxUpdSkip | smxExp | abftAcc | abftChk
  | mergePart | mergePartDrop | mergePartR | emitPart
  | chAdd | chSet | chSetThr | chWait | atGate | untilTime | flightArm | flightArmCancel
  | fxPut | fxGet | fxAdd | fxCas | fxFlush | sndScan | sndTop | holdBegin | holdEnd | brk
deriving DecidableEq, Repr

/-- The instruction a word names by its opcode and form bits; none for a reserved opcode or form (R115). -/
def coreOp (w : W64) : Option CoreOp :=
  match opc w with
  | 0x01 => some .br | 0x02 => some .brR | 0x03 => some .loopI | 0x04 => some .call
  | 0x05 => some .ret | 0x06 => some .halt | 0x07 => some .nop
  | 0x10 => some .add | 0x11 => some .addI | 0x12 => some .sub | 0x13 => some .subI
  | 0x14 => some .andR | 0x15 => some .andI | 0x16 => some .orR | 0x17 => some .orI
  | 0x18 => some .xorR | 0x19 => some .xorI | 0x1A => some .shl | 0x1B => some .shlI
  | 0x1C => some .shr | 0x1D => some .shrI | 0x1E => some .sra | 0x1F => some .sraI
  | 0x20 => some .mul | 0x21 => some .mulI | 0x22 => some .mov | 0x23 => some .movh
  | 0x24 => some .cmpEq | 0x25 => some .cmpEqI | 0x26 => some .cmpNe | 0x27 => some .cmpNeI
  | 0x28 => some .cmpLt | 0x29 => some .cmpLtI | 0x2A => some .cmpLtu | 0x2B => some .cmpLtuI
  | 0x2C => some .ext | 0x2D => some .plog
  | 0x30 => some .ldD | 0x31 => some .ldW | 0x32 => some .ldH | 0x33 => some .ldB
  | 0x34 => some .stD | 0x35 => some .stW | 0x36 => some .stH | 0x37 => some .stB
  | 0x38 => some .vld | 0x39 => some .vst
  | 0x40 => some .tldK | 0x41 => some .tldV
  | 0x42 =>
    match imm w % 4 with
    | 0 => some .tldMan | 1 => some .tldManNext | 2 => some .tldManRequeue | _ => none
  | 0x43 => if imm w % 2 = 0 then (if imm w / 2 % 4 = 3 then none else some .tstLd) else some .tstSt
  | 0x48 => some .dotQk | 0x49 => some .accPv
  | 0x4A => if imm w % 2 = 0 then some .scaleS else some .scaleO
  | 0x4B => some .rope
  | 0x50 => some .mskCausal | 0x51 => some .mskWin | 0x52 => some .mskTree
  | 0x54 =>
    match imm w % 4 with
    | 0 => some .smxUpd | 1 => some .smxUpdMan | 2 => some .smxUpdSkip | _ => none
  | 0x55 => some .smxExp | 0x58 => some .abftAcc | 0x59 => some .abftChk
  | 0x5C =>
    match imm w % 4 with
    | 0 => some .mergePart | 1 => some .mergePartDrop | 2 => some .mergePartR | _ => none
  | 0x5D => some .emitPart
  | 0x60 => some .chAdd
  | 0x61 => if imm w % 2 = 0 then some .chSet else some .chSetThr
  | 0x62 => some .chWait | 0x64 => some .atGate | 0x65 => some .untilTime
  | 0x66 => if imm w % 2 = 0 then some .flightArm else some .flightArmCancel
  | 0x68 => some .fxPut | 0x69 => some .fxGet | 0x6A => some .fxAdd | 0x6B => some .fxCas
  | 0x6C => some .fxFlush | 0x70 => some .sndScan | 0x71 => some .sndTop
  | 0x78 => some .holdBegin | 0x79 => some .holdEnd | 0x7F => some .brk
  | _ => none

/-- The register file a field names (R80), or that the field is unused. -/
inductive RK where
  | z | s | v | t | a | p
deriving DecidableEq, Repr

/-- A field value that fits its file: unused fields are 0 (R114). -/
def RK.ok (k : RK) (x : Nat) : Bool :=
  match k with
  | .z => x = 0
  | .s => x < 0x20
  | .v => 0x20 ≤ x && x < 0x30
  | .t => 0x30 ≤ x && x < 0x38
  | .a => 0x38 ≤ x && x < 0x3C
  | .p => x < 8

/-- The files of DST, SRCA and SRCB and the IMM bits an instruction uses. -/
def CoreOp.spec : CoreOp → RK × RK × RK × Nat
  | .br | .call => (.z, .z, .z, 0x7FF)
  | .brR => (.z, .s, .z, 0x3FFFFFFFF)
  | .loopI => (.s, .z, .z, 0x7FF)
  | .ret | .halt | .nop | .emitPart | .holdBegin | .holdEnd => (.z, .z, .z, 0)
  | .add | .sub | .andR | .orR | .xorR | .shl | .shr | .sra | .mul => (.s, .s, .s, 0)
  | .addI | .subI | .andI | .orI | .xorI | .shlI | .shrI | .sraI | .mulI => (.s, .s, .z, 0x3FFFFFFFF)
  | .mov => (.s, .z, .z, 0x3FFFFFFFF)
  | .movh => (.s, .s, .z, 0x3FFFFFFF)
  | .cmpEq | .cmpNe | .cmpLt | .cmpLtu => (.p, .s, .s, 0)
  | .cmpEqI | .cmpNeI | .cmpLtI | .cmpLtuI => (.p, .s, .z, 0x3FFFFFFFF)
  | .ext => (.s, .s, .z, 0xFFF)
  | .plog => (.p, .p, .p, 0xF)
  | .ldD | .ldW | .ldH | .ldB => (.s, .s, .z, 0x3FFFFFFFF)
  | .stD | .stW | .stH | .stB => (.z, .s, .s, 0x3FFFFFFFF)
  | .vld => (.v, .s, .z, 0x3FFFFFFFF)
  | .vst => (.z, .s, .v, 0x3FFFFFFFF)
  | .tldK | .tldV => (.t, .s, .s, 0xF)
  | .tldMan => (.z, .s, .z, 0x7)
  | .tldManNext => (.s, .z, .z, 0x3)
  | .tldManRequeue => (.p, .s, .v, 0xFF)
  | .tstLd => (.t, .s, .z, 0x3FFFF0007)
  | .tstSt => (.z, .s, .t, 0x3FFFF0001)
  | .dotQk => (.a, .t, .t, 1)
  | .accPv => (.a, .t, .t, 0)
  | .scaleS | .scaleO => (.a, .v, .z, 1)
  | .rope => (.t, .z, .z, 7)
  | .mskCausal | .mskWin | .mskTree => (.a, .z, .z, 0)
  | .smxUpd => (.v, .a, .v, 3)
  | .smxUpdMan | .smxUpdSkip => (.v, .t, .v, 3)
  | .smxExp => (.t, .a, .v, 0x3F)
  | .abftAcc => (.z, .t, .z, 0)
  | .abftChk => (.p, .v, .z, 0)
  | .mergePart => (.z, .s, .v, 0xFF)
  | .mergePartDrop => (.z, .z, .v, 0xFF)
  | .mergePartR => (.z, .s, .s, 3)
  | .chAdd | .chWait => (.p, .s, .s, 0xFFFFFFFF)
  | .chSet | .chSetThr => (.p, .s, .s, 1)
  | .atGate => (.z, .s, .z, 0x3FFFFFFFF)
  | .untilTime => (.s, .s, .z, 0)
  | .flightArm => (.s, .s, .s, 1)
  | .flightArmCancel => (.p, .s, .z, 1)
  | .fxPut | .fxGet => (.s, .s, .s, 0x1FFFFFFFF)
  | .fxAdd | .fxCas => (.s, .s, .s, 0x7FFFFFF)
  | .fxFlush => (.s, .z, .z, 0x1FFFFFF)
  | .sndScan => (.s, .t, .z, 0x1FF)
  | .sndTop => (.s, .z, .z, 0)
  | .brk => (.z, .z, .z, 0xFFFF)

/-- The vector register an immediate names as vL. -/
def vlF (o : CoreOp) (w : W64) : Nat :=
  match o with
  | .smxExp => imm w % 64
  | .mergePart | .mergePartDrop | .tldManRequeue => imm w / 4 % 64
  | .smxUpd | .smxUpdMan | .smxUpdSkip => srcB w
  | _ => 0x20

/-- Whether the image's IFLAGS allow the instruction (R116). -/
def iflagsOk (o : CoreOp) (iflags : Nat) : Bool :=
  match o with
  | .fxPut | .fxGet | .fxAdd | .fxCas | .fxFlush => iflags % 2 = 1
  | .sndScan | .sndTop => iflags / 2 % 2 = 1
  | .tldManRequeue => iflags / 4 % 2 = 1
  | _ => true

/-- Whether every field of a word holds what its instruction allows (R81, R114, R116). -/
def legalWord (o : CoreOp) (w : W64) (iflags : Nat) : Bool :=
  predF w != 8 && o.spec.1.ok (dstF w) && o.spec.2.1.ok (srcA w) && o.spec.2.2.1.ok (srcB w)
    && imm w &&& o.spec.2.2.2 == imm w && RK.v.ok (vlF o w) && iflagsOk o iflags
    && (match o with | .sndScan => 1 ≤ imm w && imm w ≤ 256 | _ => true)

/-- The scalar registers an instruction reads or writes. -/
def scalarsOf (o : CoreOp) (w : W64) : List Nat :=
  (if o.spec.1 = .s then [dstF w] else []) ++ (if o.spec.2.1 = .s then [srcA w] else [])
    ++ (if o.spec.2.2.1 = .s then [srcB w] else [])

/-- The predicates an instruction reads or writes. -/
def predsOf (o : CoreOp) (w : W64) : List Nat :=
  predF w % 8 :: (if o.spec.1 = .p then [dstF w] else []) ++ (if o.spec.2.1 = .p then [srcA w] else [])
    ++ (if o.spec.2.2.1 = .p then [srcB w] else [])
    ++ (match o with | .fxAdd | .fxCas => [imm w / 2 ^ 24 % 8] | _ => [])

/-- Whether an instruction may follow `at` or stand in a flight (R143, R144). -/
def CoreOp.gateable : CoreOp → Bool
  | .chAdd | .chSet | .chSetThr | .fxPut | .fxGet | .fxAdd | .fxCas | .fxFlush => true
  | _ => false

/-- Whether a hold may contain an instruction (R99). -/
def CoreOp.inHold : CoreOp → Bool
  | .add | .addI | .sub | .subI | .andR | .andI | .orR | .orI | .xorR | .xorI | .shl | .shlI | .shr | .shrI
  | .sra | .sraI | .mul | .mulI | .mov | .movh | .cmpEq | .cmpEqI | .cmpNe | .cmpNeI | .cmpLt | .cmpLtI
  | .cmpLtu | .cmpLtuI | .ext | .plog | .ldD | .ldW | .ldH | .ldB | .stD | .stW | .stH | .stB
  | .chAdd | .chSet | .chSetThr | .holdBegin | .holdEnd => true
  | _ => false

/-- Instruction indices that lie inside a hold or on its `hold.end`, scanned in order (R99). -/
def holdMarks : List W64 → Nat → Bool → List Nat
  | [], _, _ => []
  | w :: ws, i, inside =>
    match coreOp w with
    | some .holdBegin => holdMarks ws (i + 1) true
    | some .holdEnd => if inside then i :: holdMarks ws (i + 1) false else holdMarks ws (i + 1) false
    | _ => if inside then i :: holdMarks ws (i + 1) true else holdMarks ws (i + 1) false

/-- Exception codes (R103, R110, R422). -/
def exIllegal : Nat := 0x0001
def exBasin : Nat := 0x0002
def exStore : Nat := 0x0003
def exMisaligned : Nat := 0x0004
def exTile : Nat := 0x0005
def exHold : Nat := 0x0006
def exMismatch : Nat := 0x0007
def exDupEmit : Nat := 0x0008
def exIncomplete : Nat := 0x0009
def exCallDepth : Nat := 0x000A
def exIfetch : Nat := 0x000B
def exTicket : Nat := 0x000C
def exOverdue : Nat := 0x000D
def exHaltHold : Nat := 0x000E
def exMissing : Nat := 0x000F
def exMemUncorr : Nat := 0x0010

/-! ### Local addresses (R117) -/

/-- Whether `n` bytes at a local address lie in core-local store or in the core's scratch window. -/
def localOk (a n : Nat) : Bool := decide (a + n ≤ 0x10000) || (decide (0x10000 ≤ a) && decide (a + n ≤ 0x18000))

/-- Whether a program may store there: not below 0x7500 (R82). -/
def storeOk (a n : Nat) : Bool := decide (0x7500 ≤ a) && localOk a n

/-! ### Yelam addresses (R25 to R27) -/

/-- The fields of a Yelam address. -/
def yPkg (a : W64) : Nat := fld a 53 10
def ySpace (a : W64) : Nat := fld a 50 3
def yOff (a : W64) : Nat := fld a 0 50

/-- The largest stacked-DRAM address plus one (R26, R155). -/
def dramTop : Nat := 0x6000000000

/-- Whether a Yelam address names a byte the layout gives a meaning (R25 to R27). -/
def yValid (a : W64) (len : Nat) : Bool :=
  fld a 63 1 == 0 &&
  (match ySpace a with
   | 0 => yOff a + len ≤ dramTop
   | 1 => let slot := yOff a / 2 ^ 18; let b := yOff a % 2 ^ 18
     b + len ≤ 0x14000 && b % 256 == 0 && len % 256 == 0
       && (slot ≤ 0x4BFFFF || (0x01000000 ≤ slot && slot ≤ 0xFFFFFFFE))
   | 2 => yOff a / 2 ^ 30 == 0 && yOff a % 2 ^ 21 + len ≤ 0x180000
   | 3 => yOff a / 2 ^ 19 == 0 && yOff a % 8 == 0 && len == 8
   | 4 => yOff a / 2 ^ 24 == 0 && yOff a % 8 == 0 && len % 8 == 0 && yOff a + len ≤ 2 ^ 24
   | _ => false)

/-! ### Descriptors -/

/-- A little-endian number of `n` bytes at offset `o` of a descriptor (R331). -/
def dsc (d : List Byte) (o n : Nat) : Nat := leNat (bytesAt d o n)

/-- Whether `n` bytes from offset `o` are all zero (reserved, R7). -/
def dscZero (d : List Byte) (o n : Nat) : Bool := (bytesAt d o n).all (fun b => b == 0)

/-- The attention and convoy fields of a SWEEP descriptor (R333). -/
def sweepDesc (d : List Byte) : SweepDesc :=
  { tenant := dsc d 4 2 % 4096, wrid := dsc d 8 8, prog := dsc d 2 1 % 16, layer := dsc d 6 2, object := dsc d 0x10 4,
    nq := dsc d 0x14 2 % 512, treeNodes := dsc d 0x16 2 % 512, scale := BitVec.ofNat 32 (dsc d 0x18 4), window := dsc d 0x1C 4,
    lo := dsc d 0x20 4, hi := dsc d 0x24 4, treeBase := dsc d 0x28 4, sink := dsc d 0x2C 2, k := dsc d 0x2E 2 % 8192,
    mergePoint := dsc d 0x30 2 % 2048, filter := dsc d 0x32 2, treeOff := dsc d 0x34 2, qbuf := dsc d 0x38 8,
    qlen := dsc d 0x40 4, reserve := dsc d 0x44 4 % 2 ^ 24, launch := dsc d 0x48 8, minLead := dsc d 0x50 4,
    deadline := dsc d 0x54 4, backup := dsc d 0x58 4, slotLen := dsc d 0x5C 4, slot := dsc d 0x60 8,
    cq := dsc d 1 1 % 2 == 1, qfmt := dsc d 1 1 / 2 % 2 == 1, noncausal := dsc d 1 1 / 4 % 2 == 1,
    recompute := dsc d 1 1 / 8 % 2 == 1 }

/-- Bytes read from stacked DRAM as a host buffer: the program buffer, query buffer and tables lie in the BAR2
window, whose address o names stacked-DRAM address 0x50_0000_0000 + o of the part's own memory (R323). -/
def State.buffer (s : State) (a n : Nat) : List Byte := memReadN s.dram a n

end Sys2Proof.Machine
end

