-- ==== Sys2Proof/Machine/Kernels.lean ====
section
/-! DEFINITION. The built-in kernels of entry 0 (R111), encoded by R113 and R115 from the listings of the instruction
reference for d = 128. The builds for d = 64 and d = 256 differ in the number of chunk steps (log): d = 256 keeps the
eight query chunks in program data and reloads each pair before its `dot.qk`. -/

namespace Sys2Proof.Machine

/-- The exact kernel for d = 64 (R111). -/
def kernExact64 : List W64 :=
  [0x4B0C000000000000, 0x4B0C400000000001, 0x3101C00000000100, 0x2C024700000001D0, 0x3301C0000000000F, 0x1B01C70000000002,
   0x3101C700000000FC, 0x2C00C700000001D0, 0x1100C30000000001, 0x5C00008000000085, 0x4200400000000001, 0x2C018100000000A9,
   0x2500460000000005, 0x0110000000000037, 0x4200010000000000, 0x2500860000000000, 0x01A0000000000034, 0x2C01410000000220,
   0x110145000000001F, 0x1D01450000000005, 0x2C01C1000000002C, 0x2700C70000000000, 0x1600890000000000, 0x2201000000000000] ++
  [0x1B02040000000008, 0x1602080800000000, 0x400D012000000000, 0x400D412000000001, 0x480E30D000000001, 0x480E31D400000000,
   0x503E000000000000, 0x513E000000000000, 0x523E000000000000, 0x5408388400000000, 0x550DB88000000021, 0x5800360000000000,
   0x410D012000000000, 0x410D412000000001, 0x490E36D000000000, 0x490E76D400000000, 0x1101040000000001, 0x2801041400000000,
   0x0140000000000018, 0x1100820000000001, 0x2801020C00000000, 0x0140000000000017, 0x5901610000000000, 0x0150000000000032] ++
  [0x4201818000000086, 0x016000000000000A, 0x5C00018000000084, 0x010000000000000A, 0x5408308400000001, 0x5C00018000000084,
   0x010000000000000A, 0x5D00000000000000, 0x0600000000000000]

/-- The selective kernel for d = 64 (R111). -/
def kernSelect64 : List W64 :=
  [0x4B0C000000000000, 0x4B0C400000000001, 0x3101C00000000100, 0x2C024700000001D0, 0x3301C0000000000F, 0x1B01C70000000002,
   0x3101C700000000FC, 0x2C00C700000001D0, 0x1100C30000000001, 0x5C00008000000085, 0x7001F00000000040, 0x2700470000000000,
   0x011000000000000A, 0x7101C00000000000, 0x4200400000000001, 0x2C018100000000A9, 0x2500460000000005, 0x0110000000000014,
   0x0400000000000016, 0x010000000000000E, 0x5D00000000000000, 0x0600000000000000, 0x4200010000000000, 0x2500860000000000] ++
  [0x01A000000000003C, 0x2C01410000000220, 0x110145000000001F, 0x1D01450000000005, 0x2C01C1000000002C, 0x2700C70000000000,
   0x1600890000000000, 0x2201000000000000, 0x1B02040000000008, 0x1602080800000000, 0x400D012000000000, 0x400D412000000001,
   0x480E30D000000001, 0x480E31D400000000, 0x503E000000000000, 0x513E000000000000, 0x523E000000000000, 0x5408388400000000,
   0x550DB88000000021, 0x5800360000000000, 0x410D012000000000, 0x410D412000000001, 0x490E36D000000000, 0x490E76D400000000] ++
  [0x1101040000000001, 0x2801041400000000, 0x0140000000000020, 0x1100820000000001, 0x2801020C00000000, 0x014000000000001F,
   0x5901610000000000, 0x015000000000003A, 0x4201818000000086, 0x0560000000000000, 0x5C00018000000084, 0x0500000000000000,
   0x5408308400000001, 0x5C00018000000084, 0x0500000000000000]

/-- The exact kernel for d = 128 (R111, listing of the chapter). -/
def kernExact128 : List W64 :=
  [0x4B0C000000000000, 0x4B0C400000000001, 0x4B0C800000000002, 0x4B0CC00000000003, 0x3101C00000000100, 0x2C024700000001D0,
   0x3301C0000000000F, 0x1B01C70000000002, 0x3101C700000000FC, 0x2C00C700000001D0, 0x1100C30000000001, 0x5C00008000000085,
   0x4200400000000001, 0x2C018100000000A9, 0x2500460000000005, 0x0110000000000041, 0x4200010000000000, 0x2500860000000000,
   0x01A000000000003E, 0x2C01410000000220, 0x110145000000001F, 0x1D01450000000005, 0x2C01C1000000002C, 0x2700C70000000000] ++
  [0x1600890000000000, 0x2201000000000000, 0x1B02040000000008, 0x1602080800000000, 0x400D012000000000, 0x400D412000000001,
   0x480E30D000000001, 0x400D012000000002, 0x480E31D400000000, 0x400D412000000003, 0x480E32D000000000, 0x480E33D400000000,
   0x503E000000000000, 0x513E000000000000, 0x523E000000000000, 0x5408388400000000, 0x550DB88000000021, 0x5800360000000000,
   0x410D012000000000, 0x410D412000000001, 0x490E36D000000000, 0x410D012000000002, 0x490E76D400000000, 0x410D412000000003] ++
  [0x490EB6D000000000, 0x490EF6D400000000, 0x1101040000000001, 0x2801041400000000, 0x014000000000001A, 0x1100820000000001,
   0x2801020C00000000, 0x0140000000000019, 0x5901610000000000, 0x015000000000003C, 0x4201818000000086, 0x016000000000000C,
   0x5C00018000000084, 0x010000000000000C, 0x5408308400000001, 0x5C00018000000084, 0x010000000000000C, 0x5D00000000000000,
   0x0600000000000000]

/-- The selective kernel for d = 128 (R111). -/
def kernSelect128 : List W64 :=
  [0x4B0C000000000000, 0x4B0C400000000001, 0x4B0C800000000002, 0x4B0CC00000000003, 0x3101C00000000100, 0x2C024700000001D0,
   0x3301C0000000000F, 0x1B01C70000000002, 0x3101C700000000FC, 0x2C00C700000001D0, 0x1100C30000000001, 0x5C00008000000085,
   0x7001F00000000040, 0x2700470000000000, 0x011000000000000C, 0x7101C00000000000, 0x4200400000000001, 0x2C018100000000A9,
   0x2500460000000005, 0x0110000000000016, 0x0400000000000018, 0x0100000000000010, 0x5D00000000000000, 0x0600000000000000] ++
  [0x4200010000000000, 0x2500860000000000, 0x01A0000000000046, 0x2C01410000000220, 0x110145000000001F, 0x1D01450000000005,
   0x2C01C1000000002C, 0x2700C70000000000, 0x1600890000000000, 0x2201000000000000, 0x1B02040000000008, 0x1602080800000000,
   0x400D012000000000, 0x400D412000000001, 0x480E30D000000001, 0x400D012000000002, 0x480E31D400000000, 0x400D412000000003,
   0x480E32D000000000, 0x480E33D400000000, 0x503E000000000000, 0x513E000000000000, 0x523E000000000000, 0x5408388400000000] ++
  [0x550DB88000000021, 0x5800360000000000, 0x410D012000000000, 0x410D412000000001, 0x490E36D000000000, 0x410D012000000002,
   0x490E76D400000000, 0x410D412000000003, 0x490EB6D000000000, 0x490EF6D400000000, 0x1101040000000001, 0x2801041400000000,
   0x0140000000000022, 0x1100820000000001, 0x2801020C00000000, 0x0140000000000021, 0x5901610000000000, 0x0150000000000044,
   0x4201818000000086, 0x0560000000000000, 0x5C00018000000084, 0x0500000000000000, 0x5408308400000001, 0x5C00018000000084] ++
  [0x0500000000000000]

/-- The exact kernel for d = 256 (R111). -/
def kernExact256 : List W64 :=
  [0x4B0C000000000000, 0x4B0C400000000001, 0x4B0C800000000002, 0x4B0CC00000000003, 0x4B0D000000000004, 0x4B0D400000000005,
   0x4B0D800000000006, 0x4B0DC00000000007, 0x430000C075000001, 0x430000C47D000001, 0x430000C885000001, 0x430000CC8D000001,
   0x430000D095000001, 0x430000D49D000001, 0x430000D8A5000001, 0x430000DCAD000001, 0x330280000000000E, 0x2C028A0000000040,
   0x2501CA0000000002, 0x3101C00000000100, 0x2C024700000001D0, 0x3301C0000000000F, 0x1B01C70000000002, 0x3101C700000000FC] ++
  [0x2C00C700000001D0, 0x1100C30000000001, 0x5C00008000000085, 0x4200400000000001, 0x2C018100000000A9, 0x2500460000000005,
   0x0110000000000080, 0x4200010000000000, 0x2500860000000000, 0x01A000000000006D, 0x2C01410000000220, 0x110145000000001F,
   0x1D01450000000005, 0x2C01C1000000002C, 0x2700C70000000000, 0x1600890000000000, 0x2201000000000000, 0x1B02040000000008,
   0x1602080800000000, 0x437C000075000004, 0x43FC000075000002, 0x437C40007D000004, 0x43FC40007D000002, 0x400D012000000000] ++
  [0x400D412000000001, 0x480E30D000000001, 0x480E31D400000000, 0x437C000085000004, 0x43FC000085000002, 0x437C40008D000004,
   0x43FC40008D000002, 0x400D012000000002, 0x400D412000000003, 0x480E30D000000000, 0x480E31D400000000, 0x437C000095000004,
   0x43FC000095000002, 0x437C40009D000004, 0x43FC40009D000002, 0x400D012000000004, 0x400D412000000005, 0x480E30D000000000,
   0x480E31D400000000, 0x437C0000A5000004, 0x43FC0000A5000002, 0x437C4000AD000004, 0x43FC4000AD000002, 0x400D012000000006] ++
  [0x400D412000000007, 0x480E30D000000000, 0x480E31D400000000, 0x503E000000000000, 0x513E000000000000, 0x523E000000000000,
   0x5408388400000000, 0x550DB88000000021, 0x5800360000000000, 0x410D012000000000, 0x410D412000000001, 0x490E36D000000000,
   0x490E76D400000000, 0x410D012000000002, 0x410D412000000003, 0x490EB6D000000000, 0x490EF6D400000000, 0x410D012000000004,
   0x410D412000000005, 0x490E36D000000000, 0x490E76D400000000, 0x410D012000000006, 0x410D412000000007, 0x490EB6D000000000] ++
  [0x490EF6D400000000, 0x1101040000000001, 0x2801041400000000, 0x0140000000000029, 0x1100820000000001, 0x2801020C00000000,
   0x0140000000000028, 0x5901610000000000, 0x015000000000006B, 0x4201818000000086, 0x016000000000001B, 0x5C00018000000084,
   0x010000000000001B, 0x437C000075000004, 0x43FC000075000002, 0x437C40007D000004, 0x43FC40007D000002, 0x437C800085000004,
   0x43FC800085000002, 0x437CC0008D000004, 0x43FCC0008D000002, 0x437D000095000004, 0x43FD000095000002, 0x437D40009D000004] ++
  [0x43FD40009D000002, 0x437D8000A5000004, 0x43FD8000A5000002, 0x437DC000AD000004, 0x43FDC000AD000002, 0x5408308400000001,
   0x5C00018000000084, 0x010000000000001B, 0x5D00000000000000, 0x0600000000000000]

/-- The selective kernel for d = 256 (R111). -/
def kernSelect256 : List W64 :=
  [0x4B0C000000000000, 0x4B0C400000000001, 0x4B0C800000000002, 0x4B0CC00000000003, 0x4B0D000000000004, 0x4B0D400000000005,
   0x4B0D800000000006, 0x4B0DC00000000007, 0x430000C075000001, 0x430000C47D000001, 0x430000C885000001, 0x430000CC8D000001,
   0x430000D095000001, 0x430000D49D000001, 0x430000D8A5000001, 0x430000DCAD000001, 0x330280000000000E, 0x2C028A0000000040,
   0x2501CA0000000002, 0x3101C00000000100, 0x2C024700000001D0, 0x3301C0000000000F, 0x1B01C70000000002, 0x3101C700000000FC] ++
  [0x2C00C700000001D0, 0x1100C30000000001, 0x5C00008000000085, 0x7001F00000000040, 0x2700470000000000, 0x011000000000001B,
   0x7101C00000000000, 0x4200400000000001, 0x2C018100000000A9, 0x2500460000000005, 0x0110000000000025, 0x0400000000000027,
   0x010000000000001F, 0x5D00000000000000, 0x0600000000000000, 0x4200010000000000, 0x2500860000000000, 0x01A0000000000075,
   0x2C01410000000220, 0x110145000000001F, 0x1D01450000000005, 0x2C01C1000000002C, 0x2700C70000000000, 0x1600890000000000] ++
  [0x2201000000000000, 0x1B02040000000008, 0x1602080800000000, 0x437C000075000004, 0x43FC000075000002, 0x437C40007D000004,
   0x43FC40007D000002, 0x400D012000000000, 0x400D412000000001, 0x480E30D000000001, 0x480E31D400000000, 0x437C000085000004,
   0x43FC000085000002, 0x437C40008D000004, 0x43FC40008D000002, 0x400D012000000002, 0x400D412000000003, 0x480E30D000000000,
   0x480E31D400000000, 0x437C000095000004, 0x43FC000095000002, 0x437C40009D000004, 0x43FC40009D000002, 0x400D012000000004] ++
  [0x400D412000000005, 0x480E30D000000000, 0x480E31D400000000, 0x437C0000A5000004, 0x43FC0000A5000002, 0x437C4000AD000004,
   0x43FC4000AD000002, 0x400D012000000006, 0x400D412000000007, 0x480E30D000000000, 0x480E31D400000000, 0x503E000000000000,
   0x513E000000000000, 0x523E000000000000, 0x5408388400000000, 0x550DB88000000021, 0x5800360000000000, 0x410D012000000000,
   0x410D412000000001, 0x490E36D000000000, 0x490E76D400000000, 0x410D012000000002, 0x410D412000000003, 0x490EB6D000000000] ++
  [0x490EF6D400000000, 0x410D012000000004, 0x410D412000000005, 0x490E36D000000000, 0x490E76D400000000, 0x410D012000000006,
   0x410D412000000007, 0x490EB6D000000000, 0x490EF6D400000000, 0x1101040000000001, 0x2801041400000000, 0x0140000000000031,
   0x1100820000000001, 0x2801020C00000000, 0x0140000000000030, 0x5901610000000000, 0x0150000000000073, 0x4201818000000086,
   0x0560000000000000, 0x5C00018000000084, 0x0500000000000000, 0x437C000075000004, 0x43FC000075000002, 0x437C40007D000004] ++
  [0x43FC40007D000002, 0x437C800085000004, 0x43FC800085000002, 0x437CC0008D000004, 0x43FCC0008D000002, 0x437D000095000004,
   0x43FD000095000002, 0x437D40009D000004, 0x43FD40009D000002, 0x437D8000A5000004, 0x43FD8000A5000002, 0x437DC000AD000004,
   0x43FDC000AD000002, 0x5408308400000001, 0x5C00018000000084, 0x0500000000000000]

/-- The kernel of entry 0 for a head dimension: exact for K = 0, selective otherwise (R111). -/
def kernelOf (d k : Nat) : List W64 :=
  if k = 0 then (if d = 64 then kernExact64 else if d = 128 then kernExact128 else kernExact256)
  else if d = 64 then kernSelect64 else if d = 128 then kernSelect128 else kernSelect256

end Sys2Proof.Machine
end

