-- ==== Sys2Proof/Machine/Flags.lean ====
section
/-! DEFINITION. Partial records with their counts, bounds and FLAGS (R49 to R53), the manifest and skip
contributions (R56, R57), and the sweep status word (R338). -/

namespace Sys2Proof.Machine

/-! ### Records (R49, R50) -/

/-- FLAGS bits (R50). -/
def flSuspect : Nat := 1
def flNonfinite : Nat := 2
def flUnbounded : Nat := 4
def flLate : Nat := 8
def flRetried : Nat := 16

/-- FLAGS with a bit set. -/
def flagSet (f bit : Nat) : Nat := f ||| bit

/-- Whether FLAGS has a bit. -/
def flagHas (f bit : Nat) : Bool := decide (f &&& bit ≠ 0)

/-- The record of a query that has seen nothing (R40, R51). -/
def emptyRec (qpos qid sweep seq part member : Nat) (twin late : Bool) (d : Nat) : Partial :=
  { m := negInf, l := 0, lMan := 0, lSkip := 0, eL := 0, eO := 0, nExact := 0, nMan := 0, nDrop := 0, nSel := 0,
    nSkip := 0, nTwin := 0, nSuspect := 0, flags := if late then flLate else 0, qpos := qpos, qid := qid,
    sweep := sweep, seq := seq, part := part, twinAttempt := twin, merged := false, member := member,
    o := List.replicate d 0 }

/-- The SRC word of a record. -/
def srcWord (r : Partial) : Nat :=
  r.part % 1024 + (if r.twinAttempt then 1024 else 0) + (if r.merged then 2048 else 0) + r.member % 1024 * 65536

/-- The bytes of a record: 128 + 4d (R49). -/
def recBytes (r : Partial) : List Byte :=
  leBytes 4 r.m.toNat ++ leBytes 4 r.l.toNat ++ leBytes 4 r.lMan.toNat ++ leBytes 4 r.lSkip.toNat
    ++ leBytes 4 r.eL.toNat ++ leBytes 4 r.eO.toNat ++ leBytes 4 r.nExact ++ leBytes 4 r.nMan ++ leBytes 4 r.nDrop
    ++ leBytes 4 r.nSel ++ leBytes 4 r.nSkip ++ leBytes 4 r.nTwin ++ leBytes 4 r.nSuspect ++ leBytes 4 r.flags
    ++ leBytes 4 r.qpos ++ leBytes 4 r.qid ++ leBytes 4 r.sweep ++ leBytes 4 r.seq ++ leBytes 4 (srcWord r)
    ++ List.replicate 0x34 0 ++ r.o.flatMap (fun x => leBytes 4 x.toNat)

/-- A record read from bytes (R49). -/
def recOf (b : List Byte) (d : Nat) : Partial :=
  let f (o : Nat) : F32 := BitVec.ofNat 32 (dsc b o 4)
  let src := dsc b 0x48 4
  { m := f 0, l := f 4, lMan := f 8, lSkip := f 0xC, eL := f 0x10, eO := f 0x14, nExact := dsc b 0x18 4,
    nMan := dsc b 0x1C 4, nDrop := dsc b 0x20 4, nSel := dsc b 0x24 4, nSkip := dsc b 0x28 4, nTwin := dsc b 0x2C 4,
    nSuspect := dsc b 0x30 4, flags := dsc b 0x34 4, qpos := dsc b 0x38 4, qid := dsc b 0x3C 4,
    sweep := dsc b 0x40 4, seq := dsc b 0x44 4, part := src % 1024, twinAttempt := src / 1024 % 2 == 1,
    merged := src / 2048 % 2 == 1, member := src / 65536 % 1024,
    o := (List.range d).map (fun i => f (0x80 + 4 * i)) }

/-! ### Upward arithmetic (R52, R56) -/

/-- 1 + 2^-22. -/
def oneUlp : Num := .fin false (2 ^ 22 + 1) (-22)

/-- up(x × (1 + 2^-22)). -/
def upScale (x : F32) : F32 := toF32 .up ((num x).mul oneUlp)

/-- up(a × x + b × y); +∞ in x or y gives +∞. -/
def upBound (a x b y : F32) : F32 :=
  if x = posInf ∨ y = posInf then posInf
  else toF32 .up (((num a).mul (num x)).add ((num b).mul (num y)))

/-- a × x + b × y to nearest, each operation rounded. -/
def lin (a x b y : F32) : F32 := fAdd .even (fMul .even a x) (fMul .even b y)

/-- up(x × y) and up(x + y). -/
def upMul (x y : F32) : F32 := fMul .up x y
def upAdd (x y : F32) : F32 := fAdd .up x y

/-- Two records of one SWEEP, SEQ and QID over disjoint positions merged at part `here` (R52). -/
def mergeRec (here : Nat) (x y : Partial) : Partial :=
  let m := fMax x.m y.m
  let a := expSmx (fDiff x.m m)
  let b := expSmx (fDiff y.m m)
  let au := upScale a
  let bu := upScale b
  { m := m, l := lin a x.l b y.l, lMan := upBound au x.lMan bu y.lMan, lSkip := upBound au x.lSkip bu y.lSkip,
    eL := upBound au x.eL bu y.eL, eO := upBound au x.eO bu y.eO, nExact := x.nExact + y.nExact,
    nMan := x.nMan + y.nMan, nDrop := x.nDrop + y.nDrop, nSel := x.nSel + y.nSel, nSkip := x.nSkip + y.nSkip,
    nTwin := x.nTwin + y.nTwin, nSuspect := x.nSuspect + y.nSuspect, flags := x.flags ||| y.flags,
    qpos := x.qpos, qid := x.qid, sweep := x.sweep, seq := x.seq, part := here,
    twinAttempt := x.twinAttempt || y.twinAttempt, merged := true, member := 0,
    o := x.o.zipWith (fun p q => lin a p b q) y.o }

/-- Records of one query merged in order; a single record stays as it is. -/
def mergeAll (here : Nat) : List Partial → Option Partial
  | [] => none
  | r :: rs => some (rs.foldl (mergeRec here) r)

/-- Lists of records, one per query, merged query by query in order. -/
def mergeRows (here : Nat) : List (List Partial) → List Partial
  | [] => []
  | r :: rs => rs.foldl (fun acc x => acc.zipWith (mergeRec here) x) r

/-! ### Manifest and skip contributions (R56, R57) -/

/-- Bound and value state of one query while a berth is folded in (R56). -/
structure Fold where
  m : F32
  l : F32
  lMan : F32 := 0
  lSkip : F32 := 0
  eL : F32 := 0
  eO : F32 := 0
  o : List F32 := []
deriving DecidableEq, Repr

/-- A fold rescaled to a new maximum, as R52 rescales (R56). -/
def Fold.rescale (f : Fold) (m : F32) : Fold :=
  let a := expSmx (fDiff f.m m)
  let au := upScale a
  { m := m, l := fMul .even a f.l, lMan := upBound au f.lMan 0 0, lSkip := upBound au f.lSkip 0 0,
    eL := upBound au f.eL 0 0, eO := upBound au f.eO 0 0, o := f.o.map (fMul .even a) }

/-- Square norm summed upward, then its root rounded upward. -/
def normUp (xs : List Num) : F32 :=
  fSqrt .up (xs.foldl (fun acc x => toF32 .up ((num acc).add (x.mul x))) 0)

/-- A dot product formed in FP32 in the arrangement `k` (R37). -/
def dotF (k : Nat) (xs ys : List Num) : F32 := fSum k (xs.zipWith Num.mul ys)

/-- The manifest contribution of `n` visible positions (R56): query `q`, norm, scale, and the head's mean key,
mean value, radii and key-norm maximum. -/
def Fold.manifest (f : Fold) (n : Nat) (c qn : F32) (q kbar vbar : List Num) (rho sigma kap : F32) : Fold :=
  let sHat := fMul .even c (dotF 1 q kbar)
  let delta := upMul (upMul c qn) rho
  let m := fMax f.m sHat
  let g := f.rescale m
  let w := fMul .even (fNat .even n) (expSmx (fDiff sHat m))
  let wp := upScale w
  let wup := fMin (upMul wp (expUp delta))
    (upMul (fNat .up n) (expUp (fAdd .up (upMul (upMul c qn) kap) (toF32 .even (num m).neg))))
  let dw := fMax (fSub .up wup w)
    (upMul wp (fSub .up 0x3F800000 (expDown (toF32 .even (num delta).neg))))
  let vn := normUp vbar
  { m := m, l := fAdd .even g.l w, lMan := fAdd .even g.lMan w, lSkip := g.lSkip, eL := upAdd g.eL dw,
    eO := upAdd g.eO (upAdd (upMul wup sigma) (upMul dw vn)),
    o := g.o.zipWith (fun x v => fAdd .even x (toF32 .even ((num w).mul v))) vbar }

/-- The skip contribution of `n` visible positions (R57): M set to c‖q‖κ when it is −∞, L_SKIP raised. -/
def Fold.skip (f : Fold) (n : Nat) (c qn kap : F32) : Fold :=
  let top := upMul (upMul c qn) kap
  let m := if f.m = negInf then top else f.m
  { f with m := m, lSkip := upAdd f.lSkip (upMul (fNat .up n) (expUp (fAdd .up top (toF32 .even (num m).neg)))) }

/-- A record with `n` positions skipped (R57). -/
def skipInto (r : Partial) (n : Nat) (c qn kap : F32) : Partial :=
  if n = 0 then r
  else
    let f := Fold.skip { m := r.m, l := r.l, lSkip := r.lSkip } n c qn kap
    { r with m := f.m, lSkip := f.lSkip, nSkip := r.nSkip + n,
             flags := if f.lSkip = posInf then flagSet r.flags flUnbounded else r.flags }

/-- The skip record of a member without a known layer ceiling (R51, R69). -/
def unknownSkip (r : Partial) (n : Nat) : Partial :=
  { r with lSkip := posInf, nSkip := n, flags := flagSet r.flags flUnbounded }

/-! ### Status word (R338) -/

/-- A status word: STATE [3:0], HALF [4], SUSPECT [5], APPROX [6], SKIPPED [7], PUB [15:8], SEQ [31:16],
FILLED [47:32], MEMBERS [63:48] (R338). -/
def statusWord (st : Nat) (half susp approx skipped : Bool) (pub seq filled members : Nat) : W64 :=
  let b (x : Bool) (i : Nat) : Nat := if x then 2 ^ i else 0
  BitVec.ofNat 64 (st % 16 + b half 4 + b susp 5 + b approx 6 + b skipped 7 + pub % 256 * 2 ^ 8
    + seq % 2 ^ 16 * 2 ^ 16 + filled % 2 ^ 16 * 2 ^ 32 + members % 2 ^ 16 * 2 ^ 48)

end Sys2Proof.Machine
end

