-- ==== Sys2Proof/Machine/Lines.lean ====
section
/-! DEFINITION. The line path: Reed-Solomon check bytes (R150, R206), line codes (R197 to R199), encryption and
tags (R203 to R205), the read path (R207 to R210), and manifests (R150 to R152). -/

namespace Sys2Proof.Machine

/-! ### GF(2^8) and Reed-Solomon (R206) -/

/-- Multiplication by x modulo x^8 + x^4 + x^3 + x^2 + 1. -/
def xtime (a : Nat) : Nat := if 256 ≤ 2 * a then (2 * a) ^^^ 0x11D else 2 * a

/-- Product in GF(2^8), over the low eight bits of `b`. -/
def gmulN : Nat → Nat → Nat → Nat → Nat
  | 0, _, _, acc => acc
  | n + 1, a, b, acc => gmulN n (xtime a) (b / 2) (if b % 2 = 1 then acc ^^^ a else acc)
def gmul (a b : Nat) : Nat := gmulN 8 a b 0

/-- α^n. -/
def gexp : Nat → Nat
  | 0 => 1
  | n + 1 => xtime (gexp n)

/-- The inverse a^254 by squaring. -/
def ginv (a : Nat) : Nat :=
  let a2 := gmul a a
  let a4 := gmul a2 a2
  let a8 := gmul a4 a4
  let a16 := gmul a8 a8
  let a32 := gmul a16 a16
  let a64 := gmul a32 a32
  let a128 := gmul a64 a64
  gmul a128 (gmul a64 (gmul a32 (gmul a16 (gmul a8 (gmul a4 a2)))))

/-- Sum of polynomials, constant term first. -/
def padd : List Nat → List Nat → List Nat
  | [], b => b
  | a, [] => a
  | x :: a, y :: b => (x ^^^ y) :: padd a b

/-- Product by a constant, and the value at a point, constant term first. -/
def pscale (c : Nat) (p : List Nat) : List Nat := p.map (gmul c)
def peval (p : List Nat) (x : Nat) : Nat := p.foldr (fun a acc => a ^^^ gmul x acc) 0

/-- Product of polynomials. -/
def pmul : List Nat → List Nat → List Nat
  | [], _ => []
  | a :: as, b => padd (pscale a b) (0 :: pmul as b)

/-- The generator with roots α^0 to α^(n−1), constant term first. -/
def rsGen : Nat → List Nat
  | 0 => [1]
  | n + 1 => pmul (rsGen n) [gexp n, 1]

/-- `n` check bytes of a sequence whose first byte is the highest coefficient. -/
def rsCheck (n : Nat) (data : List Nat) : List Nat :=
  let g := (rsGen n).dropLast.reverse
  data.foldl (fun r d =>
    let fb := d ^^^ r.headD 0
    ((r.drop 1) ++ [0]).zipWith (fun a c => a ^^^ gmul fb c) g) (List.replicate n 0)

/-- Syndromes S_0 to S_(n−1) of a codeword. -/
def syndromes (n : Nat) (cw : List Nat) : List Nat :=
  (List.range n).map (fun j => cw.foldl (fun acc c => gmul acc (gexp j) ^^^ c) 0)

/-- Berlekamp's recursion over the syndromes: locator, previous locator, length, shift, previous discrepancy. -/
def berlekamp (syn : List Nat) : Nat → Nat → List Nat → List Nat → Nat → Nat → Nat → List Nat × Nat
  | 0, _, c, _, len, _, _ => (c, len)
  | k + 1, i, c, b, len, m, bd =>
    let disc := (List.range len).foldl
      (fun acc q => acc ^^^ gmul (nthD 0 c (q + 1)) (nthD 0 syn (i - 1 - q))) (nthD 0 syn i)
    if disc = 0 then berlekamp syn k (i + 1) c b len (m + 1) bd
    else
      let c' := padd c (List.replicate m 0 ++ pscale (gmul disc (ginv bd)) b)
      if 2 * len ≤ i then berlekamp syn k (i + 1) c' c (i + 1 - len) 1 disc
      else berlekamp syn k (i + 1) c' b len (m + 1) bd

/-- The formal derivative of a polynomial over GF(2^8). -/
def pderiv (p : List Nat) : List Nat := (p.drop 1).mapIdx (fun i a => if i % 2 = 0 then a else 0)

/-- A codeword with up to three byte errors corrected, and how many there were; none where it cannot. -/
def rsDecode (n : Nat) (cw : List Nat) : Option (List Nat × Nat) :=
  let syn := syndromes n cw
  if syn.all (· == 0) then some (cw, 0)
  else
    let (loc, len) := berlekamp syn n 0 [1] [1] 0 1 1
    let sz := cw.length
    let omega := (pmul syn loc).take n
    let der := pderiv loc
    let at_ (p : Nat) : Nat := gexp ((255 - (sz - 1 - p) % 255) % 255)
    let bad := (List.range sz).filter (fun p => peval loc (at_ p) == 0)
    if len ≤ 3 ∧ bad.length = len then
      let fixed := cw.mapIdx (fun p c =>
        if bad.contains p then
          let y := at_ p
          c ^^^ gmul (ginv y) (gmul (peval omega y) (ginv (peval der y)))
        else c)
      if (syndromes n fixed).all (· == 0) then some (fixed, len) else none
    else none

/-! ### Geometry of a payload (R149) -/

/-- The geometry of an object's berths: format, KV heads, head dimension, positions per berth. -/
structure Geo where
  fmt : Nat
  nkv : Nat
  d : Nat
  p : Nat
deriving DecidableEq, Repr

/-- Bytes of one key or value, and of one position record. -/
def Geo.e (g : Geo) : Nat := match g.fmt with | 0 => g.d / 2 + g.d / 32 | 1 => g.d + g.d / 32 | _ => 2 * g.d
def Geo.rp (g : Geo) : Nat := 2 * g.nkv * g.e

/-- The geometry of an object. -/
def Obj.geo (o : Obj) : Geo := ⟨o.fmt, o.nkv, o.d, o.p⟩

/-- Element code `i` and its block's scale code of the key or value stored from offset `o`. -/
def Geo.code (g : Geo) (b : List Byte) (o i : Nat) : Nat × Nat :=
  match g.fmt with
  | 0 => let x := (nthD 0 b (o + i / 2)).toNat
    (if i % 2 = 0 then x % 16 else x / 16, (nthD 0 b (o + g.d / 2 + i / 32)).toNat)
  | 1 => ((nthD 0 b (o + i)).toNat, (nthD 0 b (o + g.d + i / 32)).toNat)
  | _ => ((nthD 0 b (o + 2 * i)).toNat + 256 * (nthD 0 b (o + 2 * i + 1)).toNat, 0)

/-- Payload offset of the key of a head at a position, or of its value. -/
def Geo.off (g : Geo) (j h : Nat) (val : Bool) : Nat := j * g.rp + 2 * h * g.e + (if val then g.e else 0)

/-- The decoded elements of a key or value. -/
def Geo.vec (g : Geo) (b : List Byte) (j h : Nat) (val : Bool) : List Num :=
  (List.range g.d).map (fun i => let c := g.code b (g.off j h val) i; elemNum g.fmt c.1 c.2)

/-! ### Line codes (R197 to R199) -/

/-- Whether a payload offset starts an element DELTA4 codes (R198). -/
def Geo.elemAt (g : Geo) (o : Nat) : Bool :=
  match g.fmt with
  | 1 => decide (o < g.p * g.rp) && decide (o % g.e < g.d)
  | 2 => decide (o < g.p * g.rp) && decide (o % 2 = 0)
  | _ => false

/-- Offsets of the elements of line `i`. -/
def Geo.elems (g : Geo) (i : Nat) : List Nat := ((List.range 256).map (256 * i + ·)).filter g.elemAt

/-- The element code at an offset, its order value, and the code of an order value (R198). -/
def Geo.elemCode (g : Geo) (b : List Byte) (o : Nat) : Nat :=
  if g.fmt = 1 then (nthD 0 b o).toNat else (nthD 0 b o).toNat + 256 * (nthD 0 b (o + 1)).toNat
def Geo.half (g : Geo) : Nat := if g.fmt = 1 then 128 else 2 ^ 15
def Geo.ord (g : Geo) (x : Nat) : Int := if x < g.half then x else -((x - g.half : Nat) : Int)
def Geo.unord (g : Geo) (x : Int) : Nat := if 0 ≤ x then x.toNat % g.half else g.half + (-x).toNat % g.half

/-- A NaN, an infinity or a negative zero. -/
def Geo.special (g : Geo) (x : Nat) : Bool :=
  x = g.half || (if g.fmt = 1 then x % 128 = 127 else x / 128 % 256 = 255)

/-- Offset of the scale byte of an MXFP8 element. -/
def Geo.scaleOff (g : Geo) (o : Nat) : Nat := o / g.e * g.e + g.d + o % g.e / 32

/-- The 4-bit residuals of a line under DELTA4 with their SHIFT, or none where R198 does not allow the code. -/
def delta4 (g : Geo) (pay base : List Byte) (i : Nat) : Option (Int × List Nat) :=
  if g.fmt = 0 then none
  else
    let es := g.elems i
    let inElem (o : Nat) : Bool := if g.fmt = 1 then es.contains o else es.contains (o - o % 2)
    let rest := (List.range 256).all (fun b => inElem (256 * i + b) || nthD 0 pay (256 * i + b) == nthD 0 base (256 * i + b))
    let scales := g.fmt != 1 || es.all (fun o => nthD 0 pay (g.scaleOff o) == nthD 0 base (g.scaleOff o))
    let clean := es.all (fun o => !g.special (g.elemCode pay o) && !g.special (g.elemCode base o))
    let ds := es.map (fun o => g.ord (g.elemCode pay o) - g.ord (g.elemCode base o))
    match ds.max?, ds.min? with
    | some hi, some lo =>
      let a := hi - 7
      let b := lo + 8
      let sh := if 0 < a then a else if b < 0 then b else 0
      if rest && scales && clean && decide (hi - lo ≤ 15) && decide (-128 ≤ sh) && decide (sh ≤ 127) then
        some (sh, ds.map (fun x => ((x - sh) % 16).toNat))
      else none
    | _, _ => none

/-- Nibbles packed two to a byte, low nibble first, padded to `n` bytes. -/
def packNibbles : List Nat → List Byte
  | [] => []
  | [a] => [BitVec.ofNat 8 a]
  | a :: b :: t => BitVec.ofNat 8 (a + 16 * b) :: packNibbles t

/-- Stored length of a DELTA4 line in units of 16 bytes (R197). -/
def Geo.deltaLen (g : Geo) (i : Nat) : Nat := ceilDiv (g.elems i).length 32

/-- The code, SHIFT and stored form a line is written with: the first that applies of ZERO, SAME, DELTA4, EXACT. -/
def codeLine (g : Geo) (pay : List Byte) (base : Option (List Byte)) (i : Nat) : Nat × Int × List Byte :=
  let plain := bytesAt pay (256 * i) 256
  if plain.all (· == 0) then (2, 0, [])
  else
    match base with
    | none => (0, 0, plain)
    | some b =>
      if plain = bytesAt b (256 * i) 256 then (1, 0, [])
      else
        match delta4 g pay b i with
        | some (sh, ns) => (3, sh, padTo 0 (16 * g.deltaLen i) (packNibbles ns))
        | none => (0, 0, plain)

/-- A line expanded from its stored form (R197, R198). -/
def expandLine (g : Geo) (i lcode : Nat) (sh : Int) (stored base : List Byte) : List Byte :=
  match lcode with
  | 0 => padTo 0 256 stored
  | 1 => base
  | 2 => List.replicate 256 0
  | _ =>
    let es := g.elems i
    (es.zipIdx).foldl (fun line (o, k) =>
      let nib := (nthD 0 stored (k / 2)).toNat / (if k % 2 = 0 then 1 else 16) % 16
      let n : Int := if nib < 8 then nib else (nib : Int) - 16
      let x := g.unord (g.ord (if g.fmt = 1 then (nthD 0 base (o % 256)).toNat
        else (nthD 0 base (o % 256)).toNat + 256 * (nthD 0 base (o % 256 + 1)).toNat) + sh + n)
      if g.fmt = 1 then setNth line (o % 256) (BitVec.ofNat 8 x)
      else setNth (setNth line (o % 256) (BitVec.ofNat 8 x)) (o % 256 + 1) (BitVec.ofNat 8 (x / 256))) base

/-! ### Encryption, tag and check bits (R204 to R206) -/

/-- The tweak of a line or manifest (R204). -/
def tweak (k : BerthKey) (line ver : Nat) (man : Bool) : BitVec 128 :=
  BitVec.ofNat 128 (k.object % 2 ^ 32 + k.layer % 2 ^ 16 * 2 ^ 32 + k.berth % 2 ^ 25 * 2 ^ 48 + line % 256 * 2 ^ 73
    + ver % 2 ^ 16 * 2 ^ 81 + (if man then 2 ^ 97 else 0))

/-- Encryption and decryption of one data unit. -/
def xtsEnc (key : BitVec 256) (tw : BitVec 128) (b : List Byte) : List Byte :=
  List.ofFn (Config.xts key tw b.length (fun i => nthD 0 b i))
def xtsDec (key : BitVec 256) (tw : BitVec 128) (b : List Byte) : List Byte :=
  List.ofFn ((Config.xts key tw b.length).symm (fun i => nthD 0 b i))

/-- Side-record bytes 0 to 3 of a line. -/
def sideHead (l : StoredLine) (poison : Bool) : List Byte :=
  leBytes 4 (l.lcode % 4 + l.len % 32 * 4 + (if poison then 128 else 0) + (l.shift % 256).toNat * 256
    + l.ver % 2 ^ 16 * 2 ^ 16)

/-- The tag of a line (R205). -/
def tagOf (key : BitVec 256) (k : BerthKey) (i : Nat) (l : StoredLine) : W64 :=
  Config.lineTag key (leBytes 16 (tweak k i l.ver false).toNat ++ sideHead l false ++ l.bytes)

/-- Every second byte of a sequence. -/
def evens : List Nat → List Nat
  | [] => []
  | [a] => [a]
  | a :: _ :: t => a :: evens t

/-- The protected sequence of a line: side-record bytes 0 to 11 and the stored bytes (R206). -/
def protSeq (l : StoredLine) : List Nat :=
  (sideHead l l.poison ++ leBytes 8 l.tag.toNat ++ l.bytes).map (·.toNat)

/-- A line with its check bytes computed afresh. -/
def withCheck (l : StoredLine) : StoredLine :=
  let q := protSeq l
  { l with check0 := (rsCheck 6 (evens q)).map (BitVec.ofNat 8),
           check1 := (rsCheck 6 (evens (q.drop 1))).map (BitVec.ofNat 8) }

/-- A line written: coded, encrypted, tagged and protected, in that order (R203). -/
def sealLine (key : BitVec 256) (g : Geo) (k : BerthKey) (pay : List Byte) (base : Option (List Byte)) (i ver : Nat) :
    StoredLine :=
  let (c, sh, st) := codeLine g pay base i
  let ct := if st.isEmpty then [] else xtsEnc key (tweak k i ver false) st
  let l : StoredLine :=
    { lcode := c
      len := st.length / 16
      poison := false
      shift := sh
      ver := ver % 65536
      tag := 0
      check0 := []
      check1 := []
      bytes := ct }
  withCheck { l with tag := tagOf key k i l }

/-! ### The read path (R207) -/

/-- Why a line fails (R207). -/
inductive LineFail where
  | uncorrectable | poisoned | tagFail | retired | baseFail
deriving DecidableEq, Repr

/-- A line read: as corrected, bytes corrected in its worse codeword, plaintext or failure. -/
structure LineRead where
  line : StoredLine
  worst : Nat := 0
  res : Except LineFail (List Byte)

/-- Bytes interleaved from two sequences. -/
def interleave : List Nat → List Nat → List Nat
  | [], b => b
  | a, [] => a
  | x :: a, y :: b => x :: y :: interleave a b

/-- A line rebuilt from the protected sequence and its check bytes. -/
def lineOfSeq (q : List Nat) (c0 c1 : List Nat) : StoredLine :=
  let h := leNat ((q.take 4).map (BitVec.ofNat 8))
  { lcode := h % 4, len := h / 4 % 32, poison := h / 128 % 2 == 1, shift := sext 8 (h / 256), ver := h / 2 ^ 16 % 2 ^ 16,
    tag := BitVec.ofNat 64 (leNat (((q.drop 4).take 8).map (BitVec.ofNat 8))),
    bytes := (q.drop 12).map (BitVec.ofNat 8), check0 := c0.map (BitVec.ofNat 8), check1 := c1.map (BitVec.ofNat 8) }

/-- Steps 1 and 2: both codewords decoded; the corrected line and the larger number of corrections. -/
def correctLine (l : StoredLine) : Option (StoredLine × Nat) :=
  let q := protSeq l
  let d0 := evens q
  let d1 := evens (q.drop 1)
  match rsDecode 6 (d0 ++ l.check0.map (·.toNat)), rsDecode 6 (d1 ++ l.check1.map (·.toNat)) with
  | some (a, m), some (b, n) =>
    if m = 0 ∧ n = 0 then some (l, 0)
    else some (lineOfSeq (interleave (a.take d0.length) (b.take d1.length)) (a.drop d0.length) (b.drop d1.length), max m n)
  | _, _ => none

/-- Consistency of a side record (R202). -/
def lineConsistent (g : Geo) (i : Nat) (l : StoredLine) : Bool :=
  (match l.lcode with
   | 0 => l.len = 16 | 1 => l.len = 0 | 2 => l.len = 0 | _ => l.len = g.deltaLen i)
    && (l.lcode = 3 || l.shift = 0)

/-- Steps 1 to 8 of the read path. `base i` is the base berth's line i where there is one, read the same way. -/
def readLine (active : Bool) (key : BitVec 256) (g : Geo) (k : BerthKey) (base : Nat → Option (List Byte)) (i : Nat)
    (l : StoredLine) : LineRead :=
  if !active then { line := l, res := .error .retired }
  else
    match correctLine l with
    | none => { line := l, res := .error .uncorrectable }
    | some (c, n) =>
      if c.poison then { line := c, worst := n, res := .error .poisoned }
      else if !lineConsistent g i c || c.tag != tagOf key k i c then { line := c, worst := n, res := .error .tagFail }
      else
        let st := if c.bytes.isEmpty then [] else xtsDec key (tweak k i c.ver false) c.bytes
        if c.lcode = 1 ∨ c.lcode = 3 then
          match base i with
          | some b => { line := c, worst := n, res := .ok (expandLine g i c.lcode c.shift st b) }
          | none => { line := c, worst := n, res := .error .baseFail }
        else { line := c, worst := n, res := .ok (expandLine g i c.lcode c.shift st []) }

/-- A line poisoned: POISON set, every other field kept, check bytes over the bytes as read (R210). -/
def poisonLine (l : StoredLine) : StoredLine := withCheck { l with poison := true }

/-! ### Manifests (R150 to R152) -/

/-- Sum of exact values. -/
def numSum (xs : List Num) : Num := xs.foldl Num.add (.fin false 0 0)

/-- The mean of vectors in FP32, element by element in position order (R151). -/
def meanVec (d n : Nat) (vs : List (List Num)) : List F32 :=
  (List.range d).map (fun e =>
    fDiv .even (vs.foldl (fun acc v => toF32 .even ((num acc).add (nthD .nan v e))) 0) (fNat .even n))

/-- FP32 values as E4M3 blocks: element codes and scale codes (R37). -/
def e4m3Blocks (xs : List F32) : Nat → List Nat × List Nat
  | 0 => ([], [])
  | n + 1 =>
    let (c, sc) := toE4M3 (xs.take 32)
    let (cs, scs) := e4m3Blocks (xs.drop 32) n
    (c ++ cs, sc :: scs)

/-- Decoded values of E4M3 blocks. -/
def e4m3Vals (c sc : List Nat) : List Num := c.mapIdx (fun i x => elemNum 1 x (nthD 0 sc (i / 32)))

/-- Square of the Euclidean length, exact, and the length rounded upward. -/
def lenUp (xs : List Num) : F32 := toF32 .up (numSum (xs.map (fun x => x.mul x))).sqrt

/-- The exact value rounded to a multiple of 2^x, ties to even. -/
def roundAt (v : Num) (x : Int) : Int :=
  match v with
  | .fin neg m e => (if neg then -1 else 1) * (roundUnit .even neg m e x : Int)
  | _ => 0

/-- RS_EXP of a head: the least exponent from −128 to 127 at which every finite row sum fits 24 bits (R151). -/
def rsExp (sums : List Num) : Int :=
  let fin := sums.filter (fun v => match v with | .fin _ m _ => m ≠ 0 | _ => false)
  if fin.isEmpty then 0
  else
    match (List.range 256).find? (fun i =>
      fin.all (fun v => let n := roundAt v ((i : Int) - 128); decide (-8388608 ≤ n) && decide (n ≤ 8388607))) with
    | some i => (i : Int) - 128
    | none => 127

/-- The largest of FP32 values; 0 of none. -/
def maxF (xs : List F32) : F32 := xs.foldl fMax 0

/-- What a manifest is built from besides the payload (R150). -/
structure ManHead where
  key : BerthKey
  first : Nat
  count : Nat
  score : F32
  sweeps : Nat
  sink : Bool
  recent : Bool
  pinned : Bool
  coded : Bool
deriving DecidableEq, Repr

/-- Head block and row sums of one head (R151). -/
def headBlock (g : Geo) (pay : List Byte) (count h : Nat) : List Byte × List Byte :=
  let js := List.range count
  let ks := js.map (fun j => g.vec pay j h false)
  let vs := js.map (fun j => g.vec pay j h true)
  let mean (xs : List (List Num)) : List F32 := if count = 0 then List.replicate g.d 0 else meanVec g.d count xs
  let (kc, ksc) := e4m3Blocks (mean ks) (g.d / 32)
  let (vc, vsc) := e4m3Blocks (mean vs) (g.d / 32)
  let dist (m : List Num) (x : List Num) : F32 := lenUp (x.zipWith (fun a b => a.add b.neg) m)
  let rho := maxF (ks.map (dist (e4m3Vals kc ksc)))
  let sigma := maxF (vs.map (dist (e4m3Vals vc vsc)))
  let kap := maxF (ks.map lenUp)
  let sums := vs.map numSum
  let x := rsExp sums
  let b (l : List Nat) : List Byte := l.map (BitVec.ofNat 8)
  (b kc ++ b ksc ++ b vc ++ b vsc ++ leBytes 4 rho.toNat ++ leBytes 4 sigma.toNat ++ leBytes 4 kap.toNat
    ++ [BitVec.ofInt 8 x, 0, 0, 0],
   padTo 0 (3 * g.p) (sums.flatMap (fun v => leBytes 3 ((roundAt v x) % 2 ^ 24).toNat)))

/-- HEAD_SIZE and RS_OFF (R150). -/
def Geo.headSize (g : Geo) : Nat := 2 * (g.d + g.d / 32) + 16
def Geo.rsOff (g : Geo) : Nat := 0x40 + g.nkv * g.headSize

/-- The 3,968 plaintext bytes of a manifest (R150). -/
def buildManifest (g : Geo) (m : ManHead) (pay : List Byte) : List Byte :=
  let heads := (List.range g.nkv).map (headBlock g pay m.count)
  let b (x : Bool) (v : Nat) : Nat := if x then v else 0
  padTo 0 0xF80
    (leBytes 4 m.key.object ++ leBytes 2 m.key.tenant ++ leBytes 2 m.key.layer ++ leBytes 4 m.key.berth ++ leBytes 4 m.first
      ++ leBytes 2 m.count ++ leBytes 1 g.nkv ++ leBytes 1 g.fmt ++ leBytes 2 g.d ++ leBytes 2 g.p
      ++ leBytes 4 m.score.toNat ++ leBytes 4 m.sweeps ++ leBytes 2 0x40 ++ leBytes 2 g.headSize ++ leBytes 2 g.rsOff
      ++ leBytes 2 (b m.sink 1 + b m.recent 2 + b m.pinned 4 + b m.coded 8) ++ List.replicate 24 0
      ++ heads.flatMap (·.1) ++ heads.flatMap (·.2))

/-- Segments of 248 bytes. -/
def segments (b : List Byte) : List (List Byte) := (List.range 16).map (fun i => bytesAt b (248 * i) 248)

/-- A manifest sealed: encrypted, tagged, with check bytes (R150, R204, R205). -/
def sealManifest (key : BitVec 256) (k : BerthKey) (plain : List Byte) : StoredManifest :=
  let tw := tweak k 0 0 true
  let ct := xtsEnc key tw plain
  { bytes := ct, check := (segments ct).flatMap (fun sg => (rsCheck 7 (sg.map (·.toNat))).map (BitVec.ofNat 8)),
    tag := Config.lineTag key (leBytes 16 tw.toNat ++ ct) }

/-- The plaintext of a manifest: each segment corrected, the tag verified; none where it is unavailable (R152). -/
def openManifest (key : BitVec 256) (k : BerthKey) (m : StoredManifest) : Option (List Byte) :=
  let tw := tweak k 0 0 true
  let segs := (segments m.bytes).mapIdx (fun i sg =>
    (rsDecode 7 ((sg ++ bytesAt m.check (7 * i) 7).map (·.toNat))).map
      (fun r => (r.1.take 248).map (BitVec.ofNat 8)))
  if segs.all (·.isSome) then
    let ct := segs.flatMap (·.getD [])
    if Config.lineTag key (leBytes 16 tw.toNat ++ ct) = m.tag then some (xtsDec key tw ct) else none
  else none

/-- Fields of a plaintext manifest (R150, R151). -/
def manCount (m : List Byte) : Nat := dsc m 0x10 2
def manFirst (m : List Byte) : Nat := dsc m 0x0C 4
def manF (m : List Byte) (o : Nat) : F32 := BitVec.ofNat 32 (dsc m o 4)

/-- The mean key or mean value of a head, its FP32 field `i` (0 ρ, 1 σ, 2 κ), and the row sum at a position. -/
def Geo.manVec (g : Geo) (m : List Byte) (h : Nat) (val : Bool) : List Num :=
  let o := 0x40 + h * g.headSize + (if val then g.d + g.d / 32 else 0)
  (List.range g.d).map (fun i => elemNum 1 (nthD 0 m (o + i)).toNat (nthD 0 m (o + g.d + i / 32)).toNat)
def Geo.manRad (g : Geo) (m : List Byte) (h i : Nat) : F32 :=
  manF m (0x40 + h * g.headSize + 2 * (g.d + g.d / 32) + 4 * i)
def Geo.rowSum (g : Geo) (m : List Byte) (h j : Nat) : Num :=
  let x := sext 8 (nthD 0 m (0x40 + h * g.headSize + 2 * (g.d + g.d / 32) + 12)).toNat
  let n := sext 24 (dsc m (g.rsOff + 3 * (h * g.p + j)) 3)
  .fin (decide (n < 0)) n.natAbs x

/-- The largest κ_h of a manifest. -/
def Geo.manKappa (g : Geo) (m : List Byte) : F32 := maxF ((List.range g.nkv).map (fun h => g.manRad m h 2))

/-! ### Slot images (R148, R153) -/

/-- CRC-32C of bytes (reflected polynomial 0x82F63B78), over `n` bits left. -/
def crcBits (poly : Nat) : Nat → Nat → Nat
  | 0, c => c
  | n + 1, c => crcBits poly n (if c % 2 = 1 then (c / 2) ^^^ poly else c / 2)
def crc32c (b : List Byte) : Nat :=
  (b.foldl (fun c x => crcBits 0x82F63B78 8 (c ^^^ x.toNat)) 0xFFFFFFFF) ^^^ 0xFFFFFFFF

/-- The 64 bytes of a slot label, its CRC last (R153). -/
def labelBytes (l : SlotLabel) : List Byte :=
  let b := padTo 0 0x3C (leBytes 4 l.object ++ leBytes 2 l.tenant ++ leBytes 2 l.layer ++ leBytes 4 l.berth
    ++ leBytes 4 l.gen ++ leBytes 1 l.kind)
  b ++ leBytes 4 (crc32c b)

/-- A byte of a stored line or side record disturbed (R148 offsets relative to the line or record). -/
def flipAt (b : List Byte) (i : Nat) (x : Byte) : List Byte := setNth b i (nthD 0 b i ^^^ x)

/-- The side record's 24 bytes and a line with them replaced. -/
def sideBytes (l : StoredLine) : List Byte :=
  sideHead l l.poison ++ leBytes 8 l.tag.toNat ++ padTo 0 6 l.check0 ++ padTo 0 6 l.check1
def withSide (l : StoredLine) (b : List Byte) : StoredLine :=
  lineOfSeq ((b.take 12 ++ l.bytes).map (·.toNat)) ((bytesAt b 12 6).map (·.toNat)) ((bytesAt b 18 6).map (·.toNat))

/-- A slot image with one stored byte disturbed. Bytes beyond a line's stored form and reserved bytes are never
read, so disturbing them changes nothing (R200). -/
def upsetOne (img : SlotImage) (u : Upset) : SlotImage :=
  let mod (i : Nat) (f : StoredLine → StoredLine) : SlotImage :=
    match img.lines[i]? with
    | some l => { img with lines := setNth img.lines i (f l) }
    | none => img
  if u.off < 0x10000 then mod (u.off / 256) (fun l => { l with bytes := flipAt l.bytes (u.off % 256) u.flip })
  else if u.off < 0x11800 then
    mod ((u.off - 0x10000) / 24) (fun l => withSide l (flipAt (sideBytes l) ((u.off - 0x10000) % 24) u.flip))
  else if u.off < 0x12780 then
    { img with man := { img.man with bytes := flipAt img.man.bytes (u.off - 0x11800) u.flip } }
  else if u.off < 0x127F0 then
    { img with man := { img.man with check := flipAt img.man.check (u.off - 0x12780) u.flip } }
  else if u.off < 0x127F8 then
    { img with man := { img.man with tag := img.man.tag ^^^ BitVec.ofNat 64 (u.flip.toNat * 256 ^ (u.off - 0x127F0)) } }
  else img

/-- A slot image with every disturbance applied. -/
def upsetAll (img : SlotImage) (us : List Upset) : SlotImage := us.foldl upsetOne img

end Sys2Proof.Machine
end

