-- ==== Sys2Proof/Machine/Attention.lean ====
section
/-! DEFINITION. Queries of a sweep (R31, R76, R334), visibility (R44 to R47), the query operand and its rotation
(R36, R42), filters (R234, R235) and the upper estimate of sounding (R72). -/

namespace Sys2Proof.Machine

/-! ### Queries (R31, R76, R334) -/

/-- Rows of a query group (R76). -/
def groupRows (d : Nat) : Nat := min 32 (4096 / d)

/-- Groups of a sweep (R76). -/
def groupCount (nq nkv gq d : Nat) : Nat := ceilDiv (nq * (nkv * gq)) (groupRows d)

/-- Query `n` in the order of R76: KV head, query slot, query head. -/
def queryAt (nq gq n : Nat) : Nat × Nat × Nat :=
  let kv := n / (nq * gq)
  let r := n % (nq * gq)
  (kv, r / gq, kv * gq + r % gq)

/-- The QID field of a query (R49). -/
def qidOf (kv slot head : Nat) : Nat := slot % 256 + head % 256 * 2 ^ 8 + kv % 256 * 2 ^ 16
def qidSlot (q : Nat) : Nat := q % 256
def qidHead (q : Nat) : Nat := q / 2 ^ 8 % 256
def qidKv (q : Nat) : Nat := q / 2 ^ 16 % 256

/-- Position of a query slot in a query buffer (R334). -/
def qposOf (qbuf : List Byte) (slot : Nat) : Nat := dsc qbuf (4 * slot) 4

/-- The bytes of a query row (R334). -/
def qrowOf (qbuf : List Byte) (h d slot head : Nat) : List Byte :=
  bytesAt qbuf (0x400 + (slot * h + head) * (2 * d)) (2 * d)

/-- The tree table of a query buffer (R45, R334). -/
def treeOf (desc : SweepDesc) (qbuf : List Byte) : List Nat :=
  (bytesAt qbuf (64 * desc.treeOff) desc.treeNodes).map (·.toNat)

/-- Rows of group `g` of a sweep, as a run sees them (R76, R82). -/
def rowsOf (desc : SweepDesc) (qbuf : List Byte) (nkv gq d g : Nat) : List RowInfo :=
  let h := nkv * gq
  let total := desc.nq * h
  ((List.range (groupRows d)).map (g * groupRows d + ·)).filterMap (fun n =>
    if n < total then
      let (kv, slot, head) := queryAt desc.nq gq n
      some { qpos := qposOf qbuf slot, qid := qidOf kv slot head, q := qrowOf qbuf h d slot head }
    else none)

/-- Every query of a sweep in the order of its result slot: query slot, then query head (R337). -/
def allRows (desc : SweepDesc) (qbuf : List Byte) (nkv gq d : Nat) : List RowInfo :=
  let h := nkv * gq
  (List.range (desc.nq * h)).map (fun i =>
    let slot := i / h
    let head := i % h
    { qpos := qposOf qbuf slot, qid := qidOf (head / gq) slot head, q := qrowOf qbuf h d slot head })

/-! ### Visibility (R44) -/

/-- Whether node `j` is node `i` or an ancestor of it: byte i of the table is i's parent, 0xFF marks a root. -/
def ancestor (t : List Nat) (j : Nat) : Nat → Nat → Bool
  | 0, _ => false
  | n + 1, i => if i = j then decide (j < t.length) else
    match t[i]? with
    | some p => if p = 0xFF then false else ancestor t j n p
    | none => false

/-- The causal rule with the range (R131), the window and sink rule, the tree rule (R44). -/
def visCausal (desc : SweepDesc) (p j : Nat) : Bool :=
  (desc.noncausal || decide (j ≤ p)) && decide (desc.lo ≤ j) && decide (j ≤ desc.hi)
def visWindow (desc : SweepDesc) (p j : Nat) : Bool :=
  desc.window = 0 || decide ((max p j) - (min p j) < desc.window) || decide (j < desc.sink)
def visTree (desc : SweepDesc) (tree : List Nat) (p j : Nat) : Bool :=
  desc.treeNodes = 0 || decide (j < desc.treeBase)
    || (decide (desc.treeBase ≤ p) && ancestor tree (j - desc.treeBase) (tree.length + 1) (p - desc.treeBase))

/-- A position visible to a query position (R44). -/
def visible (desc : SweepDesc) (tree : List Nat) (p j : Nat) : Bool :=
  visCausal desc p j && visWindow desc p j && visTree desc tree p j

/-- Positions of a berth visible to a query position. -/
def visList (desc : SweepDesc) (tree : List Nat) (p first count : Nat) : List Nat :=
  ((List.range count).map (first + ·)).filter (visible desc tree p)

/-- Query positions of a sweep. -/
def qposList (desc : SweepDesc) (qbuf : List Byte) : List Nat := (List.range desc.nq).map (qposOf qbuf)

/-- Positions of a berth visible to some query of the sweep (R46, R64). -/
def visAny (desc : SweepDesc) (qbuf : List Byte) (first count : Nat) : List Nat :=
  let tree := treeOf desc qbuf
  ((List.range count).map (first + ·)).filter (fun j => (qposList desc qbuf).any (fun p => visible desc tree p j))

/-- Some position of the berth is visible to some row and some is not (R87). -/
def visPartial (desc : SweepDesc) (qbuf : List Byte) (rows : List RowInfo) (first count : Nat) : Bool :=
  let tree := treeOf desc qbuf
  let js := (List.range count).map (first + ·)
  rows.any (fun r => js.any (visible desc tree r.qpos)) && rows.any (fun r => js.any (fun j => !visible desc tree r.qpos j))

/-- The tree table of a sweep obeys R45. -/
def treeOk (desc : SweepDesc) (qbuf : List Byte) : Bool :=
  let t := treeOf desc qbuf
  desc.treeNodes = 0 ||
    (t.zipIdx.all (fun (p, i) => p = 0xFF || decide (p < i))
      && (qposList desc qbuf).all (fun p => decide (desc.treeBase ≤ p) && decide (p - desc.treeBase < desc.treeNodes)))

/-! ### Scale, query values, rotation (R38, R42) -/

/-- The score scale c (R38). -/
def scaleOf (desc : SweepDesc) (d : Nat) : F32 :=
  if desc.scale ≠ 0 then desc.scale
  else toF32 .even ((Num.fin false 1 0).div (.fin false d 0)).sqrt

/-- FP32 values of a query row as delivered (R82). -/
def queryVals (qfmt : Bool) (d : Nat) (row : List Byte) : List F32 :=
  (List.range d).map (fun i =>
    if qfmt then toF32 .even (elemNum 1 (nthD 0 row i).toNat (nthD 0 row (d + i / 32)).toNat)
    else BitVec.ofNat 32 (dsc row (2 * i) 2 * 2 ^ 16))

/-- A query row rotated at a position (R42); unrotated without a table. -/
def rotate (rope : Option (List F32)) (adjacent : Bool) (d p : Nat) (q : List F32) : List F32 :=
  match rope with
  | none => q
  | some th =>
    (List.range d).map (fun e =>
      let i := if adjacent then e / 2 else e % (d / 2)
      let x := nthD 0 q (if adjacent then 2 * i else i)
      let y := nthD 0 q (if adjacent then 2 * i + 1 else i + d / 2)
      let c := cosRot p (nthD 0 th i)
      let s := sinRot p (nthD 0 th i)
      let first := if adjacent then e % 2 = 0 else e < d / 2
      if first then fSub .even (fMul .even x c) (fMul .even y s) else fAdd .even (fMul .even x s) (fMul .even y c))

/-- The tag of the query and weight operands for a KV format (R36). -/
def operandTag (fmt : Nat) : Nat := if fmt = 2 then 2 else 1

/-- A block of 32 values converted to the operand: element codes and the scale code (R36, R37). -/
def toOperand (fmt : Nat) (xs : List F32) : List Nat × Nat :=
  if fmt = 2 then (xs.map toBf16, 0) else toE4M3 xs

/-- Decoded value of an operand element. -/
def operandNum (tag code scale : Nat) : Num := elemNum tag code scale

/-- A whole query row as the operand sees it, chunk by chunk. -/
def operandRow (fmt d : Nat) (q : List F32) : List Num :=
  (List.range (d / 32)).flatMap (fun c =>
    let (codes, sc) := toOperand fmt ((q.drop (32 * c)).take 32)
    codes.map (fun x => operandNum (operandTag fmt) x sc))

/-- ‖q‖ of a query row as delivered, rounded upward (R57, R69). -/
def queryNorm (desc : SweepDesc) (d : Nat) (row : List Byte) : F32 :=
  normUp ((queryVals desc.qfmt d row).map num)

/-! ### Filters (R234, R235) -/

/-- What a filter term tests of a berth. -/
structure FilterArg where
  tenant : Nat
  object : Nat
  layer : Nat
  first : Nat
  count : Nat
  pinned : Bool
  flash : Bool
deriving DecidableEq, Repr

/-- One test (R234). -/
def filterTest (x : FilterArg) (attr op a b : Nat) : Bool :=
  if attr = 4 then
    let last := x.first + x.count
    let meets (lo hi : Nat) : Bool := decide (x.first ≤ hi) && decide (lo < last)
    match op with
    | 0 => meets a a
    | 1 => !meets a a
    | 2 => meets a b
    | _ => !meets a b
  else
    let v := match attr with
      | 1 => x.tenant | 2 => x.object | 3 => x.layer
      | 5 => if x.pinned then 1 else 0
      | _ => if x.flash then 1 else 0
    match op with
    | 0 => v = a
    | 1 => v ≠ a
    | 2 => decide (a ≤ v) && decide (v ≤ b)
    | _ => !(decide (a ≤ v) && decide (v ≤ b))

/-- Terms of a filter block: (ATTR, OP, OR, A, B). -/
def filterTerms (f : List Byte) : List (Nat × Nat × Bool × Nat × Nat) :=
  (List.range (min 8 (dsc f 0 4))).map (fun k =>
    let t := dsc f (0x10 + 12 * k) 4
    (t % 16, t / 16 % 8, t / 128 % 2 == 1, dsc f (0x14 + 12 * k) 4, dsc f (0x18 + 12 * k) 4))

/-- A filter block without a reserved encoding (R234). -/
def filterOk (f : List Byte) : Bool :=
  decide (dsc f 0 4 ≤ 8) && dscZero f 4 12 && dscZero f 0x70 16
    && (filterTerms f).zipIdx.all (fun ((attr, op, orB, a, b), k) =>
      decide (1 ≤ attr) && decide (attr ≤ 6) && decide (op ≤ 3) && !(orB && k == 0) && !(decide (2 ≤ op) && decide (b < a))
        && dscZero f (0x11 + 12 * k) 3)

/-- The filter's outcome: OR groups joined by AND (R235). -/
def filterPass (f : List Byte) (x : FilterArg) : Bool :=
  let r := (filterTerms f).foldl (fun (acc : Bool × Bool) (t : Nat × Nat × Bool × Nat × Nat) =>
    let v := filterTest x t.1 t.2.1 t.2.2.2.1 t.2.2.2.2
    if t.2.2.1 then (acc.1, acc.2 || v) else (acc.1 && acc.2, v)) (true, true)
  r.1 && r.2

/-- The filter block of a sweep, if it names one. -/
def filterOf (desc : SweepDesc) (qbuf : List Byte) : Option (List Byte) :=
  if desc.filter = 0 then none else some (bytesAt qbuf (128 * desc.filter) 128)

/-- Whether a berth passes a sweep's filter. -/
def sweepFilter (desc : SweepDesc) (qbuf : List Byte) (x : FilterArg) : Bool :=
  match filterOf desc qbuf with
  | none => true
  | some f => filterPass f x

/-! ### The upper estimate (R72) -/

/-- Order of estimates: a NaN ranks below every other. -/
def estLt (a b : F32) : Bool := if isNan a then !isNan b else if isNan b then false else fLt a b
def estMax (a b : F32) : F32 := if estLt a b then b else a

/-- c × (q · k̄_h) + c × ‖q‖ × ρ_h for one query (R72), in FP32. -/
def estimateOne (g : Geo) (man : List Byte) (c : F32) (h : Nat) (q : List Num) : F32 :=
  fAdd .even (fMul .even c (dotF 1 q (g.manVec man h false)))
    (fMul .even (fMul .even c (normUp q)) (g.manRad man h 0))

/-- The estimate over rows: a NaN never hides a number; of none, −∞. -/
def estimate (g : Geo) (man : List Byte) (c : F32) (rows : List (Nat × List Num)) : F32 :=
  match rows.map (fun r => estimateOne g man c r.1 r.2) with
  | [] => negInf
  | x :: xs => xs.foldl estMax x

/-- Operand values of every query of a sweep with their KV head, as an engine forms them (R233). -/
def engineRows (desc : SweepDesc) (qbuf : List Byte) (g : Geo) (gq : Nat) (rope : Option (List F32)) (adjacent : Bool) :
    List (Nat × List Num) :=
  (allRows desc qbuf g.nkv gq g.d).map (fun r =>
    (qidKv r.qid, operandRow g.fmt g.d (rotate rope adjacent g.d r.qpos (queryVals desc.qfmt g.d r.q))))

/-- Insertion of a berth in order of estimate, highest first, ties to the lower berth index (R58, R72). -/
def rankInsert (x : Nat × F32) : List (Nat × F32) → List (Nat × F32)
  | [] => [x]
  | y :: ys => if estLt y.2 x.2 || (!estLt x.2 y.2 && decide (x.1 < y.1)) then x :: y :: ys else y :: rankInsert x ys
def rankAll (xs : List (Nat × F32)) : List (Nat × F32) := xs.foldr rankInsert []

end Sys2Proof.Machine
end

