-- ==== Sys2Proof/Machine/Wire.lean ====
section
/-! DEFINITION. Packets the part sends: frames in a port's classes, windows, sequence numbers, acknowledgements, answers (R279
to R282, R289, R296, R299, R304, R310, R316). -/

namespace Sys2Proof.Machine

/-! ### Contexts -/

/-- A connection's context; closed where the table lists none. -/
def State.conn (s : State) (n : Nat) : Conn := alGetD s.net.conns n {}
def State.setConn (s : State) (n : Nat) (c : Conn) : State :=
  { s with net := { s.net with conns := alPut s.net.conns n c } }
def State.port (s : State) (n : Nat) : Port := alGetD s.net.ports n {}
def State.setPort (s : State) (n : Nat) (p : Port) : State := { s with net := { s.net with ports := alPut s.net.ports n p } }

/-- Ticks of microseconds and milliseconds, rounded up (R9: 2^30 ticks in 10^9 ns). -/
def ticksUs (us : Nat) : Nat := ceilDiv (us * 1000 * 2 ^ 30) (10 ^ 9)
def ticksMs (ms : Nat) : Nat := ticksUs (ms * 1000)

/-- Sequence numbers run modulo 2^32: how far `b` lies ahead of `a`, and whether it does. -/
def psnAhead (a b : Nat) : Nat := (b + 2 ^ 32 - a) % 2 ^ 32
def psnBefore (a b : Nat) : Bool := decide (0 < psnAhead a b) && decide (psnAhead a b < 2 ^ 31)

/-! ### Length under BYTE_MODE (R317, R318) -/

/-- Length a frame counts with: 1, or its bytes and OVERHEAD. -/
def State.countLen (s : State) (bytes : Nat) : Nat := if s.fld rTrfCtl 0 1 = 0 then 1 else bytes + s.fld rTrfCtl 1 6

/-- Weir and meter credit of one packet or byte, in the units credit is kept in; the credit a rate earns in `dt` ticks, and
the size of a burst or cap. -/
def creditUnit : Nat := 2 ^ 30
def State.earned (s : State) (rate dt : Nat) : Nat := rate * (if s.fld rTrfCtl 0 1 = 0 then 1000 else 10 ^ 6) * dt
def State.burstSize (s : State) (n : Nat) : Nat := n * (if s.fld rTrfCtl 0 1 = 0 then 1 else 64) * creditUnit

/-! ### Weirs (R316) -/

/-- Whether a basin's weir holds an unsent packet. -/
def State.weirBusy (s : State) (b : Nat) : Bool := s.net.ports.any (fun p => p.2.frames.any (fun f => decide (f.basin = some b) && decide (f.tc < 6)))

/-- A weir's credit brought to now, as its packets stood since it last changed. -/
def State.weirNow (s : State) (b : Nat) : Int :=
  let bs := s.basin b
  if !bs.weirOn then 0
  else
    let c := bs.credit + (s.earned bs.rate (s.now - bs.creditAt) : Nat)
    if s.weirBusy b then min c (s.burstSize bs.cap : Nat) else min 0 c
def State.weirSettle (s : State) (b : Nat) : State :=
  s.setBasin b { s.basin b with credit := s.weirNow b, creditAt := s.now }

/-! ### Frames (R278, R304, R310) -/

/-- Bytes of a packet's extension header (R280). -/
def extLen (op : Nat) : Nat :=
  if op = 1 ∨ op = 3 ∨ op = 4 ∨ op = 5 ∨ op = 7 ∨ op = 8 ∨ op = 10 then 32
  else if op = 2 ∨ op = 6 ∨ op = 9 then 16 else if op = 16 then 24 else 16

/-- Bytes of a packet's frame on the wire, from the destination address through the check sequence: tagged Ethernet, or
IPv6 and UDP; MACsec adds its tag and check value. -/
def State.frameLen (s : State) (c : Conn) (op len : Nat) : Nat :=
  max 64 (18 + (if c.encap then 48 else 0) + 32 + extLen op + len + 16 + 4 + (if s.fld rPrtCtl 0 1 = 1 then 32 else 0))

/-- The traffic class of a packet (R310). -/
def Conn.classOf (c : Conn) (vc : Nat) : Nat := match vc with | 0 => c.tc | 1 => 5 | 2 => 6 | _ => 7

/-- A frame joins the end of its class at the connection's port; the guard starts when a TC0 to TC5 packet waits first. -/
def State.enqueue (s0 : State) (n : Nat) (c : Conn) (vc op psn len : Nat) : State :=
  let basin := if c.kind = 0 then some c.basin else none
  let s := match basin with | some b => s0.weirSettle b | none => s0
  let p := s.port c.port
  let f : Frame := { tc := c.classOf vc, len := s.frameLen c op len, basin := basin, conn := n, psn := psn }
  s.setPort c.port { p with frames := p.frames ++ [f], guard := if p.guard.isNone && decide (f.tc < 6) then some s.now else p.guard }

/-! ### Sending (R289, R296, R299) -/

/-- Payload bytes sent and not acknowledged. -/
def Conn.unacked (c : Conn) : Nat := (c.sent.map (fun p => p.data.length)).sum

/-- Packets waiting on a connection sent while its window admits them. -/
def State.pump (s : State) (n : Nat) : Nat → State
  | 0 => s
  | k + 1 =>
    let c := s.conn n
    match c.txq with
    | [] => s
    | p :: rest =>
      if c.st ≠ .established ∨ 4096 ≤ c.sent.length ∨ c.window < c.unacked + p.data.length then s
      else
        let q : TxPkt := { p with ctr := c.ctr, sentAt := s.now }
        let c1 : Conn := { c with txq := rest, sent := c.sent ++ [q], ctr := c.ctr + 1, rtoAt := some (c.rtoAt.getD (s.now + c.rto)),
                                  progressAt := some (c.progressAt.getD s.now) }
        (((s.setConn n c1).enqueue n c p.vc p.op p.psn p.data.length).send (.packet n q false)).pump n k

/-- A packet numbered and queued behind the connection's others. -/
def State.queuePkt (s : State) (n : Nat) (p : TxPkt) : State :=
  let c := s.conn n
  s.setConn n { c with txq := c.txq ++ [{ p with psn := c.txPsn }], txPsn := (c.txPsn + 1) % 2 ^ 32 }

/-- Every packet that can go now. -/
def State.flushTx (s : State) (n : Nat) : State := s.pump n (s.conn n).txq.length

/-- Payloads of at most 4,096 B. -/
def cuts : Nat → List Byte → List (List Byte)
  | 0, _ => []
  | n + 1, b => if b.length ≤ 4096 then [b] else b.take 4096 :: cuts n (b.drop 4096)

/-- A message's payload in packets, with the address of each one's first byte; an empty payload is one packet. -/
def State.queueMsg (s : State) (n : Nat) (p : TxPkt) : State :=
  let parts := cuts (p.data.length / 4096 + 1) p.data
  (parts.zipIdx.foldl (fun s (x : List Byte × Nat) =>
    s.queuePkt n { p with data := x.1, addr := p.addr + BitVec.ofNat 64 (4096 * x.2), first := decide (x.2 = 0), last := decide (x.2 + 1 = parts.length) }) s).flushTx n

/-- A response to a request (R280). -/
def State.respond (s : State) (n op rpsn status : Nat) (result : W64) (data : List Byte) : State :=
  s.queueMsg n { op := op, vc := 1, rpsn := rpsn, status := status, result := result, data := data, msgLen := data.length }

/-- Bits of the SACK: arrivals ahead of the gap. -/
def Conn.sack (c : Conn) : W64 :=
  (List.range 64).foldl (fun w k => if (alGet c.reorder ((c.rxPsn + 1 + k) % 2 ^ 32)).isSome then setFld w k 1 1 else w) 0

/-- An ACK sent (R289): cumulative number, SACK, delay, the pending ruling and the congestion mark, which it uses up. -/
def State.sendAckPkt (s : State) (n : Nat) : State :=
  let c := s.conn n
  let (st, sp) := match c.ruling with
    | some (p, e) => (e, p)
    | none => (stOk, c.rxPsn)
  let c1 : Conn := { c with ackDue := none, ackCount := 0, ruling := none, ece := false, ctr := c.ctr + 1 }
  ((s.setConn n c1).enqueue n c 3 16 0 0).send (.ack n c.rxPsn c.sack c.owd st sp c.ece)

/-- A status returned on an acknowledgement of its own (R282, R297, R302). -/
def State.sendNak (s : State) (n status psn : Nat) : State :=
  let c := s.conn n
  ((s.setConn n { c with ctr := c.ctr + 1 }).enqueue n c 3 16 0 0).send (.nak n status psn)

/-- A ruling returned with the next acknowledgement; one still pending goes out first. -/
def State.rule (s : State) (n psn status : Nat) : State :=
  let s1 := if (s.conn n).ruling.isSome then s.sendAckPkt n else s
  s1.setConn n { s1.conn n with ruling := some (psn, status) }

end Sys2Proof.Machine
end

