-- ==== Sys2Proof/Machine/Sync.lean ====
section
/-! DEFINITION. Chambers (R258 to R264), holds that lock them (R100), fabric instructions of a core (R118, R145), and
the register files and stores of a core (R79 to R86, R117). -/

namespace Sys2Proof.Machine

/-! ### Register files (R79, R80) -/

/-- Scalar registers: s0 reads as 0 and discards writes. -/
def Core.sGet (x : Core) (n : Nat) : W64 := if n = 0 then 0 else alGetD x.s n 0
def Core.sPut (x : Core) (n : Nat) (v : W64) : Core := if n = 0 then x else { x with s := alPut x.s n v }

/-- Predicates: p0 reads as 1 and discards writes. -/
def Core.pGet (x : Core) (n : Nat) : Bool := if n = 0 then true else alGetD x.p n false
def Core.pPut (x : Core) (n : Nat) (v : Bool) : Core := if n = 0 then x else { x with p := alPut x.p n v }

/-- Vector, tile and accumulator registers by their 6-bit encoding (R80). -/
def Core.vGet (x : Core) (f : Nat) : List F32 := padTo 0 32 (alGetD x.v (f - 0x20) [])
def Core.vPut (x : Core) (f : Nat) (v : List F32) : Core := { x with v := alPut x.v (f - 0x20) v }
def Core.tGet (x : Core) (f : Nat) : Tile := alGetD x.t (f - 0x30) {}
def Core.tPut (x : Core) (f : Nat) (v : Tile) : Core := { x with t := alPut x.t (f - 0x30) v }
def Core.aGet (x : Core) (f : Nat) : Acc := alGetD x.a (f - 0x38) {}
def Core.aPut (x : Core) (f : Nat) (v : Acc) : Core := { x with a := alPut x.a (f - 0x38) v }

/-! ### Stores of a core (R82, R117) -/

/-- The row state bytes at 0x2500: one record per row, then zeros (R82). -/
def rowStateBytes (r : Run) : List Byte := r.state.flatMap recBytes

/-- A byte a program reads at a local address: run block, row state, program data, scratch window. -/
def Core.byteAt (x : Core) (a : Nat) : Byte :=
  if a < 0x2500 then nthD 0 x.hdr a
  else if a < 0x7500 then
    match x.run with
    | some r => nthD 0 (rowStateBytes r) (a - 0x2500)
    | none => 0
  else if a < 0x10000 then memRead x.ls a
  else memRead x.scratch (a - 0x10000)

/-- Bytes at a local address. -/
def Core.readLocal (x : Core) (a n : Nat) : List Byte := (List.range n).map (fun i => x.byteAt (a + i))

/-- Bytes stored at a local address of program data or of the scratch window. -/
def Core.writeLocal (x : Core) (a : Nat) (b : List Byte) : Core :=
  if a < 0x10000 then { x with ls := memWriteL x.ls a b } else { x with scratch := memWriteL x.scratch (a - 0x10000) b }

/-! ### Chambers (R258 to R264) -/

/-- A counter value c has reached v (R258). -/
def reached (c v : BitVec 32) : Bool := decide ((c - v).toNat < 2 ^ 31)

/-- The core whose open hold locks a chamber (R100). -/
def State.lockOwner (s : State) (ch : Nat) : Option Nat :=
  (s.fab.cores.find? (fun p => match p.2.run with
    | some r => match r.hold with | some h => h.locks.contains ch | none => false
    | none => false)).map (·.1)

/-- Why a chamber refuses an operation of a basin: not its owner, or out of service (R260, R264). -/
def State.chRefuse (s : State) (b ch : Nat) : Option Nat :=
  let c := s.chamber ch
  if !c.alloc || c.owner ≠ b then some stNotOwner else if c.out then some stChamberOut else none

/-- Who a released waiter is: a core's `ch.wait` ends with its predicate set and the run goes on; a work request may
start (R142, R263, R294). -/
def State.wake (s : State) (src : WaitSrc) (ok : Bool) : State :=
  match src with
  | .core c =>
    let x := s.core c
    match x.run with
    | some r =>
      match r.wait with
      | some w => s.setCore c { x.pPut w.pD ok with run := some { r with wait := none, ip := r.ip + 1 } }
      | none => s
    | none => s
  | .wr n =>
    { s with net := { s.net with conns := alMod s.net.conns n (fun k =>
        match k.queue with
        | q :: qs => { k with queue := { q with chWait := false } :: qs, waitUntil := none }
        | [] => k) } }

/-- Every waiter whose condition holds released, in the order of registration (R261). -/
def State.wakeAll (s : State) (ch : Nat) : State :=
  let c := s.chamber ch
  let hit := c.waiters.filter (fun w => reached c.counter w.v)
  let s1 := s.setChamber ch { c with waiters := c.waiters.filter (fun w => !reached c.counter w.v) }
  hit.foldl (fun t w => t.wake w.src true) s1

/-- A chamber after an operation: fires when COUNTER reaches THRESHOLD from a value that had not (R262). -/
def Chamber.apply (c : Chamber) (op : ChOp) : Chamber :=
  let n : Chamber := match op with
    | .add v => { c with counter := c.counter + v }
    | .set v => { c with counter := v }
    | .thr v => { c with threshold := v }
    | .cas e v => if c.counter = e then { c with counter := v } else c
  if !reached c.counter c.threshold && reached n.counter n.threshold then { n with fired := true } else n

/-- Whether an operation fires a chamber. -/
def Chamber.fires (c : Chamber) (op : ChOp) : Bool := !c.fired && (c.apply op).fired

/-- An operation performed: the chamber changes, fires and releases its waiters (R261, R262). -/
def State.chEffect (s : State) (ch : Nat) (op : ChOp) : State :=
  let c := s.chamber ch
  let s1 := s.setChamber ch (c.apply op)
  let s2 := if c.fires op && c.fireEn then s1.raiseMsix c.vector else s1
  s2.wakeAll ch

/-- The word a fabric read or atomic of chamber space returns: THRESHOLD [63:32], COUNTER [31:0] (R260). -/
def Chamber.word (c : Chamber) : W64 := BitVec.ofNat 64 (c.counter.toNat + c.threshold.toNat * 2 ^ 32)

/-- An operation of an agent other than the lock's holder: performed, or put off until the hold that locks the chamber ends (R100). -/
def State.chRemote (s : State) (ch : Nat) (op : ChOp) : State :=
  match s.lockOwner ch with
  | some _ => let c := s.chamber ch; s.setChamber ch { c with deferred := c.deferred ++ [op] }
  | none => s.chEffect ch op

/-- The operations put off on a chamber, performed in order once it is unlocked. -/
def State.chDrain (s : State) (ch : Nat) : State :=
  let c := s.chamber ch
  c.deferred.foldl (fun (t : State) op => t.chRemote ch op) (s.setChamber ch { c with deferred := [] })

/-- Waiters in the part's pool (R263). -/
def State.poolWaiters (s : State) : Nat :=
  (s.fab.chambers.map (fun p => (p.2.waiters.filter (fun w => match w.src with | .wr _ => true | .core _ => false)).length)).sum

/-- Time at which a wait registered now ends (R263). -/
def State.chDeadline (s : State) : Nat := s.now + s.fld rChCtl 0 32

/-! ### Connections and fabric instructions of a core (R118, R145) -/

/-- A fabric instruction's completion written to its registers and store (R145). A run that has ended takes none. -/
def State.fxResult (s : State) (core id status : Nat) (old : W64) (data : List Byte) : State :=
  let x := s.core core
  match x.run with
  | none => s
  | some r =>
    match r.fx.find? (fun f => decide (f.id = id)) with
    | none => s
    | some f =>
      let x1 := match f.loc with
        | some a => if status = 0 then x.writeLocal a data else x
        | none => x
      let x2 := if !f.results then x1 else
        match f.pS with
        | some p => (if status = 0 then x1.sPut f.dst old else x1).pPut p (decide (status = 0))
        | none => x1.sPut f.dst (BitVec.ofNat 64 status)
      s.setCore core { x2 with run := some { r with fx := r.fx.filter (fun g => decide (g.id ≠ id)) } }

/-- A request of a core posted on a connection: refused at once with ACCESS_DENIED when the connection does not
belong to the run's basin, else queued as a work request (R145). The mooring key and generation it carries are free values:
the instruction names none (log). -/
def State.fxPost (s : State) (core : Nat) (conn : Nat) (id : Nat) (wr : WR) : State :=
  let c := s.conn conn
  if c.st = .closed ∨ s.basinOf core ≠ some c.basin ∨ (alGet s.net.conns conn).isNone then
    s.fxResult core id stAccessDenied 0 []
  else
    let w : WR := { wr with core := some (core, id), mkey := s.free.toNat % 2 ^ 32, mgen := s.free.toNat / 2 ^ 32 % 2 ^ 16 }
    s.drawn.setConn conn { c with queue := c.queue ++ [w] }

/-- A gated or direct operation taking effect (R143 to R145). -/
def State.gateEffect (s : State) (core : Nat) (g : Gated) : State :=
  let b := (s.basinOf core).getD 64
  let pend (s : State) (dst : Nat) (pS loc : Option Nat) (conn : Nat) (wr : WR) : State :=
    let x := s.core core
    match x.run with
    | none => s
    | some r =>
      let id := s.fab.handles
      let s1 := { s with fab := { s.fab with handles := id + 1 } }
      (s1.setCore core { x with run := some { r with
        fx := (r.fx.filter (fun f => decide (f.id ≠ id))) ++ [{ id := id, dst := dst, pS := pS, results := g.results, loc := loc }] } }).fxPost
        core conn id wr
  match g.op with
  | .chamber pD ch op =>
    let ok := (s.chRefuse b ch).isNone
    let s1 := if ok then s.chRemote ch op else s
    if g.results then s1.setCore core ((s1.core core).pPut pD ok) else s1
  | .put dst addr loc len conn =>
    pend s dst none none conn { op := 3, raddr := addr, len := len, laddr := loc, bytes := (s.core core).readLocal loc len }
  | .get dst addr loc len conn => pend s dst none (some loc) conn { op := 1, raddr := addr, len := len, laddr := loc }
  | .fadd dst pS addr opnd conn => pend s dst (some pS) none conn { op := 4, raddr := addr, len := 8, opnd0 := opnd }
  | .fcas dst pS addr expect new conn =>
    pend s dst (some pS) none conn { op := 5, raddr := addr, len := 8, opnd0 := expect, opnd1 := new }
  | .flush dst durable conn => pend s dst none none conn { op := 8, durable := durable }

/-- The first entry of a core's sluice released, its operation performed (R143, R267). -/
def State.sluicePop (s : State) (core : Nat) : State :=
  let x := s.core core
  match x.sluice with
  | [] => s
  | g :: gs => (s.setCore core { x with sluice := gs }).gateEffect core g

end Sys2Proof.Machine
end

