-- ==== Sys2Proof/Machine/Tiers.lean ====
section
/-! DEFINITION. Slots of the tiers, page tables, allocation and quotas (R148 to R182), protection and scores
(R184, R186), manifests and packs (R152, R192), base objects (R194), PLB invalidation (R167). -/

namespace Sys2Proof.Machine

/-! ### Objects, layers, entries -/

/-- Base objects of basin b are kept under tenant number 0x1000 + b, which no tenant has (R194). -/
def baseTenant (b : Nat) : Nat := 0x1000 + b

def State.obj (s : State) (tenant object : Nat) : Option Obj := alGet s.tiers.objects (tenant, object)
def State.setObj (s : State) (tenant object : Nat) (o : Obj) : State :=
  { s with tiers := { s.tiers with objects := alPut s.tiers.objects (tenant, object) o } }
def State.layer (s : State) (k : LayerKey) : Option Layer := alGet s.tiers.layers k
def State.setLayer (s : State) (k : LayerKey) (l : Layer) : State :=
  { s with tiers := { s.tiers with layers := alPut s.tiers.layers k l } }

/-- A page-table entry (R162); none where no table holds it. -/
def State.pte (s : State) (k : BerthKey) : Option Pte := (s.layer k.lk).bind (fun l => alGet l.ptes k.berth)
def State.setPte (s : State) (k : BerthKey) (p : Pte) : State :=
  match s.layer k.lk with
  | some l => s.setLayer k.lk { l with ptes := alPut l.ptes k.berth p }
  | none => s
def State.modPte (s : State) (k : BerthKey) (f : Pte → Pte) : State :=
  match s.pte k with
  | some p => s.setPte k (f p)
  | none => s
def State.delPte (s : State) (k : BerthKey) : State :=
  match s.layer k.lk with
  | some l => s.setLayer k.lk { l with ptes := alDel l.ptes k.berth }
  | none => s

/-- An entry that is the berth's one home (R175). -/
def Pte.home (p : Pte) : Bool := p.state = 1 || p.state = 2 || p.state = 5

/-- GEN one higher, wrapping at 32 bits. -/
def Pte.bumpGen (p : Pte) : Pte := { p with gen := (p.gen + 1) % 2 ^ 32 }

/-- Whether a berth-space slot lies in flash (R26), and its flash slot number. -/
def isFlash (slot : Nat) : Bool := decide (0x01000000 ≤ slot) && decide (slot < 0xFFFFFFFF)
def flashNo (slot : Nat) : Nat := slot - 0x01000000

/-- ARRIVED units of 2^20 ticks, 22 bits (R162). -/
def State.arrivedNow (s : State) : Nat := s.now / 2 ^ 20 % 2 ^ 22

/-- A berth arrived less than 53,687,091 ticks ago (R180), as ARRIVED resolves it. -/
def State.young (s : State) (p : Pte) : Bool :=
  decide ((s.arrivedNow + 2 ^ 22 - p.arrived) % 2 ^ 22 * 2 ^ 20 < 53687091)

/-! ### Slots -/

def State.slot (s : State) (n : Nat) : Slot := alGetD s.tiers.slots n {}
def State.setSlot (s : State) (n : Nat) (x : Slot) : State :=
  { s with tiers := { s.tiers with slots := alPut s.tiers.slots n x } }
def State.fslot (s : State) (f : Nat) : FSlot := alGetD s.nv.slots f {}
def State.setFslot (s : State) (f : Nat) (x : FSlot) : State :=
  { s with nv := { s.nv with slots := alPut s.nv.slots f x } }

/-- The stored content of a berth-space slot, either tier. -/
def State.image (s : State) (slot : Nat) : Option SlotImage :=
  if isFlash slot then (s.fslot (flashNo slot)).img else (s.slot slot).img
def State.setImage (s : State) (slot : Nat) (img : SlotImage) : State :=
  if isFlash slot then s.setFslot (flashNo slot) { s.fslot (flashNo slot) with img := some img }
  else s.setSlot slot { s.slot slot with img := some img }

/-- The host area of a composed basin that holds a slot, by its end (R323). -/
def State.hostEnd (s : State) (n : Nat) : Option Nat :=
  (s.host.basins.find? (fun p => decide (p.2.st ≠ 0) && decide (p.2.hostBase ≤ n) && decide (n < p.2.hostBase + p.2.hostSlots))).map
    (fun p => p.2.hostBase + p.2.hostSlots)

/-- The lowest FREE stacked-DRAM slot at or above n, in no host area (log: which slot is taken is unspecified). -/
def State.nextFree (s : State) : Nat → Nat → Option Nat
  | 0, _ => none
  | k + 1, n =>
    if 0x4BFFFF < n then none
    else
      match s.hostEnd n with
      | some e => s.nextFree k e
      | none => if (s.slot n).st = .free then some n else s.nextFree k (n + 1)
def State.freeSlot (s : State) : Option Nat := s.nextFree (s.tiers.slots.length + s.host.basins.length + 2) 0

/-- Slots of the berth pool that are FREE (R182, R193). -/
def State.dramFree (s : State) : Nat :=
  0x4C0000 - ((s.host.basins.filter (fun p => decide (p.2.st ≠ 0))).map (fun p => p.2.hostSlots)).sum
    - (s.tiers.slots.filter (fun p => decide (p.2.st ≠ .free) && (s.hostEnd p.1).isNone)).length

/-- Usable slot indices of a flash channel (R156). -/
def settingsIx (ch ix : Nat) : Bool := (ch = 0 || ch = 16) && decide (ix < 13)
def usableIx (ch : Nat) : List Nat := (List.range (Config.flashUsable ch)).filter (fun ix => !settingsIx ch ix)

/-- Erased slot indices of a channel and their number over all channels in service. -/
def State.erasedIx (s : State) (ch : Nat) : List Nat :=
  (usableIx ch).filter (fun ix => (s.fslot (ch + 32 * ix)).st = .erased)
def State.flashErased (s : State) : Nat :=
  ((List.range 32).map (fun ch => if (s.channel ch).inService then (s.erasedIx ch).length else 0)).sum

/-- The erased index of a channel that lies in its least-worn block, lowest index first (R170). -/
def State.pickIx (s : State) (ch : Nat) : Option Nat :=
  (s.erasedIx ch).foldl (fun best ix =>
    let w (i : Nat) : Nat := alGetD s.nv.blockWear (ch, Config.blockOf ch i) 0
    match best with
    | none => some ix
    | some b => if w ix < w b then some ix else some b) none

/-- Where a new flash home of a berth goes: the first channel in service and in the basin's mask, cyclically upward
from (berth + 7 × layer + object) mod 32, with an erased slot (R170, R347). -/
def State.flashPlace (s : State) (k : BerthKey) (mask : BitVec 32) : Option Nat :=
  let c0 := (k.berth + 7 * k.layer + k.object) % 32
  ((List.range 32).map (fun i => (c0 + i) % 32)).findSome? (fun ch =>
    if (s.channel ch).inService && !(s.channel ch).draining && mask.getLsbD ch then
      (s.pickIx ch).map (fun ix => ch + 32 * ix)
    else none)

/-! ### Quotas (R181, R182) -/

def State.quota (s : State) (t : Nat) : Quota := alGetD s.tiers.quotas t {}
def State.dramUse (s : State) (t : Nat) : Nat :=
  (s.tiers.slots.filter (fun p => decide (p.2.tenant = t) &&
    (match p.2.st with | .home | .reserved | .draining | .pack => true | _ => false))).length
def State.flashUse (s : State) (t : Nat) : Nat :=
  (s.nv.slots.filter (fun p => decide (p.2.tenant = t) &&
    (match p.2.st with | .home | .reserved | .draining => true | _ => false))).length
def State.overDram (s : State) (t : Nat) : Bool :=
  (s.quota t).dram ≠ 0x7FFFFF && decide ((s.quota t).dram ≤ s.dramUse t)
def State.overFlash (s : State) (t : Nat) : Bool :=
  (s.quota t).flash ≠ 0xFFFFFFFF && decide ((s.quota t).flash ≤ s.flashUse t)

/-- Use below a share (in percent) of the stacked-DRAM quota; always so without a limit. -/
def State.belowDram (s : State) (t pct : Nat) : Bool :=
  (s.quota t).dram = 0x7FFFFF || decide (100 * s.dramUse t < pct * (s.quota t).dram)

/-- A staging copy discarded (R169). -/
def State.dropCopy (s : State) (k : BerthKey) : State :=
  { s with tiers := { s.tiers with copies := alDel s.tiers.copies k } }

/-- The staging copy whose slot is `n` discarded, because the slot is needed for a home. -/
def State.evictCopyAt (s : State) (n : Nat) : State :=
  { s with tiers := { s.tiers with copies := s.tiers.copies.filter (fun p => decide (p.2.slot ≠ n)) } }

/-- A stacked-DRAM slot reserved for a tenant's berth: QUOTA_EXCEEDED first, then NO_SLOT (R182). -/
def State.takeDram (s : State) (k : BerthKey) (st : SlotSt) : Except Nat (State × Nat) :=
  if s.overDram k.tenant then .error stQuotaExceeded
  else
    match s.freeSlot with
    | none => .error stNoSlot
    | some n => .ok ((s.evictCopyAt n).setSlot n { st := st, key := some k, tenant := k.tenant }, n)

/-- A flash slot reserved for a tenant's berth; the answer is its berth-space slot. -/
def State.takeFlash (s : State) (k : BerthKey) (mask : BitVec 32) (st : FlashSt) : Except Nat (State × Nat) :=
  if s.overFlash k.tenant then .error stQuotaExceeded
  else
    match s.flashPlace k mask with
    | none => .error stNoSlot
    | some f => .ok (s.setFslot f { s.fslot f with st := st, key := some k, tenant := k.tenant }, f + 0x01000000)

/-- A slot given back: a stacked-DRAM slot becomes FREE, a flash slot stale until its block is erased (R170). -/
def State.freeHome (s : State) (slot : Nat) : State :=
  if isFlash slot then s.setFslot (flashNo slot) { s.fslot (flashNo slot) with st := .stale, key := none, img := none, tenant := 0 }
  else { s with tiers := { s.tiers with slots := alDel s.tiers.slots slot } }

/-- The source of a switched barge or of a freed berth: DRAINING until no staged read of it is in progress (R176). -/
def State.drainHome (s : State) (slot : Nat) : State :=
  if slot = 0xFFFFFFFF then s
  else if isFlash slot then s.setFslot (flashNo slot) { s.fslot (flashNo slot) with st := .draining }
  else s.setSlot slot { s.slot slot with st := .draining }

/-! ### PLB (R166, R167) -/

/-- Entries of given berths removed from every cluster's PLB. -/
def State.plbDrop (s : State) (ks : List BerthKey) : State :=
  { s with fab := { s.fab with clusters := alMap s.fab.clusters (fun _ c =>
      { c with plb := c.plb.filter (fun e => !ks.contains e.key) }) } }

/-- An invalidation sent to every PLB: its effect is relied on once PLB_INVAL_ACKED has come. -/
def State.plbInval (s : State) (ks : List BerthKey) : State :=
  { s with tiers := { s.tiers with invals := s.tiers.invals ++ [ks] } }

/-- Whether an invalidation of a berth is still unacknowledged. -/
def State.invalPending (s : State) (k : BerthKey) : Bool := s.tiers.invals.any (fun ks => ks.contains k)

/-- A translation used or installed: most recent first, at most 64 (R166). -/
def State.plbInstall (s : State) (cl : Nat) (e : PlbEntry) : State :=
  let c := s.cluster cl
  s.setCluster cl { c with plb := (e :: c.plb.filter (fun x => decide (¬(x.key = e.key ∧ x.basin = e.basin)))).take 64 }

/-! ### Keys, base berths, manifests -/

/-- The memory key a berth's lines are sealed with: the binding key for a base berth, else the tenant's (R204). -/
def State.berthKey (s : State) (k : BerthKey) : BitVec 256 :=
  if 0x1000 ≤ k.tenant then
    (((s.basin (k.tenant - 0x1000)).binds.find? (fun b => decide (b.kind = 1) && decide (b.object = k.object))).map (·.key)).getD 0
  else (s.keySlot k.tenant).mem

/-- Whether the berth's key slot is ACTIVE; base berths are read under their binding key (R208). -/
def State.keyLive (s : State) (k : BerthKey) : Bool := decide (0x1000 ≤ k.tenant) || s.active k.tenant

/-- The basin a berth belongs to (R109). -/
def State.basinOfBerth (s : State) (k : BerthKey) : Nat := ((s.pte k).map (·.basin)).getD (((s.obj k.tenant k.object).map (·.basin)).getD 0)

/-- The base berth a berth's lines may be coded against, where the base has it (R195). -/
def State.baseOf (s : State) (k : BerthKey) : Option BerthKey :=
  match s.obj k.tenant k.object with
  | some o =>
    if o.base = 0 then none
    else
      let bk : BerthKey := ⟨baseTenant o.basin, o.base, k.layer, k.berth⟩
      if (s.pte bk).isSome then some bk else none
  | none => none

/-- Line `i` of a base berth read through steps 1 to 8 (R207 step 8); none where it fails. -/
def State.baseLine (s : State) (g : Geo) (bk : BerthKey) (i : Nat) : Option (List Byte) :=
  match (s.pte bk).bind (fun p => s.image p.slot) with
  | some img =>
    match img.lines[i]? with
    | some l => match (readLine true (s.berthKey bk) g bk (fun _ => none) i l).res with
      | .ok b => some b
      | .error _ => none
    | none => none
  | none => none

/-- The whole base payload, where every line of it reads. -/
def State.basePayload (s : State) (g : Geo) (k : BerthKey) : Option (List Byte) :=
  match s.baseOf k with
  | none => none
  | some bk =>
    let ls := (List.range 256).map (s.baseLine g bk)
    if ls.all (·.isSome) then some (ls.flatMap (·.getD [])) else none

/-- The tier code of an event record: 0 stacked DRAM, 1 flash (R216). -/
def tierOf (slot : Nat) : Nat := if isFlash slot then 1 else 0

/-- An integrity event of a berth on its basin's event ring (R216). -/
def State.berthEvent (s : State) (code tier line : Nat) (k : BerthKey) (detail : Nat) : State :=
  s.event (s.basinOfBerth k) (eventRec code tier line k s.now detail)

/-- The stored manifest of a berth: its shadow or pack where one exists, else its slot (R192). -/
def State.rawManifest (s : State) (k : BerthKey) (p : Pte) : Option StoredManifest :=
  if p.shadow ≠ 0xFFFFFFFF then (alGet (s.slot p.shadow).pack p.shadowIx).map (·.2)
  else (s.image p.slot).map (·.man)

/-- A berth's manifest read (R152): the first failure is reported and sets MAN_BAD; a tenant whose key slot is not
ACTIVE reads nothing and reports nothing (R208). -/
def State.readManifest (s : State) (k : BerthKey) : State × Option (List Byte) :=
  match s.pte k with
  | none => (s, none)
  | some p =>
    match s.rawManifest k p with
    | none => (s, none)
    | some m =>
      if !s.keyLive k then (s, none)
      else
        match openManifest (s.berthKey k) k m with
        | some b => (s, some b)
        | none =>
          if p.manBad then (s, none)
          else ((s.setPte k { p with manBad := true }).berthEvent 0x0105 (tierOf p.slot) 0 k 0, none)

/-! ### Payload reads (R207 to R210) -/

/-- What reading a payload gives: state after write-backs, poisonings and reports; plaintext, or none when a line
failed; whether a flash codeword needed two or more corrections (R209). -/
structure PayRead where
  st : State
  pay : Option (List Byte)
  again : Bool := false

/-- One line read and its consequences (R207 to R210). -/
def State.payLine (s : State) (g : Geo) (k : BerthKey) (slot : Nat) (acc : PayRead) (i : Nat) : PayRead :=
  match (acc.st.image slot).bind (fun img => img.lines[i]?.map (fun l => (img, l))) with
  | none => { acc with pay := none }
  | some (img, l) =>
    let live := acc.st.keyLive k
    let r := readLine live (acc.st.berthKey k) g k
      (fun j => (acc.st.baseOf k).bind (fun bk => acc.st.baseLine g bk j)) i l
    let s1 := if r.worst = 0 then acc.st else
      (if isFlash slot then acc.st else acc.st.setImage slot { img with lines := setNth img.lines i r.line }).bump rBthLineStat 0 16 1
    let again := acc.again || (isFlash slot && decide (2 ≤ r.worst))
    let poison (s : State) (code : Nat) (cnt : Nat) : State :=
      match s.image slot with
      | some im => ((s.setImage slot { im with lines := setNth im.lines i (poisonLine r.line) }).bump rBthLineStat cnt 16 1).berthEvent
          code (tierOf slot) i k 0
      | none => s
    match r.res with
    | .ok b => { st := s1, pay := acc.pay.map (· ++ b), again := again }
    | .error .retired => { acc with pay := none }
    | .error .uncorrectable => { st := poison s1 0x0101 16, pay := none, again := again }
    | .error .tagFail => { st := poison s1 0x0102 32, pay := none, again := again }
    | .error .poisoned => { st := s1.bump rBthLineStat 32 16 1, pay := none, again := again }
    | .error .baseFail =>
      { st := s1.berthEvent 0x0104 (tierOf slot) i k (((s.obj k.tenant k.object).map (·.base)).getD 0), pay := none, again := again }

/-- The payload of a berth read from a slot, line by line (R207); a stacked-DRAM read takes the lines that hold
positions below COUNT, a flash read all of them (R154). -/
def State.readPayload (s : State) (g : Geo) (k : BerthKey) (slot count : Nat) : PayRead :=
  let n := if isFlash slot then 256 else min 256 (ceilDiv (count * g.rp) 256)
  let r := (List.range n).foldl (s.payLine g k slot) { st := s, pay := some [] }
  { r with pay := r.pay.map (padTo 0 65536) }

/-! ### Protection, scores, roots -/

/-- The highest berth with COUNT > 0, and the next unwritten position of a layer (R160, R173). -/
def Layer.top (l : Layer) : Option Nat := ((l.ptes.filter (fun p => p.2.home && decide (0 < p.2.count))).map (·.1)).max?
def Layer.nextPos (l : Layer) (p : Nat) : Nat :=
  match l.top with
  | some b => b * p + ((alGet l.ptes b).map (·.count)).getD 0
  | none => 0
def Layer.homed (l : Layer) : Nat := (l.ptes.filter (fun p => p.2.home)).length

/-- SINK and RECENT of every entry set from PROT_SINK, PROT_RECENT and APPEND (R162, R186). -/
def Layer.protect (l : Layer) (o : Obj) : Layer :=
  let next := l.nextPos o.p
  let app := (l.top).getD 0
  { l with append := app, ptes := alMap l.ptes (fun b p =>
      { p with sink := decide (b * o.p < o.protSink)
               recent := decide (b = app) || (decide (0 < p.count) && decide (next ≤ b * o.p + p.count - 1 + o.protRecent)) }) }

/-- A protected berth (R73, R186). -/
def Pte.prot (p : Pte) : Bool := p.pinned || p.sink || p.recent

/-- The score of an entry decayed to the layer's sweep count and raised by an increment (R184). -/
def scoreStep (o : Obj) (sweeps : Nat) (p : Pte) (inc : F32) : Pte :=
  let g := (sweeps % 2 ^ 16 + 2 ^ 16 - p.stamp) % 2 ^ 16
  let v := fAdd .even (fMul .even (BitVec.ofNat 32 (p.score % 2 ^ 16 * 2 ^ 16)) (decayFactor g o.halfLife)) inc
  { p with score := toBf16 v % 2 ^ 16, stamp := sweeps % 2 ^ 16 }

/-- The score of a berth updated by a sweep (R183, R184). -/
def State.scoreUpdate (s : State) (k : BerthKey) (inc : F32) : State :=
  match s.layer k.lk, s.obj k.tenant k.object, s.pte k with
  | some l, some o, some p => s.setPte k (scoreStep o l.sweeps p inc)
  | _, _, _ => s

/-- BF16 scores in order. -/
def bfLt (a b : Nat) : Bool := fLt (BitVec.ofNat 32 (a * 2 ^ 16)) (BitVec.ofNat 32 (b * 2 ^ 16))

/-- A manifest put into a pack of its tenant with room, or a new pack in a FREE slot (R187). -/
def State.packPut (s : State) (k : BerthKey) (m : StoredManifest) : Option (State × Nat × Nat) :=
  match s.tiers.slots.find? (fun p => decide (p.2.st = .pack) && decide (p.2.tenant = k.tenant) && decide (p.2.pack.length < 16)) with
  | some (n, x) =>
    match (List.range 16).find? (fun i => (alGet x.pack i).isNone) with
    | some ix => some (s.setSlot n { x with pack := alPut x.pack ix (k, m) }, n, ix)
    | none => none
  | none =>
    match s.freeSlot with
    | some n => some ((s.evictCopyAt n).setSlot n { st := .pack, tenant := k.tenant, pack := [(0, (k, m))] }, n, 0)
    | none => none

/-- A berth's place in its pack given up; an empty pack's slot is freed. -/
def State.packDrop (s : State) (p : Pte) : State :=
  if p.shadow = 0xFFFFFFFF then s
  else
    let x := s.slot p.shadow
    let pk := alDel x.pack p.shadowIx
    if pk.isEmpty then s.freeHome p.shadow else s.setSlot p.shadow { x with pack := pk }

/-- Tables of the page-table area in use: per root a top table, and a mid and leaf table per span with entries. -/
def Layer.tables (l : Layer) : Nat :=
  let leaves := (l.ptes.map (fun p => p.1 / 128)).dedup
  1 + ((l.ptes.map (fun p => p.1 / 16384)).dedup).length + (leaves.filter (fun x => (alGet l.spilled x).isNone)).length
def State.ptFree (s : State) : Nat := 0x80000 - (s.tiers.layers.map (fun p => p.2.tables)).sum
def State.spilledLeaves (s : State) : Nat := (s.tiers.layers.map (fun p => p.2.spilled.length)).sum

/-- KAPPA_L: the largest κ_h over the manifests of a layer's berths (R57, R160). -/
def State.layerKappa (s : State) (lk : LayerKey) (g : Geo) : F32 :=
  match s.layer lk with
  | none => 0
  | some l => maxF ((l.ptes.filter (fun p => p.2.home)).map (fun p =>
      match (s.readManifest ⟨lk.tenant, lk.object, lk.layer, p.1⟩).2 with
      | some m => g.manKappa m
      | none => l.kappa))

/-- What a manifest of a berth records besides the payload (R150, R184). -/
def manHead (k : BerthKey) (o : Obj) (l : Layer) (p : Pte) (coded : Bool) : ManHead :=
  { key := k, first := k.berth * o.p, count := p.count, score := BitVec.ofNat 32 (p.score % 2 ^ 16 * 2 ^ 16),
    sweeps := l.sweeps % 2 ^ 32, sink := p.sink, recent := p.recent, pinned := p.pinned, coded := coded }

/-- The event and count of a keeper's refusal by quota or space. -/
def State.countNospace (s : State) : State := s.bump rBthBargeStat 32 16 1

end Sys2Proof.Machine
end

