-- ==== Sys2Proof/Machine/CoreRun.lean ====
section
/-! DEFINITION. A core's issue of one instruction (R96 to R118), exceptions (R103 to R105), the end of a run (R102),
and the member's record of runs (R77, R78, R104). -/

namespace Sys2Proof.Machine

/-! ### Member sweeps -/

/-- The member work of a convoy on this part, as a member or as a twin. -/
def State.member (s : State) (gsid seq : Nat) (twin : Bool) : Option MSweep :=
  s.sweeps.members.find? (fun m => decide (m.gsid = gsid) && decide (m.seq = seq) && decide (m.twin = twin))
def State.setMember (s : State) (m : MSweep) : State :=
  { s with sweeps := { s.sweeps with members := s.sweeps.members.map (fun x =>
      if x.gsid = m.gsid ∧ x.seq = m.seq ∧ x.twin = m.twin then m else x) } }
def State.memberOf (s : State) (r : Run) : Option MSweep := s.member r.gsid r.seq r.twin
def State.modMember (s : State) (r : Run) (f : MSweep → MSweep) : State :=
  match s.memberOf r with
  | some m => s.setMember (f m)
  | none => s

/-- The layer of a member's sweep, its geometry and its scale. -/
def MSweep.lk (m : MSweep) : LayerKey := ⟨m.tenant, m.desc.object, m.desc.layer⟩
def MSweep.key (m : MSweep) (b : Nat) : BerthKey := ⟨m.tenant, m.desc.object, m.desc.layer, b⟩
def MSweep.geo (m : MSweep) : Geo := ⟨m.fmt, m.nkv, m.d, m.p⟩
def MSweep.c (m : MSweep) : F32 := scaleOf m.desc m.d
def MSweep.tree (m : MSweep) : List Nat := treeOf m.desc m.qbuf
def MSweep.groups (m : MSweep) : Nat := groupCount m.desc.nq m.nkv m.gq m.d
def MSweep.rows (m : MSweep) (g : Nat) : List RowInfo := rowsOf m.desc m.qbuf m.nkv m.gq m.d g

/-- The sweep of a core's run. -/
def State.sweepOf (s : State) (core : Nat) : Option MSweep := ((s.core core).run).bind s.memberOf

/-- A planned berth, and the plan with one berth changed. -/
def MSweep.berth? (m : MSweep) (b : Nat) : Option PBerth := m.plan.find? (fun p => decide (p.berth = b))
def MSweep.modBerth (m : MSweep) (b : Nat) (f : PBerth → PBerth) : MSweep :=
  { m with plan := m.plan.map (fun p => if p.berth = b then f p else p) }

/-- Visible positions of a berth for a row of a sweep. -/
def MSweep.vis (m : MSweep) (qpos first count : Nat) : List Nat := visList m.desc m.tree qpos first count

/-- The record of a query of the sweep that has seen nothing, as this part starts it (R95). -/
def MSweep.blank (m : MSweep) (r : RowInfo) : Partial :=
  emptyRec r.qpos r.qid m.gsid m.seq selfPkg m.member m.twin m.late m.d

/-! ### Tickets and bays -/

/-- The 64-bit word of a ticket (R87). -/
def ticketWord (t : Ticket) : W64 :=
  let b (x : Bool) (i : Nat) : Nat := if x then 2 ^ i else 0
  BitVec.ofNat 64 (t.first % 2 ^ 32 + t.count % 2 ^ 9 * 2 ^ 32 + t.mode % 8 * 2 ^ 41 + b t.part 44 + b t.prot 45
    + b t.requeued 46 + (if t.mode = 0 then t.stage % 16 * 2 ^ 48 else 0))

/-- The held ticket a scalar names. -/
def Run.ticket (r : Run) (w : W64) : Option Ticket := r.held.find? (fun t => decide (ticketWord t = w))

/-- The bay of an EXACT ticket freed with its last ticket (R168). -/
def State.freeBay (s : State) (core : Nat) (t : Ticket) : State :=
  if t.mode = 0 then
    let cl := clusterOf core
    s.setCluster cl { s.cluster cl with bays := alDel (s.cluster cl).bays t.stage }
  else s

/-- A ticket released: out of the held tickets, its bay freed (R89). -/
def State.release (s : State) (core : Nat) (t : Ticket) : State :=
  let x := s.core core
  match x.run with
  | some r => (s.setCore core { x with run := some { r with held := r.held.filter (fun h => decide (h.berth ≠ t.berth)) } }).freeBay core t
  | none => s

/-! ### End of a run -/

/-- Bays a core's run holds: posted, taken, staging or explicit. -/
def State.dropBays (s : State) (core : Nat) : State :=
  let cl := clusterOf core
  s.setCluster cl { s.cluster cl with bays := (s.cluster cl).bays.filter (fun p => decide (p.2.core ≠ core) || p.2.base) }

/-- Chambers a run's hold locks, unlocked, and the operations put off on them performed (R100). -/
def State.unlock (s : State) (chs : List Nat) : State := chs.foldl State.chDrain s

/-- A run taken off its core: its flights are cancelled, its wait and its hold end, its bays are freed (R101, R144). -/
def State.clearRun (s : State) (core : Nat) : State :=
  let x := s.core core
  match x.run with
  | none => s
  | some r =>
    let chs := match r.hold with | some h => h.locks | none => []
    let s1 := (s.setCore core { x with run := none, flights := [], halt := .running, stepOnce := false }).dropBays core
    let s2 := match r.wait with
      | some w => s1.setChamber w.ch { s1.chamber w.ch with
          waiters := (s1.chamber w.ch).waiters.filter (fun q => decide (q.src ≠ WaitSrc.core core)) }
      | none => s1
    let s3 := s2.modMember r (fun m => { m with live := m.live.filter (fun c => decide (c ≠ core)) })
    s3.unlock chs

/-! ### Exceptions (R103 to R105) -/

/-- An exception log entry (R105). -/
def excRec (code core sweep group prog attempt ip time : Nat) (detail : W64) : List Byte :=
  leBytes 2 code ++ leBytes 2 core ++ leBytes 4 sweep ++ leBytes 2 group ++ leBytes 1 prog ++ leBytes 1 attempt
    ++ leBytes 4 ip ++ leBytes 8 time ++ leBytes 8 detail.toNat

/-- Positions of given berths of a sweep visible to a row. -/
def MSweep.visCount (m : MSweep) (qpos : Nat) (bs : List Nat) : Nat :=
  (bs.map (fun b => match m.berth? b with
    | some p => (m.vis qpos p.first p.count).length
    | none => 0)).sum

/-- The records that stand for a run that gives none: its berths counted as skipped (R104). -/
def MSweep.skipRecs (m : MSweep) (r : Run) : List Partial :=
  r.rows.map (fun row => skipInto (m.blank row) (m.visCount row.qpos r.handed) m.c (queryNorm m.desc m.d row.q) m.kappa)

/-- What becomes of a stopped run's berths (R104): before C, on the first exception of its group in the cluster, they
are handed out again; else its rows are written as skipped. A run stopped at D contributes nothing. -/
def MSweep.afterFail (m : MSweep) (core : Nat) (r : Run) (now code : Nat) : MSweep :=
  let m0 := { m with runRecs := m.runRecs.filter (fun q => decide (¬(q.core = core ∧ q.order = r.order))) }
  if code = exOverdue then { m0 with overdue := true }
  else if now < m.times.c ∧ (r.group, clusterOf core) ∉ m.excepted then
    { m0 with excepted := m0.excepted ++ [(r.group, clusterOf core)],
              plan := m0.plan.map (fun p => if p.berth ∈ r.handed then
                { p with handed := p.handed.filter (fun g => decide (g ≠ r.group)),
                         started := p.started.filter (fun g => decide (g ≠ r.group)) } else p) }
  else { m0 with runRecs := m0.runRecs ++ [{ region := regionOf core, group := r.group, core := core, order := r.order,
                                             recs := m0.skipRecs r }] }

/-! ### Spare maps (R423 to R425) -/

def State.spareMap (s : State) (cl : Nat) : SpareMap := alGetD s.fab.spares cl {}
def State.setSpareMap (s : State) (cl : Nat) (m : SpareMap) : State :=
  { s with fab := { s.fab with spares := alPut s.fab.spares cl m } }

/-- A failed physical core that still serves a logical number gives it to a working spare, reported as SPARE_SWITCHED; a
cluster with fewer than eight working cores goes out of service, reported as CLUSTER_OUT (R425). -/
def State.spareSettle (s : State) (cl : Nat) : State :=
  let m := s.spareMap cl
  let s1 := match m.map.findIdx? (fun p => m.failed.contains p), m.spare with
    | some i, some p =>
      (s.setSpareMap cl { m with map := setNth m.map i p, spare := none }).unitEvent 0x0602 (8 * cl + i)
    | _, _ => s
  if 1 < m.failed.length ∧ !(s1.cluster cl).failed then
    (s1.setCluster cl { s1.cluster cl with failed := true }).unitEvent 0x0603 cl
  else s1

/-- A MEM_UNCORR of a core counted; the second within a rotation fails the physical core, where the cluster has a working
spare (R425). -/
def State.noteUncorr (s : State) (core : Nat) : State :=
  let cl := clusterOf core
  let m := s.spareMap cl
  let p := nthD 0 m.map (core % 8)
  let n := alGetD m.errs p 0 + 1
  let m1 := { m with errs := alPut m.errs p n }
  if 2 ≤ n ∧ m.spare.isSome ∧ !m.failed.contains p then (s.setSpareMap cl { m1 with failed := m1.failed ++ [p] }).spareSettle cl
  else s.setSpareMap cl m1

/-- An exception of a core's run: logged, the run stopped, its berths dealt with (R104, R105). -/
def State.raise (s : State) (core code : Nat) (detail : W64) : State :=
  match (s.core core).run with
  | none => s
  | some r =>
    let att := if r.kind = .replacement then 2 else 1
    let b := (s.basinOf core).getD 0
    let s1 := s.excLog b (excRec code core r.gsid r.group r.prog att r.ip s.now detail)
    let s2 := s1.clearRun core
    let s3 := s2.modMember r (fun m => m.afterFail core r s.now code)
    if code = exMemUncorr then s3.noteUncorr core else s3

/-! ### Issue -/

/-- What an instruction does: completes, sets the ip, waits (it is issued again), ends the run, or is stopped by an
exception with a detail. -/
inductive Res where
  | done (s : State)
  | jump (s : State) (ip : Nat)
  | stay
  | ended (s : State)
  | exc (code : Nat) (detail : W64)

/-- The meaning of an instruction word on a core with a run. -/
abbrev Sem := W64 → Nat → Core → Run → State → Res

/-- The run's ip, step count and hold count after an instruction has issued. -/
def State.advance (s : State) (core ip : Nat) : State :=
  let x := s.core core
  match x.run with
  | some r =>
    let hold := r.hold.map (fun h => { h with count := h.count + 1 })
    s.setCore core { x with pass := false, run := some { r with ip := ip, steps := r.steps + 1, hold := hold } }
  | none => s

/-- A halt asked for takes effect after the instruction, unless a hold is open; a single step halts (R451, R453). -/
def State.afterIssue (s : State) (core : Nat) : State :=
  let x := s.core core
  match x.run with
  | some r =>
    if r.hold.isNone ∧ (x.halt = .requested ∨ x.stepOnce) then s.setCore core { x with halt := .halted, stepOnce := false }
    else s
  | none => s

/-- Scalars and predicates that outstanding fabric and gated instructions of a run will write (R118). -/
def Core.pendingS (x : Core) (r : Run) : List Nat :=
  (r.fx.filter (·.results)).map (·.dst) ++ x.sluice.filterMap (fun g => if g.results then
    (match g.op with
     | .put d _ _ _ _ => some d | .get d _ _ _ _ => some d | .fadd d _ _ _ _ => some d | .fcas d _ _ _ _ _ => some d
     | .flush d _ _ => some d | .chamber _ _ _ => none) else none)
def Core.pendingP (x : Core) (r : Run) : List Nat :=
  (r.fx.filter (·.results)).filterMap (·.pS) ++ x.sluice.filterMap (fun g => if g.results then
    (match g.op with
     | .chamber p _ _ => some p | .fadd _ p _ _ _ => some p | .fcas _ p _ _ _ _ => some p | _ => none) else none)

/-- Whether an instruction names a register an outstanding instruction will write. -/
def Core.blocked (x : Core) (r : Run) (o : CoreOp) (w : W64) : Bool :=
  (scalarsOf o w).any (fun n => n ≠ 0 && (x.pendingS r).contains n)
    || (predsOf o w).any (fun n => n ≠ 0 && (x.pendingP r).contains n)

/-- A run that may issue: not halted, not waiting on a chamber. A set breakpoint stops it once (R451). -/
def State.breakAt (s : State) (core : Nat) : Bool :=
  let x := s.core core
  match x.run with
  | some r => (x.breaks.any (fun p => decide (p.2 = r.ip))) && !x.pass
  | none => false

/-- One issue of the instruction at the run's ip, when it is the one named: fetch, legality, gate, predicate, effect
(R81, R103, R114, R118, R143). Without a run, or while the run cannot issue, nothing happens. -/
def issue (op : CoreOp) (sem : Sem) (core : Nat) (s : State) : State :=
  let x := s.core core
  match x.run with
  | none => s
  | some r =>
    if x.halt = .halted ∨ x.halt = .forced ∨ r.wait.isSome then s
    else
      match r.image[r.ip]? with
      | none => s.raise core exIfetch (BitVec.ofNat 64 r.ip)
      | some w =>
        match coreOp w with
        | none => s.raise core exIllegal w
        | some o =>
          if o ≠ op then s
          else if s.breakAt core then s.setCore core { x with halt := .halted, brkHit := true, pass := true }
          else if !legalWord o w r.iflags then s.raise core exIllegal w
          else if r.gate.isSome && !o.gateable then s.raise core exIllegal w
          else if r.hold.isSome && !o.inHold then s.raise core exHold w
          else if x.blocked r o w then s
          else
            let taken := (x.pGet (predF w % 8)) != decide (8 ≤ predF w)
            if !taken then ((s.setCore core { x with run := some { r with gate := none } }).advance core (r.ip + 1)).afterIssue core
            else
              match sem w core x r s with
              | .done t => (t.advance core (r.ip + 1)).afterIssue core
              | .jump t ip => (t.advance core ip).afterIssue core
              | .stay => s
              | .ended t => t
              | .exc code detail => s.raise core code detail

/-- The core and run written back after a plain register or store effect. -/
def put (core : Nat) (x : Core) (s : State) : Res := .done (s.setCore core x)

/-! ### Control (R123) -/

/-- A branch target inside the image. -/
def goTo (r : Run) (s : State) (t : Nat) : Res :=
  if r.image.length ≤ t then .exc exIfetch (BitVec.ofNat 64 t) else .jump s t

def semBr : Sem := fun w _ _ r s => goTo r s (imm w % 2 ^ 11)

def semBrR : Sem := fun w _ x r s =>
  let t := (x.sGet (srcA w) + simm w).toNat
  if r.image.length ≤ t then .exc exIfetch (BitVec.ofNat 64 t)
  else if (holdMarks r.image 0 false).contains t then .exc exHold (BitVec.ofNat 64 t)
  else .jump s t

def semLoop : Sem := fun w c x r s =>
  let v := x.sGet (dstF w) - 1
  let s1 := s.setCore c (x.sPut (dstF w) v)
  if v ≠ 0 then goTo r s1 (imm w % 2 ^ 11) else .done s1

def semCall : Sem := fun w c x r s =>
  if r.stack.length = 16 then .exc exCallDepth (BitVec.ofNat 64 r.ip)
  else goTo r (s.setCore c { x with run := some { r with stack := (r.ip + 1) :: r.stack } }) (imm w % 2 ^ 11)

def semRet : Sem := fun _ c x r s =>
  match r.stack with
  | [] => .exc exCallDepth (BitVec.ofNat 64 r.ip)
  | t :: rest => goTo r (s.setCore c { x with run := some { r with stack := rest } }) t

/-- `halt` cancels the run's flights at once, then waits for its gated work and fabric completions (R123). -/
def semHalt : Sem := fun _ c x r s =>
  if !r.endTaken || !r.emitted then .exc exIncomplete (BitVec.ofNat 64 r.ip)
  else if !x.flights.isEmpty then .jump (s.setCore c { x with flights := [] }) r.ip
  else if !x.sluice.isEmpty || !r.fx.isEmpty then .stay
  else .ended (s.clearRun c)

def semNop : Sem := fun _ _ _ _ s => .done s

def execBr (core : BitVec 12) (s : State) : Host.Outcome State Fault Refusal := .next (issue .br semBr core.toNat s)
def execBrR (core : BitVec 12) (s : State) : Host.Outcome State Fault Refusal := .next (issue .brR semBrR core.toNat s)
def execLoopI (core : BitVec 12) (s : State) : Host.Outcome State Fault Refusal := .next (issue .loopI semLoop core.toNat s)
def execCall (core : BitVec 12) (s : State) : Host.Outcome State Fault Refusal := .next (issue .call semCall core.toNat s)
def execRet (core : BitVec 12) (s : State) : Host.Outcome State Fault Refusal := .next (issue .ret semRet core.toNat s)
def execHalt (core : BitVec 12) (s : State) : Host.Outcome State Fault Refusal := .next (issue .halt semHalt core.toNat s)
def execNop (core : BitVec 12) (s : State) : Host.Outcome State Fault Refusal := .next (issue .nop semNop core.toNat s)

/-! ### Scalar and predicate instructions (R124) -/

/-- A scalar result of sources a and b; `.i` takes the immediate as b. -/
def semAlu (f : W64 → W64 → W64) : Sem := fun w c x _ s =>
  put c (x.sPut (dstF w) (f (x.sGet (srcA w)) (x.sGet (srcB w)))) s
def semAluI (f : W64 → W64 → W64) : Sem := fun w c x _ s =>
  put c (x.sPut (dstF w) (f (x.sGet (srcA w)) (simm w))) s

/-- A predicate result of sources a and b. -/
def semCmp (f : W64 → W64 → Bool) : Sem := fun w c x _ s =>
  put c (x.pPut (dstF w) (f (x.sGet (srcA w)) (x.sGet (srcB w)))) s
def semCmpI (f : W64 → W64 → Bool) : Sem := fun w c x _ s =>
  put c (x.pPut (dstF w) (f (x.sGet (srcA w)) (simm w))) s

/-- Shifts by the low six bits of b. -/
def fShl (a b : W64) : W64 := a <<< (b.toNat % 64)
def fShr (a b : W64) : W64 := a >>> (b.toNat % 64)
def fSra (a b : W64) : W64 := a.sshiftRight (b.toNat % 64)

def semMov : Sem := fun w c x _ s => put c (x.sPut (dstF w) (simm w)) s
def semMovh : Sem := fun w c x _ s =>
  put c (x.sPut (dstF w) (BitVec.ofNat 64 (imm w % 2 ^ 30 * 2 ^ 34 + (x.sGet (srcA w)).toNat % 2 ^ 34))) s
def semExt : Sem := fun w c x _ s =>
  put c (x.sPut (dstF w) (BitVec.ofNat 64 ((x.sGet (srcA w)).toNat / 2 ^ (imm w % 64) % 2 ^ (imm w / 64 % 64 + 1)))) s
def semPlog : Sem := fun w c x _ s =>
  let i := (if x.pGet (srcA w) then 2 else 0) + (if x.pGet (srcB w) then 1 else 0)
  put c (x.pPut (dstF w) (imm w / 2 ^ i % 2 = 1)) s

def execAdd (core : BitVec 12) (s : State) : Host.Outcome State Fault Refusal := .next (issue .add (semAlu (· + ·)) core.toNat s)
def execAddI (core : BitVec 12) (s : State) : Host.Outcome State Fault Refusal := .next (issue .addI (semAluI (· + ·)) core.toNat s)
def execSub (core : BitVec 12) (s : State) : Host.Outcome State Fault Refusal := .next (issue .sub (semAlu (· - ·)) core.toNat s)
def execSubI (core : BitVec 12) (s : State) : Host.Outcome State Fault Refusal := .next (issue .subI (semAluI (· - ·)) core.toNat s)
def execAndR (core : BitVec 12) (s : State) : Host.Outcome State Fault Refusal := .next (issue .andR (semAlu (· &&& ·)) core.toNat s)
def execAndI (core : BitVec 12) (s : State) : Host.Outcome State Fault Refusal := .next (issue .andI (semAluI (· &&& ·)) core.toNat s)
def execOrR (core : BitVec 12) (s : State) : Host.Outcome State Fault Refusal := .next (issue .orR (semAlu (· ||| ·)) core.toNat s)
def execOrI (core : BitVec 12) (s : State) : Host.Outcome State Fault Refusal := .next (issue .orI (semAluI (· ||| ·)) core.toNat s)
def execXorR (core : BitVec 12) (s : State) : Host.Outcome State Fault Refusal := .next (issue .xorR (semAlu (· ^^^ ·)) core.toNat s)
def execXorI (core : BitVec 12) (s : State) : Host.Outcome State Fault Refusal := .next (issue .xorI (semAluI (· ^^^ ·)) core.toNat s)
def execShl (core : BitVec 12) (s : State) : Host.Outcome State Fault Refusal := .next (issue .shl (semAlu fShl) core.toNat s)
def execShlI (core : BitVec 12) (s : State) : Host.Outcome State Fault Refusal := .next (issue .shlI (semAluI fShl) core.toNat s)
def execShr (core : BitVec 12) (s : State) : Host.Outcome State Fault Refusal := .next (issue .shr (semAlu fShr) core.toNat s)
def execShrI (core : BitVec 12) (s : State) : Host.Outcome State Fault Refusal := .next (issue .shrI (semAluI fShr) core.toNat s)
def execSra (core : BitVec 12) (s : State) : Host.Outcome State Fault Refusal := .next (issue .sra (semAlu fSra) core.toNat s)
def execSraI (core : BitVec 12) (s : State) : Host.Outcome State Fault Refusal := .next (issue .sraI (semAluI fSra) core.toNat s)
def execMul (core : BitVec 12) (s : State) : Host.Outcome State Fault Refusal := .next (issue .mul (semAlu (· * ·)) core.toNat s)
def execMulI (core : BitVec 12) (s : State) : Host.Outcome State Fault Refusal := .next (issue .mulI (semAluI (· * ·)) core.toNat s)
def execMov (core : BitVec 12) (s : State) : Host.Outcome State Fault Refusal := .next (issue .mov semMov core.toNat s)
def execMovh (core : BitVec 12) (s : State) : Host.Outcome State Fault Refusal := .next (issue .movh semMovh core.toNat s)
def execCmpEq (core : BitVec 12) (s : State) : Host.Outcome State Fault Refusal := .next (issue .cmpEq (semCmp (fun a b => a == b)) core.toNat s)
def execCmpEqI (core : BitVec 12) (s : State) : Host.Outcome State Fault Refusal := .next (issue .cmpEqI (semCmpI (fun a b => a == b)) core.toNat s)
def execCmpNe (core : BitVec 12) (s : State) : Host.Outcome State Fault Refusal := .next (issue .cmpNe (semCmp (fun a b => a != b)) core.toNat s)
def execCmpNeI (core : BitVec 12) (s : State) : Host.Outcome State Fault Refusal := .next (issue .cmpNeI (semCmpI (fun a b => a != b)) core.toNat s)
def execCmpLt (core : BitVec 12) (s : State) : Host.Outcome State Fault Refusal := .next (issue .cmpLt (semCmp BitVec.slt) core.toNat s)
def execCmpLtI (core : BitVec 12) (s : State) : Host.Outcome State Fault Refusal := .next (issue .cmpLtI (semCmpI BitVec.slt) core.toNat s)
def execCmpLtu (core : BitVec 12) (s : State) : Host.Outcome State Fault Refusal := .next (issue .cmpLtu (semCmp BitVec.ult) core.toNat s)
def execCmpLtuI (core : BitVec 12) (s : State) : Host.Outcome State Fault Refusal := .next (issue .cmpLtuI (semCmpI BitVec.ult) core.toNat s)
def execExt (core : BitVec 12) (s : State) : Host.Outcome State Fault Refusal := .next (issue .ext semExt core.toNat s)
def execPlog (core : BitVec 12) (s : State) : Host.Outcome State Fault Refusal := .next (issue .plog semPlog core.toNat s)

/-! ### Local loads and stores (R82, R86, R117, R124) -/

/-- The local address sA + sext(IMM). -/
def localAddr (x : Core) (w : W64) : Nat := (x.sGet (srcA w) + simm w).toNat

/-- A zero-extended load of n bytes; an uncorrectable word stops the run (R422). -/
def semLd (n : Nat) (memErr : Bool) : Sem := fun w c x _ s =>
  let a := localAddr x w
  if !localOk a n then .exc exStore (BitVec.ofNat 64 a)
  else if a % n ≠ 0 then .exc exMisaligned (BitVec.ofNat 64 a)
  else if memErr then .exc exMemUncorr (BitVec.ofNat 64 a)
  else put c (x.sPut (dstF w) (BitVec.ofNat 64 (leNat (x.readLocal a n)))) s

/-- A store of the low n bytes; below 0x7500 nothing is written. -/
def semSt (n : Nat) : Sem := fun w c x _ s =>
  let a := localAddr x w
  if !storeOk a n then .exc exStore (BitVec.ofNat 64 a)
  else if a % n ≠ 0 then .exc exMisaligned (BitVec.ofNat 64 a)
  else put c (x.writeLocal a (leBytes n (x.sGet (srcB w)).toNat)) s

/-- 128-byte vector loads and stores, lane 0 at the lowest address. -/
def semVld (memErr : Bool) : Sem := fun w c x _ s =>
  let a := localAddr x w
  if !localOk a 128 then .exc exStore (BitVec.ofNat 64 a)
  else if a % 128 ≠ 0 then .exc exMisaligned (BitVec.ofNat 64 a)
  else if memErr then .exc exMemUncorr (BitVec.ofNat 64 a)
  else put c (x.vPut (dstF w) ((List.range 32).map (fun i => BitVec.ofNat 32 (leNat (x.readLocal (a + 4 * i) 4))))) s
def semVst : Sem := fun w c x _ s =>
  let a := localAddr x w
  if !storeOk a 128 then .exc exStore (BitVec.ofNat 64 a)
  else if a % 128 ≠ 0 then .exc exMisaligned (BitVec.ofNat 64 a)
  else put c (x.writeLocal a ((x.vGet (srcB w)).flatMap (fun v => leBytes 4 v.toNat))) s

def execLdD (core : BitVec 12) (memErr : Bool) (s : State) : Host.Outcome State Fault Refusal := .next (issue .ldD (semLd 8 memErr) core.toNat s)
def execLdW (core : BitVec 12) (memErr : Bool) (s : State) : Host.Outcome State Fault Refusal := .next (issue .ldW (semLd 4 memErr) core.toNat s)
def execLdH (core : BitVec 12) (memErr : Bool) (s : State) : Host.Outcome State Fault Refusal := .next (issue .ldH (semLd 2 memErr) core.toNat s)
def execLdB (core : BitVec 12) (memErr : Bool) (s : State) : Host.Outcome State Fault Refusal := .next (issue .ldB (semLd 1 memErr) core.toNat s)
def execStD (core : BitVec 12) (s : State) : Host.Outcome State Fault Refusal := .next (issue .stD (semSt 8) core.toNat s)
def execStW (core : BitVec 12) (s : State) : Host.Outcome State Fault Refusal := .next (issue .stW (semSt 4) core.toNat s)
def execStH (core : BitVec 12) (s : State) : Host.Outcome State Fault Refusal := .next (issue .stH (semSt 2) core.toNat s)
def execStB (core : BitVec 12) (s : State) : Host.Outcome State Fault Refusal := .next (issue .stB (semSt 1) core.toNat s)
def execVld (core : BitVec 12) (memErr : Bool) (s : State) : Host.Outcome State Fault Refusal := .next (issue .vld (semVld memErr) core.toNat s)
def execVst (core : BitVec 12) (s : State) : Host.Outcome State Fault Refusal := .next (issue .vst semVst core.toNat s)

/-! ### Holds and debug (R99 to R102, R147) -/

/-- A hold opened: its age, and what a restart or an exception brings back. -/
def semHoldBegin : Sem := fun w c x r s =>
  match r.hold with
  | some _ => .exc exHold w
  | none =>
    let h : Hold := { age := s.fab.holdAge, ip := r.ip, s := x.s, p := x.p, ls := x.ls, scratch := x.scratch }
    .done { s.setCore c { x with run := some { r with hold := some h } } with
      fab := { (s.setCore c { x with run := some { r with hold := some h } }).fab with holdAge := s.fab.holdAge + 1 } }

/-- A hold closed: its chamber operations become visible in order, its locks end, waiting operations follow. -/
def semHoldEnd : Sem := fun w c x r s =>
  match r.hold with
  | none => .exc exHold w
  | some h =>
    let s1 := s.setCore c { x with run := some { r with hold := none } }
    let s2 := h.ops.foldl (fun t o => t.chEffect o.1 o.2) s1
    .done (s2.unlock h.locks)

/-- A hold discarded and restarted from `hold.begin` (R100). -/
def State.restartHold (s : State) (core : Nat) : State :=
  let x := s.core core
  match x.run with
  | some r =>
    match r.hold with
    | some h => (s.setCore core { x with s := h.s, p := h.p, ls := h.ls, scratch := h.scratch,
                                         run := some { r with hold := none, ip := h.ip } }).unlock h.locks
    | none => s
  | none => s

/-- `brk`: one step without effect, unless the core's basin is unlocked: then it halts the core and shows its code
(R102, R147, R377). -/
def semBrk : Sem := fun w c x r s =>
  let open_ := match s.basinOf c with | some b => s.sec.dbgMask.getLsbD b | none => false
  if open_ then
    .done (s.setCore c { x with halt := .requested, brkHit := true, brkCode := imm w % 2 ^ 16, run := some r })
  else .done s

def execHoldBegin (core : BitVec 12) (s : State) : Host.Outcome State Fault Refusal := .next (issue .holdBegin semHoldBegin core.toNat s)
def execHoldEnd (core : BitVec 12) (s : State) : Host.Outcome State Fault Refusal := .next (issue .holdEnd semHoldEnd core.toNat s)
def execBrk (core : BitVec 12) (s : State) : Host.Outcome State Fault Refusal := .next (issue .brk semBrk core.toNat s)

end Sys2Proof.Machine
end

