-- ==== Sys2Proof/Machine/CoreSync.lean ====
section
/-! DEFINITION. Chamber, time, flight and fabric instructions of a core (R142 to R145), and core sluices and core
flights (R143, R144, R266, R267). -/

namespace Sys2Proof.Machine

/-- An operation as a gateable instruction states it, with its registers read (R142, R145). A chamber number with a
non-zero high part names no chamber (log). -/
def gateOpOf (o : CoreOp) (w : W64) (x : Core) : GateOp :=
  let a := x.sGet (srcA w)
  let b := x.sGet (srcB w)
  let v : BitVec 32 := BitVec.ofNat 32 (b.toNat + imm w % 2 ^ 32)
  let len := 8 * (imm w / 2 ^ 24 + 1)
  let conn := imm w % 2 ^ 24
  match o with
  | .chAdd => .chamber (dstF w) a.toNat (.add v)
  | .chSet => .chamber (dstF w) a.toNat (.set (BitVec.ofNat 32 b.toNat))
  | .chSetThr => .chamber (dstF w) a.toNat (.thr (BitVec.ofNat 32 b.toNat))
  | .fxPut => .put (dstF w) a b.toNat len conn
  | .fxGet => .get (dstF w) a b.toNat len conn
  | .fxAdd => .fadd (dstF w) (imm w / 2 ^ 24 % 8) a b conn
  | .fxCas => .fcas (dstF w) (imm w / 2 ^ 24 % 8) a (x.sGet (dstF w)) b conn
  | _ => .flush (dstF w) (imm w / 2 ^ 24 % 2 = 1) conn

/-- Exceptions a fabric instruction raises at issue: its local range and alignment (R145). -/
def gateExc (g : GateOp) : Option Nat :=
  match g with
  | .put _ _ loc len _ => if !localOk loc len then some exStore else if loc % 8 ≠ 0 then some exMisaligned else none
  | .get _ _ loc len _ => if !storeOk loc len then some exStore else if loc % 8 ≠ 0 then some exMisaligned else none
  | _ => none

/-- The local address an exception of a fabric instruction names. -/
def gateDetail (g : GateOp) : W64 :=
  match g with
  | .put _ _ loc _ _ => BitVec.ofNat 64 loc
  | .get _ _ loc _ _ => BitVec.ofNat 64 loc
  | _ => 0

/-- The chamber an operation touches. -/
def gateChamber (g : GateOp) : Option Nat := match g with | .chamber _ ch _ => some ch | _ => none

/-- A chamber operation inside a hold: refused at once, or buffered behind the lock; against another hold's lock the
later `hold.begin` discards its effects and restarts (R100). -/
def holdChamber (c : Nat) (x : Core) (r : Run) (h : Hold) (pD ch : Nat) (op : ChOp) (s : State) : Res :=
  if (s.chRefuse ((s.basinOf c).getD 64) ch).isSome then put c (x.pPut pD false) s
  else
    let take (s : State) : Res :=
      let x1 := (s.core c).pPut pD true
      .done (s.setCore c { x1 with run := some { r with hold := some { h with
        locks := if h.locks.contains ch then h.locks else h.locks ++ [ch], ops := h.ops ++ [(ch, op)] } } })
    match s.lockOwner ch with
    | none => take s
    | some c2 =>
      if c2 = c then take s
      else
        match ((s.core c2).run).bind (·.hold) with
        | some h2 => if h.age < h2.age then take (s.restartHold c2) else .jump (s.restartHold c) h.ip
        | none => take s

/-- A chamber or fabric instruction outside a hold: gated, or behind gated work, it enters the core's sluice of eight;
else it takes effect (R143, R266). -/
def semGate (o : CoreOp) : Sem := fun w c x r s =>
  let g := gateOpOf o w x
  match gateExc g with
  | some e => .exc e (gateDetail g)
  | none =>
    match r.hold, g with
    | some h, .chamber pD ch op => holdChamber c x r h pD ch op s
    | _, _ =>
      let due := r.gate.getD 0
      let s1 := s.setCore c { x with run := some { r with gate := none } }
      if !x.sluice.isEmpty || (r.gate.isSome && !s.passed due) then
        if 8 ≤ x.sluice.length then .stay
        else .done (s1.setCore c { s1.core c with sluice := x.sluice ++ [{ time := due, op := g }] })
      else
        match (gateChamber g).bind s.lockOwner with
        | some _ => .stay
        | none => .done (s1.gateEffect c { time := due, op := g })

/-- `ch.wait`: after the core's gated work; refused or reached, it ends at once, else the core waits (R142, R261, R263). -/
def semChWait : Sem := fun w c x r s =>
  let ch := (x.sGet (srcA w)).toNat
  let v : BitVec 32 := BitVec.ofNat 32 ((x.sGet (srcB w)).toNat + imm w % 2 ^ 32)
  if !x.sluice.isEmpty then .stay
  else if (s.lockOwner ch).isSome then .stay
  else if (s.chRefuse ((s.basinOf c).getD 64) ch).isSome then put c (x.pPut (dstF w) false) s
  else if reached (s.chamber ch).counter v then put c (x.pPut (dstF w) true) s
  else
    let k := s.chamber ch
    .jump ((s.setCore c { x with run := some { r with wait := some { ch := ch, v := v, until_ := s.chDeadline, pD := dstF w } } }).setChamber
      ch { k with waiters := k.waiters ++ [{ src := .core c, v := v, until_ := s.chDeadline }] }) r.ip

def semAt : Sem := fun w c x r s =>
  .done (s.setCore c { x with run := some { r with gate := some (x.sGet (srcA w) + simm w).toNat } })

def semUntil : Sem := fun w c x _ s =>
  if s.passed (x.sGet (srcA w)).toNat then put c (x.sPut (dstF w) (BitVec.ofNat 64 s.now)) s else .stay

/-- The entries of a flight table, where its entries obey R144. -/
def flightTable (x : Core) (iflags : Nat) (a base : Nat) : Option (List Gated) :=
  let n := leNat (x.readLocal a 4)
  let es := (List.range n).map (fun k =>
    (leNat (x.readLocal (a + 16 + 16 * k) 8), BitVec.ofNat 64 (leNat (x.readLocal (a + 24 + 16 * k) 8))))
  let ok (w : W64) : Bool := match coreOp w with
    | some o => o.gateable && decide (predF w = 0) && legalWord o w iflags && (gateExc (gateOpOf o w x)).isNone
    | none => false
  if n = 0 ∨ 16 < n ∨ a % 16 ≠ 0 ∨ (x.readLocal (a + 4) 12).any (· ≠ 0) then none
  else if es.all (fun e => ok e.2) && (es.zip (es.drop 1)).all (fun p => decide (p.1.1 ≤ p.2.1)) then
    some (es.map (fun e =>
      let g := gateOpOf ((coreOp e.2).getD .chAdd) e.2 x
      { time := (base + e.1) % 2 ^ 64, op := g, results := false }))
  else none

/-- `flight.arm`: a handle, or 0 when the table breaks the rules or four flights are armed (R144). -/
def semFlightArm : Sem := fun w c x r s =>
  let a := (x.sGet (srcA w)).toNat
  if !localOk a 16 then .exc exStore (BitVec.ofNat 64 a)
  else if !localOk a (16 + 16 * min 16 (leNat (x.readLocal a 4))) then .exc exStore (BitVec.ofNat 64 a)
  else
    match flightTable x r.iflags a (x.sGet (srcB w)).toNat with
    | none => put c (x.sPut (dstF w) 0) s
    | some es =>
      if 4 ≤ x.flights.length then put c (x.sPut (dstF w) 0) s
      else
        let id := s.fab.handles + 1
        let s1 := { s with fab := { s.fab with handles := id } }
        let x1 : Core := { x with flights := x.flights ++ [{ handle := id, left := es }] }
        put c (x1.sPut (dstF w) (BitVec.ofNat 64 id)) s1

/-- `flight.arm.cancel`: the entries of a flight not yet released are cancelled (R144). -/
def semFlightCancel : Sem := fun w c x _ s =>
  let id := (x.sGet (srcA w)).toNat
  let hit := x.flights.any (fun f => decide (f.handle = id) && !f.left.isEmpty)
  let x1 : Core := { x with flights := x.flights.filter (fun f => decide (f.handle ≠ id)) }
  put c (x1.pPut (dstF w) hit) s

def execChAdd (core : BitVec 12) (s : State) : Host.Outcome State Fault Refusal := .next (issue .chAdd (semGate .chAdd) core.toNat s)
def execChSet (core : BitVec 12) (s : State) : Host.Outcome State Fault Refusal := .next (issue .chSet (semGate .chSet) core.toNat s)
def execChSetThr (core : BitVec 12) (s : State) : Host.Outcome State Fault Refusal := .next (issue .chSetThr (semGate .chSetThr) core.toNat s)
def execChWait (core : BitVec 12) (s : State) : Host.Outcome State Fault Refusal := .next (issue .chWait semChWait core.toNat s)
def execAtGate (core : BitVec 12) (s : State) : Host.Outcome State Fault Refusal := .next (issue .atGate semAt core.toNat s)
def execUntilTime (core : BitVec 12) (s : State) : Host.Outcome State Fault Refusal := .next (issue .untilTime semUntil core.toNat s)
def execFlightArm (core : BitVec 12) (s : State) : Host.Outcome State Fault Refusal := .next (issue .flightArm semFlightArm core.toNat s)
def execFlightArmCancel (core : BitVec 12) (s : State) : Host.Outcome State Fault Refusal := .next (issue .flightArmCancel semFlightCancel core.toNat s)
def execFxPut (core : BitVec 12) (s : State) : Host.Outcome State Fault Refusal := .next (issue .fxPut (semGate .fxPut) core.toNat s)
def execFxGet (core : BitVec 12) (s : State) : Host.Outcome State Fault Refusal := .next (issue .fxGet (semGate .fxGet) core.toNat s)
def execFxAdd (core : BitVec 12) (s : State) : Host.Outcome State Fault Refusal := .next (issue .fxAdd (semGate .fxAdd) core.toNat s)
def execFxCas (core : BitVec 12) (s : State) : Host.Outcome State Fault Refusal := .next (issue .fxCas (semGate .fxCas) core.toNat s)
def execFxFlush (core : BitVec 12) (s : State) : Host.Outcome State Fault Refusal := .next (issue .fxFlush (semGate .fxFlush) core.toNat s)

/-- The first entry of a core's sluice released once its time has passed (R143, R267). -/
def State.releaseCore (s : State) (core : Nat) : State :=
  match (s.core core).sluice with
  | g :: _ => if s.passed g.time then s.sluicePop core else s
  | [] => s

/-- The first entry of a core flight released once its time has passed. It enters behind the core's gated work (R144). -/
def State.releaseFlight (s : State) (core handle : Nat) : State :=
  let x := s.core core
  match x.flights.find? (fun f => decide (f.handle = handle)) with
  | some f =>
    match f.left with
    | g :: rest =>
      if s.passed g.time then
        let fl := if rest.isEmpty then x.flights.filter (fun q => decide (q.handle ≠ handle))
          else x.flights.map (fun q => if q.handle = handle then { q with left := rest } else q)
        (s.setCore core { x with flights := fl }).gateEffect core g
      else s
    | [] => s
  | none => s

end Sys2Proof.Machine
end

