-- ==== Sys2Proof/Machine/CoreTile.lean ====
section
/-! DEFINITION. Berth access (R87 to R92, R125 to R129), tile arithmetic and masks (R119, R120, R130 to R132). -/

namespace Sys2Proof.Machine

/-! ### Tickets (R87 to R91, R128) -/

/-- Whether the run still has berths to come: its queue or a staging, a berth of its group not yet handed out, or
a selection not yet fixed (R87, R88). -/
def moreToCome (core : Nat) (r : Run) (m : MSweep) : Bool :=
  !r.queue.isEmpty || !r.staging.isEmpty
    || m.plan.any (fun p => !p.handed.contains r.group && (match alGet p.requeued r.group with
      | some c => decide (c ≠ core) && decide (clusterOf c = clusterOf core)
      | none => true))

/-- `tld.man.next`: the next ticket, its COUNT captured now; END once no berth is to come; else the run waits. -/
def semManNext : Sem := fun w c x r s =>
  match s.memberOf r with
  | none => .stay
  | some m =>
    match r.queue with
    | t :: rest =>
      if 2 ≤ r.held.length then .exc exTicket (ticketWord t)
      else
        let cnt := if r.twin then t.count else ((s.pte (m.key t.berth)).map (·.count)).getD t.count
        let t1 := { t with count := cnt }
        let m1 := m.modBerth t.berth (fun p => { p with started := p.started ++ [r.group], count := cnt })
        .done ((s.setMember m1).setCore c
          { x.sPut (dstF w) (ticketWord t1) with run := some { r with queue := rest, held := r.held ++ [t1] } })
    | [] =>
      if moreToCome c r m then .stay
      else
        let e : Ticket := { berth := 0, first := 0, mode := 5 }
        put c { x.sPut (dstF w) (ticketWord e) with run := some { r with endTaken := true } } s

/-- The bay that holds a berth for a core: a ticket's, or one the X form had staged. -/
def State.bayOf (s : State) (core : Nat) (t : Ticket) : Option Bay := alGet (s.cluster (clusterOf core)).bays t.stage
def State.bayX (s : State) (core : Nat) (k : BerthKey) : Option Bay :=
  ((s.cluster (clusterOf core)).bays.find? (fun p => p.2.explicit && decide (p.2.core = core) && decide (p.2.key = k))).map (·.2)

/-- Where an access finds its berth: berth index, first position, COUNT, payload, manifest. -/
structure BerthView where
  berth : Nat
  first : Nat
  count : Nat
  mode : Nat
  payload : List Byte
  man : Option (List Byte)

/-- The outcome of naming a berth: a view, a wait, or an exception (R92, R125). -/
inductive Found where
  | view (v : BerthView)
  | wait (s : State)
  | exc (code : Nat)

/-- A berth named by index (X): it must be the run's basin's and of the layer; it is waited for until staged (R92). -/
def State.findX (s : State) (core : Nat) (r : Run) (m : MSweep) (b : Nat) : Found :=
  let k := m.key b
  match s.pte k with
  | none => .exc exStore
  | some p =>
    if some p.basin ≠ s.basinOf core then .exc exBasin
    else if !p.home ∨ p.state = 5 ∨ r.bad.contains b then .exc exStore
    else
      match s.bayX core k with
      | some y =>
        if y.ready then .view { berth := b, first := b * m.p, count := p.count, mode := 0, payload := y.payload, man := some y.man }
        else .wait s
      | none =>
        if r.want.contains b then .wait s
        else .wait (s.setRun core { r with want := r.want ++ [b] })

/-- A berth named by a held ticket. -/
def State.findTicket (s : State) (core : Nat) (r : Run) (m : MSweep) (w : W64) : Found :=
  match r.ticket w with
  | none => .exc exStore
  | some t =>
    if t.mode = 0 then
      match s.bayOf core t with
      | some y => .view { berth := t.berth, first := t.first, count := t.count, mode := 0, payload := y.payload, man := some y.man }
      | none => .exc exStore
    else .view { berth := t.berth, first := t.first, count := t.count, mode := t.mode, payload := [],
                 man := if t.mode = 4 then none else (m.berth? t.berth).bind (·.man) }

/-- `tld.k` and `tld.v` (R125, R126): one tile of 32 positions and 32 elements. -/
def semTld (val : Bool) : Sem := fun w c x r s =>
  let a := x.sGet (srcA w)
  match s.memberOf r with
  | none => .stay
  | some m =>
    let useX := imm w / 8 % 2 = 1
    let g := m.geo
    let h := (x.sGet (srcB w)).toNat % 256
    let p := (x.sGet (srcB w)).toNat / 256 % 8
    let ch := imm w % 8
    match (if useX then s.findX c r m a.toNat else s.findTicket c r m a) with
    | .exc e => .exc e a
    | .wait t => .jump t r.ip
    | .view v =>
      if v.mode ≠ 0 ∨ g.nkv ≤ h ∨ g.d / 32 ≤ ch ∨ 256 ≤ p * 32 then .exc exStore a
      else
        let valid := min 32 (v.count - 32 * p)
        let cells := (List.range 32).map (fun i =>
          if i < valid then (List.range 32).map (fun e => g.code v.payload (g.off (32 * p + i) h val) (32 * ch + e))
          else List.replicate 32 (0, 0))
        let t : Tile :=
          { tag := g.fmt
            elems := cells.flatMap (·.map (·.1))
            scales := cells.map (fun row => (row.headD (0, 0)).2)
            tmeta := some ⟨v.berth, h, ch, v.first + 32 * p, valid⟩
            src := if val then .value else .key }
        let mags := (cells.take valid).flatMap (·.map (fun q => toF32 .even (elemNum g.fmt q.1 q.2).abs))
        let vmax := if val then (mags.filter isFinite).foldl fMax r.bl.vmax else r.bl.vmax
        put c { x.tPut (dstF w) t with run := some { r with bl := { r.bl with vmax := vmax } } } s

/-- `tld.man`: the manifest latch loaded; empty for SKIP or END, or where no manifest could be read (R127). -/
def semTldMan : Sem := fun w c x r s =>
  let a := x.sGet (srcA w)
  match s.memberOf r with
  | none => .stay
  | some m =>
    if imm w / 4 % 2 = 0 ∧ fld a 41 3 = 5 then put c { x with run := some { r with latch := none } } s
    else
      match (if imm w / 4 % 2 = 1 then s.findX c r m a.toNat else s.findTicket c r m a) with
      | .exc e => .exc e a
      | .wait t => .jump t r.ip
      | .view v =>
        put c { x with run := some { r with latch := some ⟨v.berth, v.mode, v.first, v.count, v.man⟩ } } s

/-- The berth-local state reset (R121): the named vM at −∞ and vL at 0 in every lane, value planes and hidden items. -/
def Core.resetLocal (x : Core) (vM vL : Nat) : Core :=
  let z (x : Core) (f : Nat) : Core := x.aPut f { x.aGet f with val := [] }
  let x1 := (((x.vPut vM (List.replicate 32 negInf)).vPut vL (List.replicate 32 0)))
  let x2 := z (z (z (z x1 0x38) 0x39) 0x3A) 0x3B
  { x2 with run := x2.run.map (fun r => { r with bl := {} }) }

/-- The run on another core of the cluster that a berth handed back can go to directly (R91). -/
def State.takesBack (s : State) (core other : Nat) (r : Run) : Option Run :=
  if other = core ∨ clusterOf other ≠ clusterOf core then none
  else
    match (s.core other).run with
    | some q => if q.gsid = r.gsid ∧ q.seq = r.seq ∧ q.twin = r.twin ∧ q.group = r.group ∧ q.queue.length < 64 ∧ !q.endTaken
      then some q else none
    | none => none

/-- `tld.man.requeue` (R91, R128): an EXACT ticket not yet handed back is handed back before C. The berth goes to the
run of the group on core `other` of the cluster, staged as it is, or waits for a run or retry run to take it. -/
def semRequeue (other : Nat) : Sem := fun w c x r s =>
  let a := x.sGet (srcA w)
  match s.memberOf r, r.ticket a with
  | some m, some t =>
    if t.mode = 0 ∧ !t.requeued ∧ s.now < m.times.c then
      let x1 := (x.resetLocal (srcB w) (vlF .tldManRequeue w)).pPut (dstF w) true
      let s1 := s.setCore c { x1 with run := x1.run.map (fun q =>
        { q with handed := q.handed.filter (fun b => decide (b ≠ t.berth)), held := q.held.filter (fun h => decide (h.berth ≠ t.berth)) }) }
      let back := m.modBerth t.berth (fun p =>
        { p with started := p.started.filter (fun g => decide (g ≠ r.group)), requeued := alPut p.requeued r.group c })
      match s1.takesBack c other r with
      | some q =>
        let s2 := s1.setRun other { q with queue := q.queue ++ [{ t with requeued := true }], handed := q.handed ++ [t.berth] }
        let k := s2.cluster (clusterOf c)
        .done ((s2.setCluster (clusterOf c) { k with bays := alMod k.bays t.stage (fun y => { y with core := other, requeued := true }) }).setMember back)
      | none =>
        .done ((s1.freeBay c t).setMember (back.modBerth t.berth (fun p =>
          { p with handed := p.handed.filter (fun g => decide (g ≠ r.group)) })))
    else put c (x.pPut (dstF w) false) s
  | _, none => .exc exStore a
  | none, _ => .stay

def execTldK (core : BitVec 12) (s : State) : Host.Outcome State Fault Refusal := .next (issue .tldK (semTld false) core.toNat s)
def execTldV (core : BitVec 12) (s : State) : Host.Outcome State Fault Refusal := .next (issue .tldV (semTld true) core.toNat s)
def execTldMan (core : BitVec 12) (s : State) : Host.Outcome State Fault Refusal := .next (issue .tldMan semTldMan core.toNat s)
def execTldManNext (core : BitVec 12) (s : State) : Host.Outcome State Fault Refusal := .next (issue .tldManNext semManNext core.toNat s)
def execTldManRequeue (core newCore : BitVec 12) (s : State) : Host.Outcome State Fault Refusal := .next (issue .tldManRequeue (semRequeue newCore.toNat) core.toNat s)

/-! ### Tiles in local store (R129) -/

/-- Bytes of a tile of a format, and the local address of a `tst`. -/
def tileSize (tag : Nat) : Nat := match tag with | 0 => 544 | 1 => 1056 | _ => 2048
def tstAddr (x : Core) (w : W64) : Nat := ((x.sGet (srcA w)).toNat + imm w / 2 ^ 16) % 2 ^ 64

/-- A tile's bytes: rows of elements, then row scales for MX formats; and back. -/
def tileBytes (t : Tile) : List Byte :=
  let row (i : Nat) : List Nat := (List.range 32).map (fun e => nthD 0 t.elems (32 * i + e))
  let rows := (List.range 32).flatMap (fun i =>
    match t.tag with
    | 0 => packNibbles (row i)
    | 1 => (row i).map (BitVec.ofNat 8)
    | _ => (row i).flatMap (leBytes 2))
  if t.tag = 2 then rows else rows ++ (List.range 32).map (fun i => BitVec.ofNat 8 (nthD 0 t.scales i))
def tileOf (tag : Nat) (b : List Byte) : Tile :=
  let el (i e : Nat) : Nat :=
    match tag with
    | 0 => let v := (nthD 0 b (16 * i + e / 2)).toNat; if e % 2 = 0 then v % 16 else v / 16
    | 1 => (nthD 0 b (32 * i + e)).toNat
    | _ => dsc b (64 * i + 2 * e) 2
  { tag := tag, elems := (List.range 1024).map (fun i => el (i / 32) (i % 32)),
    scales := (List.range 32).map (fun i => if tag = 2 then 0 else (nthD 0 b ((if tag = 0 then 512 else 1024) + i)).toNat),
    tmeta := none, src := .plain }

def semTstLd (memErr : Bool) : Sem := fun w c x _ s =>
  let tag := imm w / 2 % 4
  let a := tstAddr x w
  if imm w / 2 ^ 16 % 32 ≠ 0 then .exc exMisaligned (BitVec.ofNat 64 a)
  else if !localOk a (tileSize tag) then .exc exStore (BitVec.ofNat 64 a)
  else if memErr then .exc exMemUncorr (BitVec.ofNat 64 a)
  else put c (x.tPut (dstF w) (tileOf tag (x.readLocal a (tileSize tag)))) s
def semTstSt : Sem := fun w c x _ s =>
  let t := x.tGet (srcB w)
  let a := tstAddr x w
  if imm w / 2 ^ 16 % 32 ≠ 0 then .exc exMisaligned (BitVec.ofNat 64 a)
  else if !storeOk a (tileSize t.tag) then .exc exStore (BitVec.ofNat 64 a)
  else put c (x.writeLocal a (tileBytes t)) s

def execTstLd (core : BitVec 12) (memErr : Bool) (s : State) : Host.Outcome State Fault Refusal := .next (issue .tstLd (semTstLd memErr) core.toNat s)
def execTstSt (core : BitVec 12) (s : State) : Host.Outcome State Fault Refusal := .next (issue .tstSt semTstSt core.toNat s)

/-! ### Tile arithmetic (R120, R130, R132) -/

/-- Decoded element e of row i of a tile. -/
def Tile.num (t : Tile) (i e : Nat) : Num := elemNum t.tag (nthD 0 t.elems (32 * i + e)) (nthD 0 t.scales i)

/-- Element (i, j) of a plane of 32 × 32, and the plane with each element changed. -/
def plane (p : List F32) (i j : Nat) : F32 := nthD 0 p (32 * i + j)
def mapPlane (p : List F32) (f : Nat → Nat → F32 → F32) : List F32 :=
  (List.range 1024).map (fun n => f (n / 32) (n % 32) (nthD 0 p n))

/-- Where value element e of row i lies: accumulator, plane row, column (R120). -/
def valPlace (d i e : Nat) : Nat × Nat × Nat := (0x38 + e / 32 % 4, i + groupRows d * (e / 128), e % 32)

/-- The d value elements of a row, and a core with them changed. -/
def Core.values (x : Core) (d i : Nat) : List F32 :=
  (List.range d).map (fun e => let (a, r, j) := valPlace d i e; plane (x.aGet a).val r j)
def Core.mapValues (x : Core) (d i : Nat) (f : Nat → F32 → F32) : Core :=
  (List.range d).foldl (fun x e =>
    let (a, r, j) := valPlace d i e
    let acc := x.aGet a
    x.aPut a { acc with val := setNth (padTo 0 1024 acc.val) (32 * r + j) (f e (plane acc.val r j)) }) x

/-- A row's marks and sums in the berth-local state. -/
def Run.row (r : Run) (i : Nat) : RowLocal := alGetD r.bl.rows i {}
def Run.setRow (r : Run) (i : Nat) (v : RowLocal) : Run := { r with bl := { r.bl with rows := alPut r.bl.rows i v } }
def Run.markNonfinite (r : Run) (rows : List Nat) : Run :=
  rows.foldl (fun r i => r.setRow i { r.row i with nonfinite := true }) r

/-- Rows of the group on a KV head. -/
def Run.rowsOfHead (r : Run) (h : Nat) : List Nat :=
  (r.rows.zipIdx.filter (fun p => decide (qidKv p.1.qid = h))).map (·.2)

/-- Metadata two operands share whatever their chunk: berth, head, first position, count. -/
def TMeta.same (a b : TMeta) : Bool := a.berth = b.berth && a.head = b.head && a.first = b.first && a.count = b.count

/-- Another berth's contribution than the state's first is refused (R122). -/
def Run.foreign (r : Run) (b : Nat) : Bool := match r.bl.berth with | some b0 => b0 ≠ b | none => false

def semDotQk : Sem := fun w c x r s =>
  match s.memberOf r with
  | none => .stay
  | some m =>
    let ta := x.tGet (srcA w)
    let tb := x.tGet (srcB w)
    let acc := x.aGet (dstF w)
    let z := imm w % 2 = 1
    let badMeta := match acc.smeta, tb.tmeta with
      | some q, some t => !q.tmeta.same t || q.scaled
      | _, _ => true
    if ta.tag ≠ operandTag m.fmt ∨ tb.tag ≠ m.fmt ∨ tb.tmeta.isNone = true ∨ (imm w % 2 = 0 ∧ badMeta = true) then .exc exTile w
    else
      let prev := if z then [] else acc.score
      let sc := mapPlane prev (fun i j v => fAdd .even v (fSum 0 ((List.range 32).map (fun e => (ta.num i e).mul (tb.num j e)))))
      let sm := if z then tb.tmeta.map (fun t => { tmeta := t }) else acc.smeta
      put c (x.aPut (dstF w) { acc with score := sc, smeta := sm }) s

def semAccPv : Sem := fun w c x r s =>
  match s.memberOf r with
  | none => .stay
  | some m =>
    let ta := x.tGet (srcA w)
    let tb := x.tGet (srcB w)
    match ta.tmeta, tb.tmeta with
    | some ma, some mb =>
      if ta.src ≠ .weight ∨ tb.src ≠ .value ∨ !(ma.same mb) ∨ dstF w ≠ 0x38 + mb.chunk % 4 ∨ r.foreign mb.berth then .exc exTile w
      else
        let rows := List.range (min 32 (groupRows m.d))
        let x1 := rows.foldl (fun x i => (List.range 32).foldl (fun x e =>
          let (a, pr, j) := valPlace m.d i (32 * mb.chunk + e)
          let acc := x.aGet a
          let v := fAdd .even (plane acc.val pr j) (fSum 1 ((List.range 32).map (fun q => (ta.num i q).mul (tb.num q e))))
          x.aPut a { acc with val := setNth (padTo 0 1024 acc.val) (32 * pr + j) v }) x) x
        let badV := (List.range mb.count).any (fun q => (List.range 32).any (fun e => match tb.num q e with | .fin .. => false | _ => true))
        let r1 := if badV then r.markNonfinite (r.rowsOfHead mb.head) else r
        put c { x1 with run := some { r1 with bl := { r1.bl with berth := some mb.berth } } } s
    | _, _ => .exc exTile w

def semScaleS : Sem := fun w c x _ s =>
  let acc := x.aGet (dstF w)
  let v := x.vGet (srcA w)
  if (acc.smeta.map (·.scaled)).getD false then .exc exTile w
  else put c (x.aPut (dstF w) { acc with score := mapPlane acc.score (fun i _ y => fMul .even y (nthD 0 v i)) }) s

/-- `scale.o`: the value elements of each row held in the named plane (R120, R130). -/
def semScaleO : Sem := fun w c x r s =>
  match s.memberOf r with
  | none => .stay
  | some m =>
    let acc := x.aGet (dstF w)
    let v := x.vGet (srcA w)
    put c (x.aPut (dstF w) { acc with val := mapPlane acc.val (fun i _ y => fMul .even y (nthD 0 v (i % groupRows m.d))) }) s

/-- `rope`: chunk c of every query row, rotated at its position and converted to the query operand (R42, R130). -/
def semRope : Sem := fun w c x r s =>
  match s.memberOf r with
  | none => .stay
  | some m =>
    let ch := imm w % 8
    if m.d / 32 ≤ ch then .exc exStore w
    else
      let rows := r.rows.map (fun q =>
        toOperand m.fmt (((rotate m.rope m.adjacent m.d q.qpos (queryVals m.desc.qfmt m.d q.q)).drop (32 * ch)).take 32))
      let t : Tile :=
        { tag := operandTag m.fmt
          elems := padTo 0 1024 (rows.flatMap (·.1))
          scales := padTo 0 32 (rows.map (·.2))
          tmeta := none
          src := .query }
      let bad := (r.rows.zipIdx.filter (fun p => (queryVals m.desc.qfmt m.d p.1.q).any (fun v => !isFinite v))).map (·.2)
      put c { x.tPut (dstF w) t with run := some (r.markNonfinite bad) } s

/-- A mask rule applied to a score plane (R130, R131). -/
def semMask (rule : MSweep → Nat → Nat → Bool) (mark : SMeta → SMeta) : Sem := fun w c x r s =>
  match s.memberOf r with
  | none => .stay
  | some m =>
    let acc := x.aGet (dstF w)
    match acc.smeta with
    | none => .done s
    | some q =>
      let sc := mapPlane acc.score (fun i j v =>
        if j < q.tmeta.count then
          match r.rows[i]? with
          | some row => if rule m row.qpos (q.tmeta.first + j) then v else negInf
          | none => v
        else v)
      put c (x.aPut (dstF w) { acc with score := sc, smeta := some (mark q) }) s

def execDotQk (core : BitVec 12) (s : State) : Host.Outcome State Fault Refusal := .next (issue .dotQk semDotQk core.toNat s)
def execAccPv (core : BitVec 12) (s : State) : Host.Outcome State Fault Refusal := .next (issue .accPv semAccPv core.toNat s)
def execScaleS (core : BitVec 12) (s : State) : Host.Outcome State Fault Refusal := .next (issue .scaleS semScaleS core.toNat s)
def execScaleO (core : BitVec 12) (s : State) : Host.Outcome State Fault Refusal := .next (issue .scaleO semScaleO core.toNat s)
def execRope (core : BitVec 12) (s : State) : Host.Outcome State Fault Refusal := .next (issue .rope semRope core.toNat s)
def semMskCausal : Sem := semMask (fun m p j => visCausal m.desc p j) (fun q => { q with causal := true })
def semMskWin : Sem := semMask (fun m p j => visWindow m.desc p j) (fun q => { q with win := true })
def semMskTree : Sem := semMask (fun m p j => visTree m.desc m.tree p j) (fun q => { q with tree := true })
def execMskCausal (core : BitVec 12) (s : State) : Host.Outcome State Fault Refusal := .next (issue .mskCausal semMskCausal core.toNat s)
def execMskWin (core : BitVec 12) (s : State) : Host.Outcome State Fault Refusal := .next (issue .mskWin semMskWin core.toNat s)
def execMskTree (core : BitVec 12) (s : State) : Host.Outcome State Fault Refusal := .next (issue .mskTree semMskTree core.toNat s)

end Sys2Proof.Machine
end

