-- ==== Sys2Proof/Machine/CoreSoftmax.lean ====
section
/-! DEFINITION. Softmax (R133 to R136), the ABFT check (R59, R137, R138), folding and emission of partials (R93, R94,
R139 to R141), and the score latch (R183). -/

namespace Sys2Proof.Machine

/-! ### Rows -/

/-- Counted positions joined with new ones; none when one was counted before (R122). -/
def joinCounted (old new : List Nat) : Option (List Nat) := if new.any old.contains then none else some (old ++ new)

/-- Counted positions of a row. -/
def RowLocal.total (q : RowLocal) : Nat := q.nExact + q.nMan + q.nSkip

/-- The hidden bounds and check accumulator of a row scaled by α (R133). -/
def RowLocal.rescale (q : RowLocal) (a : F32) : RowLocal :=
  let au := upScale a
  { q with chk := fMul .even a q.chk, lMan := upBound au q.lMan 0 0, lSkip := upBound au q.lSkip 0 0,
           eL := upBound au q.eL 0 0, eO := upBound au q.eO 0 0 }

/-- Exact form of `smx.upd` on one row (R133): score plane row, maximum, sum, values, counts. -/
def updRow (m : MSweep) (q : SMeta) (vM vL aS i : Nat) (x : Core) (r : Run) : Option (Core × Run) :=
  match r.rows[i]? with
  | none => some (x, r)
  | some row =>
    let acc := x.aGet aS
    let ok (j : Nat) : Bool := decide (j < q.tmeta.count) && visible m.desc m.tree row.qpos (q.tmeta.first + j)
    let js := (List.range 32).filter ok
    match joinCounted (r.row i).counted (js.map (q.tmeta.first + ·)) with
    | none => none
    | some cnt =>
      let sc := (List.range 32).map (fun j => if ok j then fMul .even m.c (plane acc.score i j) else negInf)
      let old := nthD 0 (x.vGet vM) i
      let mNew := sc.foldl fMax old
      let al := expSmx (fDiff old mNew)
      let bad := js.any (fun j => !isFinite (nthD 0 sc j))
      let st := sc.zipIdx.foldl (fun (p : List F32) (v, j) => setNth p (32 * i + j) v) (padTo 0 1024 acc.score)
      let x1 := (x.aPut aS { acc with score := st }).mapValues m.d i (fun _ v => fMul .even al v)
      let x2 := (x1.vPut vL (setNth (x1.vGet vL) i (fMul .even al (nthD 0 (x1.vGet vL) i)))).vPut vM (setNth (x1.vGet vM) i mNew)
      let w := (r.row i).rescale al
      some (x2, r.setRow i { w with nExact := w.nExact + js.length, counted := cnt, nonfinite := w.nonfinite || bad })

/-- The exact form of `smx.upd` (R133): the rows of the plane's head; the plane is then scaled. -/
def semSmxUpd : Sem := fun w c x r s =>
  match s.memberOf r, (x.aGet (srcA w)).smeta with
  | none, _ => .stay
  | _, none => .exc exTile w
  | some m, some q =>
    if q.scaled ∨ r.foreign q.tmeta.berth = true then .exc exTile w
    else
      let step (acc : Option (Core × Run)) (i : Nat) : Option (Core × Run) :=
        acc.bind (fun p => updRow m q (dstF w) (srcB w) (srcA w) i p.1 p.2)
      match (r.rowsOfHead q.tmeta.head).foldl step (some (x, r)) with
      | none => .exc exTile w
      | some (x1, r1) =>
        let a := x1.aGet (srcA w)
        let x2 := x1.aPut (srcA w) { a with smeta := some { q with scaled := true, causal := true, win := true, tree := true } }
        put c { x2 with run := some { r1 with bl := { r1.bl with berth := some q.tmeta.berth } } } s

/-- `smx.exp` (R134): weights of the plane's head, converted, their sum added to vL. -/
def semSmxExp : Sem := fun w c x r s =>
  match s.memberOf r, (x.aGet (srcA w)).smeta with
  | none, _ => .stay
  | _, none => .exc exTile w
  | some m, some q =>
    if !q.scaled then .exc exTile w
    else
      let acc := x.aGet (srcA w)
      let vM := x.vGet (srcB w)
      let vLf := vlF .smxExp w
      let hs := r.rowsOfHead q.tmeta.head
      let tag := operandTag m.fmt
      let row (i : Nat) : List Nat × Nat :=
        if hs.contains i then toOperand m.fmt ((List.range 32).map (fun j => expSmx (fDiff (plane acc.score i j) (nthD 0 vM i))))
        else (List.replicate 32 0, 0)
      let rows := (List.range 32).map row
      let t : Tile :=
        { tag := tag
          elems := rows.flatMap (·.1)
          scales := rows.map (·.2)
          tmeta := some q.tmeta
          src := .weight }
      let sum (i : Nat) (v : F32) : F32 := fAdd .even v (fSum 2 ((List.range 32).map (t.num i)))
      let vL := (x.vGet vLf).mapIdx (fun i v => if hs.contains i then sum i v else v)
      let bad := hs.filter (fun i => (List.range 32).any (fun j => match t.num i j with | .fin .. => false | _ => true))
      let x1 := (x.tPut (dstF w) t).vPut vLf vL
      put c { x1 with run := some (r.markNonfinite bad) } s

/-! ### Manifest and skip forms (R135, R136) -/

/-- The tiles tQ to tQ + d/32 − 1 are query operands within t0 to t7 (R136). -/
def Core.spanOk (x : Core) (m : MSweep) (tq : Nat) : Bool :=
  decide (tq + m.d / 32 ≤ 0x38) && (List.range (m.d / 32)).all (fun k =>
    let t := x.tGet (tq + k)
    decide (t.tag = operandTag m.fmt) && (t.src == .query || t.src == .plain) && !t.elems.isEmpty)

/-- Query row i as a span of operand tiles holds it. -/
def Core.spanRow (x : Core) (m : MSweep) (tq i : Nat) : List Num :=
  (List.range (m.d / 32)).flatMap (fun k => (List.range 32).map ((x.tGet (tq + k)).num i))

/-- The fold of a row as its registers and hidden items hold it. -/
def rowFold (x : Core) (r : Run) (d vM vL i : Nat) : Fold :=
  let q := r.row i
  { m := nthD 0 (x.vGet vM) i, l := nthD 0 (x.vGet vL) i, lMan := q.lMan, lSkip := q.lSkip, eL := q.eL, eO := q.eO,
    o := x.values d i }

/-- A fold written back to its row's registers, value elements and hidden items. -/
def putFold (x : Core) (r : Run) (d vM vL i : Nat) (f : Fold) (q : RowLocal) : Core × Run :=
  let x1 := x.mapValues d i (fun e _ => nthD 0 f.o e)
  let x2 := (x1.vPut vM (setNth (x1.vGet vM) i f.m)).vPut vL (setNth (x1.vGet vL) i f.l)
  (x2, r.setRow i { q with lMan := f.lMan, lSkip := f.lSkip, eL := f.eL, eO := f.eO })

/-- One row of the manifest or skip form: the berth's positions visible to it, counted and folded (R135, R136). -/
def approxRow (m : MSweep) (la : Latch) (skip : Bool) (tq vM vL i : Nat) (x : Core) (r : Run) : Option (Core × Run) :=
  match r.rows[i]? with
  | none => some (x, r)
  | some row =>
    let js := m.vis row.qpos la.first la.count
    if js.isEmpty then some (x, r)
    else
      match joinCounted (r.row i).counted js with
      | none => none
      | some cnt =>
        let n := js.length
        let q := x.spanRow m tq i
        let qn := normUp q
        let f := rowFold x r m.d vM vL i
        let old := r.row i
        let badQ := q.any (fun v => match v with | .fin .. => false | _ => true)
        match la.man, skip with
        | some man, false =>
          let g := m.geo
          let h := qidKv row.qid
          let f1 := f.manifest n m.c qn q (g.manVec man h false) (g.manVec man h true) (g.manRad man h 0) (g.manRad man h 1) (g.manRad man h 2)
          some (putFold x r m.d vM vL i f1
            { old with counted := cnt
                       nMan := old.nMan + n
                       nDrop := old.nDrop + (if la.mode = 2 then n else 0)
                       nSel := old.nSel + (if la.mode = 3 then n else 0)
                       chk := fMul .even (expSmx (fDiff f.m f1.m)) old.chk
                       nonfinite := old.nonfinite || badQ || isNan f1.l || f1.m = posInf })
        | _, _ =>
          some (putFold x r m.d vM vL i (f.skip n m.c qn m.kappa)
            { old with counted := cnt, nSkip := old.nSkip + n, nonfinite := old.nonfinite || badQ })

/-- The manifest and skip forms over every row of the group. -/
def semApprox (skip : Bool) : Sem := fun w c x r s =>
  match s.memberOf r, r.latch with
  | none, _ => .stay
  | _, none => .exc exTile w
  | some m, some la =>
    if !x.spanOk m (srcA w) ∨ r.foreign la.berth = true then .exc exTile w
    else
      let step (acc : Option (Core × Run)) (i : Nat) : Option (Core × Run) :=
        acc.bind (fun p => approxRow m la skip (srcA w) (dstF w) (srcB w) i p.1 p.2)
      match (List.range r.rows.length).foldl step (some (x, r)) with
      | none => .exc exTile w
      | some (x1, r1) => put c { x1 with run := some { r1 with bl := { r1.bl with berth := some la.berth } } } s

def execSmxUpd (core : BitVec 12) (s : State) : Host.Outcome State Fault Refusal := .next (issue .smxUpd semSmxUpd core.toNat s)
def execSmxUpdMan (core : BitVec 12) (s : State) : Host.Outcome State Fault Refusal := .next (issue .smxUpdMan (semApprox false) core.toNat s)
def execSmxUpdSkip (core : BitVec 12) (s : State) : Host.Outcome State Fault Refusal := .next (issue .smxUpdSkip (semApprox true) core.toNat s)
def execSmxExp (core : BitVec 12) (s : State) : Host.Outcome State Fault Refusal := .next (issue .smxExp semSmxExp core.toNat s)

/-! ### Checks (R59, R137, R138) -/

/-- `abft.acc`: Σ_j tW[i][j] × r_j added to the check accumulator of the rows of tW's head. -/
def semAbftAcc : Sem := fun w c x r s =>
  let t := x.tGet (srcA w)
  match s.memberOf r, t.tmeta, r.latch with
  | none, _, _ => .stay
  | some m, some q, some la =>
    match la.man with
    | none => .exc exTile w
    | some man =>
      if t.src ≠ .weight ∨ la.berth ≠ q.berth ∨ r.foreign q.berth = true then .exc exTile w
      else
        let g := m.geo
        let r1 := (r.rowsOfHead q.head).foldl (fun r i =>
          let old := r.row i
          let add := fSum 3 ((List.range q.count).map (fun j => (t.num i j).mul (g.rowSum man q.head (q.first - la.first + j))))
          r.setRow i { old with chk := fAdd .even old.chk add }) r
        put c { x with run := some { r1 with bl := { r1.bl with berth := some q.berth } } } s
  | _, _, _ => .exc exTile w

/-- η of R59. -/
def etaOf (fmt : Nat) : F32 := if fmt = 2 then 0x39800000 else 0x38800000

/-- Whether a row fails the check: its value sum and check accumulator differ by more than τ (R59, R138). -/
def abftFails (m : MSweep) (x : Core) (r : Run) (vL i : Nat) : Bool :=
  let l := nthD 0 (x.vGet vL) i
  let tau := fMul .even (fMul .even (fMul .even (etaOf m.fmt) (fNat .even m.d)) r.bl.vmax) l
  let sum := fSum 4 ((x.values m.d i).map num)
  let diff := toF32 .even ((num sum).add (num (r.row i).chk).neg).abs
  fLt 0 l && fLt tau diff

/-- `abft.chk`: failing rows are marked suspect, pD is 1 only when none fails. A fault in an accumulator element acts
before the check (R422); an uncorrectable word stops the run. -/
def semAbftChk (upset : Option AccUpset) (memErr : Bool) : Sem := fun w c x0 r s =>
  match s.memberOf r with
  | none => .stay
  | some m =>
    if memErr then .exc exMemUncorr w
    else
      let x := match upset with
        | some u =>
          let f := 0x38 + u.plane % 4
          x0.aPut f { x0.aGet f with val := setNth (padTo 0 1024 (x0.aGet f).val) (32 * (u.row % 32) + u.col % 32) u.val }
        | none => x0
      let bad := (List.range r.rows.length).filter (abftFails m x r (srcA w))
      let r1 := bad.foldl (fun r i => r.setRow i { r.row i with suspect := true }) r
      put c { x.pPut (dstF w) bad.isEmpty with run := some r1 } s

def execAbftAcc (core : BitVec 12) (s : State) : Host.Outcome State Fault Refusal := .next (issue .abftAcc semAbftAcc core.toNat s)
def execAbftChk (core : BitVec 12) (upset : Option AccUpset) (memErr : Bool) (s : State) : Host.Outcome State Fault Refusal := .next (issue .abftChk (semAbftChk upset memErr) core.toNat s)

/-! ### Folding (R52, R93, R139) -/

/-- The berth-local state of a row as a record of the row's query (R93). -/
def localRec (x : Core) (r : Run) (m : MSweep) (vM vL i : Nat) (base : Partial) : Partial :=
  let q := r.row i
  let cov := q.nExact + q.nMan
  { base with m := nthD 0 (x.vGet vM) i, l := nthD 0 (x.vGet vL) i, lMan := q.lMan, lSkip := q.lSkip, eL := q.eL, eO := q.eO,
              nExact := q.nExact, nMan := q.nMan, nDrop := q.nDrop, nSel := q.nSel, nSkip := q.nSkip,
              nTwin := if r.twin then cov else 0, nSuspect := if q.suspect then q.nExact else 0,
              flags := (if q.suspect && decide (0 < q.nExact) then flSuspect else 0) + (if q.nonfinite then flNonfinite else 0)
                + (if q.lSkip = posInf then flUnbounded else 0),
              o := x.values m.d i }

/-- NONFINITE makes L and O NaN (R41). -/
def nanIfBad (p : Partial) : Partial :=
  if flagHas p.flags flNonfinite then { p with l := nan32, o := p.o.map (fun _ => nan32) } else p

/-- A berth-local record folded into a row's state under R52, whose SRC line holds for it too (R94; log). -/
def foldInto (st b : Partial) : Partial := nanIfBad (mergeRec selfPkg st b)

/-- One row's fold of a ticket's berth: uncounted visible positions are skipped first (R139). -/
def foldRow (x : Core) (r : Run) (m : MSweep) (t : Ticket) (vM vL i : Nat) (st : Partial) : Partial :=
  match r.rows[i]? with
  | none => st
  | some row =>
    let left := (m.vis row.qpos t.first t.count).filter (fun j => !(r.row i).counted.contains j)
    let clean := t.requeued && (List.range r.rows.length).all (fun k => !(r.row k).suspect)
    let b := skipInto (localRec x r m vM vL i st) left.length m.c (queryNorm m.desc m.d row.q) m.kappa
    let b1 := if clean && decide (0 < (r.row i).nExact) then { b with flags := flagSet b.flags flRetried } else b
    foldInto st b1

/-- An increment's share of one row: l_b × exp(m_b − M) / L (R183). -/
def incOf (mb lb bigM bigL : F32) : F32 := fDiv .even (fMul .even lb (expSmx (fDiff mb bigM))) bigL

/-- The largest share over the rows; rows without mass give none. -/
def incMax (rows : List (F32 × F32)) (st : List Partial) : F32 :=
  (rows.zip st).foldl (fun acc (p : (F32 × F32) × Partial) =>
    if fLt 0 p.2.l && fLt 0 p.1.2 then fMax acc (incOf p.1.1 p.1.2 p.2.m p.2.l) else acc) 0

/-- A score increment kept for a berth of a sweep, the largest per cluster and berth (R183). -/
def MSweep.addInc (m : MSweep) (cl b : Nat) (v : F32) : MSweep :=
  { m with incs := alPut m.incs (cl, b) (fMax (alGetD m.incs (cl, b) 0) v) }

/-- A contribution entered in the cluster's score latch of 128; the oldest is finalised against its run's row state
at that moment when it is full (R183). -/
def State.latchScore (s : State) (core : Nat) (e : ScoreEntry) : State :=
  let cl := clusterOf core
  let all := (s.cluster cl).scores ++ [e]
  if all.length ≤ 128 then s.setCluster cl { s.cluster cl with scores := all }
  else
    match all with
    | [] => s
    | o :: rest =>
      let s1 := s.setCluster cl { s.cluster cl with scores := rest }
      match (s1.core o.core).run, s1.member o.gsid o.seq o.twin with
      | some q, some m => s1.setMember (m.addInc cl o.key.berth (incMax o.rows q.state))
      | _, _ => s1

/-- `merge.part` (R94, R139): the fold of every row, the ticket released, the berth-local state reset. -/
def semMergePart : Sem := fun w c x r s =>
  let a := x.sGet (srcA w)
  match s.memberOf r, r.ticket a with
  | none, _ => .stay
  | _, none => .exc exStore a
  | some m, some t =>
    if r.foreign t.berth = true then .exc exTile w
    else
      let vM := srcB w
      let vL := vlF .mergePart w
      let st := r.state.mapIdx (fun i p => foldRow x r m t vM vL i p)
      let x1 := ({ x with run := some { r with state := st } } : Core).resetLocal vM vL
      let e : ScoreEntry :=
        { key := m.key t.berth
          group := r.group
          region := regionOf c
          gsid := r.gsid
          seq := r.seq
          twin := r.twin
          core := c
          rows := (List.range r.rows.length).map (fun i => (nthD 0 (x.vGet vM) i, nthD 0 (x.vGet vL) i)) }
      let s1 := (s.setCore c x1).release c t
      let took := (List.range r.rows.length).any (fun i => decide (0 < (r.row i).nExact + (r.row i).nMan))
      .done (if took && !r.twin then s1.latchScore c e else s1)

/-- `merge.part.drop` (R140): the berth-local state reset without folding. -/
def semMergeDrop : Sem := fun w c x _ s => put c (x.resetLocal (srcB w) (vlF .mergePartDrop w)) s

/-- `merge.part.r` (R140): two records in local store merged. -/
def semMergeR : Sem := fun w c x r s =>
  match s.memberOf r with
  | none => .stay
  | some m =>
    let a := (x.sGet (srcA w)).toNat
    let b := (x.sGet (srcB w)).toNat
    let n := 128 + 4 * m.d
    if !storeOk a n then .exc exStore (BitVec.ofNat 64 a)
    else if !localOk b n then .exc exStore (BitVec.ofNat 64 b)
    else if a % 128 ≠ 0 then .exc exMisaligned (BitVec.ofNat 64 a)
    else if b % 128 ≠ 0 then .exc exMisaligned (BitVec.ofNat 64 b)
    else
      let p := recOf (x.readLocal a n) m.d
      let q := recOf (x.readLocal b n) m.d
      if p.sweep % 2 ^ 24 ≠ q.sweep % 2 ^ 24 ∨ p.seq ≠ q.seq ∨ p.qid % 2 ^ 24 ≠ q.qid % 2 ^ 24 then .exc exMismatch (BitVec.ofNat 64 a)
      else put c (x.writeLocal a (recBytes (nanIfBad (mergeRec selfPkg p q)))) s

/-- `emit.part` (R94, R141): tickets still held are skipped whole, then every row's state goes to the merge slot. -/
def semEmit : Sem := fun _ c _ r s =>
  match s.memberOf r with
  | none => .stay
  | some m =>
    if !r.endTaken then .exc exIncomplete (BitVec.ofNat 64 r.ip)
    else if r.emitted then .exc exDupEmit (BitVec.ofNat 64 r.ip)
    else
      let st := r.state.mapIdx (fun i p =>
        match r.rows[i]? with
        | none => p
        | some row => r.held.foldl (fun p t =>
            skipInto p (m.vis row.qpos t.first t.count).length m.c (queryNorm m.desc m.d row.q) m.kappa) p)
      let s1 := r.held.foldl (fun s t => s.release c t) s
      let s2 := s1.setMember { m with runRecs := m.runRecs ++ [{ region := regionOf c, group := r.group, core := c, order := r.order, recs := st }] }
      .done (s2.setRun c { r with state := st, emitted := true, held := [] })

def execMergePart (core : BitVec 12) (s : State) : Host.Outcome State Fault Refusal := .next (issue .mergePart semMergePart core.toNat s)
def execMergePartDrop (core : BitVec 12) (s : State) : Host.Outcome State Fault Refusal := .next (issue .mergePartDrop semMergeDrop core.toNat s)
def execMergePartR (core : BitVec 12) (s : State) : Host.Outcome State Fault Refusal := .next (issue .mergePartR semMergeR core.toNat s)
def execEmitPart (core : BitVec 12) (s : State) : Host.Outcome State Fault Refusal := .next (issue .emitPart semEmit core.toNat s)

end Sys2Proof.Machine
end

