-- ==== Sys2Proof/Machine/Ledger.lean ====
section
/-! DEFINITION. The ledger: entries, searches, inserts and deletes, cursors, the dredge, retirement and rebuild
(R218 to R231, R243). -/

namespace Sys2Proof.Machine

/-! ### Entries (R218 to R220) -/

/-- A ledger key (R218). -/
def ldgKey (kind tenant basin object layer berth : Nat) : BitVec 128 :=
  BitVec.ofNat 128 (kind % 16 + tenant % 2 ^ 12 * 2 ^ 4 + basin % 2 ^ 6 * 2 ^ 16 + object % 2 ^ 32 * 2 ^ 22
    + layer % 2 ^ 16 * 2 ^ 54 + berth % 2 ^ 25 * 2 ^ 70)

/-- Field `[lo + w - 1 : lo]` of a word. -/
def vfld (v : W64) (lo w : Nat) : Nat := Sys2Proof.fld v lo w

/-- Field `[lo + w - 1 : lo]` of a key. -/
def kfld (k : BitVec 128) (lo w : Nat) : Nat := k.toNat / 2 ^ lo % 2 ^ w

/-- A mask of key fields: KIND and the reserved bits always (R219); the berth's bits from `lo` up when `berth` is
given. -/
def ldgCare (tenant basin object layer : Bool) (berth : Option Nat) : BitVec 128 :=
  let f (b : Bool) (lo w : Nat) : Nat := if b then (2 ^ w - 1) * 2 ^ lo else 0
  BitVec.ofNat 128 (0xF + (2 ^ 33 - 1) * 2 ^ 95 + f tenant 4 12 + f basin 16 6 + f object 22 32 + f layer 54 16
    + (match berth with
       | some lo => (2 ^ 25 - 2 ^ lo) * 2 ^ 70
       | none => 0))

/-- Even parity of a number's low n bits. -/
def parityOf (n x : Nat) : Bool := ((List.range n).filter (fun i => x.testBit i)).length % 2 = 1

/-- The ten parity bits of an entry, one for each 32-bit word of key, mask and value. -/
def parityBits (key care : BitVec 128) (val : W64) : BitVec 10 :=
  let w (x i : Nat) : Nat := if parityOf 32 (x / 2 ^ (32 * i)) then 1 else 0
  BitVec.ofNat 10 (((List.range 4).map (fun i => w key.toNat i * 2 ^ i)).sum
    + ((List.range 4).map (fun i => w care.toNat i * 2 ^ (4 + i))).sum
    + ((List.range 2).map (fun i => w val.toNat i * 2 ^ (8 + i))).sum)

/-- The locator of a key: KIND, TENANT and a parity bit. -/
def locatorOf (key : BitVec 128) : BitVec 17 :=
  let x := key.toNat % 2 ^ 16
  BitVec.ofNat 17 (x + (if parityOf 16 x then 2 ^ 16 else 0))

/-- An entry written whole: key bits without care are stored as 0 (R219). -/
def LEntry.make (key care : BitVec 128) (val : W64) : LEntry :=
  let k := key &&& care
  { key := k, care := care, val := val, parity := parityBits k care val, loc0 := locatorOf k, loc1 := locatorOf k }

/-- An entry whose KIND is 0 is FREE. -/
def LEntry.isFree (e : LEntry) : Bool := decide (e.key.toNat % 16 = 0)

/-- Whether an entry's parity holds. -/
def LEntry.sound (e : LEntry) : Bool := decide (parityBits e.key e.care e.val = e.parity)

/-- KIND and TENANT of the first locator copy whose parity holds. -/
def LEntry.locator (e : LEntry) : Option (Nat × Nat) :=
  let good (l : BitVec 17) : Bool := parityOf 16 l.toNat == l.getLsbD 16
  if good e.loc0 then some (e.loc0.toNat % 16, e.loc0.toNat / 16 % 2 ^ 12)
  else if good e.loc1 then some (e.loc1.toNat % 16, e.loc1.toNat / 16 % 2 ^ 12)
  else none

/-- A flipped bit of an entry: key, care mask, value, then the two locators (R218). -/
def LEntry.flip (e : LEntry) (bit : Nat) : LEntry :=
  if bit < 128 then { e with key := e.key ^^^ BitVec.ofNat 128 (2 ^ bit) }
  else if bit < 256 then { e with care := e.care ^^^ BitVec.ofNat 128 (2 ^ (bit - 128)) }
  else if bit < 320 then { e with val := e.val ^^^ BitVec.ofNat 64 (2 ^ (bit - 256)) }
  else if bit < 337 then { e with loc0 := e.loc0 ^^^ BitVec.ofNat 17 (2 ^ (bit - 320)) }
  else { e with loc1 := e.loc1 ^^^ BitVec.ofNat 17 (2 ^ (bit - 337)) }

/-! ### Matching (R221, R222) -/

/-- An entry matches a search. -/
def LEntry.hits (e : LEntry) (key mask : BitVec 128) : Bool :=
  !e.isFree && !e.retired && decide (e.care &&& mask &&& (e.key ^^^ key) = 0)

/-- Numbers in ascending order. -/
def insNat (x : Nat) : List Nat → List Nat
  | [] => [x]
  | y :: ys => if x ≤ y then x :: y :: ys else y :: insNat x ys
def sortNat (l : List Nat) : List Nat := l.foldr insNat []

/-- Indices of the matching entries, lowest first. -/
def State.ldgHits (s : State) (key mask : BitVec 128) : List Nat :=
  sortNat ((s.ledger.entries.filter (fun p => p.2.hits key mask)).map (·.1))

def State.ldgEntry (s : State) (i : Nat) : LEntry := alGetD s.ledger.entries i {}
def State.setLedger (s : State) (l : Ledger) : State := { s with ledger := l }

/-- The least index without an entry that is used or retired. -/
def ldgFree (m : AL Nat LEntry) : Nat → Nat → Option Nat
  | 0, _ => none
  | n + 1, i =>
    if 262144 ≤ i then none
    else
      let e := alGetD m i {}
      if e.isFree && !e.retired then some i else ldgFree m n (i + 1)

/-! ### Writes (R224 to R226) -/

/-- The entry with a given key and care mask, if any; of kind HOME, the one that also names the same package, since
several peers may home berths of one block (R227). -/
def State.ldgSame (s : State) (key care : BitVec 128) (val : W64 := 0) : Option Nat :=
  (s.ledger.entries.find? (fun p => !p.2.isFree && !p.2.retired && decide (p.2.key = key &&& care) && decide (p.2.care = care)
    && (decide (kfld key 0 4 ≠ 2) || decide (vfld p.2.val 0 10 = vfld val 0 10)))).map (·.1)

/-- An entry written at an index. -/
def State.ldgPut (s : State) (i : Nat) (e : LEntry) : State := s.setLedger { s.ledger with entries := alPut s.ledger.entries i e }

/-- A delete: the entry is FREE at once. -/
def State.ldgDel (s : State) (i : Nat) : State := s.setLedger { s.ledger with entries := alDel s.ledger.entries i }

/-- An insert or update: in place when key and care mask are there, else the lowest FREE entry; TENANT_RETIRED for a
tenant whose key slot is not ACTIVE, LEDGER_FULL without room (R224 to R226). -/
def State.ldgInsert (s : State) (key care : BitVec 128) (val : W64) (fence : Bool := false) : Except Nat State :=
  if !s.active (kfld key 4 12) && !(fence && (s.ldgSame key care val).isSome) then .error stTenantRetired
  else
    match s.ldgSame key care val with
    | some i => .ok (s.ldgPut i (LEntry.make key care val))
    | none =>
      match ldgFree s.ledger.entries (s.ledger.entries.length + 1) 0 with
      | some i => .ok (s.ldgPut i (LEntry.make key care val))
      | none => .error stLedgerFull

/-- An insert of a kind other than HOME; LEDGER_FULL sets LDG_STAT.FULL. -/
def State.ldgAdd (s : State) (key care : BitVec 128) (val : W64) : Except (Nat × State) State :=
  match s.ldgInsert key care val with
  | .ok t => .ok t
  | .error e => .error (e, if e = stLedgerFull then s.setFld rLdgStat 38 1 1 else s)

/-- Entries whose key and care mask are given, deleted. -/
def State.ldgDrop (s : State) (key care : BitVec 128) : State :=
  match s.ldgSame key care with
  | some i => s.ldgDel i
  | none => s

/-! ### Kinds -/

def layerKeyOf (k : LayerKey) (basin : Nat) : BitVec 128 :=
  if 0x1000 ≤ k.tenant then ldgKey 6 0 basin k.object k.layer 0 else ldgKey 1 k.tenant basin k.object k.layer 0
def layerCare : BitVec 128 := ldgCare true true true true none

/-- The value of a LAYER or BASE entry: root address [38:6] and FENCED. -/
def layerVal (root : Nat) (fenced : Bool) : W64 :=
  BitVec.ofNat 64 (root / 64 % 2 ^ 33 + (if fenced then 2 ^ 33 else 0))

def nbrKey (k : LayerKey) (basin blk : Nat) : BitVec 128 := ldgKey 3 k.tenant basin k.object k.layer (blk * 1024)
def nbrCare : BitVec 128 := ldgCare true true true true (some 10)
def moorKeyOf (tenant basin key : Nat) : BitVec 128 := ldgKey 4 tenant basin key 0 0
def moorCare : BitVec 128 := ldgCare true true true false none
def tenantKeyOf (tenant : Nat) : BitVec 128 := ldgKey 5 tenant 0 0 0 0
def tenantCare : BitVec 128 := ldgCare true false false false none

/-- HOME entries: a block of 2^HOME_BLK berths, layer cared (R220). -/
def State.homeBlk (s : State) : Nat := s.fld rLdgCtl 16 5
def homeKey (k : LayerKey) (berth : Nat) : BitVec 128 := ldgKey 2 k.tenant 0 k.object k.layer berth
def homeCare (blk : Nat) : BitVec 128 := ldgCare true false true true (some blk)
def homeVal (pkg epoch homed : Nat) : W64 :=
  BitVec.ofNat 64 (pkg % 2 ^ 10 + epoch % 2 ^ 16 * 2 ^ 16 + homed % 2 ^ 25 * 2 ^ 32)

/-- HOME entries of a search with tenant, object, layer and, where given, berth. -/
def State.homeHits (s : State) (k : LayerKey) (berth : Option Nat) : List (Nat × LEntry) :=
  (s.ldgHits (homeKey k (berth.getD 0)) (ldgCare true false true true (berth.map (fun _ => 0)))).map (fun i => (i, s.ldgEntry i))

/-- Blocks of a HOME entry met by [lo, hi]: whether the entry's aligned block meets a range of berths. -/
def LEntry.meets (e : LEntry) (lo hi : Nat) : Bool :=
  let b := kfld e.key 70 25
  let free := 2 ^ 25 - 1 - kfld e.care 70 25
  decide (b ≤ hi) && decide (lo ≤ b + free)

/-- A newer epoch (R356). -/
def epochNewer (a b : Nat) : Bool := let d := (a + 2 ^ 16 - b) % 2 ^ 16; decide (1 ≤ d) && decide (d < 2 ^ 15)
def State.epoch (s : State) : Nat := s.fld rBsnEpoch 0 16
def State.epochUnset (s : State) : Bool := s.fld rBsnEpoch 18 1 = 1

/-- The epoch of an arriving message: AHEAD is set when it is newer, or while no epoch is installed (R356). -/
def State.sawEpoch (s : State) (e : Nat) : State :=
  if s.epochUnset || epochNewer e s.epoch then s.setFld rBsnEpoch 17 1 1 else s

/-- The block that covers two berths: how many low bits they may differ in. -/
def commonBits (a b : Nat) : Nat → Nat
  | 0 => 25
  | n + 1 => if a / 2 ^ (25 - (n + 1)) = b / 2 ^ (25 - (n + 1)) then 25 - (n + 1) else commonBits a b n

/-- HOME entries of one tenant, object and package merged into one (R226): common aligned block, LAYER cared only
when all agree, newest epoch, HOMED the sum. Without an entry to merge nothing changes. -/
def State.homeMerge (s : State) (tenant object pkg : Nat) : State :=
  let hits := ((s.ldgHits (ldgKey 2 tenant 0 object 0 0) (ldgCare true false true false none)).map (fun i => (i, s.ldgEntry i))).filter
    (fun p => decide (vfld p.2.val 0 10 = pkg))
  match hits with
  | [] => s
  | [_] => s
  | (i0, e0) :: rest =>
    let lo := rest.foldl (fun m p => min m (kfld p.2.key 70 25)) (kfld e0.key 70 25)
    let hi := hits.foldl (fun m p => max m (kfld p.2.key 70 25 + (2 ^ 25 - 1 - kfld p.2.care 70 25))) 0
    let low := commonBits lo hi 25
    let oneLayer := hits.all (fun p => decide (kfld p.2.care 54 16 = 2 ^ 16 - 1) && decide (kfld p.2.key 54 16 = kfld e0.key 54 16))
    let ep := rest.foldl (fun m p => if epochNewer (vfld p.2.val 16 16) m then vfld p.2.val 16 16 else m) (vfld e0.val 16 16)
    let sum := (hits.map (fun p => vfld p.2.val 32 25)).sum
    let care := ldgCare true false true oneLayer (some low)
    let s1 := hits.foldl (fun s p => s.ldgDel p.1) s
    s1.ldgPut i0 (LEntry.make (ldgKey 2 tenant 0 object (kfld e0.key 54 16) lo) care (homeVal pkg ep sum))

/-- A HOME insert: on LEDGER_FULL the object's entries of the package are merged and the insert retried; one that
still fails is retried every 107,374,182 ticks (R226). -/
def State.homeInsert (s : State) (key care : BitVec 128) (val : W64) : State :=
  match s.ldgInsert key care val with
  | .ok t => t
  | .error e =>
    if e ≠ stLedgerFull then s
    else
      let s1 := (s.setFld rLdgStat 38 1 1).homeMerge (kfld key 4 12) (kfld key 22 32) (vfld val 0 10)
      match s1.ldgInsert key care val with
      | .ok t => t
      | .error _ => s1.setLedger { s1.ledger with retries := s1.ledger.retries ++ [⟨key, care, val, s.now + 107374182⟩] }

/-- `HOME_INSERT_RETRY`: the first refused HOME insert that is due is tried again; it ends when it succeeds or the
tenant's key slot leaves ACTIVE. -/
def execHomeInsertRetry (s : State) : Host.Outcome State Fault Refusal :=
  match s.ledger.retries.find? (fun r => decide (r.due ≤ s.now)) with
  | none => .next s
  | some r =>
    let rest := s.ledger.retries.filter (fun q => decide (q ≠ r))
    let s1 := s.setLedger { s.ledger with retries := rest }
    if !s.active (kfld r.key 4 12) then .next s1
    else
      match s1.ldgInsert r.key r.care r.val with
      | .ok t => .next t
      | .error _ => .next (s1.setLedger { s1.ledger with retries := rest ++ [{ r with due := s.now + 107374182 }] })

/-! ### Parity, retirement, rebuild (R228 to R230) -/

/-- Packages a HOME_QUERY for a tenant goes to: the parts its objects and HOME entries name (R230). -/
def State.peersOf (s : State) (tenant : Option Nat) : List Nat :=
  let objs := s.tiers.objects.filter (fun p => match tenant with | some t => decide (p.1.1 = t) | none => decide (p.1.1 < 0x1000))
  let homes := s.ledger.entries.filter (fun p => decide (kfld p.2.key 0 4 = 2) && !p.2.retired
    && (match tenant with | some t => decide (kfld p.2.key 4 12 = t) | none => true))
  sortNat ((objs.flatMap (fun p => p.2.pset) ++ homes.map (fun p => vfld p.2.val 0 10)).dedup.filter (fun p => decide (p ≠ selfPkg)))

/-- A rebuild begun: HOME rebuilds ask the parts of the map. -/
def State.rebuildStart (s : State) (kind : Option Nat) (tenant : Nat) : State :=
  let s1 := s.setLedger { s.ledger with rebuilds := s.ledger.rebuilds ++ [{ kind := kind, tenant := tenant }] }
  match kind with
  | some 2 => s1.sends ((s.peersOf (some tenant)).map (fun p => .homeQuery p tenant))
  | some _ => s1
  | none =>
    let ts := ((s.tiers.objects.map (fun p => p.1.1)).dedup).filter (fun t => decide (t < 0x1000))
    s1.sends (ts.flatMap (fun t => (s.peersOf (some t)).map (fun p => .homeQuery p t)))

/-- An entry retired (R229): counted, logged (the oldest of 16 first out), reported, and its kind rebuilt. -/
def State.ldgRetire (s : State) (i : Nat) : State :=
  let e := s.ldgEntry i
  let loc := e.locator
  let (k, t) := loc.getD (0xF, 0)
  let log := s.ledger.log ++ [(i, k, t)]
  let s1 := s.setLedger { s.ledger with entries := alPut s.ledger.entries i { e with retired := true },
                                        retiredCount := s.ledger.retiredCount + 1,
                                        log := log.drop (log.length - 16) }
  let s2 := s1.drawn.event 0 (eventRec 0x0201 0 0 ⟨0, 0, 0, 0⟩ s.now s1.free.toNat)
  s2.rebuildStart (loc.map (·.1)) t

/-- Matching entries tested as a lookup reads them: those that fail parity are retired (R222, R228). -/
def State.ldgTest (s : State) (is : List Nat) : State :=
  is.foldl (fun s i => if (s.ldgEntry i).sound then s else s.ldgRetire i) s

/-- Whether a search could match an entry of a kind and tenant under rebuild (R230). -/
def Rebuild.holds (r : Rebuild) (key mask : BitVec 128) : Bool :=
  match r.kind with
  | none => true
  | some k => decide (mask &&& ldgCare true false false false none &&& (ldgKey k r.tenant 0 0 0 0 ^^^ key)
      &&& BitVec.ofNat 128 0xFFFF = 0)

def State.ldgHeld (s : State) (key mask : BitVec 128) : Bool := s.ledger.rebuilds.any (fun r => r.holds key mask)

/-- The entries a rebuild finds in its sources (R230): root directory, HOME answers, graph slots, mooring table,
basin tables. -/
def State.rebuilt (s : State) (r : Rebuild) : List (BitVec 128 × BitVec 128 × W64) :=
  let want (k : Nat) : Bool := match r.kind with | none => true | some x => decide (x = k)
  let ten (t : Nat) : Bool := r.kind.isNone || decide (t = r.tenant)
  let fenced (t : Nat) : Bool := decide ((s.keySlot t).st = 3)
  let roots := s.tiers.layers.filterMap (fun p =>
    if 0x1000 ≤ p.1.tenant then
      if want 6 then some (layerKeyOf p.1 (p.1.tenant - 0x1000), layerCare, layerVal p.2.root false) else none
    else if want 1 && ten p.1.tenant then
      some (layerKeyOf p.1 p.2.basin, layerCare, layerVal p.2.root (fenced p.1.tenant)) else none)
  let homes := if want 2 then r.blocks.map (fun b =>
    (homeKey ⟨b.tenant, b.object, b.layer⟩ (b.block % 2 ^ 25), homeCare s.homeBlk,
      homeVal (b.homed / 2 ^ 25) b.epoch (b.homed % 2 ^ 25))) else []
  let nbrs := if want 3 then s.tiers.slots.filterMap (fun p =>
    match p.2.st, p.2.key with
    | .graph, some k => if ten k.tenant then
        some (nbrKey k.lk (((s.layer k.lk).map (·.basin)).getD 0) (k.berth / 1024), nbrCare,
          BitVec.ofNat 64 (p.1 + (if fenced k.tenant then 2 ^ 23 else 0))) else none
    | _, _ => none) else []
  let moors := if want 4 then s.net.moorings.filterMap (fun p =>
    if p.2.st ≠ 0 && ten p.2.tenant then
      some (moorKeyOf p.2.tenant p.2.basin p.2.key, moorCare, BitVec.ofNat 64 (p.2.conn % 2 ^ 24 + p.2.gen % 2 ^ 16 * 2 ^ 24
        + (if fenced p.2.tenant then 2 ^ 40 else 0))) else none) else []
  let tens := if want 5 then
    ((s.host.basins.flatMap (fun p => p.2.tenants)).dedup.filter ten).map (fun t =>
      (tenantKeyOf t, tenantCare, BitVec.ofNat 64 (((s.host.basins.filter (fun p => p.2.tenants.contains t)).map (fun p => 2 ^ p.1)).sum)))
    else []
  roots ++ homes ++ nbrs ++ moors ++ tens

/-! ### Cursors (R223, R243) -/

def State.cursor (s : State) (n : Nat) : Cursor := alGetD s.ledger.cursors n {}
def State.setCursor (s : State) (n : Nat) (c : Cursor) : State :=
  s.setLedger { s.ledger with cursors := alPut s.ledger.cursors n c }

/-- An entry returned through a cursor. -/
def Cursor.give (c : Cursor) (i : Nat) (e : LEntry) : Cursor :=
  { c with at_ := some i, valid := true, isEnd := false, index := i, val := e.val, ekey := e.key, emask := e.care, busy := false }

/-- LOOKUP performed: matching entries are tested, the lowest sound one returned with the count. -/
def State.lookupNow (s : State) (n : Nat) (key mask : BitVec 128) : State :=
  let s1 := s.ldgTest (s.ldgHits key mask)
  let hits := s1.ldgHits key mask
  let c0 : Cursor := { key := key, mask := mask, isOpen := true, count := hits.length }
  match hits with
  | [] => s1.setCursor n { c0 with isEnd := true }
  | i :: _ => s1.setCursor n (c0.give i (s1.ldgEntry i))

/-- NEXT performed: the lowest match above the cursor, or END. -/
def State.nextNow (s : State) (n : Nat) : State :=
  let c := s.cursor n
  if !c.isOpen then s.setCursor n { c with valid := false, isEnd := true, busy := false }
  else
    let above (s : State) : List Nat := (s.ldgHits c.key c.mask).filter (fun i => match c.at_ with | some a => decide (a < i) | none => true)
    let s1 := match above s with
      | i :: _ => s.ldgTest [i]
      | [] => s
    match above s1 with
    | [] => s1.setCursor n { c with valid := false, isEnd := true, busy := false }
    | i :: _ => s1.setCursor n (c.give i (s1.ldgEntry i))

/-- LOOKUP on a cursor: held while a rebuild of what it could match runs; ignored while the cursor is busy. -/
def State.cursorLookup (s : State) (n : Nat) (key mask : BitVec 128) : State :=
  if (s.cursor n).busy then s
  else if s.ldgHeld key mask then
    let s1 := s.setCursor n { s.cursor n with busy := true }
    s1.setLedger { s1.ledger with heldLookups := s1.ledger.heldLookups ++ [(n, key, mask)] }
  else s.lookupNow n key mask

/-- NEXT on a cursor. -/
def State.cursorNext (s : State) (n : Nat) : State :=
  let c := s.cursor n
  if c.busy then s
  else if c.isOpen && s.ldgHeld c.key c.mask then s.setCursor n { c with busy := true }
  else s.nextNow n

/-- CLOSE: the cursor is freed. -/
def State.cursorClose (s : State) (n : Nat) : State := if (s.cursor n).busy then s else s.setCursor n {}

/-- A cursor command: of the host's four cursors through their registers, of the keepers' others at any time. -/
def cursorRow (cur : BitVec 6) (f : State → Nat → State) (s : State) : State :=
  if decide (cur.toNat < 4) && !s.inService then s.turnedAway else f s cur.toNat

/-- `LEDGER_CURSOR_LOOKUP`. -/
def execLedgerCursorLookup (cur : BitVec 6) (key mask : BitVec 128) (s : State) : Host.Outcome State Fault Refusal :=
  .next (cursorRow cur (fun s n => s.cursorLookup n key mask) s)

/-- `LEDGER_CURSOR_NEXT`. -/
def execLedgerCursorNext (cur : BitVec 6) (s : State) : Host.Outcome State Fault Refusal :=
  .next (cursorRow cur State.cursorNext s)

/-- `LEDGER_CURSOR_CLOSE`. -/
def execLedgerCursorClose (cur : BitVec 6) (s : State) : Host.Outcome State Fault Refusal :=
  .next (cursorRow cur State.cursorClose s)

/-- The value a read of LDG_RETIRE_LOG returns, and its removal of the oldest record (R243). -/
def State.retireLogWord (s : State) : W64 :=
  match s.ledger.log with
  | [] => 0
  | (i, k, t) :: _ => BitVec.ofNat 64 (i % 2 ^ 18 + k % 16 * 2 ^ 18 + t % 2 ^ 12 * 2 ^ 22 + 2 ^ 63)
def State.retireLogPop (s : State) : State := s.setLedger { s.ledger with log := s.ledger.log.drop 1 }

/-- `LDG_RETIRE_LOG_READ`. -/
def execLdgRetireLogRead (s : State) : Host.Outcome State Fault Refusal :=
  .next (if s.sec.tdisp = 3 then s.unsupported
    else if s.mode = 2 then (s.send (.read s.retireLogWord)).retireLogPop else s.send (.read 0))

/-- Dredge ticks between visits: DREDGE_MS ms over 262,144 entries, in ticks of 2^30 per 10^9 ns, rounded down. -/
def State.dredgeStep (s : State) : Nat := s.fld rLdgCtl 0 16 * 2 ^ 30 / (1000 * 262144)

/-- `DREDGE_VISIT` (R228): the next entry's parity and locator are tested, after any disturbance of stored bits has
struck. A stopped dredge visits nothing, nor does one whose next visit is not due. -/
def execDredgeVisit (ups : List LedgerUpset) (s : State) : Host.Outcome State Fault Refusal :=
  let s0 := ups.foldl (fun s u =>
    if u.index < 262144 then s.ldgPut u.index ((s.ldgEntry u.index).flip u.bit) else s) s
  if s.fld rLdgCtl 0 16 = 0 || !s.passed s.ledger.dredgeDue then .next s0
  else
    let i := s0.ledger.next
    let e := s0.ldgEntry i
    let s1 := if e.retired || (e.sound && e.locator.isSome) then s0 else s0.ldgRetire i
    let wrap := i + 1 = 262144
    .next (s1.setLedger { s1.ledger with next := if wrap then 0 else i + 1,
                                         passes := if wrap then (s1.ledger.passes + 1) % 2 ^ 16 else s1.ledger.passes,
                                         dredgeDue := s.now + s.dredgeStep })

end Sys2Proof.Machine
end

