-- ==== Sys2Proof/Machine/Share.lean ====
section
/-! DEFINITION. A member's share of a sweep: the berths it plans, where their manifests and payloads are read (its own
homes, or a twin's journal), what ticket each gets, staging bays (R46, R48, R55 to R58, R87 to R92, R168, R191, R192,
R200, R414). -/

namespace Sys2Proof.Machine

/-! ### Where a share's berths are read -/

/-- A twin's journal of a tenant, and its entry of a berth (R412, R413). -/
def State.jsrc (s : State) (tenant : Nat) : JSource := alGetD s.twin.src tenant {}
def State.setJsrc (s : State) (tenant : Nat) (j : JSource) : State :=
  { s with twin := { s.twin with src := alPut s.twin.src tenant j } }
def State.jentry (s : State) (k : BerthKey) : Option JEntry := alGet (s.jsrc k.tenant).berths k
def State.setJentry (s : State) (k : BerthKey) (e : JEntry) : State :=
  s.setJsrc k.tenant { s.jsrc k.tenant with berths := alPut (s.jsrc k.tenant).berths k e }

/-- COUNT of a berth of the share now. -/
def State.shareCount (s : State) (m : MSweep) (b : Nat) : Nat :=
  if m.twin then ((s.jentry (m.key b)).map (·.count)).getD 0 else ((s.pte (m.key b)).map (·.count)).getD 0

/-- The manifest of a berth of the share, read and verified (R152, R414). -/
def State.shareMan (s : State) (m : MSweep) (b : Nat) : State × Option (List Byte) :=
  let k := m.key b
  if m.twin then
    match (s.jentry k).bind (·.img) with
    | some img => (s, if s.active k.tenant then openManifest (s.keySlot k.tenant).mem k img.man else none)
    | none => (s, none)
  else s.readManifest k

/-- One line of a journal image read; a line that fails is poisoned and reported. -/
def State.jline (s : State) (g : Geo) (k : BerthKey) (acc : PayRead) (i : Nat) : PayRead :=
  match (acc.st.jentry k).bind (fun e => e.img.bind (fun im => im.lines[i]?.map (fun l => (e, im, l)))) with
  | none => { acc with pay := none }
  | some (e, im, l) =>
    let r := readLine (s.active k.tenant) (s.keySlot k.tenant).mem g k
      (fun j => (s.baseOf k).bind (fun bk => s.baseLine g bk j)) i l
    match r.res with
    | .ok b => { acc with pay := acc.pay.map (· ++ b) }
    | .error .uncorrectable => { acc with pay := none, st := (((acc.st.setJentry k { e with img := some { im with
        lines := setNth im.lines i (poisonLine r.line) } }).bump rBthLineStat 16 16 1).berthEvent 0x0101 1 i k 0) }
    | .error .tagFail => { acc with pay := none, st := (((acc.st.setJentry k { e with img := some { im with
        lines := setNth im.lines i (poisonLine r.line) } }).bump rBthLineStat 32 16 1).berthEvent 0x0102 1 i k 0) }
    | .error _ => { acc with pay := none }

/-- The payload of a berth of the share. -/
def State.sharePay (s : State) (m : MSweep) (b slot : Nat) : PayRead :=
  let k := m.key b
  if m.twin then
    let r := (List.range 256).foldl (s.jline m.geo k) { st := s, pay := some [] }
    { r with pay := r.pay.map (padTo 0 65536) }
  else s.readPayload m.geo k slot (s.shareCount m b)

/-- A disturbance of the stored bytes of a berth of the share, before they are read. -/
def State.upsetShare (s : State) (m : MSweep) (b slot : Nat) (us : List Upset) : State :=
  if us.isEmpty then s
  else if m.twin then
    match s.jentry (m.key b) with
    | some e => s.setJentry (m.key b) { e with img := e.img.map (upsetAll · us) }
    | none => s
  else
    match s.image slot with
    | some img => s.setImage slot (upsetAll img us)
    | none => s

/-! ### The plan -/

/-- Protection of a journalled berth: SINK, RECENT or PINNED of its manifest (R150). -/
def protFlags (man : List Byte) : Bool := decide (dsc man 0x26 2 % 8 ≠ 0)

/-- The berths of the share at launch: visible to some query under R46, homed here (a twin: journalled here); an
ARRIVING berth only once a forwarded ARM has named it (R191, R357). -/
def State.planOf (s : State) (m : MSweep) : List PBerth :=
  if m.twin then
    (sortNat (((s.jsrc m.tenant).berths.filter (fun p => decide (p.1.lk = m.lk) && p.2.img.isSome && !p.2.unjournalled)).map (·.1.berth))).filterMap
      (fun b =>
        match s.jentry (m.key b) with
        | none => none
        | some e =>
          if (visAny m.desc m.qbuf (b * m.p) e.count).isEmpty then none
          else
            let prot := (((s.shareMan m b).2).map protFlags).getD false
            some { berth := b, first := b * m.p, count := e.count, prot := prot, flash := e.working.isNone,
                   mode := if e.dropped then some 2 else none })
  else
    match s.layer m.lk with
    | none => []
    | some l =>
      (sortNat (l.ptes.map (·.1))).filterMap (fun b =>
        match alGet l.ptes b with
        | none => none
        | some p =>
          if !(p.home || (p.state = 3 && m.fwdSeen)) then none
          else if (visAny m.desc m.qbuf (b * m.p) p.count).isEmpty then none
          else some { berth := b, first := b * m.p, count := p.count, prot := p.prot,
                      flash := p.state ≠ 5 && isFlash p.slot, mode := if p.state = 5 then some 2 else none })

/-- Positions of the member's berths of the range visible to some query (R64). -/
def State.visiblePositions (s : State) (m : MSweep) : Nat :=
  ((s.planOf m).map (fun p => (visAny m.desc m.qbuf p.first p.count).length)).sum

/-! ### What ticket a berth gets (R55, R57, R88, R191) -/

/-- A choice for a berth: read exactly from a stacked-DRAM home, a staging copy or flash; a manifest ticket of a mode;
SKIP; not yet; no longer here. -/
inductive Choice where
  | dram | copy | flash
  | man (mode : Nat)
  | skip
  | wait
  | gone
deriving DecidableEq, Repr

/-- Whether the sweep is past its cutoff, and past its grace. -/
def MSweep.pastC (m : MSweep) (now : Nat) : Bool := decide (m.times.c ≤ now) || decide (2 ≤ m.stage)
def MSweep.pastGrace (m : MSweep) (now : Nat) : Bool := m.graceDone || decide (m.times.t + m.grace ≤ now)

/-- The choice for a planned berth now. -/
def State.choose (s : State) (m : MSweep) (p : PBerth) : Choice :=
  let k := m.key p.berth
  let pastC := m.pastC s.now
  let settle (home : Choice) : Choice :=
    if m.desc.k ≠ 0 ∧ !p.prot ∧ p.selected = some false then .man 3
    else if pastC then .man 1
    else if m.desc.k ≠ 0 ∧ !p.prot ∧ p.selected.isNone then .wait
    else home
  if p.noMan then .skip
  else
    match p.mode with
    | some 4 => .skip
    | some x => .man x
    | none =>
      if m.twin then
        match s.jentry k with
        | none => .gone
        | some e => if e.dropped then .man 2 else settle (if e.working.isSome then .dram else .flash)
      else
        match s.layer m.lk, s.pte k with
        | some l, some e =>
          if (alGet l.spilled (p.berth / 128)).isSome then (if pastC then .skip else .wait)
          else if e.state = 5 then .man 2
          else if e.state = 3 then
            (if pastC || m.pastGrace s.now then
              (match alGet s.tiers.barges k with
               | some b => if b.manOk then .man 1 else .skip
               | none => .skip) else .wait)
          else if e.state ≠ 1 ∧ e.state ≠ 2 then .gone
          else if e.slot = 0xFFFFFFFF then settle (if m.pastGrace s.now then .man 1 else .wait)
          else if !isFlash e.slot then settle .dram
          else if (alGet s.tiers.copies k).isSome then settle .copy
          else if ((s.obj m.tenant m.desc.object).map (·.cls)).getD 0 = 2 then settle .flash
          else settle (if m.pastGrace s.now then .man 1 else .wait)
        | _, _ => .gone

/-- Category of a remaining ticket in the order of R237 and R58. -/
def Choice.rank : Choice → Nat
  | .flash => 0
  | .dram => 1
  | .copy => 1
  | _ => 2

/-- Whether berth `q` is to be ticketed before `p`: flash berths in descending estimate (R58), and in a selective sweep
the order of R237 among berths that are not protected. Ties go to the lower index. -/
def ticketBefore (selective : Bool) (q p : PBerth × Choice) : Bool :=
  let better : Bool := estLt (p.1.est.getD negInf) (q.1.est.getD negInf)
    || (!estLt (q.1.est.getD negInf) (p.1.est.getD negInf) && decide (q.1.berth < p.1.berth))
  if selective then
    if q.1.prot || p.1.prot then false
    else if q.2.rank ≠ p.2.rank then decide (q.2.rank < p.2.rank)
    else if q.2.rank = 2 then decide (q.1.berth < p.1.berth) else better
  else decide (q.2 = .flash ∧ p.2 = .flash) && better

/-- Whether a berth is next in order for a group: every manifest that orders it has been read, and no other berth
left to the group comes before it. -/
def State.inOrder (s : State) (m : MSweep) (g : Nat) (p : PBerth) (c : Choice) : Bool :=
  let sel := decide (m.desc.k ≠ 0)
  let ready := c ≠ .flash || p.prot || ((m.snd.map (fun x => x.engineLeft.isEmpty)).getD true)
  ready && (m.plan.all (fun q => q.berth = p.berth || q.handed.contains g ||
    !ticketBefore sel (q, s.choose m q) (p, c)))

/-! ### Staging bays (R90, R168, R200) -/

/-- A bay to take: the lowest one free, else the base berth used longest ago. -/
def State.takeBay (s : State) (cl : Nat) (keep : Option BerthKey) : Option Nat :=
  let bays := (s.cluster cl).bays
  match (List.range 16).find? (fun i => (alGet bays i).isNone) with
  | some i => some i
  | none =>
    (bays.filter (fun p => p.2.base && decide (some p.2.key ≠ keep))).foldl (fun best p =>
      match best with
      | none => some p
      | some q => if p.2.lastUse < q.2.lastUse then some p else some q) none |>.map (·.1)

/-- A bay set in a cluster. -/
def State.setBay (s : State) (cl i : Nat) (b : Bay) : State :=
  s.setCluster cl { s.cluster cl with bays := alPut (s.cluster cl).bays i b }
def State.delBay (s : State) (cl i : Nat) : State :=
  s.setCluster cl { s.cluster cl with bays := alDel (s.cluster cl).bays i }

/-- The base berth of a coded berth staged beside it, or its last use renewed (R200). -/
def State.stageBase (s : State) (cl core : Nat) (k : BerthKey) : State :=
  match s.baseOf k with
  | none => s
  | some bk =>
    let b := (s.basinOf core).getD 0
    match (s.cluster cl).bays.find? (fun p => p.2.base && decide (p.2.key = bk) && decide (p.2.basin = b)) with
    | some (i, y) => s.setBay cl i { y with lastUse := s.now }
    | none =>
      match s.takeBay cl none with
      | some i => s.setBay cl i { basin := b, key := bk, ready := true, base := true, core := core,
                                  slot := ((s.pte bk).map (·.slot)).getD 0, lastUse := s.now }
      | none => s

/-- Staging reads of a slot in progress (R176, R213). -/
def State.readsOf (s : State) (slot : Nat) : Nat :=
  (s.fab.clusters.map (fun c => (c.2.bays.filter (fun p => !p.2.ready && !p.2.base && decide (p.2.slot = slot))).length)).sum
    + (s.tiers.reads.filter (fun r => r.payload && r.cluster.isNone && decide ((s.pte r.key).map (·.slot) = some slot))).length

/-! ### Tickets -/

/-- A ticket of a berth for a run (R87). -/
def mkTicket (m : MSweep) (r : Run) (p : PBerth) (count mode stage : Nat) (again : Bool) : Ticket :=
  { berth := p.berth, first := p.first, count := count, mode := mode,
    part := visPartial m.desc m.qbuf r.rows p.first count, prot := p.prot, requeued := again, stage := stage }

/-- A ticket posted to a core's run. -/
def State.post (s : State) (core : Nat) (t : Ticket) : State :=
  let x := s.core core
  match x.run with
  | some r => s.setCore core { x with run := some { r with
      queue := r.queue ++ [t], staging := r.staging.filter (fun b => decide (b ≠ t.berth)),
      handed := if r.handed.contains t.berth then r.handed else r.handed ++ [t.berth] } }
  | none => s

/-- A planned berth marked as handed to a group's run. -/
def MSweep.hand (m : MSweep) (g b : Nat) : MSweep :=
  m.modBerth b (fun p => { p with handed := if p.handed.contains g then p.handed else p.handed ++ [g],
                                  requeued := alDel p.requeued g })

end Sys2Proof.Machine
end

