-- ==== Sys2Proof/Machine/Sounding.lean ====
section
/-! DEFINITION. Sounding (R72 to R75, R146, R232 to R237), the neighbour graph (R238 to R240) and neighbour prefetch
(R241). -/

namespace Sys2Proof.Machine

/-! ### The collector (R236) -/

/-- Candidates of a selective sweep on this member (R232), ascending. -/
def State.candidates (s : State) (m : MSweep) : List PBerth :=
  m.plan.filter (fun p => !p.prot && decide (p.mode ≠ some 2)
    && (m.twin || decide (((s.pte (m.key p.berth)).map (·.state)) ≠ some 3)))

/-- Whether the channel's engine takes a berth: homed in flash without a manifest shadow (R233). -/
def State.engineTakes (s : State) (m : MSweep) (p : PBerth) : Bool :=
  if m.twin then p.flash
  else match s.pte (m.key p.berth) with
    | some e => isFlash e.slot && decide (e.shadow = 0xFFFFFFFF)
    | none => false

/-- Sounding asked for by a launched sweep: candidates beyond the lowest 1,048,576 are unselected and OVERFLOW is set;
the shares of cores and engines are fixed, and room is waited for in order (R232, R233, R236). In an exact sweep the
engines estimate every flash berth (R58) and no room is taken. -/
def State.soundStart (s : State) (m : MSweep) : State :=
  if m.desc.k = 0 then
    let fl := (m.plan.filter (fun p => p.flash && decide (p.mode ≠ some 2))).map (·.berth)
    if fl.isEmpty then s else s.setMember { m with snd := some { room := true, engineLeft := fl } }
  else
    let cand := s.candidates m
    let inn := cand.take 1048576
    let out := (cand.drop 1048576).map (·.berth)
    let m1 := { m with plan := m.plan.map (fun (p : PBerth) => if out.contains p.berth then { p with selected := some false } else p) }
    let snd : Sounding :=
      { asked := inn.length
        coreShare := (inn.filter (fun p => !s.engineTakes m p)).map (·.berth)
        engineLeft := (inn.filter (s.engineTakes m)).map (·.berth) }
    let s1 := if out.isEmpty then s else s.setFld rSndColl 48 1 1
    let first := s1.sweeps.sndQ.isEmpty && decide (inn.length ≤ s1.sweeps.collFree)
    if first then
      let s2 := s1.setMember { m1 with snd := some { snd with room := true } }
      { s2 with sweeps := { s2.sweeps with collFree := s2.sweeps.collFree - inn.length } }
    else
      let s2 := s1.setMember { m1 with snd := some snd }
      { s2 with sweeps := { s2.sweeps with sndQ := s2.sweeps.sndQ ++ [(m.gsid, m.seq, m.twin)] } }

/-- `SOUNDING_ROOM_GRANT`: the oldest waiting sweep takes room when it fits; a sweep that is gone leaves the queue. -/
def execSoundingRoomGrant (s : State) : Host.Outcome State Fault Refusal :=
  match s.sweeps.sndQ with
  | [] => .next s
  | (g, q, t) :: rest =>
    let s1 := { s with sweeps := { s.sweeps with sndQ := rest } }
    match s.member g q t with
    | none => .next s1
    | some m =>
      match m.snd with
      | none => .next s1
      | some d =>
        if d.asked ≤ s.sweeps.collFree then
          let s2 := s1.setMember { m with snd := some { d with room := true } }
          .next { s2 with sweeps := { s2.sweeps with collFree := s2.sweeps.collFree - d.asked } }
        else .next s

/-- Room given back when a sweep's selection is fixed or the sweep ends. -/
def State.soundFree (s : State) (m : MSweep) : State :=
  match m.snd with
  | some d => if d.room && !d.fixed then { s with sweeps := { s.sweeps with collFree := s.sweeps.collFree + d.asked } }
    else s
  | none => s

/-! ### The neighbour graph (R238 to R240) -/

/-- The graph slot of a berth's block, found in the ledger. -/
def State.graphSlot (s : State) (k : BerthKey) : Option Nat :=
  match s.layer k.lk with
  | none => none
  | some l =>
    match s.ldgHits (nbrKey k.lk l.basin (k.berth / 1024)) (ldgCare true true true true (some 10)) with
    | i :: _ => some (vfld (s.ldgEntry i).val 0 23)
    | [] => none

/-- Geometry under which a graph line is read: graph lines hold no KV data, so any does. -/
def graphGeo : Geo := ⟨0, 1, 64, 1⟩

/-- The key a graph slot's lines are sealed under: the block's first berth (R238). -/
def graphKey (k : BerthKey) : BerthKey := { k with berth := k.berth / 1024 * 1024 }

/-- The list of a berth: 16 entries of index and VALID; none valid where the line fails (R240). -/
def State.nbrRaw (s : State) (k : BerthKey) : List (Nat × Bool) :=
  match (s.graphSlot k).bind (fun n => (s.slot n).img) with
  | none => List.replicate 16 (0, false)
  | some img =>
    match img.lines[k.berth % 1024 / 4]? with
    | none => List.replicate 16 (0, false)
    | some l =>
      match (readLine (s.active k.tenant) (s.keySlot k.tenant).mem graphGeo (graphKey k) (fun _ => none) (k.berth % 1024 / 4) l).res with
      | .ok b => (List.range 16).map (fun i =>
          let w := dsc b (64 * (k.berth % 4) + 4 * i) 4
          (w % 2 ^ 25, decide (2 ^ 31 ≤ w)))
      | .error _ => List.replicate 16 (0, false)

/-- Neighbours in force: VALID entries that name a berth homed here with content (R240). -/
def State.nbrs (s : State) (k : BerthKey) : List Nat :=
  ((s.nbrRaw k).filter (fun p => p.2 && (match s.pte { k with berth := p.1 } with
    | some e => e.home && decide (0 < e.count)
    | none => false))).map (·.1)

/-- A line sealed as EXACT whatever it holds (R238). -/
def sealExact (key : BitVec 256) (k : BerthKey) (plain : List Byte) (i ver : Nat) : StoredLine :=
  let l : StoredLine := { lcode := 0, len := 16, poison := false, shift := 0, ver := ver % 65536, tag := 0, check0 := [],
                          check1 := [], bytes := xtsEnc key (tweak k i ver false) plain }
  withCheck { l with tag := tagOf key k i l }

/-- A berth's list written in one line write (R240). -/
def State.setNbrs (s : State) (k : BerthKey) (ns : List Nat) : State :=
  match s.graphSlot k with
  | none => s
  | some n =>
    match (s.slot n).img with
    | none => s
    | some img =>
      let i := k.berth % 1024 / 4
      let lists := (List.range 4).flatMap (fun j =>
        let b := k.berth % 1024 / 4 * 4 + j + k.berth / 1024 * 1024
        if b = k.berth then padTo 0 64 (ns.flatMap (fun x => leBytes 4 (x + 2 ^ 31)))
        else (s.nbrRaw { k with berth := b }).flatMap (fun p => leBytes 4 (p.1 + (if p.2 then 2 ^ 31 else 0))))
      let ver := ((img.lines[i]?.map (·.ver)).getD 0) + 1
      s.setSlot n { s.slot n with img := some { img with
        lines := setNth img.lines i (sealExact (s.keySlot k.tenant).mem (graphKey k) lists i ver) } }

/-- dist of two manifests (R239): squared distances of mean keys over every KV head, in FP32, heads and elements in
ascending order. -/
def manDist (g : Geo) (a b : List Byte) : F32 :=
  (List.range g.nkv).foldl (fun acc h =>
    ((g.manVec a h false).zip (g.manVec b h false)).foldl (fun acc (x, y) =>
      let d := toF32 .even (x.add y.neg)
      fAdd .even acc (fMul .even d d)) acc) 0

/-- The manifest of a berth of a layer, read without reporting. -/
def State.peekMan (s : State) (k : BerthKey) : Option (List Byte) := (s.readManifest k).2

/-- A berth put into a list by distance, ties to the lower index. -/
def nearInsert (x : Nat × F32) : List (Nat × F32) → List (Nat × F32)
  | [] => [x]
  | y :: ys => if fLt x.2 y.2 || (!fLt y.2 x.2 && decide (x.1 < y.1)) then x :: y :: ys else y :: nearInsert x ys

/-- The greedy beam search of R239: `found` holds the visited berths nearest first, `done` those whose lists have been
followed; at most 256 manifests are read. -/
def State.beam (s : State) (g : Geo) (k : BerthKey) (man : List Byte) :
    Nat → List (Nat × F32) → List Nat → List Nat → List (Nat × F32)
  | 0, found, _, _ => found
  | n + 1, found, seen, done =>
    match (found.take 32).find? (fun p => !done.contains p.1) with
    | none => found
    | some p =>
      let fresh := ((s.nbrs { k with berth := p.1 }).filter (fun b => !seen.contains b && decide (b ≠ k.berth))).take (256 - seen.length)
      let found1 := fresh.foldl (fun f b => match s.peekMan { k with berth := b } with
        | some mb => nearInsert (b, manDist g man mb) f
        | none => f) found
      s.beam g k man n found1 (seen ++ fresh) (done ++ [p.1])

/-- `GRAPH_INSERT` (R239, R240): a filled or arrived berth enters its layer's graph, while GRAPH_EN is 1 and the layer
homes enough berths. A block without a graph slot takes one, with its NBR entry. -/
def execGraphInsert (k : BerthKey) (s0 : State) : Host.Outcome State Fault Refusal :=
  if !s0.tiers.graphQ.contains k then .next s0
  else
    let s := { s0 with tiers := { s0.tiers with graphQ := s0.tiers.graphQ.filter (fun q => decide (q ≠ k)) } }
    match s.layer k.lk, s.obj k.tenant k.object, s.pte k with
    | some l, some o, some e =>
      if s.fld rSndCtl 0 1 = 0 ∨ !e.home ∨ l.homed < s.fld rSndCtl 16 24 ∨ !s.active k.tenant then .next s
      else
        let withSlot : Option State :=
          match s.graphSlot k with
          | some _ => some s
          | none =>
            match s.freeSlot with
            | none => none
            | some n =>
              let key := (s.keySlot k.tenant).mem
              let zero := List.replicate 256 (0 : Byte)
              let img : SlotImage :=
                { lines := (List.range 256).map (fun i => sealExact key (graphKey k) zero i 0)
                  man := ⟨[], [], 0⟩
                  label := ⟨k.object, k.tenant, k.layer, k.berth / 1024 * 1024, 0, 4⟩ }
              let s1 := (s.evictCopyAt n).setSlot n { st := .graph, key := some (graphKey k), img := some img, tenant := k.tenant }
              match s1.ldgAdd (nbrKey k.lk l.basin (k.berth / 1024)) nbrCare (BitVec.ofNat 64 n) with
              | .ok s2 => some s2
              | .error _ => none
        match withSlot, s.peekMan k with
        | some t, some man =>
          let g := o.geo
          let homed := sortNat ((l.ptes.filter (fun p => p.2.home && decide (0 < p.2.count) && decide (p.1 ≠ k.berth))).map (·.1))
          let seeds := ((if homed.contains (k.berth - 1) && decide (0 < k.berth) then [k.berth - 1] else []) ++ homed.take 1).dedup
          let start := seeds.foldl (fun f b => match t.peekMan { k with berth := b } with
            | some mb => nearInsert (b, manDist g man mb) f
            | none => f) []
          let near := (t.beam g k man 256 start seeds []).take 16
          let s1 := t.setNbrs k (near.map (·.1))
          let s2 := near.foldl (fun s (n, dn) =>
            let nk := { k with berth := n }
            let cur := (s.nbrRaw nk).filter (·.2)
            let live := s.nbrs nk
            if cur.length < 16 ∨ live.length < 16 then s.setNbrs nk ((live.filter (· ≠ k.berth)) ++ [k.berth])
            else
              match s.peekMan nk with
              | none => s
              | some mn =>
                let far := live.foldl (fun (w : Option (Nat × F32)) b =>
                  match s.peekMan { k with berth := b } with
                  | none => w
                  | some mb =>
                    let d := manDist g mn mb
                    match w with
                    | none => some (b, d)
                    | some x => if fLt x.2 d then some (b, d) else w) none
                match far with
                | some (f, df) => if fLt dn df then s.setNbrs nk (live.map (fun b => if b = f then k.berth else b)) else s
                | none => s) s1
          .next (s2.bump rSndGraph 32 32 1)
        | _, _ => .next s
    | _, _, _ => .next s

/-- The graph slots of a layer freed with their NBR entries, when HOMED falls below half of GRAPH_MIN (R240). -/
def State.graphTrim (s : State) (lk : LayerKey) : State :=
  match s.layer lk with
  | none => s
  | some l =>
    if s.fld rSndCtl 16 24 / 2 ≤ l.homed then s
    else
      let mine := s.tiers.slots.filter (fun p => decide (p.2.st = .graph) && decide ((p.2.key.map (·.lk)) = some lk))
      mine.foldl (fun s p =>
        (s.freeHome p.1).ldgDrop (nbrKey lk l.basin (((p.2.key.map (·.berth)).getD 0) / 1024)) nbrCare) s

/-! ### Estimates (R72, R233, R235) -/

/-- What a filter tests of a planned berth. -/
def State.filterArg (s : State) (m : MSweep) (p : PBerth) : FilterArg :=
  let e := s.pte (m.key p.berth)
  { tenant := m.tenant, object := m.desc.object, layer := m.desc.layer, first := p.first, count := p.count,
    pinned := (e.map (·.pinned)).getD false,
    flash := if m.twin then p.flash else (e.map (fun x => isFlash x.slot)).getD false }

/-- The neighbours of a berth fetched into staging copies (R241). -/
def State.nbrPrefetch (s : State) (m : MSweep) (b : Nat) : State :=
  match m.snd with
  | none => s
  | some d =>
    if s.fld rSndCtl 1 1 = 0 ∨ m.twin then s
    else
      let want := (s.nbrs (m.key b)).filter (fun n =>
        match m.berth? n, s.pte (m.key n) with
        | some p, some e =>
          !p.prot && decide (p.mode ≠ some 2) && sweepFilter m.desc m.qbuf (s.filterArg m p) && isFlash e.slot
            && (alGet s.tiers.copies (m.key n)).isNone
            && !(s.tiers.reads.any (fun r => r.payload && decide (r.key = m.key n)))
        | _, _ => false)
      let go := want.take (s.fld rSndCtl 8 8 - d.fetching.length)
      let s1 := s.setMember { m with snd := some { d with fetching := d.fetching ++ go } }
      let s2 := { s1 with tiers := { s1.tiers with reads := s1.tiers.reads ++ go.map (fun n =>
        ({ key := m.key n, payload := true, neighbour := true, sweep := some (m.gsid, m.seq) } : FlashRead)) } }
      s2.bump rSndPfStat 0 32 go.length

/-- An estimate submitted to the collector: the highest per berth counts; a berth that enters the running list of the
K highest has its neighbours fetched (R236, R237, R241). -/
def State.submit (s : State) (m : MSweep) (b : Nat) (u : F32) (man : List Byte) : State :=
  let best := match (m.berth? b).bind (·.est) with
    | some v => estMax v u
    | none => u
  let m1 := m.modBerth b (fun p => { p with est := some best, man := some man })
  let s0 := s.bump rSndStat 0 32 1
  match m1.snd with
  | none => s0.setMember m1
  | some d =>
    if m1.desc.k = 0 then s0.setMember m1
    else
      let run := (rankInsert (b, best) (d.running.filter (fun q => decide (q.1 ≠ b)))).take m1.desc.k
      let enters := (run.any (fun q => decide (q.1 = b))) && !(d.running.any (fun q => decide (q.1 = b)))
      let m2 := { m1 with snd := some { d with running := run } }
      let s1 := s0.setMember m2
      if enters then s1.nbrPrefetch m2 b else s1

/-- One berth of a share sounded: the filter first, then the manifest, then the estimate (R232, R235). The second
result tells whether a manifest was scanned. -/
def State.soundOne (s : State) (m : MSweep) (b : Nat) (rows : List (Nat × List Num)) : State × Bool :=
  match m.berth? b with
  | none => (s, false)
  | some p =>
    if m.desc.k ≠ 0 ∧ !sweepFilter m.desc m.qbuf (s.filterArg m p) then
      if p.filtered then (s, false)
      else ((s.bump rSndStat 32 32 1).setMember (m.modBerth b (fun p => { p with filtered := true })), false)
    else if p.noMan then (s, false)
    else
      match s.shareMan m b with
      | (s1, none) => (s1.setMember (m.modBerth b (fun p => { p with noMan := true, est := none })), true)
      | (s1, some man) => (s1.submit m b (estimate m.geo man m.c rows) man, true)

/-- `ENGINE_ESTIMATE` (R58, R233): one berth of an engine's share. -/
def execEngineEstimate (gsid : BitVec 24) (seq : BitVec 32) (twin : Bool) (berth : BitVec 25) (s : State) :
    Host.Outcome State Fault Refusal :=
  match s.member gsid.toNat seq.toNat twin with
  | none => .next s
  | some m =>
    match m.snd with
    | none => .next s
    | some d =>
      if !d.room ∨ d.fixed ∨ !d.engineLeft.contains berth.toNat then .next s
      else
        let m1 := { m with snd := some { d with engineLeft := d.engineLeft.filter (fun b => decide (b ≠ berth.toNat)) } }
        .next ((s.setMember m1).soundOne m1 berth.toNat (engineRows m.desc m.qbuf m.geo m.gq m.rope m.adjacent)).1

/-- Every unit has finished its share (R237). -/
def MSweep.soundDone (m : MSweep) (d : Sounding) : Bool :=
  d.room && d.engineLeft.isEmpty
    && (List.range m.groups).all (fun g => decide (d.coreShare.length ≤ alGetD d.taken g 0))

/-- `SELECTION_FIXED` (R72, R73, R237): the protected berths take their places within K, then the highest estimates;
every other candidate is unselected. The room is given back and prefetched berths that were not selected are
counted. -/
def execSelectionFixed (gsid : BitVec 24) (seq : BitVec 32) (s : State) : Host.Outcome State Fault Refusal :=
  let one (s : State) (twin : Bool) : State :=
    match s.member gsid.toNat seq.toNat twin with
    | none => s
    | some m =>
      match m.snd with
      | none => s
      | some d =>
        if m.desc.k = 0 ∨ d.fixed ∨ !m.soundDone d then s
        else
          let prot := m.plan.filter (·.prot)
          let ranked := rankAll (m.plan.filterMap (fun p =>
            if p.prot || p.filtered || p.noMan then none else p.est.map (fun u => (p.berth, u))))
          let chosen := (ranked.take (m.desc.k - prot.length)).map (·.1)
          let wasted := ((d.fetched ++ d.fetching).dedup.filter (fun b => !chosen.contains b)).length
          let m1 := { m with
            plan := m.plan.map (fun (p : PBerth) => if p.prot then p else { p with selected := some (chosen.contains p.berth) })
            snd := some { d with fixed := true
                                 selectedCount := chosen.length + (prot.filter (fun p => !p.noMan && decide (p.mode ≠ some 2))).length } }
          ((s.setMember m1).soundFree m).bump rSndPfStat 32 32 wasted
  .next (one (one s false) true)

/-! ### `snd.scan` and `snd.top` (R146) -/

/-- Manifests scanned of a core's share: candidates from position `at_` on, until `n` manifests have been scanned or
the share ends. Answers the state, the place reached and the manifests scanned. -/
def scanShare (gsid seq : Nat) (twin : Bool) (rows : List (Nat × List Num)) : List Nat → Nat → State → Nat → Nat → State × Nat × Nat
  | [], _, s, at_, k => (s, at_, k)
  | b :: bs, n, s, at_, k =>
    if k = n then (s, at_, k)
    else
      match s.member gsid seq twin with
      | none => (s, at_, k)
      | some m =>
        let (s1, read) := s.soundOne m b rows
        scanShare gsid seq twin rows bs n s1 (at_ + 1) (if read then k + 1 else k)

/-- `snd.scan`: sD gets the manifests scanned; 0 once the group's share is exhausted. -/
def semSndScan : Sem := fun w c x r s =>
  match s.memberOf r with
  | none => .stay
  | some m =>
    if m.desc.k = 0 then put c (x.sPut (dstF w) 0) s
    else if !x.spanOk m (srcA w) then .exc exTile w
    else
      match m.snd with
      | none => .stay
      | some d =>
        if !d.room then .stay
        else
          let at_ := alGetD d.taken r.group 0
          let rows := (List.range r.rows.length).map (fun i => (qidKv ((r.rows[i]?).map (·.qid) |>.getD 0), x.spanRow m (srcA w) i))
          let (s1, upTo, k) := scanShare m.gsid m.seq m.twin rows (d.coreShare.drop at_) (imm w % 512) s at_ 0
          let s2 := match s1.memberOf r with
            | some m1 => s1.setMember { m1 with snd := m1.snd.map (fun (d : Sounding) => { d with taken := alPut d.taken r.group upTo }) }
            | none => s1
          .done (s2.setCore c ((s2.core c).sPut (dstF w) (BitVec.ofNat 64 k)))

/-- `snd.top`: waits until the selection is fixed; sD gets the berths selected, protected ones included. -/
def semSndTop : Sem := fun w c x r s =>
  match s.memberOf r with
  | none => .stay
  | some m =>
    if m.desc.k = 0 then put c (x.sPut (dstF w) 0) s
    else
      match m.snd with
      | some d => if d.fixed then put c (x.sPut (dstF w) (BitVec.ofNat 64 d.selectedCount)) s else .stay
      | none => .stay

def execSndScan (core : BitVec 12) (s : State) : Host.Outcome State Fault Refusal := .next (issue .sndScan semSndScan core.toNat s)
def execSndTop (core : BitVec 12) (s : State) : Host.Outcome State Fault Refusal := .next (issue .sndTop semSndTop core.toNat s)

end Sys2Proof.Machine
end

