-- ==== Sys2Proof/Machine/Placement.lean ====
section
/-! DEFINITION. Placement by class, score and quota: which berths are queued to barge (R174, R180, R182, R186, R187). -/

namespace Sys2Proof.Machine

/-- Whether a berth may move by score or quota: RESIDENT, not protected, arrived long enough ago (R180, R186). -/
def State.movable (s : State) (p : Pte) : Bool := decide (p.state = 1) && !p.prot && !s.young p

/-- A barge queued, once per berth. -/
def State.queueBarge (s : State) (r : BargeReq) : State :=
  if s.tiers.bargeQ.any (fun q => decide (q.key = r.key)) || (alGet s.tiers.barges r.key).isSome then s
  else { s with tiers := { s.tiers with bargeQ := s.tiers.bargeQ ++ [r] } }

/-- Threshold moves of one berth at an update or scan (R187); with EVICT_EN 0 none. -/
def State.classCheck (s : State) (k : BerthKey) : State :=
  match s.obj k.tenant k.object, s.pte k with
  | some o, some p =>
    if s.fld rBthCtl 0 1 = 0 ∨ !s.movable p ∨ 0x1000 ≤ k.tenant then s
    else if !isFlash p.slot then
      if (o.cls = 1 ∨ o.cls = 3) ∧ bfLt p.score o.sinkThr then s.queueBarge { key := k, why := .sink, toFlash := true } else s
    else if o.cls ≠ 2 ∧ !bfLt p.score o.riseThr ∧ s.belowDram k.tenant 95 then
      s.queueBarge { key := k, why := .rise, toFlash := false }
    else s
  | _, _ => s

/-- Berths homed in stacked DRAM that may sink, lowest score first, of one tenant or of all. -/
def scoreInsert (x : BerthKey × Nat) : List (BerthKey × Nat) → List (BerthKey × Nat)
  | [] => [x]
  | y :: ys => if bfLt x.2 y.2 then x :: y :: ys else y :: scoreInsert x ys
def State.sinkable (s : State) (tenant : Option Nat) : List (BerthKey × Nat) :=
  (s.tiers.layers.flatMap (fun q =>
    if 0x1000 ≤ q.1.tenant || (match tenant with | some t => decide (q.1.tenant ≠ t) | none => false) then []
    else q.2.ptes.filterMap (fun e =>
      let k : BerthKey := ⟨q.1.tenant, q.1.object, q.1.layer, e.1⟩
      if s.movable e.2 && !isFlash e.2.slot && !(s.tiers.bargeQ.any (fun b => decide (b.key = k))) then some (k, e.2.score)
      else none))).foldr scoreInsert []

/-- Sinks of a tenant already on their way. -/
def State.sinking (s : State) (tenant : Option Nat) : Nat :=
  let mine (k : BerthKey) : Bool := match tenant with | some t => decide (k.tenant = t) | none => true
  (s.tiers.bargeQ.filter (fun b => b.toFlash && b.peer.isNone && mine b.key)).length
    + (s.tiers.barges.filter (fun b => b.2.toFlash && !b.2.incoming && mine b.1)).length

/-- Pressure sinking of a tenant over 97 % of its quota, until below 95 % (R182). -/
def State.quotaSink (s : State) (tenant : Nat) : State :=
  let q := (s.quota tenant).dram
  let u := s.dramUse tenant
  if q = 0x7FFFFF ∨ 100 * u ≤ 97 * q then s
  else
    let want := (u * 100 - 95 * q) / 100 + 1 - s.sinking (some tenant)
    ((s.sinkable (some tenant)).take want).foldl (fun s x => s.queueBarge { key := x.1, why := .quota, toFlash := true }) s

/-- The berth pool: the berth area less host areas and withdrawn slots (R182). -/
def State.berthPool (s : State) : Nat :=
  0x4C0000 - ((s.host.basins.filter (fun p => decide (p.2.st ≠ 0))).map (fun p => p.2.hostSlots)).sum
    - (s.tiers.slots.filter (fun p => decide (p.2.st = .withdrawn))).length

/-- Pressure sinking over all tenants when fewer than 1 % of the pool is FREE, until 2 % is (R182). -/
def State.poolSink (s : State) : State :=
  let pool := s.berthPool
  let free := s.dramFree
  if pool ≤ 100 * free then s
  else
    let want := (2 * pool + 99) / 100 - free - s.sinking none
    ((s.sinkable none).take want).foldl (fun s x => s.queueBarge { key := x.1, why := .quota, toFlash := true }) s

/-- Both pressure rules, as an allocation calls for them. -/
def State.pressure (s : State) (tenant : Nat) : State := (s.quotaSink tenant).poolSink

/-- A score update of a sweep with the moves it calls for (R183, R184, R187). -/
def State.scoreBerth (s : State) (k : BerthKey) (inc : F32) : State := (s.scoreUpdate k inc).classCheck k

end Sys2Proof.Machine
end

