-- ==== Sys2Proof/Machine/Merge.lean ====
section
/-! DEFINITION. Status words and result slots (R337 to R342), the merge point (R62, R66 to R71) and publications
(R340). -/

namespace Sys2Proof.Machine

/-! ### Accepted sweeps -/

/-- The global identifier of a local sweep number (R30). -/
def gsidOf (pkg num : Nat) : Nat := pkg % 2 ^ 10 * 2 ^ 14 + num % 2 ^ 14

def State.sweepNo (s : State) (num : Nat) : Option ASweep := alGet s.sweeps.accepted num
def State.setSweep (s : State) (a : ASweep) : State :=
  { s with sweeps := { s.sweeps with accepted := alPut s.sweeps.accepted a.num a } }

/-- The sweep this part accepted under a global identifier. -/
def State.sweepOfGsid (s : State) (gsid : Nat) : Option ASweep :=
  if gsid / 2 ^ 14 = selfPkg then s.sweepNo (gsid % 2 ^ 14) else none

/-- The status word of an accepted sweep (R338). -/
def ASweep.word (a : ASweep) : W64 :=
  statusWord a.state a.half a.susp a.approx a.skipped a.pub a.useSeq a.filled a.members.length

/-- The header of a result slot (R337) with its status word last. -/
def ASweep.header (a : ASweep) : List Byte :=
  leBytes 8 a.word.toNat ++ leBytes 4 (gsidOf selfPkg a.num) ++ leBytes 2 a.code ++ leBytes 2 0 ++ leBytes 8 a.wrid

/-- The sweep's status word and header written into its result slot. -/
def State.showSweep (s : State) (a : ASweep) : State :=
  (s.setSweep a).setDram (memWriteL s.dram a.desc.slot a.header)

/-- A final sweep's completion: when CQ asks for it, always when it failed or was abandoned (R335). -/
def State.sweepCompletion (s : State) (a : ASweep) (status : Nat) : State :=
  if a.desc.cq || decide (a.state ≠ 5) || decide (a.ring = cmdRing) then
    s.postCq a.basin a.ring (cqEntry a.wrid status 1 (gsidOf selfPkg a.num) a.word.toNat a.ring)
  else s

/-- A sweep that ends FAILED or ABANDONED with a cause; a final sweep does not change (R339, R340). -/
def State.endSweep (s : State) (a : ASweep) (st code : Nat) : State :=
  if 5 ≤ a.state then s
  else
    let a1 := { a with state := st, code := code }
    (s.showSweep a1).sweepCompletion a1 code

/-- Bytes of one half of a result slot (R337). -/
def halfBytes (desc : SweepDesc) (h d members : Nat) : Nat :=
  desc.nq * h * (128 + 4 * d) * (if desc.mergePoint = 0x7FF then members else 1)

/-- A publication written by the accepting part (R340): the whole merge into the half not in use, then the status
word. A publication that changes no record is not made, except that the final one moves the state. -/
def State.writePub (s : State) (a : ASweep) (recs : List Partial) (filled : Nat) (final : Bool) : State :=
  if 5 ≤ a.state then s
  else
    let same := decide (recs = a.lastRecs) && decide (a.pub ≠ 0)
    let a1 := if same then { a with filled := filled } else
      { a with filled := filled, half := !a.half, pub := (a.pub + 1) % 256, lastRecs := recs
               susp := recs.any (fun r => flagHas r.flags flSuspect)
               approx := recs.any (fun r => decide (0 < r.nMan))
               skipped := recs.any (fun r => decide (0 < r.nSkip)) }
    let a2 := if final then { a1 with state := 5 }
      else if filled < a.members.length ∧ a.state < 4 then { a1 with state := 4 } else a1
    let s1 := if same then s else
      s.setDram (memWriteL s.dram (a.desc.slot + 0x40 + (if a1.half then a.rBytes else 0)) (recs.flatMap recBytes))
    let s2 := s1.showSweep a2
    if final then s2.sweepCompletion a2 stOk else s2

/-- `PUBLICATION_ARRIVAL`: a peer merge point's publication of a sweep accepted here (R340). -/
def execPublicationArrival (m : PubMsg) (s : State) : Host.Outcome State Fault Refusal :=
  if !s.hears selfPkg then .next s else
  match s.sweepOfGsid m.gsid with
  | none => .next s
  | some a => if a.seq = m.seq then .next (s.writePub a m.recs m.filled m.final) else .next s

/-! ### The merge point -/

def State.convoy (s : State) (gsid : Nat) : Option Convoy := alGet s.sweeps.convoys gsid
def State.setConvoy (s : State) (c : Convoy) : State :=
  { s with sweeps := { s.sweeps with convoys := alPut s.sweeps.convoys c.gsid c } }

/-- Slots filled, and whether a slot is final (R66, R69). -/
def Convoy.filled (c : Convoy) : Nat := (c.slots.filter (fun x => decide (x.st ≠ 0))).length
def MSlot.final (x : MSlot) (recompute : Bool) : Bool :=
  decide (x.st = 1) || (decide (x.st = 2) && (!recompute || x.backupDone || x.noTwin))

/-- Rows of a convoy in the order of its result slot, and the blank record of a row at the merge point. -/
def Convoy.rows (c : Convoy) : List RowInfo := allRows c.desc c.qbuf c.nkv c.gq c.d
def Convoy.blank (c : Convoy) (member : Nat) (r : RowInfo) : Partial :=
  emptyRec r.qpos r.qid c.gsid c.seq selfPkg member false c.late c.d

/-- The skip records that stand for an EMPTY slot at D (R69): the ARM_ACK's count and ceiling, or the ledger's count
with everything unbounded. -/
def Convoy.skipRecs (c : Convoy) (unknown : Nat) (member : Nat) (x : MSlot) : List Partial :=
  c.rows.map (fun r =>
    let b := c.blank member r
    match x.ack with
    | some (n, kap) => skipInto b n (scaleOf c.desc c.d) (queryNorm c.desc c.d r.q) kap
    | none => unknownSkip b unknown)

/-- The merge over the slots in member order, each row by itself (R54). A row no slot has filled is blank. -/
def Convoy.merged (c : Convoy) (recs : List (List Partial)) : List Partial :=
  match recs with
  | [] => c.rows.map (c.blank 0)
  | _ => mergeRows selfPkg recs

/-- The unmerged records of a finished host-merged convoy: by row, then member (R70, R337). -/
def Convoy.unmerged (c : Convoy) (recs : List (List Partial)) : List Partial :=
  (List.range c.rows.length).flatMap (fun i => recs.filterMap (fun l => l[i]?))

/-- A publication sent to the accepting part, or written here when this is it (R340). -/
def State.publish (s : State) (c : Convoy) (recs : List Partial) (final : Bool) : State :=
  if c.origin = selfPkg then
    match s.sweepOfGsid c.gsid with
    | some a => if a.seq = c.seq then s.writePub a recs c.filled final else s
    | none => s
  else s.send (.publish c.origin { gsid := c.gsid, seq := c.seq, filled := c.filled, members := c.slots.length,
                                   final := final, recs := recs })

/-- The merge of a convoy published, when it has changed or is final; a host-merged convoy is published at the end
alone. -/
def State.publishMerge (s : State) (c : Convoy) (final : Bool) (extra : List (List Partial)) : State :=
  if c.desc.mergePoint = 0x7FF then
    if final then s.publish c (c.unmerged extra) true else s
  else
    let recs := c.merged (if final then extra else (c.slots.filter (fun x => decide (x.st ≠ 0))).map (·.recs))
    if !final && decide (recs = c.last) then s
    else (s.setConvoy { c with last := recs }).publish { c with last := recs } recs final

/-- Records of a slot, those of D for an EMPTY one. -/
def Convoy.slotRecs (c : Convoy) (unknown : List Nat) : List (List Partial) :=
  c.slots.mapIdx (fun i x => if x.st = 0 then c.skipRecs (unknown.getD i 0) i x else x.recs)

/-- Merge-pool room given back at finish (R62). -/
def State.freePool (s : State) (c : Convoy) : State :=
  if c.finished then s else { s with sweeps := { s.sweeps with poolUsed := s.sweeps.poolUsed - c.bytes } }

/-- The finish of a convoy: the last publication, DONE (R69, R70). -/
def State.finish (s : State) (c : Convoy) (unknown : List Nat) : State :=
  let s1 := s.freePool c
  let c1 := { c with finished := true }
  (s1.setConvoy c1).publishMerge c1 true (c1.slotRecs unknown)

/-- Every slot final finishes the convoy (R69). -/
def State.finishIfFull (s : State) (gsid : Nat) : State :=
  match s.convoy gsid with
  | some c => if !c.finished && c.slots.all (·.final c.desc.recompute) then s.finish c [] else s
  | none => s

/-- BACKUP sent for a slot to its member's twin, where that has one in service (R67, R68, R408). -/
def State.sendBackup (s : State) (c : Convoy) (i : Nat) : State :=
  match c.slots[i]?, c.times with
  | some x, some t =>
    match Config.twinOf s.epoch x.pkg with
    | some tw =>
      let arm : ArmMsg := { gsid := c.gsid, seq := c.seq, member := i, origin := c.origin, src := selfPkg, epoch := s.epoch,
                            fwd := false, late := c.late, desc := c.desc, qbuf := c.qbuf, times := t }
      (s.setConvoy { c with slots := setNth c.slots i { x with backup := true } }).send (.backup tw { arm := arm, ack := x.ack })
    | none => s.setConvoy { c with slots := setNth c.slots i { x with noTwin := true } }
  | _, _ => s

/-- Whether records from a source are clean. -/
def cleanRecs (rs : List Partial) : Bool := rs.all (fun r => !flagHas r.flags flSuspect)

/-- A landing (R66): records gather per source; when all of one source have landed before D, they fill an EMPTY slot
or replace suspect ones. Every other landing is discarded and counted. -/
def State.land (s : State) (m : PartMsg) : State :=
  match s.convoy m.gsid with
  | none => s
  | some c =>
    match c.slots[m.member]?, c.times with
    | some x, some t =>
      let known := decide (x.pkg = m.src) || (m.twin && x.backup)
      let drop := s.setConvoy { c with discard := c.discard + 1 }
      if c.finished ∨ m.seq ≠ c.seq ∨ m.body.sweep ≠ c.gsid ∨ m.body.seq ≠ c.seq ∨ !known ∨ c.rows.length ≤ m.row ∨ t.d ≤ s.now then drop
      else
        let key := (m.src, m.twin)
        let got := alPut (alGetD x.landing key []) m.row m.body
        if got.length < c.rows.length then
          s.setConvoy { c with slots := setNth c.slots m.member { x with landing := alPut x.landing key got } }
        else
          let recs := (List.range c.rows.length).filterMap (fun i => alGet got i)
          let clean := cleanRecs recs
          let x0 := { x with landing := alDel x.landing key, backupDone := x.backupDone || m.twin }
          let c0 := { c with slots := setNth c.slots m.member x0 }
          if x.st = 1 ∨ (x.st = 2 ∧ !clean) then
            (s.setConvoy { c0 with discard := c0.discard + recs.length }).finishIfFull c.gsid
          else
            let x1 := { x0 with st := if clean then 1 else 2, src := m.src, twin := m.twin, recs := recs }
            let c1 := { c with slots := setNth c.slots m.member x1 }
            let s1 := s.setConvoy c1
            let s2 := if x.backup && !m.twin && clean then
                (match Config.twinOf s.epoch x.pkg with
                 | some tw => s1.send (.cancel tw c.gsid c.seq)
                 | none => s1) else s1
            let s3 := if !clean && c.desc.recompute && !x1.backup then s2.sendBackup c1 m.member else s2
            let c2 := (s3.convoy c.gsid).getD c1
            if c2.slots.all (·.final c2.desc.recompute) then s3.finish c2 []
            else s3.publishMerge c2 false []
    | _, _ => s

/-- `PART`: a record of a new home this member forwarded to is kept for the member's own records (R359), another lands at
the merge point. -/
def execPart (m : PartMsg) (s : State) : Host.Outcome State Fault Refusal :=
  if !s.hears m.src then .next s else
  match s.member m.gsid m.seq false with
  | some x =>
    if x.member = m.member ∧ x.stage < 3 ∧ x.fwd.any (fun f => decide (f.pkg = m.src)) then
      .next (s.setMember { x with fwd := x.fwd.map (fun f =>
        if f.pkg = m.src then { f with recs := alPut f.recs m.row m.body } else f) })
    else .next (s.land m)
  | none => .next (s.land m)

/-- `BACKUP_POINT` (R67): at B every slot still EMPTY asks its member's twin. Without a backup point nothing happens
(R34). -/
def execBackupPoint (gsid : BitVec 24) (seq : BitVec 32) (s : State) : Host.Outcome State Fault Refusal :=
  match s.convoy gsid.toNat with
  | none => .next s
  | some c =>
    match c.times.bind (·.b) with
    | none => .next s
    | some b =>
      if c.seq ≠ seq.toNat ∨ c.finished ∨ s.now < b then .next s
      else .next ((List.range c.slots.length).foldl (fun s i =>
        match s.convoy gsid.toNat with
        | some c => (match c.slots[i]? with
          | some x => if x.st = 0 ∧ !x.backup then s.sendBackup c i else s
          | none => s)
        | none => s) s)

/-- Positions a member that sent no ARM_ACK is counted with, from the ledger (R69): the positions of its homed
blocks that meet the range. -/
def State.ledgerCount (s : State) (c : Convoy) (pkg : Nat) : Nat :=
  let p := ((s.obj c.tenant c.desc.object).map (·.p)).getD 0
  if p = 0 then 0
  else
    let hits := (s.homeHits ⟨c.tenant, c.desc.object, c.desc.layer⟩ none).filter (fun e =>
      decide (vfld e.2.val 0 10 = pkg) && e.2.meets (c.desc.lo / p) (c.desc.hi / p))
    p * (hits.map (fun e => vfld e.2.val 32 25)).sum

/-- `MERGE_DEADLINE` (R69): at D each EMPTY slot adds skip records, the final merge is published and the sweep is
DONE. -/
def execMergeDeadline (gsid : BitVec 24) (seq : BitVec 32) (s : State) : Host.Outcome State Fault Refusal :=
  match s.convoy gsid.toNat with
  | none => .next s
  | some c =>
    match c.times with
    | none => .next s
    | some t =>
      if c.seq ≠ seq.toNat ∨ c.finished ∨ s.now < t.d then .next s
      else .next (s.finish c (c.slots.map (fun x => s.ledgerCount c x.pkg)))

/-- `MERGE_LOST_TIMEOUT` (R432): without a final publication from a peer merge point by D + 2^24 ticks the sweep ends
FAILED with MERGE_LOST. -/
def execMergeLostTimeout (gsid : BitVec 24) (s : State) : Host.Outcome State Fault Refusal :=
  match s.sweepOfGsid gsid.toNat with
  | none => .next s
  | some a =>
    match a.times with
    | none => .next s
    | some t =>
      if a.desc.mergePoint ≠ 0x7FF ∧ a.desc.mergePoint ≠ selfPkg ∧ t.d + 2 ^ 24 ≤ s.now then .next (s.endSweep a 6 stMergeLost)
      else .next s

/-- CANCEL sent to the members and twins of a convoy (R71). -/
def State.cancelAll (s : State) (c : Convoy) : State :=
  c.slots.foldl (fun s x =>
    let s1 := if x.pkg = selfPkg then s else s.send (.cancel x.pkg c.gsid c.seq)
    if x.backup then
      (match Config.twinOf s.epoch x.pkg with
       | some tw => s1.send (.cancel tw c.gsid c.seq)
       | none => s1)
    else s1) s

end Sys2Proof.Machine
end

