-- ==== Sys2Proof/Machine/Member.lean ====
section
/-! DEFINITION. A member's work: launch and prefetch (R65, R189), runs (R76 to R86, R104), page walks and staging
(R88 to R92, R164 to R170, R191, R192, R200), cutoff, region partials and records (R65, R78). -/

namespace Sys2Proof.Machine

/-! ### Launch (R65, R189) -/

/-- The layer sequence of an object: its LSEQ, or its layers with roots here in ascending order (R157). -/
def State.lseqOf (s : State) (tenant object : Nat) (o : Obj) : List Nat :=
  match o.lseq with
  | some l => l
  | none => sortNat ((s.tiers.layers.filter (fun p => decide (p.1.tenant = tenant) && decide (p.1.object = object))).map (·.1.layer))

/-- Room left for staging copies (R169). -/
def State.stageRoom (s : State) : Nat :=
  s.fld rBthCtl 24 16 * 256 - s.tiers.copies.length
    - (s.tiers.reads.filter (fun r => r.payload && r.cluster.isNone)).length

/-- Prefetch for the layer the lead names, at a launch (R189): payloads of the flash candidates in descending score. -/
def State.prefetch (s : State) (m : MSweep) : State :=
  match s.obj m.tenant m.desc.object with
  | none => s
  | some o =>
    let seq := s.lseqOf m.tenant m.desc.object o
    if s.fld rBthCtl 2 1 = 0 ∨ o.lead = 0 ∨ seq.isEmpty then s
    else
      match seq.findIdx? (fun l => decide (l = m.desc.layer)) with
      | none => s
      | some k =>
        let lk : LayerKey := ⟨m.tenant, m.desc.object, nthD 0 seq ((k + o.lead) % seq.length)⟩
        match s.layer lk with
        | none => s
        | some l =>
          let app := l.top
          let cand := l.ptes.filter (fun e =>
            (decide (e.2.state = 1) || decide (e.2.state = 2)) && isFlash e.2.slot
              && (decide (some e.1 = app) || (decide (e.1 * m.p ≤ m.desc.hi) && decide (m.desc.lo ≤ e.1 * m.p + e.2.count - 1)))
              && !(visAny m.desc m.qbuf (e.1 * m.p) e.2.count).isEmpty
              && (alGet s.tiers.copies ⟨lk.tenant, lk.object, lk.layer, e.1⟩).isNone
              && !(s.tiers.reads.any (fun r => r.payload && decide (r.key = ⟨lk.tenant, lk.object, lk.layer, e.1⟩))))
          let order := ((cand.map (fun e => ((⟨lk.tenant, lk.object, lk.layer, e.1⟩ : BerthKey), e.2.score))).foldr scoreInsert []).reverse
          { s with tiers := { s.tiers with reads := s.tiers.reads ++ (order.take s.stageRoom).map (fun x =>
              ({ key := x.1, payload := true } : FlashRead)) } }

/-- The object's launch interval: averaged with weight 1/8 per launch of consecutive layers (R190). -/
def State.noteLaunch (s : State) (m : MSweep) : State :=
  match s.obj m.tenant m.desc.object with
  | none => s
  | some o =>
    let iv := match o.lastLaunch with
      | some (_, t) =>
        let gap := s.now - t
        some (match o.interval with | some a => (7 * a + gap) / 8 | none => gap)
      | none => o.interval
    let s1 := s.setObj m.tenant m.desc.object { o with interval := iv, lastLaunch := some (m.desc.layer, s.now), launched := true }
    match s1.layer m.lk with
    | some l => s1.setLayer m.lk { l with sweeps := (l.sweeps + 1) % 2 ^ 32, lastLaunch := some s.now }
    | none => s1

/-- The status word of a sweep accepted here shows LAUNCHED, and RUNNING when the merge point holds every ARM_ACK
(R339). -/
def State.showLaunch (s : State) (gsid seq : Nat) : State :=
  match s.sweepOfGsid gsid with
  | none => s
  | some a =>
    if a.seq ≠ seq then s
    else
      match a.times with
      | none => s
      | some t =>
        let st := if t.t ≤ s.now then (if a.acks.length = a.members.length then 3 else 2) else 1
        if a.state < st ∧ a.state < 5 then s.showSweep { a with state := st } else s

/-- A member's launch: its plan is formed, SWEEPS counts, sounding and prefetch start (R65, R160, R189, R236). -/
def State.launch (s : State) (gsid seq : Nat) (twin : Bool) : State :=
  match s.member gsid seq twin with
  | none => s
  | some m =>
    if m.stage ≠ 0 then s
    else
      let m1 := { m with stage := 1, plan := s.planOf m }
      let s1 := s.setMember m1
      let s2 := if twin then s1 else (s1.noteLaunch m1).prefetch m1
      s2.soundStart m1

/-- A sweep whose T has passed is launched before anything else is done for it. -/
def State.ensureLaunched (s : State) (gsid seq : Nat) (twin : Bool) : State :=
  match s.member gsid seq twin with
  | some m => if m.times.t ≤ s.now then s.launch gsid seq twin else s
  | none => s

/-! ### Runs (R76 to R86, R98) -/

/-- The run block header (R83). -/
def runBlock (m : MSweep) (g rows : Nat) (kind : RunKind) : List Byte :=
  let b (x : Bool) (i : Nat) : Nat := if x then 2 ^ i else 0
  padTo 0 0x80 (leBytes 4 m.gsid ++ leBytes 4 m.seq ++ leBytes 4 m.desc.object ++ leBytes 2 m.tenant
    ++ leBytes 1 (m.fmt % 4 + b m.desc.qfmt 2 + b m.rope.isSome 3 + b m.adjacent 4) ++ leBytes 1 rows ++ leBytes 2 m.desc.layer
    ++ leBytes 2 g ++ leBytes 2 m.d ++ leBytes 2 m.desc.nq ++ leBytes 1 m.nkv ++ leBytes 1 m.gq ++ leBytes 2 m.desc.k
    ++ leBytes 4 m.c.toNat ++ leBytes 4 m.desc.lo ++ leBytes 4 m.desc.hi ++ leBytes 4 m.desc.window ++ leBytes 2 m.desc.sink
    ++ leBytes 2 m.desc.treeNodes ++ leBytes 4 m.desc.treeBase
    ++ leBytes 4 (b m.desc.noncausal 0 + b m.twin 1 + b m.late 2 + b m.desc.recompute 3 + b (decide (kind = .retry)) 4)
    ++ leBytes 2 m.member ++ leBytes 1 m.prog ++ leBytes 1 0 ++ leBytes 4 m.kappa.toNat
    ++ leBytes 8 m.times.t ++ leBytes 8 m.times.c ++ leBytes 8 m.times.d)

/-- The read-only part of core-local store, 0x0000 to 0x24FF (R82). -/
def runHeader (m : MSweep) (g : Nat) (rows : List RowInfo) (kind : RunKind) : List Byte :=
  runBlock m g rows.length kind
    ++ padTo 0 0x80 (rows.flatMap (fun r => leBytes 4 r.qpos)) ++ padTo 0 0x80 (rows.flatMap (fun r => leBytes 4 r.qid))
    ++ List.replicate 0x80 0
    ++ padTo 0 0x100 (m.tree.map (BitVec.ofNat 8))
    ++ padTo 0 0x200 (((m.rope.getD []).flatMap (fun t => leBytes 4 t.toNat)))
    ++ padTo 0 0x2000 (rows.flatMap (·.q))

/-- Whether a core may start a run of a basin: its cluster is the basin's, in service and not passing, and the core
runs nothing (R14, R17, R77, R423). -/
def State.coreFree (s : State) (core basin : Nat) : Bool :=
  let c := s.cluster (clusterOf core)
  decide (core < 4096) && decide (c.owner = some basin) && c.passing.isNone && !c.failed
    && !(s.region (regionOf core)).out && decide ((s.spareMap (clusterOf core)).pick ≠ some (core % 8)) && (s.core core).run.isNone
    && decide ((s.core core).halt = .running)

/-- Core-local store at the start of a run: the data section at 0x7500, then a PROJ table bound to the entry at 0xF000, padded
with zeros (R82, R375). -/
def State.runStore (s : State) (m : MSweep) : Memory :=
  let d := memWriteL [] 0x7500 (m.data.take 35584)
  match (s.basin m.basin).binds.find? (fun x => decide (x.kind = 2) && decide (x.entry = m.prog)) with
  | some b => memWriteL d 0xF000 (padTo 0 4096 b.table)
  | none => d

/-- `RUN_START` (R82 to R86): registers and stores cleared, the run block and data section written. A replacement run
follows an exception of its group in the cluster before C (R104); a retry run takes a berth handed back by another core
of its cluster (R91). -/
def execRunStart (core : BitVec 12) (gsid : BitVec 24) (seq : BitVec 32) (twin : Bool) (group : BitVec 16) (kind : RunKind)
    (s0 : State) : Host.Outcome State Fault Refusal :=
  let s := s0.ensureLaunched gsid.toNat seq.toNat twin
  let c := core.toNat
  let g := group.toNat
  match s.member gsid.toNat seq.toNat twin with
  | none => .next s
  | some m =>
    let kindOk := match kind with
      | .first => true
      | .replacement => m.excepted.contains (g, clusterOf c) && decide (s.now < m.times.c)
      | .retry => decide (s.now < m.times.c) && m.plan.any (fun p => match alGet p.requeued g with
          | some o => decide (o ≠ c) && decide (clusterOf o = clusterOf c)
          | none => false)
    if (m.stage ≠ 1 ∧ m.stage ≠ 2) ∨ m.groups ≤ g ∨ !s.coreFree c m.basin ∨ !kindOk ∨ m.overdue ∨ m.times.d ≤ s.now then .next s
    else
      let rows := m.rows g
      let r : Run :=
        { gsid := m.gsid
          seq := m.seq
          twin := m.twin
          group := g
          kind := kind
          order := m.nextOrder
          prog := m.prog
          image := m.image
          iflags := m.iflags
          ip := m.entry
          rows := rows
          state := rows.map m.blank }
      let old := s.core c
      let x : Core := { hdr := runHeader m g rows kind, ls := s.runStore m, run := some r,
                        breaks := old.breaks }
      .next ((s.setCore c x).setMember { m with nextOrder := m.nextOrder + 1, live := m.live ++ [c] })

/-- `RUN_OVERDUE` (R104): a run still there at D is stopped. -/
def execRunOverdue (core : BitVec 12) (s : State) : Host.Outcome State Fault Refusal :=
  match (s.core core.toNat).run with
  | none => .next s
  | some r =>
    match s.memberOf r with
    | some m => if m.times.d ≤ s.now then .next (s.raise core.toNat exOverdue 0) else .next s
    | none => .next s

/-! ### Walks (R164 to R167, R191, R192) -/

/-- The walk's effect on the PLB and the leaf: a stale translation is discarded, the entry installed, the leaf noted as
walked (R164 to R166). -/
def State.walked (s : State) (cl basin : Nat) (k : BerthKey) : State :=
  match s.layer k.lk, s.pte k with
  | some l, some e =>
    let s1 := s.setLayer k.lk { l with lastWalk := alPut l.lastWalk (k.berth / 128) s.now }
    if e.home then s1.plbInstall cl { basin := basin, key := k, slot := e.slot, state := e.state, shadow := e.shadow,
                                      shadowIx := e.shadowIx, gen := e.gen }
    else s1
  | _, _ => s

/-- The BASIN of an entry rewritten at the first walk by the basin its object moved to (R354). -/
def State.adoptBasin (s : State) (k : BerthKey) (basin : Nat) : State :=
  match s.obj k.tenant k.object, s.pte k with
  | some o, some e => if o.basin = basin ∧ e.basin ≠ basin then s.setPte k { e with basin := basin } else s
  | _, _ => s

/-- A manifest that a ticket needs, where it must still be read: at once from stacked DRAM, a pack or a staging copy; by a
flash read otherwise (R154, R192). -/
def State.needMan (s : State) (m : MSweep) (p : PBerth) : State :=
  let k := m.key p.berth
  let inFlash := if m.twin then p.flash && (((s.jentry k).bind (·.working)).isNone)
    else match s.pte k with
      | some e => isFlash e.slot && decide (e.shadow = 0xFFFFFFFF) && (alGet s.tiers.copies k).isNone
      | none => false
  if p.man.isSome ∨ p.noMan then s
  else if inFlash then
    if s.tiers.reads.any (fun r => !r.payload && decide (r.key = k) && decide (r.sweep = some (m.gsid, m.seq))) then s
    else { s with tiers := { s.tiers with reads := s.tiers.reads ++ [{ key := k, payload := false, sweep := some (m.gsid, m.seq) }] } }
  else
    match s.shareMan m p.berth with
    | (s1, some man) => s1.setMember (m.modBerth p.berth (fun q => { q with man := some man }))
    | (s1, none) => s1.setMember (m.modBerth p.berth (fun q => { q with noMan := true }))

/-- A ticket without a bay posted to a run with room in its queue (R90). -/
def State.postMode (s : State) (core : Nat) (m : MSweep) (r : Run) (p : PBerth) (mode : Nat) (again : Bool) : State :=
  if 64 ≤ r.queue.length then s
  else (s.setMember (m.hand r.group p.berth)).post core (mkTicket m r p (s.shareCount m p.berth) mode 0 again)

/-- Staging of a berth begun for a core: a bay is taken, and a flash read issued where the content lies in flash. -/
def State.stage (s : State) (core : Nat) (m : MSweep) (r : Run) (b : Nat) (fromFlash explicit again : Bool) : State :=
  let cl := clusterOf core
  let k := m.key b
  match s.takeBay cl none with
  | none => s
  | some i =>
    let slot := if m.twin then (((s.jentry k).bind (·.slot)).getD 0)
      else match alGet s.tiers.copies k with
        | some y => if fromFlash then ((s.pte k).map (·.slot)).getD 0 else y.slot
        | none => ((s.pte k).map (·.slot)).getD 0
    let bay : Bay := { basin := (s.basinOf core).getD 0, key := k, core := core, slot := slot, requeued := again,
                       explicit := explicit, lastUse := s.now }
    let s1 := s.setBay cl i bay
    let coded := ((s.pte k).map (·.coded)).getD false
    let s2 := if coded then s1.stageBase cl core k else s1
    let s3 := if fromFlash then
        { s2 with tiers := { s2.tiers with reads := s2.tiers.reads ++ [{ key := k, payload := true, cluster := some (cl, i) }] } }
      else s2
    if explicit then s3
    else
      let x := s3.core core
      (s3.setMember (m.hand r.group b)).setCore core
        { x with run := x.run.map (fun q => { q with staging := q.staging ++ [b], handed := q.handed ++ [b] }) }

/-- `PAGE_WALK` (R87 to R92, R164, R191): the walker of a core's cluster deals with one berth for the core's run: one the
run asked for by index, or one of its group not yet handed out and next in order. -/
def execPageWalk (core : BitVec 12) (berth : BitVec 25) (s0 : State) : Host.Outcome State Fault Refusal :=
  let c := core.toNat
  let b := berth.toNat
  let cl := clusterOf c
  match (s0.core c).run with
  | none => .next s0
  | some r =>
    match s0.memberOf r with
    | none => .next s0
    | some m =>
      let k := m.key b
      let basin := (s0.basinOf c).getD 0
      let s := if m.twin then s0 else (s0.adoptBasin k basin).walked cl basin k
      if r.want.contains b then
        if (s.bayX c k).isSome then .next s
        else
          match s.pte k with
          | some e => .next (s.stage c m r b (isFlash e.slot && (alGet s.tiers.copies k).isNone) true false)
          | none => .next s
      else
        match m.berth? b with
        | none => .next s
        | some p =>
          let back := alGet p.requeued r.group
          let mayTake := !p.handed.contains r.group && !r.endTaken && (match back with
            | some o => decide (o ≠ c) && decide (clusterOf o = cl)
            | none => true)
          if !mayTake then .next s
          else if !m.twin && (match s.pte k with | some e => decide (e.basin ≠ basin) | none => false) then
            .next (s.raise c exBasin (BitVec.ofNat 64 b))
          else
            let ch := s.choose m p
            if !s.inOrder m r.group p ch then .next s
            else
              match ch with
              | .gone => .next (s.setMember { m with plan := m.plan.filter (fun q => decide (q.berth ≠ b)) })
              | .wait => .next s
              | .skip => .next (s.postMode c m r p 4 back.isSome)
              | .man mode =>
                let s1 := s.needMan m p
                match s1.memberOf r, (s1.memberOf r).bind (·.berth? b) with
                | some m1, some p1 =>
                  if p1.noMan then .next (s1.postMode c m1 r p1 4 back.isSome)
                  else if p1.man.isSome then .next (s1.postMode c m1 r p1 mode back.isSome)
                  else if m1.pastC s1.now then .next (s1.postMode c m1 r p1 4 back.isSome)
                  else .next s1
                | _, _ => .next s1
              | .dram => .next (s.stage c m r b false false back.isSome)
              | .copy => .next (s.stage c m r b false false back.isSome)
              | .flash => .next (s.stage c m r b true false back.isSome)

/-- `LEAF_READ_DONE` (R165): a spilled leaf read back from flash; its table slot is freed with its last leaf. -/
def execLeafReadDone (k : LayerKey) (leaf : BitVec 18) (s : State) : Host.Outcome State Fault Refusal :=
  match s.layer k with
  | none => .next s
  | some l =>
    match alGet l.spilled leaf.toNat with
    | none => .next s
    | some (slot, _) =>
      if s.ptFree = 0 then .next s
      else
        let s1 := s.setLayer k { l with spilled := alDel l.spilled leaf.toNat, lastWalk := alPut l.lastWalk leaf.toNat s.now }
        let still := s1.tiers.layers.any (fun p => p.2.spilled.any (fun q => decide (q.2.1 = slot)))
        .next (if still then s1 else s1.freeHome slot)

/-! ### Staging completes (R90, R154, R169, R207) -/

/-- A bay whose content has landed: payload and manifest read through the line path; the ticket is posted, or the berth
is taken from its manifest or skipped (R55, R57, R88). Other reads that wait for the berth find it again. -/
def landBay (cl i : Nat) (y : Bay) (pay : PayRead) (man : State × Option (List Byte)) (m : MSweep) (r : Run) :
    State :=
  let b := y.key.berth
  let s1 := man.1
  match pay.pay, man.2 with
  | some payload, some mb =>
    let s2 := s1.setBay cl i { y with ready := true, payload := payload, man := mb }
    let m1 := ((s2.memberOf r).getD m).modBerth b (fun p => { p with man := some mb })
    let s3 := s2.setMember m1
    if y.explicit then s3
    else
      match m1.berth? b with
      | some p => s3.post y.core (mkTicket m1 r p (s3.shareCount m1 b) 0 i y.requeued)
      | none => s3
  | _, mbo =>
    let s2 := s1.delBay cl i
    let m1 := ((s2.memberOf r).getD m).modBerth b (fun p =>
      match mbo with
      | some mb => { p with man := some mb, mode := some 1 }
      | none => { p with noMan := true })
    let s3 := s2.setMember m1
    if y.explicit then s3.setRun y.core { ((s3.core y.core).run.getD r) with bad := r.bad ++ [b] }
    else
      match m1.berth? b with
      | some p => s3.post y.core (mkTicket m1 r p (s3.shareCount m1 b) (if mbo.isSome then 1 else 4) 0 y.requeued)
      | none => s3

/-- A bay's content read from where it lies. -/
def State.finishBay (s : State) (cl i : Nat) (ups : List Upset) : State :=
  match alGet (s.cluster cl).bays i with
  | none => s
  | some y =>
    if y.ready ∨ y.base then s
    else
      match (s.core y.core).run with
      | none => s.delBay cl i
      | some r =>
        match s.memberOf r with
        | none => s
        | some m =>
          if 64 ≤ r.queue.length then s
          else
            let b := y.key.berth
            let s0 := s.upsetShare m b y.slot ups
            match (if m.twin then none else alGet s0.tiers.copies y.key) with
            | some cp =>
              let t := s0.setSlot cp.slot { s0.slot cp.slot with img := some cp.img }
              let pr := t.readPayload m.geo y.key cp.slot (s0.shareCount m b)
              let back (u : State) : State :=
                { u with tiers := { u.tiers with
                    slots := s0.tiers.slots
                    copies := alMod u.tiers.copies y.key (fun c => { c with img := ((pr.st.slot cp.slot).img).getD c.img }) } }
              let pr1 : PayRead := { pr with st := back pr.st }
              let man := (pr1.st, if pr1.st.keyLive y.key then openManifest (pr1.st.berthKey y.key) y.key cp.img.man else none)
              let s2 := landBay cl i y pr1 man m r
              let all := ((s2.memberOf r).bind (fun m => (m.berth? b).map (fun p =>
                (List.range m.groups).all (fun g => p.handed.contains g)))).getD false
              if all then s2.dropCopy y.key else s2
            | none =>
              let pr := s0.sharePay m b y.slot
              let s1 := if pr.again then pr.st.queueBarge { key := y.key, why := .repair, toFlash := true } else pr.st
              landBay cl i y pr (s1.shareMan m b) m r

/-- `STAGE_COMPLETE` (R90): a berth staged from stacked DRAM or a staging copy, after any disturbance of its stored bytes. -/
def execStageComplete (cluster : BitVec 9) (bay : BitVec 4) (ups : List Upset) (s : State) : Host.Outcome State Fault Refusal :=
  let cl := cluster.toNat
  let i := bay.toNat
  if s.tiers.reads.any (fun r => decide (r.cluster = some (cl, i))) then .next s else .next (s.finishBay cl i ups)

/-- The lowest FREE slot that holds no staging copy yet. -/
def State.copyFrom (s : State) : Nat → Nat → Option Nat
  | 0, _ => none
  | n + 1, at_ =>
    match s.nextFree (s.tiers.slots.length + s.host.basins.length + 2) at_ with
    | none => none
    | some x => if s.tiers.copies.any (fun c => decide (c.2.slot = x)) then s.copyFrom n (x + 1) else some x

/-- `FLASH_READ_DONE` (R154, R169, R192): a manifest for a sweep, a payload for a bay, or a payload for a staging copy. -/
def execFlashReadDone (k : BerthKey) (payload : Bool) (ups : List Upset) (s0 : State) : Host.Outcome State Fault Refusal :=
  match s0.tiers.reads.find? (fun r => decide (r.key = k) && decide (r.payload = payload)) with
  | none => .next s0
  | some rd =>
    let s := { s0 with tiers := { s0.tiers with reads := s0.tiers.reads.erase rd } }
    match rd.cluster with
    | some (cl, i) => .next (s.finishBay cl i ups)
    | none =>
      if !payload then
        match rd.sweep with
        | none => .next s
        | some (g, q) =>
          let one (s : State) (twin : Bool) : State :=
            match s.member g q twin with
            | none => s
            | some m =>
              match m.berth? k.berth with
              | none => s
              | some p =>
                if m.key k.berth ≠ k ∨ p.man.isSome ∨ p.noMan then s
                else
                  match (s.upsetShare m k.berth (((s.pte k).map (·.slot)).getD 0) ups).shareMan m k.berth with
                  | (s1, some man) => s1.setMember (m.modBerth k.berth (fun p => { p with man := some man }))
                  | (s1, none) => s1.setMember (m.modBerth k.berth (fun p => { p with noMan := true }))
          .next (one (one s false) true)
      else
        match s.pte k with
        | none => .next s
        | some e =>
          let gone (s : State) : State :=
            match rd.sweep with
            | some (g, q) =>
              (match s.member g q false with
               | some m => s.setMember { m with snd := m.snd.map (fun (d : Sounding) =>
                   { d with fetching := d.fetching.filter (fun x => decide (x ≠ k.berth)),
                            fetched := if rd.neighbour then d.fetched ++ [k.berth] else d.fetched }) }
               | none => s)
            | none => s
          let s1 := gone s
          match (if isFlash e.slot then s1.image e.slot else none), s1.copyFrom (s1.tiers.copies.length + 1) 0 with
          | some img, some n =>
            if s1.fld rBthCtl 24 16 * 256 ≤ s1.tiers.copies.length then .next s1
            else
              let img1 := upsetAll img ups
              let s2 := if ups.isEmpty then s1 else s1.setImage e.slot img1
              let cp : StCopy := { slot := n, landed := s.now, gen := e.gen, img := img1, sweep := rd.sweep }
              .next { s2 with tiers := { s2.tiers with copies := alPut s2.tiers.copies k cp } }
          | _, _ => .next s1

/-- `STAGING_COPY_EXPIRY` (R169): a copy is discarded 53,687,091 ticks after it landed. -/
def execStagingCopyExpiry (k : BerthKey) (s : State) : Host.Outcome State Fault Refusal :=
  match alGet s.tiers.copies k with
  | some y => if y.landed + 53687091 ≤ s.now then .next (s.dropCopy k) else .next s
  | none => .next s

/-- `BASE_BERTH_EXPIRY` (R200): a staged base berth unused for 1,073,742 ticks is released. -/
def execBaseBerthExpiry (cluster : BitVec 9) (bay : BitVec 4) (s : State) : Host.Outcome State Fault Refusal :=
  match alGet (s.cluster cluster.toNat).bays bay.toNat with
  | some y => if y.base ∧ y.lastUse + 1073742 ≤ s.now then .next (s.delBay cluster.toNat bay.toNat) else .next s
  | none => .next s

/-! ### Grace and cutoff (R65, R88, R191) -/

/-- `GRACE_EXPIRY`: each berth is fixed as resident or not. -/
def execGraceExpiry (gsid : BitVec 24) (seq : BitVec 32) (twin : Bool) (s0 : State) : Host.Outcome State Fault Refusal :=
  let s := s0.ensureLaunched gsid.toNat seq.toNat twin
  match s.member gsid.toNat seq.toNat twin with
  | none => .next s
  | some m =>
    if m.stage ≠ 1 ∨ m.graceDone ∨ s.now < m.times.t + m.grace then .next s
    else
      let m1 := { m with graceDone := true }
      let fix (p : PBerth) : PBerth :=
        if p.mode.isSome || (decide (m1.desc.k ≠ 0) && p.selected.isNone && !p.prot) then p
        else match s.choose m1 p with
          | .man 1 => { p with mode := some 1 }
          | _ => p
      .next (s.setMember { m1 with plan := m1.plan.map fix })

/-- EXACT tickets still queued of a run turned into MANIFEST or SKIP, their bays freed; stagings in progress given up
(R88). -/
def State.cutRun (s : State) (core : Nat) : State :=
  let x := s.core core
  let cl := clusterOf core
  match x.run with
  | none => s
  | some r =>
    match s.memberOf r with
    | none => s
    | some m =>
      let conv (t : Ticket) : Ticket :=
        if t.mode = 0 then { t with mode := if ((m.berth? t.berth).bind (·.man)).isSome then 1 else 4, stage := 0 } else t
      let mine (q : Nat × Bay) : Bool := decide (q.2.core = core) && !q.2.base && !q.2.explicit
        && (!q.2.ready || r.queue.any (fun t => decide (t.mode = 0) && decide (t.stage = q.1)))
      let s1 := s.setCluster cl { s.cluster cl with bays := (s.cluster cl).bays.filter (fun q => !mine q) }
      let unhand (p : PBerth) : PBerth :=
        if r.staging.contains p.berth then { p with handed := p.handed.filter (fun g => decide (g ≠ r.group)) } else p
      let m1 := { m with plan := m.plan.map unhand }
      let r1 : Run := { r with queue := r.queue.map conv, staging := [], handed := r.handed.filter (fun b => !r.staging.contains b) }
      let s2 := (s1.setMember m1).setCore core { x with run := some r1 }
      { s2 with tiers := { s2.tiers with reads := s2.tiers.reads.filter (fun q =>
          match q.cluster with
          | some (c, i) => !(decide (c = cl) && ((s.cluster cl).bays.any (fun y => decide (y.1 = i) && mine y)))
          | none => true) } }

/-- Berths a move queues once a sweep over them has reached its cutoff; the object remembers them as touched (R355 steps 3
and 4). -/
def State.moveQueue (s : State) (m : MSweep) : State :=
  match s.obj m.tenant m.desc.object with
  | none => s
  | some o =>
    match o.moving with
    | none => s
    | some pkg =>
      let here := (m.plan.map (fun p => (m.desc.layer, p.berth))).filter (fun x => !o.touched.contains x)
      let s1 := s.setObj m.tenant m.desc.object { o with touched := o.touched ++ here }
      if !o.moveEffect then s1
      else
        m.plan.foldl (fun s p =>
          match s.pte (m.key p.berth) with
          | some e =>
            if e.state = 1 ∧ (o.cls = 0 ∨ o.cls = 2 ∨ !bfLt e.score o.sinkThr) then
              s.queueBarge { key := m.key p.berth, why := .move, toFlash := isFlash e.slot, peer := some pkg }
            else s
          | none => s) s1

/-- `MEMBER_CUTOFF` (R65, R88). -/
def execMemberCutoff (gsid : BitVec 24) (seq : BitVec 32) (twin : Bool) (s0 : State) : Host.Outcome State Fault Refusal :=
  let s := s0.ensureLaunched gsid.toNat seq.toNat twin
  match s.member gsid.toNat seq.toNat twin with
  | none => .next s
  | some m =>
    if m.stage ≠ 1 ∨ s.now < m.times.c then .next s
    else
      let s1 := s.setMember { m with stage := 2 }
      let s2 := m.live.foldl State.cutRun s1
      .next (if twin then s2 else s2.moveQueue m)

/-! ### Region partials and records (R54, R65, R78, R359) -/

/-- Whether every berth of a group has been handed out. -/
def MSweep.groupHanded (m : MSweep) (g : Nat) : Bool := m.plan.all (fun p => p.handed.contains g && (alGet p.requeued g).isNone)

/-- The runs a group still has in a region. -/
def State.groupRuns (s : State) (m : MSweep) (g : Nat) (region : Option Nat) : List Nat :=
  m.live.filter (fun c => (match region with | some r => decide (regionOf c = r) | none => true)
    && (match (s.core c).run with | some q => decide (q.group = g) | none => false))

/-- Run records of a group in a region in the order of R78: by core, then by start. -/
def runBefore (a b : RunRecs) : Bool := decide (a.core < b.core) || (decide (a.core = b.core) && decide (a.order ≤ b.order))
def runInsert (x : RunRecs) : List RunRecs → List RunRecs
  | [] => [x]
  | y :: ys => if runBefore x y then x :: y :: ys else y :: runInsert x ys

/-- Score latch entries of a group in a region finalised against the region partial (R183). -/
def State.finalScores (s : State) (m : MSweep) (region g : Nat) (recs : List Partial) : State :=
  let mine (e : ScoreEntry) : Bool := decide (e.gsid = m.gsid) && decide (e.seq = m.seq) && decide (e.group = g)
    && decide (e.region = region) && decide (e.twin = m.twin)
  (List.range 16).foldl (fun s i =>
    let cl := region * 16 + i
    let c := s.cluster cl
    let hit := c.scores.filter mine
    if hit.isEmpty then s
    else
      let s1 := s.setCluster cl { c with scores := c.scores.filter (fun e => !mine e) }
      match s1.member m.gsid m.seq m.twin with
      | some m1 => s1.setMember (hit.foldl (fun m e => m.addInc cl e.key.berth (incMax e.rows recs)) m1)
      | none => s1) s

/-- `REGION_PARTIAL_MERGE` (R78). -/
def execRegionPartialMerge (gsid : BitVec 24) (seq : BitVec 32) (twin : Bool) (region : BitVec 5) (group : BitVec 16) (s : State) :
    Host.Outcome State Fault Refusal :=
  let rg := region.toNat
  let g := group.toNat
  match s.member gsid.toNat seq.toNat twin with
  | none => .next s
  | some m =>
    let mine := (m.runRecs.filter (fun r => decide (r.region = rg) && decide (r.group = g))).foldr runInsert []
    if (m.stage ≠ 1 ∧ m.stage ≠ 2) ∨ mine.isEmpty ∨ (alGet m.regionRecs (rg, g)).isSome ∨ !m.groupHanded g
        ∨ !(s.groupRuns m g (some rg)).isEmpty ∨ m.groups ≤ g then .next s
    else
      let recs := mergeRows selfPkg (mine.map (·.recs))
      .next ((s.setMember { m with regionRecs := alPut m.regionRecs (rg, g) recs }).finalScores m rg g recs)

/-- Region partials of every group with records are in, and no run is left. -/
def MSweep.regionsIn (m : MSweep) : Bool :=
  m.live.isEmpty && (List.range m.groups).all (fun g => m.groupHanded g
    && m.runRecs.all (fun r => r.group ≠ g || (alGet m.regionRecs (r.region, g)).isSome))

/-- Position of a row of group order in the order of the result slot. -/
def MSweep.rowAt (m : MSweep) (qid : Nat) : Nat := qidSlot qid * (m.nkv * m.gq) + qidHead qid

/-- The member's own records, in the order of the result slot: region partials of each group merged in region order,
blank where no run gave any. -/
def MSweep.ownRecs (m : MSweep) : List Partial :=
  let byGroup := (List.range m.groups).flatMap (fun g =>
    let parts := (List.range 32).filterMap (fun r => alGet m.regionRecs (r, g))
    match parts with
    | [] => (m.rows g).map m.blank
    | _ => mergeRows selfPkg parts)
  (List.range (m.desc.nq * (m.nkv * m.gq))).filterMap (fun i =>
    byGroup.find? (fun p => decide (m.rowAt p.qid = i)))

/-- A twin's records: positions the member counted and the journal does not hold are skipped; without the member's count
L_SKIP is unbounded (R414). -/
def MSweep.twinRecs (m : MSweep) (recs : List Partial) : List Partial :=
  match m.ack with
  | some (n, _) =>
    recs.map (fun p =>
      let row := (allRows m.desc m.qbuf m.nkv m.gq m.d).find? (fun r => decide (r.qid = p.qid))
      skipInto p (n - m.count) m.c (queryNorm m.desc m.d ((row.map (·.q)).getD [])) m.kappa)
  | none => recs.map (fun p => { p with lSkip := posInf, flags := flagSet p.flags flUnbounded })

/-- Records of forwarded berths: the new home's, or the skip records that stand for them (R359). -/
def MSweep.fwdRecs (m : MSweep) (f : Forwarded) (own : List Partial) : List Partial :=
  if (List.range own.length).all (fun i => (alGet f.recs i).isSome) then (List.range own.length).filterMap (alGet f.recs)
  else
    own.map (fun p =>
      let row := (allRows m.desc m.qbuf m.nkv m.gq m.d).find? (fun r => decide (r.qid = p.qid))
      let blank := emptyRec p.qpos p.qid m.gsid m.seq selfPkg m.member m.twin m.late m.d
      match f.ack with
      | some (n, kap) => skipInto blank n m.c (queryNorm m.desc m.d ((row.map (·.q)).getD [])) kap
      | none => unknownSkip blank 0)

def MSweep.fwdIn (m : MSweep) : Bool :=
  m.fwd.all (fun f => (List.range (m.desc.nq * (m.nkv * m.gq))).all (fun i => (alGet f.recs i).isSome))

/-- Packages in ascending order. -/
def fwdInsert (x : Forwarded) : List Forwarded → List Forwarded
  | [] => [x]
  | y :: ys => if x.pkg ≤ y.pkg then x :: y :: ys else y :: fwdInsert x ys

/-- Records sent to where the member's ARM said: landed here when that is this part (R65). -/
def State.sendRecs (s : State) (dst gsid seq member : Nat) (twin : Bool) (recs : List Partial) : State :=
  recs.zipIdx.foldl (fun s (p, i) =>
    let msg : PartMsg := { gsid := gsid, seq := seq, member := member, src := selfPkg, twin := twin, row := i, body := p }
    if dst = selfPkg then s.land msg else s.send (.part dst msg)) s

/-- `MEMBER_RECORDS_SEND` (R65). -/
def execMemberRecordsSend (gsid : BitVec 24) (seq : BitVec 32) (twin : Bool) (s0 : State) : Host.Outcome State Fault Refusal :=
  let s := s0.ensureLaunched gsid.toNat seq.toNat twin
  match s.member gsid.toNat seq.toNat twin with
  | none => .next s
  | some m =>
    if (m.stage ≠ 1 ∧ m.stage ≠ 2) ∨ m.overdue ∨ !m.regionsIn ∨ (!m.fwdIn ∧ s.now < m.times.c) then .next s
    else
      let own := m.ownRecs
      let full := ((m.fwd.foldr fwdInsert []).foldl (fun acc f => mergeRows selfPkg [acc, m.fwdRecs f own]) own)
      let out := (if twin then m.twinRecs full else full).map (fun p =>
        { p with part := if p.merged then p.part else selfPkg, member := if p.merged then p.member else m.member })
      let s1 := (s.setMember { m with stage := 3 }).soundFree m
      let s2 := if twin then s1 else m.incs.foldl (fun s e => s.scoreBerth (m.key e.1.2) e.2) s1
      .next (s2.sendRecs m.mergeTo m.gsid m.seq m.member twin out)

/-- Work for a convoy stopped: its runs end, its room is given back (R67, R71). -/
def State.stopMember (s : State) (m : MSweep) : State :=
  let s1 := m.live.foldl (fun s c => s.clearRun c) s
  let s2 := s1.soundFree m
  match s2.member m.gsid m.seq m.twin with
  | some m1 => s2.setMember { m1 with stage := 4, live := [] }
  | none => s2

/-- `CANCEL_MSG` (R67, R71): the twin's work where there is any, else the member's. -/
def execCancelMsg (gsid : BitVec 24) (seq : BitVec 32) (s : State) : Host.Outcome State Fault Refusal :=
  if !s.hears selfPkg then .next s else
  match s.member gsid.toNat seq.toNat true, s.member gsid.toNat seq.toNat false with
  | some m, o =>
    if m.stage < 3 then .next (s.stopMember m)
    else match o with
      | some q => if q.stage < 3 then .next (s.stopMember q) else .next s
      | none => .next s
  | none, some q => if q.stage < 3 then .next (s.stopMember q) else .next s
  | none, none => .next s

end Sys2Proof.Machine
end

