-- ==== Sys2Proof/Machine/HostRing.lean ====
section
/-! DEFINITION. Rings of a basin's host area: service, descriptors and their completion, doorbells, coalescing (R326 to
R336, R343 to R345). -/

namespace Sys2Proof.Machine

/-! ### Addresses a descriptor may carry (R301, R323, R327) -/

/-- First byte and end of a basin's host area and of its mooring share. -/
def Basin.hostLo (b : Basin) : Nat := b.hostBase * 0x14000
def Basin.hostHi (b : Basin) : Nat := (b.hostBase + b.hostSlots) * 0x14000
def moorArea : Nat := 0x5FE0000000
def Basin.moorLo (b : Basin) : Nat := moorArea + b.moorBase * 2 ^ 20
def Basin.moorHi (b : Basin) : Nat := moorArea + (b.moorBase + b.moorLen) * 2 ^ 20

/-- Whether `n` bytes from `a` lie in the basin's host area, or in its mooring share. -/
def State.inHost (s : State) (b a n : Nat) : Bool :=
  decide ((s.basin b).hostLo ≤ a) && decide (a + n ≤ (s.basin b).hostHi)
def State.inMoor (s : State) (b a n : Nat) : Bool :=
  decide ((s.basin b).moorLo ≤ a) && decide (a + n ≤ (s.basin b).moorHi)

/-! ### Descriptors (R330, R331) -/

/-- A consumed descriptor: the ring it stood in and its common header. -/
structure Dsc where
  basin : Nat
  ring : Nat
  op : Nat
  tenant : Nat
  wrid : Nat
  cq : Bool
  bytes : List Byte
deriving DecidableEq, Repr

/-- The common header of an entry. -/
def dscOf (basin ring : Nat) (b : List Byte) : Dsc :=
  { basin := basin, ring := ring, op := dsc b 0 1, tenant := dsc b 4 2 % 4096, wrid := dsc b 8 8,
    cq := dsc b 1 1 % 2 = 1, bytes := b }

/-- Field of a descriptor, and whether reserved encodings of defined flags are clear. -/
def Dsc.f (d : Dsc) (o n : Nat) : Nat := dsc d.bytes o n

/-- Whether a basin's rings are served: SERVICE mode, the basin ACTIVE, the interface not in ERROR, the part not expelled (R326,
R352, R369, R417). -/
def State.served (s : State) (b : Nat) : Bool :=
  decide (s.mode = 2) && decide ((s.basin b).st = 2) && !s.expelled
    && decide (s.sec.tdisp ≠ 3)

/-- Whether the completion ring of a submission ring is full or holds entries back (R330, R336). -/
def State.cqBlocked (s : State) (b : Nat) (q : SQ) : Bool :=
  match alGet (s.basin b).cqs q.cq with
  | some c => c.full || !c.back.isEmpty
  | none => false

/-- The entry at the head of a ring that may be taken. -/
def State.front (s : State) (b r : Nat) : Option Dsc :=
  match alGet (s.basin b).sqs r with
  | none => none
  | some q =>
    if !s.served b || q.head = q.tail || s.cqBlocked b q then none
    else some (dscOf b r (memReadN s.dram (q.base + 128 * q.head) 128))

/-- The head of a ring moved past the entry taken. -/
def State.takeEntry (s : State) (b r : Nat) : State :=
  let bs := s.basin b
  match alGet bs.sqs r with
  | none => s
  | some q => s.setBasin b { bs with sqs := alPut bs.sqs r { q with head := (q.head + 1) % 2 ^ q.log2 } }

/-- Operation codes without a meaning (R332, R349, R379). -/
def reservedOp (op : Nat) : Bool :=
  decide (op = 0) || (decide (0x10 < op) && decide (op < 0x20)) || (decide (0x25 < op) && decide (op < 0x28)) || decide (0x2B < op)

/-- A descriptor's completion. -/
def State.fin (s : State) (d : Dsc) (status result : Nat) : State := s.complete d.basin d.ring d.wrid d.op d.cq status result

/-- A descriptor that completes later kept as a job. -/
def Dsc.job (d : Dsc) : Job := { id := 0, basin := d.basin, ring := d.ring, op := d.op, wrid := d.wrid, cq := d.cq }

/-- One descriptor of an operation taken from a ring: a reserved operation code is refused with INVALID_FIELD, another
operation's entry is left where it is (R330, R331). -/
def serve (op : Nat) (f : Dsc → State → State) (b r : Nat) (s : State) : State :=
  match s.front b r with
  | none => s
  | some d =>
    if reservedOp d.op then (s.takeEntry b r).fin d stInvalidField 0
    else if d.op ≠ op then s
    else f d (s.takeEntry b r)

/-- Why a descriptor's tenant is refused: its key slot is not ACTIVE, or the basin does not serve it (R331, R380). -/
def State.tenantRefuse (s : State) (b t : Nat) : Option Nat :=
  if !s.active t then some stTenantRetired
  else if !(s.basin b).tenants.contains t then some stAccessDenied else none

/-- A tenant's descriptor: refused when its tenant is, else carried out. -/
def tenantDsc (f : Dsc → State → State) (d : Dsc) (s : State) : State :=
  match s.tenantRefuse d.basin d.tenant with
  | some e => s.fin d e 0
  | none => f d s

/-! ### Doorbells and indices (R328, R329, R336, R343) -/

/-- A doorbell write ignored and counted. -/
def State.badDb (s : State) : State := s.bump rHubHostif 16 16 1

/-- Whether an index may move from `old` to `new` in a ring of 2^k entries without passing `limit`: forward from `old` up
to `limit`. -/
def moves (k old new limit : Nat) : Bool := decide ((new + 2 ^ k - old) % 2 ^ k ≤ (limit + 2 ^ k - old) % 2 ^ k)

/-- `SQ_TAIL` (R329): the tail may move forward over free entries; the ring holds at most 2^k − 1 of them. -/
def execSqTail (basin : BitVec 6) (ring : BitVec 8) (val : BitVec 64) (s : State) : Host.Outcome State Fault Refusal :=
  let b := basin.toNat
  let bs := s.basin b
  let v := fld val 0 12
  if !s.inService then .next s.turnedAway
  else if bs.st = 0 then .next s.badDb
  else
    match alGet bs.sqs ring.toNat with
    | none => .next s.badDb
    | some q =>
      if 2 ^ q.log2 ≤ v ∨ !moves q.log2 q.tail v ((q.head + 2 ^ q.log2 - 1) % 2 ^ q.log2) then .next s.badDb
      else .next (s.setBasin b { bs with sqs := alPut bs.sqs ring.toNat { q with tail := v } })

/-- Entries held back written while their ring has room. -/
def State.drainBack (s : State) (b c : Nat) : Nat → State
  | 0 => s
  | n + 1 =>
    let bs := s.basin b
    match alGet bs.cqs c with
    | none => s
    | some q =>
      match q.back with
      | [] => s
      | e :: es =>
        if q.full then s
        else
          let q1 := { q with back := es }
          (cqWrite (s.setBasin b { bs with cqs := alPut bs.cqs c q1 }) b c q1 e).drainBack b c n

/-- `CQ_HEAD` (R329, R336): entries freed; entries held back follow. -/
def execCqHead (basin : BitVec 6) (ring : BitVec 8) (val : BitVec 64) (s : State) : Host.Outcome State Fault Refusal :=
  let b := basin.toNat
  let bs := s.basin b
  let v := fld val 0 14
  if !s.inService then .next s.turnedAway
  else if bs.st = 0 then .next s.badDb
  else
    match alGet bs.cqs ring.toNat with
    | none => .next s.badDb
    | some q =>
      if 2 ^ q.log2 ≤ v ∨ !moves q.log2 q.head v q.tail then .next s.badDb
      else
        let s1 := s.setBasin b { bs with cqs := alPut bs.cqs ring.toNat { q with head := v } }
        .next (s1.drainBack b ring.toNat q.back.length)

/-- `EVT_HEAD` (R343). -/
def execEvtHead (basin : BitVec 6) (val : BitVec 64) (s : State) : Host.Outcome State Fault Refusal :=
  let b := basin.toNat
  let bs := s.basin b
  let v := fld val 0 10
  if !s.inService then .next s.turnedAway
  else if bs.st = 0 ∨ !moves 10 bs.evt.head v bs.evt.tail then .next s.badDb
  else .next (s.setBasin b { bs with evt := { bs.evt with head := v } })

/-- `EXC_HEAD` (R343). -/
def execExcHead (basin : BitVec 6) (val : BitVec 64) (s : State) : Host.Outcome State Fault Refusal :=
  let b := basin.toNat
  let bs := s.basin b
  let v := fld val 0 10
  if !s.inService then .next s.turnedAway
  else if bs.st = 0 ∨ !moves 10 bs.exc.head v bs.exc.tail then .next s.badDb
  else .next (s.setBasin b { bs with exc := { bs.exc with head := v } })


/-- `COAL_TIMER` (R344): COAL_US after the first entry since the ring's last interrupt. -/
def execCoalTimer (basin : BitVec 6) (ring : BitVec 8) (s : State) : Host.Outcome State Fault Refusal :=
  let b := basin.toNat
  let bs := s.basin b
  match alGet bs.cqs ring.toNat with
  | none => .next s
  | some q =>
    if q.ien ∧ 0 < q.fresh ∧ q.firstAt + ticksUs q.coalUs ≤ s.now then
      .next ((s.setBasin b { bs with cqs := alPut bs.cqs ring.toNat { q with fresh := 0 } }).raiseMsix q.vector)
    else .next s

/-! ### Service entry (R326) -/

/-- Each composed basin's fixed rings zeroed, its indices at 0; status words IDLE come with the zeroed area. -/
def State.zeroRings (s : State) (b : Nat) : State :=
  let bs := s.basin b
  (s.setDram (memZero s.dram bs.hostLo 0x20000)).setBasin b
    { bs with sqs := alMap bs.sqs (fun _ q => { q with head := 0, tail := 0 }),
              cqs := alMap bs.cqs (fun _ q => { q with head := 0, tail := 0, phase := true, fresh := 0, back := [] }),
              evt := {}, exc := {} }

/-- `SERVICE_ENTRY` (R326): from HANDOVER; MODE becomes SERVICE and SVC_EVT raises vector 0. What the keepers reported while they
started (R404, R405) is written once the rings are zeroed (log). -/
def execServiceEntry (s : State) : Host.Outcome State Fault Refusal :=
  if s.mode ≠ 1 then .next s
  else
    let s1 := (s.host.basins.map (·.1)).foldl (fun s b => if (s.basin b).st = 0 then s else s.zeroRings b) s
    let s2 := s1.boot.reports.foldl (fun (s : State) r => s.event 0 r)
      { s1 with boot := { s1.boot with serviceAt := s1.now, countCleared := false, reports := [] } }
    .next (((s2.setFld rHubHostif 0 2 2).setFld rHubHostif 2 1 1).raiseMsix 0)

end Sys2Proof.Machine
end

