-- ==== Sys2Proof/Machine/Objects.lean ====
section
/-! DEFINITION. Objects: attributes and their bytes, creation, update, destruction (R157, R158, R195, R332, R410), homes
gained and lost (R226, R227), journal records sent (R409 to R411). -/

namespace Sys2Proof.Machine

/-! ### Attributes as bytes -/

/-- Field of an attribute string at an offset of the CREATE_OBJECT descriptor: the string begins at 0x10 (R410). -/
def attrN (a : List Byte) (o n : Nat) : Nat := dsc a (o - 0x10) n

/-- A field of an attribute string replaced. -/
def attrSet (a : List Byte) (o n v : Nat) : List Byte := a.take (o - 0x10) ++ leBytes n v ++ a.drop (o - 0x10 + n)

/-- A field written as 0 that takes its default, unless its row's mask bit is set (R157). -/
def attrDefault (mask bit o n v : Nat) (a : List Byte) : List Byte :=
  if attrN a o n = 0 ∧ !mask.testBit bit then attrSet a o n v else a

/-- The largest P that fits a geometry (R158). -/
def fitsGeo (g : Geo) : Bool := decide (g.p * g.rp ≤ 65536) && decide (64 + g.nkv * g.headSize + 3 * g.nkv * g.p ≤ 3968)
def largestP (g : Geo) : Nat := ((List.range 257).filter (fun p => decide (1 ≤ p) && fitsGeo { g with p := p })).foldl max 0

/-- The geometry an attribute string names. -/
def attrGeo (a : List Byte) : Geo := ⟨attrN a 0x18 1 % 4, attrN a 0x14 1, attrN a 0x16 2, attrN a 0x1A 2⟩

/-- The 80 attribute bytes of a create descriptor with the defaults of R157 filled in. -/
def resolveAttrs (a : List Byte) (zmask : Nat) : List Byte :=
  let a1 := if attrN a 0x1A 2 = 0 then attrSet a 0x1A 2 (largestP (attrGeo a)) else a
  let a2 := attrDefault zmask 3 0x20 2 256 a1
  let a3 := attrDefault zmask 4 0x22 2 0x3D00 a2
  let a4 := attrDefault zmask 4 0x24 2 0x3E80 a3
  let a5 := attrDefault zmask 5 0x26 2 0x3C00 a4
  let a6 := attrDefault zmask 5 0x28 4 1048576 a5
  let a7 := attrDefault zmask 6 0x2C 2 4 a6
  let lead := attrN a7 0x2F 1
  let lo := if lead % 16 = 0 ∧ !zmask.testBit 8 then 1 else lead % 16
  let hi := if lead / 16 = 0 ∧ !zmask.testBit 8 then 8 else lead / 16
  let a8 := attrSet a7 0x2F 1 (lo + 16 * hi)
  let a9 := attrDefault zmask 7 0x30 4 4096 a8
  attrDefault zmask 9 0x34 4 5369 a9

/-- Lists that follow the attribute bytes: rotary frequencies, LSEQ, part set. -/
def attrRope (a : List Byte) : List Byte := if attrN a 0x38 8 = 0 then [] else bytesAt a 0x50 (2 * attrN a 0x16 2)
def attrLseq (a : List Byte) : List Byte := bytesAt a (0x50 + (attrRope a).length) (2 * attrN a 0x48 2)
def attrPset (a : List Byte) : List Byte :=
  bytesAt a (0x50 + (attrRope a).length + 2 * attrN a 0x48 2) (2 * attrN a 0x4A 2)
def u16s (b : List Byte) : List Nat := (List.range (b.length / 2)).map (fun i => dsc b (2 * i) 2)

/-- A placement class's BF16 threshold is a number at or above 0. -/
def bfNonneg (x : Nat) : Bool := !isNan (BitVec.ofNat 32 (x * 2 ^ 16)) && !fLt (BitVec.ofNat 32 (x * 2 ^ 16)) 0

/-- The object an attribute string describes, in a basin; its lead is 2 within its bounds (R157, R190). -/
def objOf (basin : Nat) (a : List Byte) : Obj :=
  let pset := u16s (attrPset a)
  let lseq := u16s (attrLseq a)
  let lo := attrN a 0x2F 1 % 16
  let hi := attrN a 0x2F 1 / 16
  { basin := basin, nkv := attrN a 0x14 1, gq := attrN a 0x15 1, d := attrN a 0x16 2, fmt := attrN a 0x18 1 % 4,
    adjacent := attrN a 0x18 1 / 4 % 2 = 1, cls := attrN a 0x19 1, p := attrN a 0x1A 2, base := attrN a 0x1C 4,
    halfLife := attrN a 0x20 2, sinkThr := attrN a 0x22 2, riseThr := attrN a 0x24 2, dropThr := attrN a 0x26 2,
    dropMin := attrN a 0x28 4, protSink := attrN a 0x2C 2, dropEn := attrN a 0x2E 1 = 1,
    leadMin := lo, leadMax := hi, protRecent := attrN a 0x30 4, grace := attrN a 0x34 4,
    rope := if attrN a 0x38 8 = 0 then none
      else some ((List.range (attrN a 0x16 2 / 2)).map (fun i => BitVec.ofNat 32 (dsc (attrRope a) (4 * i) 4))),
    lseq := if lseq.isEmpty then none else some lseq, pset := pset, spread := pset.take (attrN a 0x4C 1),
    lead := min hi (max lo 2), attrBytes := a }

/-- Whether attributes other than the geometry lie in their ranges (R157). `set` tells that the part set counts. -/
def attrsOk (a : List Byte) (mask : Nat) (set : Bool) : Bool :=
  let thr (o : Nat) : Nat := attrN a o 2
  decide (attrN a 0x19 1 ≤ 3) && (decide (attrN a 0x2E 1 ≤ 1))
    && decide (1 ≤ attrN a 0x20 2)
    && bfNonneg (thr 0x22) && bfNonneg (thr 0x24) && bfNonneg (thr 0x26) && bfLt (thr 0x22) (thr 0x24) && !bfLt (thr 0x22) (thr 0x26)
    && decide (attrN a 0x30 4 < 2 ^ 24) && decide (attrN a 0x34 4 < 2 ^ 24)
    && decide (attrN a 0x2F 1 % 16 ≤ attrN a 0x2F 1 / 16)
    && decide (attrN a 0x48 2 ≤ 256) && !(mask.testBit 2 && decide (attrN a 0x48 2 = 0))
    && (!set || (decide (1 ≤ attrN a 0x4A 2) && decide (attrN a 0x4A 2 ≤ 1024)
      && (decide (attrN a 0x4C 1 = 0) || (decide (2 ≤ attrN a 0x4C 1) && decide (attrN a 0x4C 1 ≤ 64) && decide (attrN a 0x4C 1 ≤ attrN a 0x4A 2)))
      && (u16s (attrPset a)).all (fun p => decide (p < 1024)) && (u16s (attrPset a)).contains selfPkg))
    && (decide (attrN a 0x19 1 ≠ 3) || decide (attrN a 0x4C 1 ≠ 0))

/-- Whether the fixed geometry fields lie in their ranges (R157). -/
def geoOk (a : List Byte) : Bool :=
  let d := attrN a 0x16 2
  decide (1 ≤ attrN a 0x14 1) && decide (attrN a 0x14 1 ≤ 16) && decide (1 ≤ attrN a 0x15 1) && decide (attrN a 0x15 1 ≤ 32)
    && decide (attrN a 0x14 1 * attrN a 0x15 1 ≤ 256) && (decide (d = 64) || decide (d = 128) || decide (d = 256))
    && decide (attrN a 0x18 1 % 4 ≤ 2) && decide (attrN a 0x1A 2 ≤ 256)

/-- The lists a descriptor's addresses name, read into an attribute string; none when an address lies outside the host
area (R327). -/
def State.withLists (s : State) (b : Nat) (a : List Byte) (rope lseq set : Bool) (old : List Byte) : Option (List Byte) :=
  let take (want : Bool) (at_ n : Nat) (keep : List Byte) : Option (List Byte) :=
    if !want then some keep
    else if n = 0 then some []
    else if s.inHost b at_ n then some (s.buffer at_ n) else none
  let nr := if attrN a 0x38 8 = 0 then 0 else 2 * attrN a 0x16 2
  match take rope (attrN a 0x38 8) nr (attrRope old), take lseq (attrN a 0x40 8) (2 * attrN a 0x48 2) (attrLseq old),
      take set (attrN a 0x50 8) (2 * attrN a 0x4A 2) (attrPset old) with
  | some r, some l, some p => some (a.take 0x50 ++ r ++ l ++ p)
  | _, _, _ => none

/-! ### Journal records sent (R409 to R411) -/

/-- The package of the twin, and whether records go out: SEEDING or SYNCED. -/
def State.twinPkg (s : State) : Nat := s.fld rTwnCfg 0 10
def State.journalling (s : State) : Bool := decide (s.twin.pair = 1) || decide (s.twin.pair = 2)

/-- A pair in service: SYNCED (R408). -/
def State.twinServes (s : State) : Bool := decide (s.twin.pair = 2)

/-- A record of a tenant sent to the twin, or held while the tenant's slot is not ACTIVE (R410). The JSEQ is answered. -/
def State.journal (s : State) (k : BerthKey) (gen count : Nat) (durable : Bool) (body : JBody) : State × Nat :=
  if !s.journalling then (s, 0)
  else
    let j := alGetD s.twin.out k.tenant {}
    let r : JRecord := { durable := durable, key := k, jseq := j.next, gen := gen, count := count, body := body }
    let live := s.active k.tenant
    let j1 : JOut := if live then { j with next := j.next + 1, out := j.out ++ [r] }
      else { j with next := j.next + 1, held := j.held ++ [r] }
    let s1 := { s with twin := { s.twin with out := alPut s.twin.out k.tenant j1,
                                             ackAt := if live && s.twin.ackAt.isNone then some s.now else s.twin.ackAt } }
    (if live then s1.send (.journal s.twinPkg k.tenant [r]) else s1, j.next)

/-- The journal record of an object's attributes. -/
def State.journalObj (s : State) (tenant object : Nat) (o : Obj) (destroy : Bool) : State :=
  (s.journal ⟨tenant, object, 0, 0⟩ 0 0 false (.object o.attrBytes destroy)).1

/-- A coded line written afresh as EXACT for a part that cannot read it against its base; a line that fails stays as it is
(R215). -/
def State.recode (s : State) (g : Geo) (k : BerthKey) (img : SlotImage) : SlotImage :=
  let key := s.berthKey k
  { img with lines := img.lines.mapIdx (fun i l =>
      if l.lcode = 1 ∨ l.lcode = 3 then
        match (readLine (s.keyLive k) key g k (fun j => (s.baseOf k).bind (fun bk => s.baseLine g bk j)) i l).res with
        | .ok b => sealExact key k b i (l.ver + 1)
        | .error _ => l
      else l) }

/-- Whether a package holds a binding of the base this object names, by its digest (R215). -/
def State.peerBase (s : State) (pkg : Nat) (k : BerthKey) : Bool :=
  match s.obj k.tenant k.object with
  | some o =>
    (match (s.basin o.basin).binds.find? (fun b => decide (b.kind = 1) && decide (b.object = o.base)) with
     | some b => Config.peerHolds pkg b.digest s.fresh
     | none => true)
  | none => true

/-- A berth's image as it travels to a package: as stored, or re-coded (R215). -/
def State.travelImage (s : State) (pkg : Nat) (k : BerthKey) (img : SlotImage) : State × SlotImage :=
  match s.obj k.tenant k.object, s.pte k with
  | some o, some p =>
    if p.coded then (s.drawn, if s.peerBase pkg k then img else s.recode o.geo k img) else (s, img)
  | _, _ => (s, img)

/-! ### Homes gained and lost (R160, R226, R227) -/

/-- Homes of a layer here in one HOME block. -/
def State.homesInBlock (s : State) (k : BerthKey) : Nat :=
  let blk := 2 ^ s.homeBlk
  match s.layer k.lk with
  | some l => (l.ptes.filter (fun e => e.2.home && decide (e.1 / blk = k.berth / blk))).length
  | none => 0

/-- HOME_NOTE sent to every other part of the object's set (R227). -/
def State.homeNotes (s : State) (k : BerthKey) (gain : Bool) : State :=
  match s.obj k.tenant k.object with
  | none => s
  | some o =>
    let b := k.berth / 2 ^ s.homeBlk * 2 ^ s.homeBlk
    s.sends ((o.pset.filter (fun p => decide (p ≠ selfPkg))).map (fun p =>
      .homeNote p s.epoch k.lk b (s.homesInBlock k) gain))

/-- A new layer root with its LAYER entry: at the next free 64 bytes of the root tables; PT_AREA_FULL without room for its
top table, LEDGER_FULL without an entry (R160, R165, R220, R226). -/
def State.newRoot (s : State) (k : LayerKey) (basin p : Nat) : Except (Nat × State) State :=
  if s.ptFree = 0 then .error (stPtAreaFull, s.setFld rBthPtStat 20 1 1)
  else
    let addr := 0x5F40000000 + 64 * s.tiers.nextRoot
    match s.ldgAdd (layerKeyOf k basin) layerCare (layerVal addr false) with
    | .error e => .error e
    | .ok t => .ok { t with tiers := { t.tiers with nextRoot := t.tiers.nextRoot + 1,
                                                    layers := alPut t.tiers.layers k { root := addr, basin := basin, p := p } } }

/-- Room for the tables a new entry of a layer needs (R165). -/
def State.tableRoom (s : State) (k : BerthKey) : Bool :=
  match s.layer k.lk with
  | none => decide (3 ≤ s.ptFree)
  | some l =>
    let mid := !(l.ptes.any (fun e => decide (e.1 / 16384 = k.berth / 16384)))
    let leaf := !(l.ptes.any (fun e => decide (e.1 / 128 = k.berth / 128)))
    decide ((if mid then 1 else 0) + (if leaf then 1 else 0) ≤ s.ptFree)

/-- A root without entries freed with its LAYER entry and graph slots (R160, R238). -/
def State.dropRoot (s : State) (k : LayerKey) : State :=
  match s.layer k with
  | none => s
  | some l =>
    if !l.ptes.isEmpty then s
    else
      let s1 := s.ldgDrop (layerKeyOf k l.basin) layerCare
      let graphs := s1.tiers.slots.filter (fun p => decide (p.2.st = .graph) && decide (p.2.key.map (·.lk) = some k))
      let s2 := graphs.foldl (fun s p =>
        match p.2.key with
        | some g => (s.freeHome p.1).ldgDrop (nbrKey k l.basin (g.berth / 1024)) nbrCare
        | none => s) s1
      { s2 with tiers := { s2.tiers with layers := alDel s2.tiers.layers k } }

/-- A barge given up: the destination is freed; the entry returns to RESIDENT (R178). The other part of a barge between
parts learns it by a BARGE_GRANT with BARGE_NOSPACE (log: the spec names no message for it). -/
def State.abortBarge (s : State) (k : BerthKey) : State :=
  match alGet s.tiers.barges k with
  | none => { s with tiers := { s.tiers with bargeQ := s.tiers.bargeQ.filter (fun q => decide (q.key ≠ k)) } }
  | some b =>
    let s1 := { s with tiers := { s.tiers with barges := alDel s.tiers.barges k } }
    let s2 := if b.peer.isNone || b.incoming then s1.freeHome b.dest else s1
    let s3 := if b.incoming then s2.delPte k else s2.modPte k (fun p => if p.state = 2 then { p with state := 1 } else p)
    let s4 := match b.peer with
      | some p => s3.send (.bargeGrant p k stBargeNospace)
      | none => s3
    s4.bump rBthBargeStat 16 16 1

/-- A berth homed here freed: its barge, copies, pack place and graph work end, its slot drains, the twin gets FREE, and
when it was the last of its HOME block the peers learn it (R173, R176, R227, R411). -/
def State.freeBerth (s : State) (k : BerthKey) (journal : Bool) : State :=
  match s.pte k with
  | none => s
  | some p =>
    let s1 := (s.abortBarge k).dropCopy k
    let s2 := s1.packDrop p
    let s3 := (s2.delPte k).drainHome p.slot
    let s4 := { s3 with tiers := { s3.tiers with graphQ := s3.tiers.graphQ.filter (fun g => decide (g ≠ k)) } }
    let s5 := s4.plbInval [k]
    let s6 := if journal then (s5.journal k ((p.gen + 1) % 2 ^ 32) 0 false .free).1 else s5
    if s6.homesInBlock k = 0 then s6.homeNotes k false else s6

/-! ### CREATE_OBJECT, UPDATE_OBJECT, DESTROY_OBJECT (R157, R195, R332) -/

/-- The base an object names is bound in its basin with its geometry, else the refusal (R195). -/
def State.baseRefuse (s : State) (b : Nat) (a : List Byte) : Option Nat :=
  let base := attrN a 0x1C 4
  if base = 0 then none
  else if !((s.basin b).binds.any (fun x => decide (x.kind = 1) && decide (x.object = base))) then some stBaseAbsent
  else
    match s.obj (baseTenant b) base with
    | some o => if o.nkv = attrN a 0x14 1 ∧ o.d = attrN a 0x16 2 ∧ o.fmt = attrN a 0x18 1 % 4 ∧ o.p = attrN a 0x1A 2 then none
        else some stBaseMismatch
    | none => some stBaseAbsent

/-- The rows of a UMASK copied from a descriptor over an object's attributes (R332). -/
def updateAttrs (old new : List Byte) (umask : Nat) : List Byte :=
  let cp (bit o n : Nat) (a : List Byte) : List Byte := if umask.testBit bit then attrSet a o n (attrN new o n) else a
  cp 9 0x34 4 (cp 8 0x2F 1 (cp 7 0x30 4 (cp 6 0x2C 2 (cp 5 0x2E 1 (cp 5 0x28 4 (cp 5 0x26 2 (cp 4 0x24 2 (cp 4 0x22 2
    (cp 3 0x20 2 (cp 2 0x48 2 (cp 1 0x4C 1 (cp 1 0x4A 2 (cp 0 0x19 1 old)))))))))))))

/-- `UPDATE_OBJECT`: the new attributes are in force for the object; what follows from them for the berths is taken up by
each layer's next eviction scan (R157, R185). -/
def doUpdateObject (d : Dsc) (s : State) : State :=
  let umask := d.f 0x58 8
  let new := bytesAt d.bytes 0x10 0x50
  let object := d.f 0x10 4
  match s.obj d.tenant object with
  | none => s.fin d stNotFound 0
  | some o =>
    if o.basin ≠ d.basin ∨ o.isBase then s.fin d stNotFound 0
    else if 2 ^ 10 ≤ umask then s.fin d stInvalidField 0
    else
      let up := updateAttrs (o.attrBytes.take 0x50) new umask
      let setL := umask.testBit 2
      let setP := umask.testBit 1
      let at_ := attrSet (attrSet up 0x40 8 (attrN new 0x40 8)) 0x50 8 (attrN new 0x50 8)
      match s.withLists d.basin at_ false setL setP o.attrBytes with
      | none => s.fin d stAccessDenied 0
      | some full =>
        if !attrsOk full umask true then s.fin d stInvalidField 0
        else
          let n := objOf o.basin full
          let o1 : Obj := { n with lead := min n.leadMax (max n.leadMin o.lead), interval := o.interval, lastLaunch := o.lastLaunch,
                                   launched := o.launched, moving := o.moving, moveEffect := o.moveEffect, moveBasin := o.moveBasin,
                                   touched := o.touched }
          ((s.setObj d.tenant object o1).journalObj d.tenant object o1 false).fin d stOk 0

def execUpdateObject (basin : BitVec 6) (ring : BitVec 8) (s : State) : Host.Outcome State Fault Refusal :=
  .next (serve 0x04 (tenantDsc doUpdateObject) basin.toNat ring.toNat s)

/-- Layers of an object with roots here. -/
def State.layersOf (s : State) (tenant object : Nat) : List LayerKey :=
  (s.tiers.layers.filter (fun p => decide (p.1.tenant = tenant) && decide (p.1.object = object))).map (·.1)

/-- Berths of an object homed here. -/
def State.homesOf (s : State) (tenant object : Nat) : List BerthKey :=
  (s.layersOf tenant object).flatMap (fun k => match s.layer k with
    | some l => (sortNat ((l.ptes.filter (fun e => e.2.home)).map (·.1))).map (fun b => ⟨k.tenant, k.object, k.layer, b⟩)
    | none => [])

/-- HOME entries of an object deleted with it (R226). -/
def State.dropHomes (s : State) (tenant object : Nat) : State :=
  (s.ldgHits (ldgKey 2 tenant 0 object 0 0) (ldgCare true false true false none)).foldl State.ldgDel s

/-- An object taken off the part: berths freed, roots, HOME entries and the object itself deleted; tombstones stay until
they expire (R332, R357). -/
def State.destroyObj (s : State) (tenant object : Nat) (o : Obj) : State :=
  let s1 := (s.homesOf tenant object).foldl (fun s k => s.freeBerth k true) s
  let s2 := (s1.layersOf tenant object).foldl State.dropRoot s1
  let s3 := (s2.dropHomes tenant object).journalObj tenant object o true
  { s3 with tiers := { s3.tiers with objects := alDel s3.tiers.objects (tenant, object) } }

/-- `DESTROY_OBJECT`. -/
def doDestroyObject (d : Dsc) (s : State) : State :=
  let object := d.f 0x10 4
  match s.obj d.tenant object with
  | none => s.fin d stNotFound 0
  | some o =>
    if o.basin ≠ d.basin then s.fin d stNotFound 0
    else (s.destroyObj d.tenant object o).fin d stOk (s.homesOf d.tenant object).length

def execDestroyObject (basin : BitVec 6) (ring : BitVec 8) (s : State) : Host.Outcome State Fault Refusal :=
  .next (serve 0x05 (tenantDsc doDestroyObject) basin.toNat ring.toNat s)

end Sys2Proof.Machine
end

