-- ==== Sys2Proof/Machine/Convoy.lean ====
section
/-! DEFINITION. Convoys: accepting a sweep, forming its convoy, reserving slots, ARM and ARM_ACK, stale maps, BACKUP, and
the peers' homes kept in the ledger (R33, R61 to R67, R109, R110, R227, R230, R231, R333, R354, R356 to R360, R414). -/

namespace Sys2Proof.Machine

/-! ### Programs bound (R108 to R111) -/

/-- The image bound to a sweep: entry 0 is the kernel set, another entry the READY image of the basin. -/
def State.bindProg (s : State) (basin prog d k : Nat) : Option Image :=
  if prog = 0 then some { words := kernelOf d k, data := [], iflags := 6, entry := 0, digest := 0 }
  else (alGet (s.basin basin).progs prog).bind (·.ready)

/-- PROG_MISSING in a basin's exception log (R110). -/
def State.progMissing (s : State) (basin gsid prog : Nat) : State :=
  s.excLog basin (excRec exMissing 0xFFFF gsid 0 prog 0 0 s.now 0)

/-! ### Berths of a range -/

/-- Whether a berth of P positions meets a position range. -/
def meetsRange (p lo hi b : Nat) : Bool := decide (b * p ≤ hi) && decide (lo ≤ b * p + (p - 1))

/-- Entries of a layer in a range that satisfy a test. -/
def State.rangeEntries (s : State) (k : LayerKey) (lo hi : Nat) (f : Pte → Bool) : List (Nat × Pte) :=
  match s.layer k with
  | some l => l.ptes.filter (fun e => f e.2 && meetsRange l.p lo hi e.1)
  | none => []

/-! ### Stale maps (R357, R360) -/

/-- STALE_MAP sent to the originating part and counted. -/
def State.sendStale (s : State) (m : ArmMsg) (ref : Nat) : State :=
  (s.send (.staleMap m.origin m.gsid m.seq m.member (BitVec.ofNat 64 ref))).bump rBsnEpoch 32 16 1

/-! ### ARM_ACK (R64, R339, R359) -/

/-- An ARM_ACK at the merge point: count and ceiling kept; a new home takes the member slot. -/
def State.ackConvoy (s : State) (a : ArmAckMsg) : State :=
  match s.convoy a.gsid with
  | none => s
  | some c =>
    match c.slots[a.member]? with
    | none => s
    | some x =>
      if c.seq ≠ a.seq ∨ c.finished then s
      else
        let s1 := s.setConvoy { c with slots := setNth c.slots a.member { x with pkg := a.src, ack := some (a.count, a.kappa) } }
        match s1.sweepOfGsid a.gsid with
        | some w =>
          if w.seq = a.seq then
            (s1.setSweep { w with acks := if w.acks.contains a.member then w.acks else w.acks ++ [a.member] }).showLaunch a.gsid a.seq
          else s1
        | none => s1

/-- An ARM_ACK sent to where the ARM said, or taken here. -/
def State.sendAck (s : State) (dst : Nat) (a : ArmAckMsg) : State :=
  if dst = selfPkg then s.ackConvoy a else s.send (.armAck dst a)

/-- The ARM_ACK of a member, once every new home it forwarded to has answered: counts added, the largest ceiling. -/
def State.memberAck (s : State) (m : MSweep) : State :=
  if m.fwd.all (fun f => f.ack.isSome) then
    let n := m.count + (m.fwd.map (fun f => ((f.ack.map (·.1)).getD 0))).sum
    let k := m.fwd.foldl (fun k f => fMax k ((f.ack.map (·.2)).getD 0)) m.kappa
    s.sendAck m.mergeTo { gsid := m.gsid, seq := m.seq, member := m.member, src := selfPkg, count := n, kappa := k }
  else s

/-- `ARM_ACK`: of a new home this member forwarded to, else of a member at this merge point. -/
def execArmAck (m : ArmAckMsg) (s : State) : Host.Outcome State Fault Refusal :=
  if !s.hears m.src then .next s else
  match s.member m.gsid m.seq false with
  | some x =>
    if x.member = m.member ∧ x.fwd.any (fun f => decide (f.pkg = m.src) && f.ack.isNone) then
      let x1 := { x with fwd := x.fwd.map (fun f => if f.pkg = m.src then { f with ack := some (m.count, m.kappa) } else f) }
      .next ((s.setMember x1).memberAck x1)
    else .next (s.ackConvoy m)
  | none => .next (s.ackConvoy m)

/-! ### ARM (R64, R109, R231, R356 to R359) -/

/-- Blank records and a count of 0: what a part answers whose berths of the range are all served already (R227, R359). -/
def State.answerEmpty (s : State) (m : ArmMsg) (o : Obj) : State :=
  let recs := (allRows m.desc m.qbuf o.nkv o.gq o.d).map (fun r =>
    emptyRec r.qpos r.qid m.gsid m.seq selfPkg m.member false m.late o.d)
  (s.sendAck m.src { gsid := m.gsid, seq := m.seq, member := m.member, src := selfPkg, count := 0, kappa := 0 }).sendRecs
    m.src m.gsid m.seq m.member false recs

/-- Member work armed for a convoy. -/
def armedSweep (m : ArmMsg) (o : Obj) (twin : Bool) (basin : Nat) (kappa : F32) (img : Image) (now : Nat) : MSweep :=
  { gsid := m.gsid, seq := m.seq, twin := twin, member := m.member, tenant := m.desc.tenant, basin := basin, mergeTo := m.src,
    late := m.late || decide (m.times.t ≤ now), desc := m.desc, qbuf := m.qbuf, times := m.times,
    nkv := o.nkv, gq := o.gq, d := o.d, fmt := o.fmt, p := o.p, rope := o.rope, adjacent := o.adjacent, grace := o.grace,
    count := 0, kappa := kappa, prog := m.desc.prog, image := img.words, data := img.data, iflags := img.iflags, entry := img.entry }

/-- Member work added; finished work of past convoys is forgotten. -/
def State.addMember (s : State) (m : MSweep) : State :=
  let keep := s.sweeps.members.filter (fun x => decide (x.stage < 3) || decide (s.now < x.times.d))
  { s with sweeps := { s.sweeps with members := keep ++ [m] } }

/-- An ARM forwarded once to the new home of tombstoned berths (R357). -/
def State.forwardArm (s : State) (m : ArmMsg) (pkg epoch src : Nat) : State :=
  (s.send (.arm pkg { m with fwd := true, epoch := epoch, src := src })).bump rBsnEpoch 48 16 1

/-- A second ARM of a convoy this part serves already: the berths served stay excluded; ARRIVING berths that a forwarded
ARM names join the plan (R191, R359). -/
def State.armAgain (s : State) (x : MSweep) (m : ArmMsg) : State :=
  match s.obj m.desc.tenant m.desc.object with
  | none => s
  | some o =>
    if !m.fwd && decide (x.member = m.member) then s
    else
      let x1 := { x with fwdSeen := x.fwdSeen || m.fwd }
      let x2 := if m.fwd ∧ x.stage = 1 then
          { x1 with plan := x1.plan ++ (s.planOf x1).filter (fun p => (x1.berth? p.berth).isNone) }
        else x1
      (s.setMember x2).answerEmpty m o

/-- An ARM that this part can deal with now. -/
def State.armNow (s : State) (m : ArmMsg) (bound : Option Image) : State :=
  let lk : LayerKey := ⟨m.desc.tenant, m.desc.object, m.desc.layer⟩
  let homes := s.rangeEntries lk m.desc.lo m.desc.hi (·.home)
  let tombs := s.rangeEntries lk m.desc.lo m.desc.hi (fun e => decide (e.state = 4))
  let coming := s.rangeEntries lk m.desc.lo m.desc.hi (fun e => decide (e.state = 3))
  let pkgs := sortNat ((tombs.map (fun e => e.2.newpkg)).dedup)
  let epochOf (p : Nat) : Nat := ((tombs.find? (fun e => decide (e.2.newpkg = p))).map (fun e => e.2.epoch)).getD 0
  let stale (s : State) : State := pkgs.foldl (fun s p => s.sendStale m p) s
  match homes.isEmpty && coming.isEmpty, pkgs with
  | true, [p] => if m.fwd then s.sendStale m p else s.forwardArm m p (epochOf p) m.src
  | nothing, _ =>
    if nothing && m.fwd then (if pkgs.isEmpty then s.sendStale m (2 ^ 64 - 1) else stale s)
    else
      match s.obj m.desc.tenant m.desc.object with
      | none => s.sendStale m (2 ^ 64 - 1)
      | some o =>
        match (match bound with | some i => some i | none => s.bindProg o.basin m.desc.prog o.d m.desc.k) with
        | none => s.progMissing o.basin m.gsid m.desc.prog
        | some img =>
          let kap := ((s.layer lk).map (·.kappa)).getD 0
          let w0 := { armedSweep m o false o.basin kap img s.now with fwdSeen := m.fwd }
          let w1 := { w0 with count := s.visiblePositions w0 }
          let w2 := if m.fwd then w1 else
            { w1 with fwd := pkgs.map (fun p => { pkg := p, berths := (tombs.filter (fun e => decide (e.2.newpkg = p))).map (·.1) }) }
          let s1 := s.addMember w2
          let s2 := if m.fwd then stale s1 else pkgs.foldl (fun s p => s.forwardArm m p (epochOf p) selfPkg) s1
          let s3 := s2.memberAck w2
          if m.times.t ≤ s.now then (s3.launch m.gsid m.seq false).showLaunch m.gsid m.seq else s3

/-- ARM at a part: the root lookup may be held by a rebuild, and the ARM with it (R231). -/
def State.armReceive (s0 : State) (m : ArmMsg) (bound : Option Image) : State :=
  let s := s0.sawEpoch m.epoch
  let lk : LayerKey := ⟨m.desc.tenant, m.desc.object, m.desc.layer⟩
  let b := ((s.obj m.desc.tenant m.desc.object).map (·.basin)).getD 0
  if !s.active m.desc.tenant then s
  else
    match s.member m.gsid m.seq false with
    | some x => s.armAgain x m
    | none =>
      let key := layerKeyOf lk b
      let s1 := s.ldgTest (s.ldgHits key layerCare)
      if s1.ldgHeld key layerCare then s1.setLedger { s1.ledger with heldArms := s1.ledger.heldArms ++ [m] }
      else s1.armNow m bound

/-- `ARM`. -/
def execArm (m : ArmMsg) (s : State) : Host.Outcome State Fault Refusal :=
  if !s.hears m.src then .next s else .next (s.armReceive m none)

/-- ARM to one package: sent, or taken here. -/
def State.armTo (s : State) (pkg : Nat) (m : ArmMsg) (bound : Option Image) : State :=
  if pkg = selfPkg then s.armReceive m bound else s.send (.arm pkg m)

/-! ### Times and launch of a convoy (R62, R63) -/

/-- The highest one-way delay measured to a package, over its connections. -/
def State.oneWay (s : State) (pkg : Nat) : Nat :=
  (s.net.conns.filter (fun c => decide (c.2.peerPkg = pkg) && decide (c.2.st = .established))).foldl
    (fun m c => max m ((c.2.base.map (·.2)).foldl max 0)) 0

/-- The four times, and whether the launch asked for was too early. -/
def sweepTimes (d : SweepDesc) (now delta : Nat) : Times × Bool :=
  let e := now + max (if d.minLead = 0 then 1074 else d.minLead) (2 * delta + 4295)
  let t := max d.launch e
  let dd := t + d.deadline
  let c := dd - (if d.reserve = 0 then 4295 else d.reserve)
  let b := if d.backup ≠ 0 then some (t + d.backup) else if c ≤ t + d.deadline / 2 then none else some (t + d.deadline / 2)
  ({ t := t, b := b, c := c, d := dd }, decide (d.launch ≠ 0) && decide (d.launch < e))

/-- The package ARM_ACKs and records of a sweep accepted here go to. -/
def ASweep.mergePkg (a : ASweep) : Nat := if a.desc.mergePoint = 0x7FF then selfPkg else a.desc.mergePoint

/-- Slots are reserved: times are fixed and ARM goes to every member (R62, R63). -/
def State.sendArms (s : State) (a : ASweep) : State :=
  let delta := if a.members.length ≤ 1 then 0 else (a.mergePkg :: a.members).foldl (fun m p => max m (s.oneWay p)) 0
  let (t, late) := sweepTimes a.desc s.now delta
  let g := gsidOf selfPkg a.num
  let s1 := s.setSweep { a with times := some t }
  let s2 := match s1.convoy g with
    | some c => if c.seq = a.seq ∧ c.origin = selfPkg then s1.setConvoy { c with times := some t, late := late } else s1
    | none => s1
  a.members.zipIdx.foldl (fun s (p, i) =>
    s.armTo p { gsid := g, seq := a.seq, member := i, origin := selfPkg, src := a.mergePkg, epoch := s.epoch, fwd := false,
                late := late, desc := a.desc, qbuf := a.qbuf, times := t } a.prog) s2

/-- Bytes of merge pool a convoy's slots take. -/
def slotBytes (members nq h d : Nat) : Nat := members * nq * h * (128 + 4 * d)

/-- The merge pool's size (R62). -/
def poolSize : Nat := 2 ^ 30

/-- A convoy's slots taken from the pool. -/
def State.openConvoy (s : State) (c : Convoy) : State :=
  let s1 := s.setConvoy c
  { s1 with sweeps := { s1.sweeps with poolUsed := s1.sweeps.poolUsed + c.bytes,
                                       poolQ := s1.sweeps.poolQ.filter (fun q => decide (q.gsid ≠ c.gsid)) } }

/-- The convoy of a sweep accepted here. -/
def convoyOf (a : ASweep) (o : Obj) : Convoy :=
  { gsid := gsidOf selfPkg a.num, seq := a.seq, origin := selfPkg, tenant := a.tenant, desc := a.desc, qbuf := a.qbuf,
    nkv := o.nkv, gq := o.gq, d := o.d, slots := a.members.map (fun p => { pkg := p }),
    bytes := slotBytes a.members.length a.desc.nq (o.nkv * o.gq) o.d }

/-- `MERGE_SLOT_RESERVE` (R62): the request at the head of the queue is served when it fits; for a sweep of this part with a
peer merge point, that part has reserved; a peer's request is queued when it comes. -/
def execMergeSlotReserve (gsid : BitVec 24) (s0 : State) : Host.Outcome State Fault Refusal :=
  if !s0.hears (gsid.toNat / 2 ^ 14) then .next s0 else
  let g := gsid.toNat
  let head (s : State) : Bool := match s.sweeps.poolQ with
    | q :: _ => decide (q.gsid = g) && decide (s.sweeps.poolUsed + q.bytes ≤ poolSize)
    | [] => false
  if g / 2 ^ 14 = selfPkg then
    match s0.sweepNo (g % 2 ^ 14) with
    | none => .next s0
    | some a =>
      if 5 ≤ a.state ∨ a.times.isSome ∨ a.members.isEmpty then .next s0
      else if a.mergePkg ≠ selfPkg then .next (s0.sendArms a)
      else
        match s0.obj a.tenant a.desc.object with
        | none => .next (s0.endSweep a 6 stNotFound)
        | some o => if head s0 then .next ((s0.openConvoy (convoyOf a o)).sendArms a) else .next s0
  else
    match Config.peerRequest g s0.fresh with
    | none => .next s0.drawn
    | some r =>
      let s1 := s0.drawn
      let bytes := slotBytes r.members.length r.desc.nq (r.nkv * r.gq) r.d
      let s2 := if (s1.convoy g).any (fun c => decide (c.seq = r.seq)) || s1.sweeps.poolQ.any (fun q => decide (q.gsid = g)) then s1
        else { s1 with sweeps := { s1.sweeps with poolQ := s1.sweeps.poolQ ++ [⟨g, bytes⟩] } }
      if head s2 then
        let c : Convoy := { gsid := g, seq := r.seq, origin := g / 2 ^ 14, tenant := r.tenant, desc := r.desc, qbuf := r.qbuf,
                            nkv := r.nkv, gq := r.gq, d := r.d, slots := r.members.map (fun p => { pkg := p }), bytes := bytes,
                            times := some r.times, late := r.late }
        .next ((s2.openConvoy c).send (.reserved (g / 2 ^ 14) g))
      else .next s2

/-! ### Accepting a sweep (R33, R61, R334, R339) -/

/-- Whether a descriptor's fields and its query buffer obey their ranges (R32 to R34, R45, R159, R234, R334). -/
def sweepOk (d : SweepDesc) (o : Obj) (qbuf : List Byte) : Bool :=
  let h := o.nkv * o.gq
  let rows := 0x400 + d.nq * h * (2 * o.d)
  let top := 2 ^ 32 - 1
  let c := if d.reserve = 0 then 4295 else d.reserve
  let treeAt := 64 * d.treeOff
  let filtAt := 128 * d.filter
  decide (d.object ≠ 0) && decide (1 ≤ d.nq) && decide (d.nq ≤ 256) && decide (d.treeNodes ≤ 256) && decide (d.k ≤ 4096)
    && (decide (d.scale = 0) || (isFinite d.scale && fLt 0 d.scale)) && decide (d.window < top) && decide (d.lo ≤ d.hi)
    && decide (d.hi < top) && decide (d.hi < 2 ^ 25 * o.p) && decide (d.treeBase < top)
    && (decide (d.mergePoint < 1024) || decide (d.mergePoint = 0x7FF)) && decide (1 ≤ d.deadline) && decide (c < d.deadline)
    && (decide (d.backup = 0) || decide (d.backup < d.deadline - c))
    && decide (d.qbuf % 128 = 0) && decide (d.slot % 4096 = 0) && decide (rows ≤ d.qlen)
    && (qposList d qbuf).all (fun p => decide (p < top))
    && (decide (d.treeNodes = 0) || (decide (rows ≤ treeAt) && decide (treeAt + d.treeNodes ≤ d.qlen)))
    && (decide (d.filter = 0) || (decide (rows ≤ filtAt) && decide (filtAt + 128 ≤ d.qlen)))
    && (decide (d.treeNodes = 0) || decide (d.filter = 0) || decide (treeAt + d.treeNodes ≤ filtAt) || decide (filtAt + 128 ≤ treeAt))
    && treeOk d qbuf && (match filterOf d qbuf with | some f => filterOk f | none => true)

/-- The lowest local sweep number not held (R30). -/
def State.freeSweep (s : State) : Nat → Nat → Option Nat
  | 0, _ => none
  | n + 1, i => if 16384 ≤ i then none else if (s.sweepNo i).isNone then some i else s.freeSweep n (i + 1)
def State.nextSweep (s : State) : Option Nat := s.freeSweep (s.sweeps.accepted.length + 1) 0

/-- A basin without a cluster in service (R362). -/
def State.noCores (s : State) (b : Nat) : Bool :=
  (List.range 512).all (fun c => decide ((s.cluster c).owner ≠ some b) || (s.cluster c).failed
    || (s.region (c / 16)).out)

/-- Whether convoys with peers may be formed (R2, R256). -/
def State.timeLocked (s : State) : Bool := decide (s.tb.state = 2) || decide (s.tb.state = 3) || decide (s.tb.state = 4)

/-- The convoy of an accepted sweep formed from the ledger (R61); held while a rebuild could supply entries (R230). -/
def State.formConvoy (s0 : State) (a : ASweep) : State :=
  let lk : LayerKey := ⟨a.tenant, a.desc.object, a.desc.layer⟩
  match s0.obj a.tenant a.desc.object with
  | none => s0.endSweep a 6 stNotFound
  | some o =>
    if s0.noCores a.basin then s0.endSweep a 6 stNoCores
    else if o.basin ≠ a.basin ∨ o.moveBasin.isSome then s0.endSweep a 6 stNotFound
    else
      let rk := layerKeyOf lk o.basin
      let hk := homeKey lk 0
      let hc := ldgCare true false true true none
      let s := s0.ldgTest (s0.ldgHits rk layerCare ++ s0.ldgHits hk hc)
      if s.ldgHeld rk layerCare || s.ldgHeld hk hc then s
      else
        let root := !(s.ldgHits rk layerCare).isEmpty
        let all := (s.homeHits lk none).filter (fun e => decide (vfld e.2.val 0 10 ≠ selfPkg))
        let near := all.filter (fun e => e.2.meets (a.desc.lo / o.p) (a.desc.hi / o.p))
        let pk (l : List (Nat × LEntry)) : List Nat := l.map (fun e => vfld e.2.val 0 10)
        let mine := root && !(s.rangeEntries lk a.desc.lo a.desc.hi (·.home)).isEmpty
        let found := (if mine then [selfPkg] else []) ++ pk near
        let members := sortNat ((if !found.isEmpty then found else if root then [selfPkg] else pk all).dedup)
        let h := o.nkv * o.gq
        let r := halfBytes a.desc h o.d members.length
        let solo := members.all (fun p => decide (p = selfPkg)) && decide (a.mergePkg = selfPkg)
        let a1 := { a with members := members, rBytes := r, seq := s.sweeps.nextSeq % 2 ^ 32,
                           prog := if members = [selfPkg] then s.bindProg o.basin a.desc.prog o.d a.desc.k else none }
        if members.isEmpty then s.endSweep a 6 stNotFound
        else if a.desc.slotLen < 64 + 2 * r then s.endSweep { a with members := members } 6 stSlotSmall
        else if !solo && !s.timeLocked then s.endSweep { a with members := members } 6 stTimeUnlocked
        else
          let s1 := { s with sweeps := { s.sweeps with nextSeq := s.sweeps.nextSeq + 1 } }
          let s2 := s1.showSweep a1
          if a1.mergePkg = selfPkg then
            { s2 with sweeps := { s2.sweeps with poolQ := s2.sweeps.poolQ ++
                [⟨gsidOf selfPkg a.num, slotBytes members.length a.desc.nq h o.d⟩] } }
          else s2.send (.reserveReq a1.mergePkg (gsidOf selfPkg a.num) (slotBytes members.length a.desc.nq h o.d))

/-- A SWEEP descriptor checked and accepted, or refused with a status (R331, R333, R335). -/
def State.acceptSweep (s : State) (d : Dsc) (num : Nat) : State :=
  let w := sweepDesc d.bytes
  match s.tenantRefuse d.basin d.tenant with
  | some e => s.fin d e 0
  | none =>
    match s.obj d.tenant w.object with
    | none => s.fin d (if w.object = 0 then stInvalidField else stNotFound) 0
    | some o =>
      if !s.inHost d.basin w.qbuf w.qlen ∨ !s.inHost d.basin w.slot (max 64 w.slotLen) then s.fin d stAccessDenied 0
      else
        let qbuf := s.buffer w.qbuf w.qlen
        if !sweepOk w o qbuf then s.fin d stInvalidField 0
        else
          let bs := s.basin d.basin
          let use := (bs.useCount + 1) % 2 ^ 16
          let a : ASweep := { num := num, basin := d.basin, ring := d.ring, wrid := d.wrid, tenant := d.tenant, desc := w, qbuf := qbuf,
                              seq := 0, useSeq := use }
          ((s.setBasin d.basin { bs with useCount := use }).showSweep a).formConvoy a

/-- `SWEEP` (R330, R333): taken when a local sweep number is free; the ring is held until one is. -/
def execSweep (basin : BitVec 6) (ring : BitVec 8) (s : State) : Host.Outcome State Fault Refusal :=
  match s.nextSweep with
  | none => .next s
  | some n => .next (serve 0x01 (fun d s => s.acceptSweep d n) basin.toNat ring.toNat s)

/-- Descriptors of released flight entries accepted while sweep numbers are free (R269, R330). -/
def State.acceptHanded (s : State) : Nat → State
  | 0 => s
  | k + 1 =>
    match s.sweeps.handed, s.nextSweep with
    | (b, r, d) :: rest, some n =>
      (({ s with sweeps := { s.sweeps with handed := rest } }).acceptSweep (dscOf b r d) n).acceptHanded k
    | _, _ => s

/-- `RELEASE` (R341): a final sweep of the basin gives up its slot and number; STATUS becomes IDLE with the new SEQ. -/
def execRelease (basin : BitVec 6) (val : BitVec 64) (s : State) : Host.Outcome State Fault Refusal :=
  let b := basin.toNat
  if !s.inService then .next s.turnedAway
  else
    match s.sweepOfGsid (fld val 0 24) with
    | none => .next s.badDb
    | some a =>
      if a.basin ≠ b ∨ a.state < 5 then .next s.badDb
      else
        let bs := s.basin b
        let use := (bs.useCount + 1) % 2 ^ 16
        let s1 := (s.setBasin b { bs with useCount := use }).setDram
          (memWriteL s.dram a.desc.slot (leBytes 8 (statusWord 0 false false false false 0 use 0 0).toNat))
        let s2 := { s1 with sweeps := { s1.sweeps with accepted := alDel s1.sweeps.accepted a.num } }
        .next (s2.acceptHanded (s2.sweeps.handed.length))

/-! ### CANCEL (R71, R342) -/

/-- A sweep of this part abandoned: its convoy here takes no more landings, members and twins are told, runs here stop. -/
def State.abandon (s : State) (a : ASweep) (code : Nat) : State :=
  let g := gsidOf selfPkg a.num
  let s1 := match s.convoy g with
    | some c =>
      if c.seq = a.seq ∧ c.origin = selfPkg ∧ !c.finished then ((s.freePool c).setConvoy { c with finished := true }).cancelAll c
      else s
    | none => if a.times.isSome then s.send (.cancel a.mergePkg g a.seq) else s
  let s2 := { s1 with sweeps := { s1.sweeps with poolQ := s1.sweeps.poolQ.filter (fun q => decide (q.gsid ≠ g)) } }
  let s3 := match s2.member g a.seq false with
    | some m => if m.stage < 3 then s2.stopMember m else s2
    | none => s2
  s3.endSweep a 7 code

/-- `CANCEL` (R342). -/
def doCancel (d : Dsc) (s : State) : State :=
  let g := d.f 0x10 4 % 2 ^ 24
  let done (s : State) (st : Nat) (w : W64) : State :=
    if d.cq || decide (st ≠ 0) then s.postCq d.basin d.ring (cqEntry d.wrid st d.op g w.toNat d.ring) else s
  match s.sweepOfGsid g with
  | none => done s stNotFound 0
  | some a =>
    if a.basin ≠ d.basin then done s stNotFound 0
    else if 5 ≤ a.state then done s stAlreadyFinal a.word
    else done (s.abandon a 0) stOk a.word

def execCancel (basin : BitVec 6) (ring : BitVec 8) (s : State) : Host.Outcome State Fault Refusal :=
  .next (serve 0x02 (tenantDsc doCancel) basin.toNat ring.toNat s)

/-! ### STALE_MAP and HOME queries (R227, R230, R360) -/

/-- ARM of an accepted sweep re-sent to a package for a member slot. -/
def State.rearm (s : State) (a : ASweep) (member pkg : Nat) : State :=
  let g := gsidOf selfPkg a.num
  match a.times with
  | none => s
  | some t =>
    if t.d ≤ s.now then s
    else
      let late := ((s.convoy g).map (·.late)).getD (decide (a.desc.launch ≠ 0) && decide (a.desc.launch < t.t))
      let s1 := match s.convoy g with
        | some c => (match c.slots[member]? with
          | some x => s.setConvoy { c with slots := setNth c.slots member { x with pkg := pkg } }
          | none => s)
        | none => s
      s1.armTo pkg { gsid := g, seq := a.seq, member := member, origin := selfPkg, src := a.mergePkg, epoch := s.epoch,
                     fwd := false, late := late, desc := a.desc, qbuf := a.qbuf, times := t } none

/-- HOME entries of a sweep's range that name a package re-pointed to another (R360). -/
def State.rehome (s : State) (k : LayerKey) (old new lo hi : Nat) : State :=
  ((s.homeHits k none).filter (fun e => decide (vfld e.2.val 0 10 = old) && e.2.meets lo hi)).foldl (fun s e =>
    let v := homeVal new s.epoch (vfld e.2.val 32 25)
    let s1 := s.ldgDel e.1
    if new = selfPkg then s1 else s1.homeInsert e.2.key e.2.care v) s

/-- `STALE_MAP`. -/
def execStaleMap (gsid : BitVec 24) (seq : BitVec 32) (member : BitVec 10) (ref : BitVec 64) (s : State) : Host.Outcome State Fault Refusal :=
  if !s.hears selfPkg then .next s else
  match s.sweepOfGsid gsid.toNat with
  | none => .next s
  | some a =>
    let m := member.toNat
    if a.seq ≠ seq.toNat ∨ 5 ≤ a.state ∨ a.members.length ≤ m then .next s
    else
      match s.obj a.tenant a.desc.object with
      | none => .next s
      | some o =>
        if ref.toNat < 1024 then
          let old := match s.convoy gsid.toNat with
            | some c => ((c.slots[m]?).map (·.pkg)).getD (nthD 0 a.members m)
            | none => nthD 0 a.members m
          .next ((s.rehome ⟨a.tenant, a.desc.object, a.desc.layer⟩ old ref.toNat (a.desc.lo / o.p) (a.desc.hi / o.p)).rearm a m ref.toNat)
        else
          let ask := o.pset.filter (fun p => decide (p ≠ selfPkg))
          .next ((s.setSweep { a with lost := if a.lost.contains m then a.lost else a.lost ++ [m] }).sends
            (ask.map (fun p => .homeQuery p a.tenant)))

/-- Blocks of a tenant's homes here: one entry per block of 2^HOME_BLK berths (R230). -/
def State.homeBlocks (s : State) (tenant : Nat) : List HomeBlock :=
  (s.tiers.layers.filter (fun p => decide (p.1.tenant = tenant))).flatMap (fun p =>
    let w := 2 ^ s.homeBlk
    let bs := (p.2.ptes.filter (fun e => e.2.home)).map (fun e => e.1 / w)
    (sortNat bs.dedup).map (fun b =>
      { tenant := tenant, object := p.1.object, layer := p.1.layer, block := b * w, homed := (bs.filter (fun x => decide (x = b))).length,
        epoch := s.epoch }))

/-- `HOME_QUERY` (R230): answered with this part's blocks; a tenant whose key slot is not ACTIVE gets none. -/
def execHomeQuery (src : BitVec 10) (tenant : BitVec 12) (s : State) : Host.Outcome State Fault Refusal :=
  if !s.hears src.toNat then .next s else
  if s.active tenant.toNat then .next (s.send (.homeReply src.toNat (s.homeBlocks tenant.toNat))) else .next s

/-- `HOME_REPLY` (R230, R360): rebuilds running for HOME entries take the blocks; without one they go into the ledger; a
member slot whose ARM found no home is armed at an answering home of its range. -/
def execHomeReply (src : BitVec 10) (blocks : List HomeBlock) (s : State) : Host.Outcome State Fault Refusal :=
  if !s.hears src.toNat then .next s else
  let p := src.toNat
  let tag (b : HomeBlock) : HomeBlock := { b with homed := b.homed % 2 ^ 25 + p * 2 ^ 25 }
  let takes (r : Rebuild) : Bool := match r.kind with | none => true | some k => decide (k = 2)
  let fits (r : Rebuild) (b : HomeBlock) : Bool := r.kind.isNone || decide (b.tenant = r.tenant)
  let s1 := s.setLedger { s.ledger with rebuilds := s.ledger.rebuilds.map (fun r =>
    if takes r then { r with blocks := r.blocks ++ (blocks.filter (fits r)).map tag } else r) }
  let s2 := blocks.foldl (fun s b =>
    if s.ledger.rebuilds.any (fun r => takes r && fits r b) then s
    else s.homeInsert (homeKey ⟨b.tenant, b.object, b.layer⟩ b.block) (homeCare s.homeBlk) (homeVal p b.epoch b.homed)) s1
  .next ((s2.sweeps.accepted.map (·.1)).foldl (fun s n =>
    match s.sweepNo n with
    | none => s
    | some a =>
      let per := ((s.obj a.tenant a.desc.object).map (·.p)).getD 1
      let hit := blocks.any (fun b => decide (b.tenant = a.tenant) && decide (b.object = a.desc.object) && decide (b.layer = a.desc.layer)
        && decide (b.block * per ≤ a.desc.hi) && decide (a.desc.lo ≤ (b.block + 2 ^ s.homeBlk) * per - 1))
      if hit ∧ a.state < 5 then
        (match a.lost with
         | m :: rest => (s.setSweep { a with lost := rest }).rearm { a with lost := rest } m p
         | [] => s)
      else s) s2)

/-- `HOME_NOTE` (R227): insert, update or delete of the block's entry, unless its epoch is older than the entry's or a
merged entry of the package holds the block (R226). -/
def execHomeNote (src : BitVec 10) (epoch : BitVec 16) (k : LayerKey) (block : BitVec 25) (homed : BitVec 25) (gain : Bool) (s0 : State) :
    Host.Outcome State Fault Refusal :=
  if !s0.hears src.toNat then .next s0 else
  let s := s0.sawEpoch epoch.toNat
  let p := src.toNat
  let key := homeKey k block.toNat
  let care := homeCare s.homeBlk
  let v := homeVal p epoch.toNat homed.toNat
  let merged := (s.homeHits k (some block.toNat)).any (fun e => decide (vfld e.2.val 0 10 = p) && decide (e.2.care ≠ care))
  if merged then .next s
  else
    match s.ldgSame key care v with
    | some i =>
      let old := vfld (s.ldgEntry i).val 16 16
      if epochNewer old epoch.toNat ∨ !s.active k.tenant then .next s
      else if gain ∨ homed ≠ 0 then .next (s.ldgPut i (LEntry.make key care v))
      else .next (s.ldgDel i)
    | none => if gain ∨ homed ≠ 0 then .next (s.homeInsert key care v) else .next s

/-- `REBUILD_DONE` (R230, R231): missing entries inserted; held lookups, ARMs and convoys go on unless another rebuild
holds them. -/
def execRebuildDone (s : State) : Host.Outcome State Fault Refusal :=
  match s.ledger.rebuilds with
  | [] => .next s
  | r :: rest =>
    let found := s.rebuilt r
    let s1 := s.setLedger { s.ledger with rebuilds := rest }
    let s2 := found.foldl (fun s (e : BitVec 128 × BitVec 128 × W64) =>
      if (s.ldgSame e.1 e.2.1 e.2.2).isSome then s
      else if kfld e.1 0 4 = 2 then s.homeInsert e.1 e.2.1 e.2.2
      else
        match ldgFree s.ledger.entries (s.ledger.entries.length + 1) 0 with
        | some i => s.ldgPut i (LEntry.make e.1 e.2.1 e.2.2)
        | none => s.setFld rLdgStat 38 1 1) s1
    let looks := s2.ledger.heldLookups
    let arms := s2.ledger.heldArms
    let s3 := s2.setLedger { s2.ledger with heldLookups := looks.filter (fun q => s2.ldgHeld q.2.1 q.2.2), heldArms := [] }
    let s4 := looks.foldl (fun s (q : Nat × BitVec 128 × BitVec 128) => if s2.ldgHeld q.2.1 q.2.2 then s else s.lookupNow q.1 q.2.1 q.2.2) s3
    let nexts := (s4.ledger.cursors.filter (fun c => c.2.busy && c.2.isOpen && !(s4.ledger.heldLookups.any (fun q => decide (q.1 = c.1)))
      && !s4.ldgHeld c.2.key c.2.mask)).map (·.1)
    let s5 := nexts.foldl (fun s n => (s.setCursor n { s.cursor n with busy := false }).nextNow n) s4
    let s6 := arms.foldl (fun s m => if m.times.c ≤ s.now then s else s.armReceive m none) s5
    .next ((s6.sweeps.accepted.map (·.1)).foldl (fun s n =>
      match s.sweepNo n with
      | some a => if a.state = 1 ∧ a.members.isEmpty then s.formConvoy a else s
      | none => s) s6)

/-! ### BACKUP (R67, R414) -/

/-- κ_L over the manifests of a twin's journal of a layer. -/
def State.journalKappa (s : State) (m : MSweep) : F32 :=
  maxF (((s.jsrc m.tenant).berths.filter (fun p => decide (p.1.lk = m.lk))).map (fun p =>
    match (s.shareMan m p.1.berth).2 with
    | some man => m.geo.manKappa man
    | none => 0))

/-- `BACKUP`: the twin's work for a member, from its journal. -/
def execBackup (m : BackupMsg) (s0 : State) : Host.Outcome State Fault Refusal :=
  if !s0.hears m.arm.src then .next s0 else
  let a := m.arm
  let s := s0.sawEpoch a.epoch
  match alGet (s.jsrc a.desc.tenant).objects a.desc.object with
  | none => .next s
  | some attrs =>
    if !s.active a.desc.tenant ∨ (s.member a.gsid a.seq true).isSome then .next s
    else
      let served := sortNat ((s.host.basins.filter (fun p => decide (p.2.st = 2) && p.2.tenants.contains a.desc.tenant)).map (·.1))
      let basin := served.headD 0
      let o := objOf basin attrs
      match s.bindProg basin a.desc.prog o.d a.desc.k with
      | none => .next (s.progMissing basin a.gsid a.desc.prog)
      | some img =>
        let w0 := { armedSweep a o true basin 0 img s.now with ack := m.ack, late := a.late }
        let own := s.journalKappa w0
        let w1 := { w0 with kappa := match m.ack with | some (_, k) => fMax k own | none => own }
        let w2 := { w1 with count := s.visiblePositions w1 }
        let s1 := s.addMember w2
        .next (if a.times.t ≤ s.now then s1.launch a.gsid a.seq true else s1)

end Sys2Proof.Machine
end

