-- ==== Sys2Proof/Machine/Moorings.lean ====
section
/-! DEFINITION. Moorings: registration, revocation, the ruling on a message (R300 to R303). -/

namespace Sys2Proof.Machine

/-- A mooring entry; FREE with generation 0 where the table lists none. -/
def State.mooring (s : State) (i : Nat) : Mooring := alGetD s.net.moorings i {}
def State.setMooring (s : State) (i : Nat) (m : Mooring) : State := { s with net := { s.net with moorings := alPut s.net.moorings i m } }

/-- The lowest FREE entry of `n` from `i`. -/
def State.freeMooring (s : State) : Nat → Nat → Option Nat
  | 0, _ => none
  | n + 1, i => if (s.mooring i).st = 0 then some i else s.freeMooring n (i + 1)

/-- The entry a key names: KEY[15:0] is its index, and the whole key must match a used entry. -/
def State.mooringOf (s : State) (key : Nat) : Option Nat :=
  let m := s.mooring (key % 65536)
  if m.st ≠ 0 ∧ m.key = key then some (key % 65536) else none

/-- A REVOKING entry without messages in flight becomes INVALID; its ledger entry goes and its revocations complete. -/
def State.moorSettle (s : State) (i : Nat) : State :=
  let m := s.mooring i
  if m.st = 2 ∧ m.inflight = 0 then
    let s1 := (s.setMooring i { m with st := 3, jobs := [] }).ldgDrop (moorKeyOf m.tenant m.basin m.key) moorCare
    m.jobs.foldl (fun s j => s.finishJob j stOk 0) s1
  else s

/-- An accepted message ends (R303). -/
def State.moorLeave (s : State) (i : Nat) : State :=
  let m := s.mooring i
  (s.setMooring i { m with inflight := m.inflight - 1 }).moorSettle i

/-- The ruling on a message of `len` bytes to stacked-DRAM address `a`, in the order of R302's table. `op` is the packet's
opcode. -/
def State.moorRule (s : State) (n op a mkey mgen len : Nat) (notify : Bool) : Nat :=
  match s.mooringOf mkey with
  | none => stAccessDenied
  | some i =>
    let m := s.mooring i
    let right := if op = 1 then 0 else if op = 3 then 1 else 2
    if m.conn ≠ n ∨ m.mfl / 2 ^ right % 2 = 0 ∨ (notify ∧ m.mfl / 16 % 2 = 0) ∨ a < m.base ∨ m.base + m.len < a + len then stAccessDenied
    else if m.gen ≠ mgen ∨ m.st ≠ 1 then stRevoked else stOk

/-- `MOOR_REG`. -/
def doMoorReg (d : Dsc) (s : State) : State :=
  let conn := d.f 0x10 4 % 2 ^ 24
  let mfl := d.f 0x14 1
  let base := d.f 0x18 8
  let len := d.f 0x20 8
  let c := s.conn conn
  if 32 ≤ mfl ∨ len = 0 then s.fin d stInvalidField 0
  else if !s.inMoor d.basin base len ∨ c.st = .closed ∨ c.kind ≠ 0 ∨ c.basin ≠ d.basin then s.fin d stAccessDenied 0
  else
    match s.freeMooring 65536 0 with
    | none => s.fin d stMooringFull 0
    | some i =>
      let key := i + s.free.toNat % 65536 * 65536
      let gen := ((s.mooring i).gen + 1) % 65536
      match s.drawn.ldgAdd (moorKeyOf d.tenant d.basin key) moorCare (BitVec.ofNat 64 (conn + gen * 2 ^ 24)) with
      | .error e => e.2.fin d e.1 0
      | .ok t =>
        (t.setMooring i { key := key, gen := gen, st := 1, mfl := mfl, conn := conn, basin := d.basin, tenant := d.tenant,
                          base := base, len := len }).fin d stOk (key + gen * 2 ^ 32)

def execMoorReg (basin : BitVec 6) (ring : BitVec 8) (s : State) : Host.Outcome State Fault Refusal :=
  .next (serve 0x0A (tenantDsc doMoorReg) basin.toNat ring.toNat s)

/-- The entry a descriptor's key names in its own basin. -/
def Dsc.mooring (d : Dsc) (s : State) : Option Nat :=
  (s.mooringOf (d.f 0x10 4)).bind (fun i => if (s.mooring i).basin = d.basin then some i else none)

/-- `MOOR_REVOKE`: the mark, then completion once the entry is INVALID. -/
def doMoorRevoke (d : Dsc) (s : State) : State :=
  match d.mooring s with
  | none => s.fin d stNotFound 0
  | some i =>
    let m := s.mooring i
    if m.st = 3 then s.fin d stOk 0
    else ((s.addJob d.job).setMooring i { m with st := 2, jobs := m.jobs ++ [s.host.nextJob] }).moorSettle i

def execMoorRevoke (basin : BitVec 6) (ring : BitVec 8) (s : State) : Host.Outcome State Fault Refusal :=
  .next (serve 0x0B (tenantDsc doMoorRevoke) basin.toNat ring.toNat s)

/-- `MOOR_DEREG`: an INVALID entry becomes FREE; GEN is kept. -/
def doMoorDereg (d : Dsc) (s : State) : State :=
  match d.mooring s with
  | none => s.fin d stNotFound 0
  | some i =>
    if (s.mooring i).st ≠ 3 then s.fin d stInvalidField 0
    else (s.setMooring i { gen := (s.mooring i).gen }).fin d stOk 0

def execMoorDereg (basin : BitVec 6) (ring : BitVec 8) (s : State) : Host.Outcome State Fault Refusal :=
  .next (serve 0x0C (tenantDsc doMoorDereg) basin.toNat ring.toNat s)

end Sys2Proof.Machine
end

