-- ==== Sys2Proof/Machine/Pairing.lean ====
section
/-! DEFINITION. The pair as the journalling side sees it: SEEDING, loss, what waits for the journal (R408, R409, R411). -/

namespace Sys2Proof.Machine

def State.setTwin (s : State) (t : Twin) : State := { s with twin := t }

/-- Records sent and received by the twin up to `recv`, one tenant. -/
def State.jout (s : State) (t : Nat) : JOut := alGetD s.twin.out t {}
def State.setJout (s : State) (t : Nat) (j : JOut) : State := s.setTwin { s.twin with out := alPut s.twin.out t j }

/-- TWN_STAT.LAG: records sent or held and not yet durable (R410, R411). -/
def State.lag (s : State) : Nat := (s.twin.out.map (fun p => p.2.out.length + p.2.held.length)).sum

/-- Records not yet received by the twin. -/
def State.outstanding (s : State) : Bool := s.twin.out.any (fun p => p.2.out.any (fun r => decide (p.2.recv < r.jseq)))

/-- SEEDING ends once the last record of the seeding of every tenant has been received (R409). -/
def State.seedCheck (s : State) : State :=
  if s.twin.pair = 1 ∧ s.twin.seeding.all (fun x => decide (x.2 ≤ (s.jout x.1).recv)) then
    s.setTwin { s.twin with pair := 2, seeding := [] } else s

/-- Whether a key comes before another: tenant, object, layer, berth (R409). -/
def keyBefore (a b : BerthKey) : Bool :=
  if a.tenant ≠ b.tenant then decide (a.tenant < b.tenant)
  else if a.object ≠ b.object then decide (a.object < b.object)
  else if a.layer ≠ b.layer then decide (a.layer < b.layer) else decide (a.berth < b.berth)

/-- Keys in that order. -/
def insKey (x : BerthKey) : List BerthKey → List BerthKey
  | [] => [x]
  | y :: ys => if keyBefore x y then x :: y :: ys else y :: insKey x ys
def sortKeys (l : List BerthKey) : List BerthKey := l.foldr insKey []

/-- Every berth of a tenant homed here. -/
def State.allHomes (s : State) : List BerthKey :=
  sortKeys (s.tiers.layers.flatMap (fun p => if 0x1000 ≤ p.1.tenant then []
    else (p.2.ptes.filter (fun e => e.2.home)).map (fun e => ⟨p.1.tenant, p.1.object, p.1.layer, e.1⟩)))

/-- The IMAGE record of a berth homed here. -/
def State.journalImage (s : State) (k : BerthKey) (durable : Bool) : State :=
  match s.pte k with
  | some p =>
    match s.image p.slot with
    | some img => let t := s.travelImage s.twinPkg k img
      (t.1.journal k p.gen p.count durable (.image t.2)).1
    | none => s
  | none => s

/-- Objects with a home here, in order. -/
def State.homedObjects (s : State) : List (Nat × Nat) :=
  ((s.allHomes).map (fun k => (k.tenant, k.object))).eraseDups

/-- SEEDING begins: OBJECT records of every object homed, then IMAGE records of every berth; all of them are sent at once in
that order, so that no append finds a berth unseeded (R409). -/
def State.seedStart (s : State) : State :=
  let s1 := s.setTwin { s.twin with pair := 1, unjournalled := [], ackAt := none,
                                    out := alMap s.twin.out (fun _ j => { j with out := [], held := [] }) }
  let s2 := (s1.homedObjects).foldl (fun s x => match s.obj x.1 x.2 with
    | some o => s.journalObj x.1 x.2 o false
    | none => s) s1
  let s3 := (s2.allHomes).foldl (fun s k => s.journalImage k false) s2
  let seeded := ((s3.allHomes).map (·.tenant)).eraseDups
  (s3.setTwin { s3.twin with seeding := seeded.map (fun t => (t, (s3.jout t).next - 1)) }).seedCheck

/-- Finished durable jobs that waited for the journal. -/
def State.endDurable (s : State) (p : Job → Bool) (status : Nat) : State :=
  (s.host.jobs.filter (fun j => j.durable.isSome && decide (j.left = 0) && p j)).foldl (fun s j => s.finishJob j.id status j.result.toNat) s

/-- Arriving barges that wait for their berth's journal at the twin are ready (R177). -/
def State.bargesReady (s : State) (p : BerthKey → Barge → Bool) : State :=
  s.tiers.barges.foldl (fun (s : State) (x : BerthKey × Barge) =>
    if x.2.incoming && decide (x.2.phase = 3) && p x.1 x.2 then
      let s1 : State := { s with tiers := { s.tiers with barges := alPut s.tiers.barges x.1 { x.2 with phase := 4, jseq := none } } }
      match x.2.peer with
      | some q => s1.send (.bargeReady q x.1)
      | none => s1
    else s) s

/-- FLUSHes at this part that wait for the journal answered (R288). -/
def State.endFlushes (s : State) (p : Nat → Nat → Bool) (status : Nat → Nat) : State :=
  s.net.conns.foldl (fun (s : State) (x : Nat × Conn) =>
    let done := x.2.flushes.filter (fun f => p x.2.tenant f.2.1)
    let s1 := s.setConn x.1 { s.conn x.1 with flushes := x.2.flushes.filter (fun f => !p x.2.tenant f.2.1) }
    if done.isEmpty then s else done.foldl (fun s f => s.respond x.1 9 f.1 (status f.2.2) 0 []) s1) s

/-- The pair leaves service: what waits for the journal ends without it (R408). -/
def State.pairOut (s : State) (pair : Nat) : State :=
  let s1 := s.setTwin { s.twin with pair := pair, ackAt := none, seeding := [], lostAt := s.now,
                                    out := alMap s.twin.out (fun _ j => { j with out := [], held := [] }) }
  ((s1.endDurable (fun _ => true) stNoTwin).bargesReady (fun _ _ => true)).endFlushes (fun _ _ => true)
    (fun _ => stNoTwin)

/-- LOST (R409). -/
def State.pairLost (s : State) : State := if s.journalling then s.pairOut 3 else s

/-- FETCH of one berth's image (R410). -/
def State.fetch (s : State) (k : BerthKey) : State := s.send (.journalFetch s.twinPkg k.lk k.berth k.berth)

/-- An image asked for: it is fetched now, or once the tenant's slot is ACTIVE and the connection is back. -/
def State.askFetch (s : State) (k : BerthKey) : State :=
  if s.twin.fetching.contains k then s
  else
    let s1 := s.setTwin { s.twin with fetching := s.twin.fetching ++ [k] }
    if s.active k.tenant ∧ s.twin.pair ≠ 3 then s1.fetch k else s1

/-- INDEX asked of the twin for a tenant whose key slot is ACTIVE, once after a REJOIN (R420). -/
def State.askIndex (s : State) (t : Nat) : State :=
  if s.twin.rejoined && s.active t && !s.twin.indexed.contains t then
    (s.setTwin { s.twin with indexed := s.twin.indexed ++ [t], indexWait := s.twin.indexWait ++ [t] }).send (.journalIndex s.twinPkg t)
  else s

/-- The connection to the twin is back: SEEDING after LOST (R409); images asked for are fetched. -/
def State.pairBack (s : State) : State :=
  if s.twin.pair = 3 then (s.twin.fetching.filter (fun k => s.active k.tenant)).foldl State.fetch s.seedStart else s

end Sys2Proof.Machine
end

