-- ==== Sys2Proof/Machine/Transport.lean ====
section
/-! DEFINITION. Connections: completions, acknowledgement, window, retransmission, loss, opening and closing, doorbells (R287 to
R299, R305, R332). -/

namespace Sys2Proof.Machine

/-! ### Completions (R287, R288, R293) -/

/-- A completion entry of a connection. -/
def connEntry (wrid status op recv result : Nat) : List Byte :=
  leBytes 4 wrid ++ leBytes 2 status ++ leBytes 1 op ++ leBytes 1 recv ++ leBytes 8 result

/-- An entry written adds 1 to the connection's completion chamber. -/
def State.connChamber (s : State) (n : Nat) : State :=
  let c := s.conn n
  if c.cch = 0 ∨ (s.chRefuse c.basin c.cch).isSome then s else s.chRemote c.cch (.add 1)

/-- An entry written at the tail of the completion queue. -/
def State.connPut (s : State) (n : Nat) (e : List Byte) : State :=
  let c := s.conn n
  ((s.setDram (memWriteL s.dram (c.cq + 16 * c.cqTail) e)).setConn n { c with cqTail := (c.cqTail + 1) % 2 ^ c.log2r }).connChamber n

/-- Whether a connection's completion queue is full. -/
def Conn.cqFull (c : Conn) : Bool := decide ((c.cqTail + 1) % 2 ^ c.log2r = c.cqHead)

/-- An entry of the completion queue written, or held back while the queue is full (log). -/
def State.connCq (s : State) (n : Nat) (e : List Byte) : State :=
  let c := s.conn n
  if c.cqFull || !c.cqBack.isEmpty then s.setConn n { c with cqBack := c.cqBack ++ [e] } else s.connPut n e

/-- Entries held back written while the queue has room. -/
def State.connDrain (s : State) (n : Nat) : Nat → State
  | 0 => s
  | k + 1 =>
    let c := s.conn n
    match c.cqBack with
    | [] => s
    | e :: es => if c.cqFull then s else ((s.setConn n { c with cqBack := es }).connPut n e).connDrain n k

/-- A work request completed: to a core, or as an entry where it failed or asked for one. A failure is kept for the next
FLUSH. -/
def State.wrDone (s : State) (n id : Nat) (w : WR) (status : Nat) (result : W64) (data : List Byte) : State :=
  let c := s.conn n
  let s1 := if status ≠ stOk ∧ w.op ≠ 8 then s.setConn n { c with failed := c.failed ++ [(id, status)] } else s
  match w.core with
  | some (k, f) => s1.fxResult k f status result data
  | none => if status = stOk ∧ !w.signal then s1 else s1.connCq n (connEntry w.wrid status w.op 0 result.toNat)

/-- A started work request completed. -/
def State.liveDone (s : State) (n id status : Nat) (result : W64) (data : List Byte) : State :=
  let c := s.conn n
  match c.liveWr.find? (fun l => decide (l.id = id)) with
  | none => s
  | some l => (s.setConn n { c with liveWr := c.liveWr.filter (fun l => decide (l.id ≠ id)) }).wrDone n id l.wr status result data

/-- What a FLUSH completes with: NO_TWIN, or the first failure of a request since the FLUSH before it, or the target's
answer. -/
def Conn.flushStatus (c : Conn) (id answer : Nat) : Nat :=
  if answer = stNoTwin then stNoTwin
  else match c.failed.find? (fun f => decide (f.1 < id)) with
    | some f => f.2
    | none => answer

/-- Started WRITEs whose packets have all been sent once and on which the target has ruled (R287). -/
def State.settleWrites (s : State) (n : Nat) : State :=
  (s.conn n).liveWr.foldl (fun (s : State) (l : LiveWR) =>
    match l.ruled with
    | some e => if l.wr.op = 3 ∧ !((s.conn n).txq.any (fun p => decide (p.wr = some l.id))) then
        s.liveDone n l.id e (if e = stOk then BitVec.ofNat 64 l.wr.len else 0) [] else s
    | none => s) s

/-- The target's ruling on the started request whose packets include `psn` (R287, R302). -/
def State.ruled (s : State) (n psn status : Nat) : State :=
  let c := s.conn n
  match c.liveWr.reverse.find? (fun l => !psnBefore psn l.psn) with
  | none => s
  | some l =>
    if l.wr.op = 3 ∧ status ≠ stTenantRetired then
      (s.setConn n { c with liveWr := c.liveWr.map (fun x => if x.id = l.id then { x with ruled := some status } else x) }).settleWrites n
    else if status ≠ stOk ∨ l.wr.op = 7 ∨ l.wr.op = 10 then s.liveDone n l.id status 0 []
    else s

/-! ### Acknowledgement and the window (R289, R298, R299) -/

/-- The least retransmit timeout and the timeout a sender starts with, in ticks. -/
def State.rtoStart (s : State) (c : Conn) : Nat := max (ticksUs (s.fld rTrnCtl 32 16)) (4 * c.srtt)
def State.connLoss (s : State) : Nat := ticksUs (s.fld rTrnCtl 16 16)

/-- A quotient rounded to nearest. -/
def divNear (a b : Nat) : Nat := (2 * a + b) / (2 * b)

/-- The window after `a` bytes acknowledged with delay `d`. -/
def State.windowUpdate (s : State) (c : Conn) (a d : Nat) (ece : Bool) : Conn :=
  let base := (c.base.filter (fun x => decide (s.now < x.1 + 2 ^ 30) && decide (x.2 < d))) ++ [(s.now, d)]
  let least := (base.map (·.2)).foldl min d
  let target := least + s.fld rTrnCc 0 24
  let beta := s.fld rTrnCc 24 4
  let c1 : Conn := { c with base := base, ackedSince := c.ackedSince + a }
  if d ≤ target ∧ !ece then { c1 with window := min (s.fld rTrnCc 48 16 * 1024) (c.window + divNear (4352 * a) (max 1 c.window)) }
  else if c.window ≤ c1.ackedSince then
    let w := if ece then divNear (c.window * (16 - beta)) 16 else divNear (c.window * (16 * d - beta * (d - target))) (16 * d)
    { c1 with window := max 4352 w, ackedSince := 0 }
  else c1

/-- Packets acknowledged: those below APSN, and those a SACK names. -/
def acked (apsn : Nat) (sack : W64) (p : TxPkt) : Bool :=
  psnBefore p.psn apsn || (decide (psnAhead (apsn + 1) p.psn < 64) && sack.getLsbD (psnAhead (apsn + 1) p.psn))

/-- A packet sent again, encrypted afresh (R289, R296). -/
def State.resend (s : State) (n : Nat) (p : TxPkt) (again : Bool) : State :=
  let c := s.conn n
  let q : TxPkt := { p with ctr := c.ctr, sentAt := s.now, again := again || p.again }
  let s1 := s.setConn n { c with ctr := c.ctr + 1, sent := c.sent.map (fun x => if x.psn = p.psn then q else x) }
  let k := (s1.net.retx + 1) % 1024
  let s2 := { s1 with net := { s1.net with retx := k } }
  ((if k = 0 then s2.bump rTrnErr 32 12 1 else s2).enqueue n (s1.conn n) p.vc p.op p.psn p.data.length).send (.packet n q true)

/-- Cumulative acknowledgement, with an ACK's SACK: packets leave the sender's store, the round trip is measured, timers
restart. The bytes acknowledged are answered. -/
def State.takeAcks (s : State) (n apsn : Nat) (sack : W64) : State × Nat :=
  let c := s.conn n
  let got := c.sent.filter (acked apsn sack)
  if got.isEmpty then (s, 0)
  else
    let sent := c.sent.filter (fun p => !acked apsn sack p)
    let rtt := ((got.filter (fun p => !p.again)).getLast?).map (fun p => s.now - p.sentAt)
    let srtt := match rtt with
      | some x => if c.srtt = 0 then x else (7 * c.srtt + x) / 8
      | none => c.srtt
    let c1 : Conn := { c with sent := sent, srtt := srtt, busy := none }
    let rto := s.rtoStart c1
    (s.setConn n { c1 with rto := rto, rtoAt := if sent.isEmpty then none else some (s.now + rto),
                           progressAt := if sent.isEmpty then none else some s.now }, (got.map (fun p => p.data.length)).sum)

/-- A PSN the SACK shows missing after three later ones have arrived is sent again, once for a gap. -/
def State.fastResend (s : State) (n apsn : Nat) (sack : W64) : State :=
  let later (p : TxPkt) : Nat := ((List.range 64).filter (fun k => sack.getLsbD k && psnBefore p.psn ((apsn + 1 + k) % 2 ^ 32))).length
  ((s.conn n).sent.filter (fun p => !p.again && decide (3 ≤ later p))).foldl (fun s p => s.resend n p true) s

/-- An ACK packet's acknowledgement: packets freed, the window moved, gaps filled, waiting packets sent (R289, R299). -/
def State.ackIn (s : State) (n apsn : Nat) (sack : W64) (owd : Nat) (ece : Bool) : State :=
  let r := s.takeAcks n apsn sack
  let c := r.1.conn n
  let d := if s.tb.state ≤ 1 then c.srtt / 2 else owd
  let s1 := if r.2 = 0 then r.1 else r.1.setConn n (r.1.windowUpdate c r.2 d ece)
  ((s1.fastResend n apsn sack).flushTx n).settleWrites n

/-! ### Opening (R290, R296) -/

/-- The key a connection's keys derive from. -/
def State.keySource (s : State) (kind tenant peer : Nat) : Option (BitVec 256) :=
  match kind with
  | 0 => if s.active tenant then some (s.keySlot tenant).conn else none
  | 1 => alGet s.sec.sysKeys peer
  | _ => s.sec.mgrKey

/-- The traffic key of one direction: the sending side's package and identifier come first in the context (log). -/
def trafficKey (key : BitVec 256) (pkgA connA pkgB connB : Nat) (na nb : BitVec 128) : BitVec 256 :=
  Config.kdf256 (leBytes 32 key.toNat) "YELAM-CONN"
    (leBytes 2 pkgA ++ leBytes 2 pkgB ++ leBytes 3 connA ++ leBytes 3 connB ++ leBytes 16 na.toNat ++ leBytes 16 nb.toNat)

/-- A fresh 128-bit random value. -/
def State.nonce (s : State) : BitVec 128 := BitVec.ofNat 128 ((Config.freeValue s.fresh).toNat + (Config.freeValue (s.fresh + 1)).toNat * 2 ^ 64)

/-- The set-up message of a connection: this part's side of it and a random value. -/
def Conn.setup (c : Conn) (n : Nat) (r : BitVec 128) : ConnSetup :=
  { pkg := selfPkg, conn := n, peerConn := c.peerConn, kind := c.kind, tenant := c.tenant, encap := c.encap, nonce := r, verifies := true }

/-- A CONN_REQ sent with the connection's random value. -/
def State.askConn (s : State) (n : Nat) : State :=
  let c := s.conn n
  (s.setConn n { c with askedAt := s.now }).send (.connReq c.peerPkg (c.setup n c.na))

/-- The lowest-numbered port in service. -/
def State.lowPort (s : State) : Option Nat := (List.range 8).find? (fun p => (s.port p).up)

/-- Contexts cached; a place for one more, taken from the least recently used one that is idle (R291). -/
def State.liveCount (s : State) : Nat := (s.net.conns.filter (fun p => p.2.live)).length
def Conn.idle (c : Conn) : Bool := c.sent.isEmpty && c.txq.isEmpty && c.liveWr.isEmpty
def State.spillable (s : State) : Option Nat :=
  ((s.net.conns.filter (fun p => p.2.live && p.2.idle)).foldl (fun (b : Option (Nat × Conn)) p => match b with
    | some q => if p.2.used < q.2.used then some p else b
    | none => some p) none).map (·.1)

/-- A connection's context made live, when a place is free or can be freed. -/
def State.makeLive (s : State) (n : Nat) : State :=
  let go (s : State) : State := s.setConn n { s.conn n with live := true, loading := false, used := s.now }
  if (s.conn n).live then s.setConn n { s.conn n with used := s.now }
  else if s.liveCount < 4096 then go s
  else match s.spillable with
    | some v => go ((s.setConn v { s.conn v with live := false }).bump rTrnStat 48 16 1)
    | none => s

/-- A use of a connection whose context is not cached starts loading it (R291). -/
def State.touch (s : State) (n : Nat) : State :=
  let c := s.conn n
  if c.live then s.setConn n { c with used := s.now } else s.setConn n { c with loading := true }

/-- A connection set up with new keys: numbers from 0, the window at its start (R290, R296, R299). `mine` tells that this
part's random value comes first. -/
def State.establish (s : State) (n : Nat) (na nb : BitVec 128) (key : BitVec 256) : State :=
  let c := s.conn n
  let c1 : Conn := { c with st := .established, na := na, nb := nb, keyTx := trafficKey key selfPkg n c.peerPkg c.peerConn na nb,
                            keyRx := trafficKey key c.peerPkg c.peerConn selfPkg n na nb, txPsn := 0, rxPsn := 0, ctr := 0,
                            count := c.count + 1, window := s.fld rTrnCc 32 16 * 1024, srtt := 0, base := [], ackedSince := 0, down := false,
                            retries := 0, openJob := none }
  let s1 := ((s.setConn n { c1 with rto := s.rtoStart c1 }).makeLive n)
  let s2 := match c.openJob with
    | some j => s1.finishJob j stOk 0
    | none => s1
  if c.peerPkg = s.twinPkg ∧ (c.kind = 1 ∨ (c.kind = 0 ∧ 1 < (s.jout c.tenant).next)) then s2.pairBack else s2

/-! ### Loss (R305) -/

/-- Frames of a connection leave the ports. -/
def State.dropFrames (s : State) (n : Nat) : State :=
  let b := (s.conn n).basin
  let s1 := if (s.conn n).kind = 0 then s.weirSettle b else s
  { s1 with net := { s1.net with ports := alMap s1.net.ports (fun _ p => { p with frames := p.frames.filter (fun f => decide (f.conn ≠ n)) }) } }

/-- A waiter of a connection's first request leaves its chamber. -/
def State.dropWaiter (s : State) (n : Nat) : State :=
  match (s.conn n).queue with
  | w :: _ =>
    if (s.conn n).waitUntil.isSome then
      let k := s.chamber w.wch
      (s.setChamber w.wch { k with waiters := k.waiters.filter (fun x => decide (x.src ≠ .wr n)) }).setConn n { s.conn n with waitUntil := none }
    else s
  | [] => s

/-- An accepted message in progress is given up: it leaves its mooring's count (R303). -/
def State.dropInMsg (s : State) (n : Nat) : State :=
  match (s.conn n).inMsg with
  | some m =>
    let s1 := s.setConn n { s.conn n with inMsg := none }
    match m.moor with
    | some i => if m.status = stOk then s1.moorLeave i else s1
    | none => s1
  | none => s

/-- The sender's and receiver's progress of a connection cleared. -/
def Conn.clear (c : Conn) : Conn :=
  { c with txq := [], sent := [], liveWr := [], reorder := [], ruling := none, ackDue := none, ackCount := 0, ece := false, rtoAt := none,
           progressAt := none, latch := [], busy := none, flushes := [], rxFailed := 0, txPsn := 0, rxPsn := 0, ctr := 0 }

/-- Started requests completed: the refused one that waited as TARGET_BUSY with that, the others with `status`; a completed
WRITE with bytes still unacknowledged is a failure for the next FLUSH. -/
def State.failLive (s : State) (n status : Nat) : State :=
  let c := s.conn n
  let gone := ((c.sent ++ c.txq).filterMap (·.wr)).eraseDups.filter (fun i => !c.liveWr.any (fun l => decide (l.id = i)))
  let s1 := c.liveWr.foldl (fun s l => s.liveDone n l.id (match c.busy with
    | some (p, _, _) => if p = l.psn then stTargetBusy else status
    | none => status) 0 []) s
  s1.setConn n { s1.conn n with failed := (s1.conn n).failed ++ gone.map (fun i => (i, status)) }

/-- Re-establishment begins, on the lowest-numbered port in service. -/
def State.reopen (s : State) (n : Nat) : State :=
  let s1 := (s.dropFrames n).dropInMsg n
  let c := (s1.conn n).clear
  let c1 : Conn := { c with st := .reopening, port := s1.lowPort.getD c.port, na := s1.nonce, retries := 0, lostAt := s1.now }
  ({ s1 with fresh := s1.fresh + 2 }.setConn n c1).askConn n

/-- A connection lost (R305). -/
def State.loseConn (s : State) (n : Nat) : State :=
  if (s.conn n).st ≠ .established then s
  else (((s.failLive n stLinkLost).reopen n)).bump rTrnErr 52 12 1

/-- A connection whose CTR is used up is re-established without failing its requests: they are sent again (R296). -/
def State.renew (s : State) (n : Nat) : State :=
  let c := s.conn n
  if c.ctr < 2 ^ 63 then s
  else (s.setConn n { c with queue := c.liveWr.map (fun l => { l.wr with disabled := false, chWait := false, bytes := if l.wr.op = 3 then l.wr.bytes else [] }) ++ c.queue, liveWr := [] }).reopen n

/-- The first request of a queue taken off it under the next number; a host's entry is consumed. -/
def State.popWr (s : State) (n : Nat) : Option (Nat × WR × State) :=
  let c := s.conn n
  match c.queue with
  | [] => none
  | w :: ws =>
    let head := if w.core.isNone then (c.sqHead + 1) % 2 ^ c.log2s else c.sqHead
    some (c.nextWr, w, s.setConn n { c with queue := ws, nextWr := c.nextWr + 1, sqHead := head, waitUntil := none })

/-- The first request completed without being sent. -/
def State.failFirst (s : State) (n status : Nat) : State :=
  match s.popWr n with
  | some (id, w, t) => t.wrDone n id w status 0 []
  | none => s

/-- Every request of a connection not yet started completed with a status. -/
def State.failQueue (s : State) (n status : Nat) : State :=
  (List.range (s.conn n).queue.length).foldl (fun s _ => s.failFirst n status) (s.dropWaiter n)

/-- A connection that could not be re-established within CONN_LOSS: its requests complete CONN_DOWN; a twin's connection takes
the pair with it (R305, R409). -/
def State.connDown (s : State) (n : Nat) : State :=
  let c := s.conn n
  let s1 := (s.setConn n { c with down := true }).failQueue n stConnDown
  if c.peerPkg = s.twinPkg ∧ (c.kind = 1 ∨ (c.kind = 0 ∧ 1 < (s.jout c.tenant).next)) then s1.pairLost else s1

/-- A connection closed: its requests complete, its frames, messages and context go. -/
def State.closeConn (s : State) (n status : Nat) : State :=
  let s1 := ((((s.failLive n status).failQueue n status).dropFrames n).dropInMsg n)
  let s2 := match (s1.conn n).openJob with
    | some j => s1.finishJob j stConnDown 0
    | none => s1
  { s2 with net := { s2.net with conns := alDel s2.net.conns n, waiting := s2.net.waiting.filter (fun w => decide (w.1 ≠ n)) } }

/-! ### Timers -/

/-- Whether a connection's port holds its frames, its timers stopped (R304). -/
def State.held (s : State) (c : Conn) : Bool := (s.port c.port).holdUntil.isSome

/-- `ACK_TIMER`: 2,147 ticks after an arrival not yet acknowledged. -/
def execAckTimer (conn : BitVec 24) (s : State) : Host.Outcome State Fault Refusal :=
  match (s.conn conn.toNat).ackDue with
  | some t => if s.passed t then .next ((s.sendAckPkt conn.toNat).renew conn.toNat) else .next s
  | none => .next s

/-- `RETRANSMIT_TIMEOUT`: every unacknowledged packet goes again, the timeout doubles up to 1 ms. -/
def execRetransmitTimeout (conn : BitVec 24) (s : State) : Host.Outcome State Fault Refusal :=
  let n := conn.toNat
  let c := s.conn n
  match c.rtoAt with
  | some t =>
    if !s.passed t || s.held c || c.sent.isEmpty then .next s
    else
      let rto := max c.rto (min (2 * c.rto) (ticksMs 1))
      .next ((c.sent.foldl (fun s p => s.resend n p p.again) (s.setConn n { c with rto := rto, rtoAt := some (s.now + rto) })).renew n)
  | none => .next s

/-- `CONN_LOSS_EXPIRY`: no progress for CONN_LOSS with packets unacknowledged; or re-establishment has failed for as long. -/
def execConnLossExpiry (conn : BitVec 24) (s : State) : Host.Outcome State Fault Refusal :=
  let n := conn.toNat
  let c := s.conn n
  match c.st with
  | .established =>
    match c.progressAt with
    | some t => if s.passed (t + s.connLoss) && !s.held c && !c.sent.isEmpty then .next (s.loseConn n) else .next s
    | none => .next s
  | .reopening => if s.passed (c.lostAt + s.connLoss) && !c.down then .next (s.connDown n) else .next s
  | _ => .next s

/-- `TARGET_BUSY_RETRY`: 16 µs after the refusal the message's packets go again. -/
def execTargetBusyRetry (conn : BitVec 24) (s : State) : Host.Outcome State Fault Refusal :=
  let n := conn.toNat
  let c := s.conn n
  match c.busy with
  | some (p, first, due) =>
    if !s.passed due then .next s
    else
      let s1 := s.setConn n { c with busy := some (p, first, s.now + 2 ^ 63) }
      .next ((c.sent.filter (fun q => !psnBefore q.psn p)).foldl (fun s q => s.resend n q true) s1)
  | none => .next s

/-! ### Setting up and closing (R290, R332) -/

/-- `CONN_OPEN`: the connection is set up and CONN_REQ sent; the descriptor completes with the connection. -/
def doConnOpen (d : Dsc) (s : State) : State :=
  let n := d.f 0x10 4
  let cfg := d.f 0x16 1
  let ls := d.f 0x1E 1 % 16
  let lr := d.f 0x1E 1 / 16
  let tc := cfg / 8 % 8
  let kind := cfg % 4
  let peer := d.f 0x14 2
  if 2 ^ 20 ≤ n ∨ 2 ^ 20 ≤ d.f 0x18 4 ∨ 1024 ≤ peer ∨ kind = 3 ∨ 4 < tc ∨ 64 ≤ cfg ∨ ls < 4 ∨ 12 < ls ∨ lr < 4 ∨ 12 < lr ∨
      (s.conn n).st ≠ .closed then s.fin d stInvalidField 0
  else if !s.inHost d.basin (d.f 0x20 8) (64 * 2 ^ ls) ∨ !s.inHost d.basin (d.f 0x28 8) (16 * 2 ^ lr) ∨
      !s.inHost d.basin (d.f 0x30 8) (16 * 2 ^ lr) then s.fin d stAccessDenied 0
  else
    let c : Conn := { st := .opening, kind := kind, basin := d.basin, tenant := if kind = 0 then d.tenant else 0, peerPkg := peer,
                      peerConn := d.f 0x18 4, encap := decide (cfg / 4 % 2 = 1), tc := if tc = 0 then (if kind = 0 then 3 else 4) else tc,
                      cch := d.f 0x1C 2, log2s := ls, log2r := lr, sq := d.f 0x20 8, rq := d.f 0x28 8, cq := d.f 0x30 8,
                      port := s.lowPort.getD 0, na := s.nonce, openJob := some s.host.nextJob }
    (({ s with fresh := s.fresh + 2 }.addJob d.job).setConn n c).askConn n

def execConnOpen (basin : BitVec 6) (ring : BitVec 8) (s : State) : Host.Outcome State Fault Refusal :=
  .next (serve 0x0F (tenantDsc doConnOpen) basin.toNat ring.toNat s)

/-- The open connection of a basin that a descriptor or doorbell names. -/
def State.ownConn (s : State) (b n : Nat) : Option Conn :=
  let c := s.conn n
  if c.st ≠ .closed ∧ c.basin = b then some c else none

/-- `CONN_CLOSE`. -/
def doConnClose (d : Dsc) (s : State) : State :=
  let n := d.f 0x10 4
  match s.ownConn d.basin n with
  | none => s.fin d stAccessDenied 0
  | some _ => ((s.send (.connClose n)).closeConn n stWrCancelled).fin d stOk 0

def execConnClose (basin : BitVec 6) (ring : BitVec 8) (s : State) : Host.Outcome State Fault Refusal :=
  .next (serve 0x10 (tenantDsc doConnClose) basin.toNat ring.toNat s)

/-- `CONN_CLOSE_MSG`: the peer has closed; this side closes too. -/
def execConnCloseMsg (conn : BitVec 24) (s : State) : Host.Outcome State Fault Refusal :=
  if (s.conn conn.toNat).st = .closed || !s.hears (s.conn conn.toNat).peerPkg then .next s else .next (s.closeConn conn.toNat stWrCancelled)

/-- Whether a set-up message fits the connection this part has been told to accept. -/
def Conn.fits (c : Conn) (m : ConnSetup) : Bool :=
  decide (c.st ≠ .closed) && decide (c.peerPkg = m.pkg) && decide (c.peerConn = m.conn) && decide (c.kind = m.kind) &&
    decide (c.tenant = m.tenant) && (c.encap == m.encap)

/-- `CONN_REQ`: verified and expected, it is answered; a peer that re-establishes ends what was in progress (R290, R305). -/
def execConnReq (m : ConnSetup) (s : State) : Host.Outcome State Fault Refusal :=
  let n := m.peerConn
  let c := s.conn n
  match s.keySource m.kind m.tenant m.pkg with
  | none => .next s
  | some key =>
    if !m.verifies || !c.fits m || !s.hears m.pkg then .next s
    else
      let s1 := if c.st = .established then (((s.failLive n stLinkLost).dropFrames n).dropInMsg n).bump rTrnErr 52 12 1 else s
      let nb := s1.nonce
      let s2 := { s1 with fresh := s1.fresh + 2 }.setConn n (s1.conn n).clear
      .next ((s2.establish n m.nonce nb key).send (.connAcc m.pkg (c.setup n nb)))

/-- `CONN_ACC`. -/
def execConnAcc (m : ConnSetup) (s : State) : Host.Outcome State Fault Refusal :=
  let n := m.peerConn
  let c := s.conn n
  match s.keySource m.kind m.tenant m.pkg with
  | none => .next s
  | some key =>
    if !m.verifies || !c.fits m || !s.hears m.pkg || (decide (c.st ≠ .opening) && decide (c.st ≠ .reopening)) then .next s
    else .next (s.establish n c.na m.nonce key)

/-- `CONN_REQ_RETRY`: sent again after 100 µs; an open ends with CONN_DOWN after three retries, a re-establishment goes on. -/
def execConnReqRetry (conn : BitVec 24) (s : State) : Host.Outcome State Fault Refusal :=
  let n := conn.toNat
  let c := s.conn n
  if !s.passed (c.askedAt + ticksUs 100) then .next s
  else
    match c.st with
    | .opening =>
      if c.retries < 3 then .next ((s.setConn n { c with retries := c.retries + 1 }).askConn n)
      else .next (s.closeConn n stConnDown)
    | .reopening => .next (s.askConn n)
    | _ => .next s

/-! ### Doorbells (R292, R293, R328) -/

/-- A work request as its 64 bytes spell it. -/
def wrOf (b : List Byte) : WR :=
  let w := dsc b 1 1
  { op := dsc b 0 1, signal := w.testBit 0, durable := w.testBit 1, disabled := w.testBit 2, chWait := w.testBit 3, en := w.testBit 4,
    notify := w.testBit 5, wrid := dsc b 4 4, laddr := dsc b 8 8, raddr := BitVec.ofNat 64 (dsc b 0x10 8), len := dsc b 0x18 4,
    mkey := dsc b 0x1C 4, mgen := dsc b 0x20 2, wch := dsc b 0x24 2, wcount := dsc b 0x28 4, tag := dsc b 0x2C 4,
    opnd0 := BitVec.ofNat 64 (dsc b 0x30 8), opnd1 := BitVec.ofNat 64 (dsc b 0x38 8) }

/-- `CONN_DB_SEND`: the tail moves over free entries; the requests join the queue. -/
def execConnDbSend (basin : BitVec 6) (conn : BitVec 24) (index : BitVec 16) (s : State) : Host.Outcome State Fault Refusal :=
  let n := conn.toNat
  let i := index.toNat
  if !s.inService then .next s.turnedAway
  else match s.ownConn basin.toNat n with
    | none => .next s.badDb
    | some c =>
      let size := 2 ^ c.log2s
      if size ≤ i ∨ !moves c.log2s c.sqTail i ((c.sqHead + size - 1) % size) then .next s.badDb
      else
        let ws := (List.range ((i + size - c.sqTail) % size)).map (fun k => wrOf (memReadN s.dram (c.sq + 64 * ((c.sqTail + k) % size)) 64))
        .next ((s.setConn n { c with sqTail := i, queue := c.queue ++ ws }).touch n)

/-- `CONN_DB_RECV`. -/
def execConnDbRecv (basin : BitVec 6) (conn : BitVec 24) (index : BitVec 16) (s : State) : Host.Outcome State Fault Refusal :=
  let n := conn.toNat
  let i := index.toNat
  if !s.inService then .next s.turnedAway
  else match s.ownConn basin.toNat n with
    | none => .next s.badDb
    | some c =>
      if 2 ^ c.log2r ≤ i ∨ !moves c.log2r c.rqHead i c.rqTail then .next s.badDb
      else .next (s.setConn n { c with rqHead := i })

/-- `CONN_DB_COMPLETION`: entries freed; those held back follow. -/
def execConnDbCompletion (basin : BitVec 6) (conn : BitVec 24) (index : BitVec 16) (s : State) : Host.Outcome State Fault Refusal :=
  let n := conn.toNat
  let i := index.toNat
  if !s.inService then .next s.turnedAway
  else match s.ownConn basin.toNat n with
    | none => .next s.badDb
    | some c =>
      if 2 ^ c.log2r ≤ i ∨ !moves c.log2r c.cqHead i c.cqTail then .next s.badDb
      else .next ((s.setConn n { c with cqHead := i }).connDrain n c.cqBack.length)

end Sys2Proof.Machine
end

