-- ==== Sys2Proof/Machine/Chambers.lean ====
section
/-! DEFINITION. Chamber allocation and configuration, wait timeouts (R259, R262 to R264, R272), host flights and the release of
sluice entries (R266 to R270). -/

namespace Sys2Proof.Machine

/-! ### Allocation (R259, R264) -/

/-- Block b of 16 chambers is free: not one of the part's own 16, not allocated. -/
def State.blockFree (s : State) (b : Nat) : Bool := decide (16 ≤ b) && decide (b < 4096) && !(s.chamber (16 * b)).alloc

/-- The first of the lowest `need` neighbouring blocks that all pass a test; `n` blocks left from `b`, `len` passed in a row. -/
def findRun (ok : Nat → Bool) (need : Nat) : Nat → Nat → Nat → Option Nat
  | 0, _, _ => none
  | n + 1, b, len =>
    if ok b then (if len + 1 = need then some (b - len) else findRun ok need n (b + 1) (len + 1)) else findRun ok need n (b + 1) 0

/-- The run an allocation takes: wholly in slices of the basin's clusters where there is one (R15), else the lowest anywhere. -/
def State.chamberRun (s : State) (basin blocks : Nat) : Option Nat :=
  match findRun (fun b => s.blockFree b && decide ((s.cluster (b / 8)).owner = some basin)) blocks 4080 16 0 with
  | some b => some b
  | none => findRun s.blockFree blocks 4080 16 0

/-- Blocks allocated to a basin: counters and thresholds 0, no waiters. -/
def State.giveBlocks (s : State) (basin b blocks : Nat) : State :=
  (List.range (16 * blocks)).foldl (fun (s : State) i =>
    s.setChamber (16 * b + i) { alloc := true, owner := basin, out := (s.chamber (16 * b + i)).out }) s

/-- CH_ALLOC_RES. -/
def State.chResult (s : State) (base status : Nat) : State := (s.setFld rChAllocRes 0 16 base).setFld rChAllocRes 16 4 status

/-- CH_ALLOC with OP 1. -/
def State.chAllocate (s : State) (b n : Nat) : State :=
  if n = 0 ∨ 4080 < n ∨ (s.basin b).st = 0 then s.chResult 0 2
  else
    match s.chamberRun b n with
    | some r => (s.giveBlocks b r n).chResult (16 * r) 0
    | none => (s.setFld rChStat 32 1 1).chResult 0 1

/-- `CH_ALLOCATE`. -/
def execChAllocate (basin : BitVec 6) (blocks : BitVec 12) (s : State) : Host.Outcome State Fault Refusal :=
  .next (if s.inService then s.chAllocate basin.toNat blocks.toNat else s.turnedAway)

/-- A wait ended without its condition: a core's predicate is cleared, a work request completes (R263, R264). -/
def State.endWait (s : State) (src : WaitSrc) (status : Nat) : State :=
  match src with
  | .core _ => s.wake src false
  | .wr n => s.failFirst n status

/-- A chamber's waiters released with a status; what waits for its lock is refused (R264). -/
def State.chEmpty (s : State) (ch status : Nat) : State :=
  let c := s.chamber ch
  c.waiters.foldl (fun s w => s.endWait w.src status) (s.setChamber ch { c with waiters := [], deferred := [] })

/-- Blocks freed. -/
def State.freeBlocks (s : State) (b blocks : Nat) : State :=
  (List.range (16 * blocks)).foldl (fun (s : State) i =>
    let t := s.chEmpty (16 * b + i) stChamberFreed
    t.setChamber (16 * b + i) { out := (t.chamber (16 * b + i)).out }) s

/-- CH_ALLOC with OP 2. -/
def State.chFree (s : State) (basin n base : Nat) : State :=
  let b := base / 16
  if n = 0 ∨ 4080 < n ∨ base % 16 ≠ 0 ∨ b < 16 ∨ 4096 < b + n then s.chResult 0 2
  else if (List.range n).all (fun i => (s.chamber (16 * (b + i))).alloc && decide ((s.chamber (16 * (b + i))).owner = basin)) then
    (s.freeBlocks b n).chResult base 0
  else s.chResult 0 3

/-- `CH_FREE`. -/
def execChFree (basin : BitVec 6) (blocks : BitVec 12) (base : BitVec 16) (s : State) : Host.Outcome State Fault Refusal :=
  .next (if s.inService then s.chFree basin.toNat blocks.toNat base.toNat else s.turnedAway)

/-- A write of CH_CFG, for the chamber of CH_SEL; setting FIRE_EN fires a chamber already at its threshold (R262). -/
def State.chCfgWrite (s : State) (val : W64) : State :=
  let ch := s.fld rChSel 0 16
  let c := s.chamber ch
  let en := decide (Sys2Proof.fld val 0 1 = 1)
  let c1 : Chamber := { c with fireEn := en, vector := Sys2Proof.fld val 1 6, fired := c.fired && decide (Sys2Proof.fld val 7 1 = 0) }
  if en && !c.fireEn && !c1.fired && reached c.counter c.threshold then
    (s.setChamber ch { c1 with fired := true }).raiseMsix c1.vector
  else s.setChamber ch c1

/-- `CH_CFG_WRITE`. -/
def execChCfgWrite (val : BitVec 64) (s : State) : Host.Outcome State Fault Refusal :=
  .next (if s.inService then s.chCfgWrite val else s.turnedAway)

/-- `CHAMBER_WAIT_TIMEOUT`: every wait whose time has passed ends, counted (R263). -/
def execChamberWaitTimeout (s : State) : Host.Outcome State Fault Refusal :=
  .next (s.fab.chambers.foldl (fun (s : State) (p : Nat × Chamber) =>
    let due := p.2.waiters.filter (fun w => s.passed w.until_)
    if due.isEmpty then s
    else
      let s1 := (s.setChamber p.1 { s.chamber p.1 with waiters := (s.chamber p.1).waiters.filter (fun w => !s.passed w.until_) }).bump
        rChStat 48 16 due.length
      due.foldl (fun s w => s.endWait w.src stChamberTimeout) s1) s)

/-! ### Host flights (R269, R270) -/

/-- The entries of a flight's table, `addr` and `descs` its addresses. -/
def State.flightEntries (s : State) (base lead n addr descs : Nat) : List FlightEntry :=
  (List.range n).map (fun k =>
    let e := memReadN s.dram (addr + 16 * k) 16
    let due := base + dsc e 0 8
    let kind := dsc e 8 1
    let desc := memReadN s.dram (descs + 128 * dsc e 12 4) 128
    { time := if kind = 1 then due - lead else due, kind := kind, ch := dsc e 10 2, value := BitVec.ofNat 32 (dsc e 12 4),
      desc := if kind = 1 then desc.take 0x48 ++ leBytes 8 due ++ desc.drop 0x50 else [] })

/-- `FLIGHT_ARM`. -/
def doFlightArmDesc (d : Dsc) (s : State) : State :=
  let n := d.f 0x1C 2
  let table := d.f 0x20 8
  let lead := if d.f 0x18 4 = 0 then 10737 else d.f 0x18 4
  if n = 0 ∨ 256 < n then s.fin d stInvalidField 0
  else if !s.inHost d.basin table (16 * n) then s.fin d stAccessDenied 0
  else
    let es := s.flightEntries (d.f 0x10 8) lead n table (d.f 0x28 8)
    let sweeps := (es.filter (fun e => decide (e.kind = 1))).length
    if sweeps ≠ 0 ∧ !s.inHost d.basin (d.f 0x28 8) (128 * sweeps) then s.fin d stAccessDenied 0
    else if es.any (fun e => decide (e.kind = 0) || decide (3 < e.kind) || (decide (e.kind = 1) && (decide (sweeps ≤ e.value.toNat) || decide (dsc e.desc 0 1 ≠ 1))))
        ∨ !((es.zip (es.drop 1)).all (fun p => decide (p.1.time ≤ p.2.time))) then s.fin d stInvalidField 0
    else if 1024 ≤ (s.sweeps.flights.filter (fun f => !f.left.isEmpty)).length then s.fin d stFlightFull 0
    else
      let id := s.fab.handles + 1
      let s1 : State := { s with
        fab := { s.fab with handles := id },
        sweeps := { s.sweeps with flights := s.sweeps.flights ++ [{ handle := id, basin := d.basin, ring := d.ring, left := es }] } }
      s1.fin d stOk id

def execFlightArmDesc (basin : BitVec 6) (ring : BitVec 8) (s : State) : Host.Outcome State Fault Refusal :=
  .next (serve 0x0D (tenantDsc doFlightArmDesc) basin.toNat ring.toNat s)

/-- `FLIGHT_CANCEL`: RELEASED and CANCELLED. -/
def doFlightCancel (d : Dsc) (s : State) : State :=
  match s.sweeps.flights.find? (fun f => decide (f.handle = d.f 0x10 8) && decide (f.basin = d.basin)) with
  | none => s.fin d stNotFound 0
  | some f =>
    let fl := s.sweeps.flights.map (fun g => if g.handle = f.handle then { g with left := [] } else g)
    let s1 : State := { s with sweeps := { s.sweeps with flights := fl } }
    s1.fin d stOk (f.released + f.left.length * 2 ^ 32)

def execFlightCancel (basin : BitVec 6) (ring : BitVec 8) (s : State) : Host.Outcome State Fault Refusal :=
  .next (serve 0x0E (tenantDsc doFlightCancel) basin.toNat ring.toNat s)

/-- The first entry of a host flight released once its time has passed (R267, R269). -/
def State.releaseHostFlight (s : State) (handle : Nat) : State :=
  match s.sweeps.flights.find? (fun f => decide (f.handle = handle)) with
  | none => s
  | some f =>
    match f.left with
    | [] => s
    | e :: rest =>
      if !s.passed e.time then s
      else
        let fl := s.sweeps.flights.map (fun g => if g.handle = handle then { g with left := rest, released := g.released + 1 } else g)
        let s1 := { s with sweeps := { s.sweeps with flights := fl } }
        if e.kind = 1 then
          let s2 := { s1 with sweeps := { s1.sweeps with handed := s1.sweeps.handed ++ [(f.basin, f.ring, e.desc)] } }
          s2.acceptHanded s2.sweeps.handed.length
        else if (s1.chRefuse f.basin e.ch).isSome then s1
        else s1.chRemote e.ch (if e.kind = 2 then .add e.value else .set e.value)

/-- A convoy whose T has passed is launched on this part, and its status word shows it (R65, R267, R339). -/
def State.releaseConvoy (s : State) (gsid seq : Nat) (twin : Bool) : State :=
  let s1 := match s.member gsid seq twin with
    | some m => if s.passed m.times.t then s.launch gsid seq twin else s
    | none => s
  if twin then s1 else s1.showLaunch gsid seq

/-- `SLUICE_RELEASE`. -/
def execSluiceRelease (which : SluiceRef) (s : State) : Host.Outcome State Fault Refusal :=
  match which with
  | .convoy gsid seq twin => .next (s.releaseConvoy gsid seq twin)
  | .core core => .next (s.releaseCore core)
  | .coreFlight core flight => .next (s.releaseFlight core flight)
  | .hostFlight handle => .next (s.releaseHostFlight handle)

end Sys2Proof.Machine
end

