-- ==== Sys2Proof/Machine/Clock.lean ====
section
/-! DEFINITION. Fabric time: the local count and its correction, the time strand, PTP, source selection and holdover (R245 to
R256, R271). -/

namespace Sys2Proof.Machine

/-! ### The local count (R245, R246) -/

/-- Local fabric time in 2^-32 tick. -/
def State.fine (s : State) : Int := (s.tb.ticks.toNat * 2 ^ 32 + s.tb.frac.toNat : Nat)

/-- Local fabric time set, in 2^-32 tick. -/
def State.setFine (s : State) (x : Int) : State :=
  { s with tb := { s.tb with ticks := BitVec.ofInt 64 (x / 2 ^ 32), frac := BitVec.ofInt 32 x } }

/-- The largest steering rate, 2^-10, and the largest frequency term, 2^-14, in 2^-32 tick per cycle; 1,024 ticks. -/
def steerMax : Int := 2 ^ 22
def freqMax : Int := 2 ^ 18
def slewMax : Int := 1024 * 2 ^ 32

/-- A value held to ±m. -/
def clampInt (m x : Int) : Int := max (-m) (min m x)

/-- The steering rate f: frequency term and phase term e × 2^-20, together within ±2^-10. -/
def State.steer (s : State) : Int := clampInt steerMax (s.tb.freq + Int.tdiv s.tb.err (2 ^ 20))

/-- TB_STAT.SLEWING: slewing at the rate limit. -/
def State.slewing (s : State) : Bool := decide ((s.steer).natAbs = 2 ^ 22)

/-- Some sluice entry is armed: a convoy waits for T, or a core sluice, core flight or host flight holds entries (R266). -/
def State.armedAny (s : State) : Bool :=
  s.sweeps.members.any (fun m => decide (m.stage = 0)) ||
  s.fab.cores.any (fun c => !c.2.sluice.isEmpty || c.2.flights.any (fun f => !f.left.isEmpty)) ||
  s.sweeps.flights.any (fun f => !f.left.isEmpty)

/-- One island cycle: the count advances by 1 + f, the phase term removes its part of the error, and ACQUIRE ends once the
error is within 1,024 ticks. -/
def State.cycle (s : State) : State :=
  let f := s.steer
  let s1 := s.setFine (s.fine + 2 ^ 32 + f)
  let e := s.tb.err - (f - s.tb.freq)
  let e1 := if s.tb.err = 0 then 0 else e
  { s1 with tb := { s1.tb with err := e1,
                               state := if s.tb.state = 1 ∧ s.tb.src ≠ 0 ∧ e1.natAbs ≤ slewMax.natAbs then 1 + s.tb.src else s.tb.state } }

/-! ### Sources (R246, R256) -/

/-- The source TB_CTL.SRC selects: 0 none, 1 strand, 2 PTP. -/
def State.srcWanted (s : State) : Nat :=
  match s.fld rTbCtl 0 2 with
  | 0 => if s.tb.strand.st = 3 then 1 else 2
  | 1 => 1
  | 2 => 2
  | _ => 0

/-- A measured error, source less local time in 2^-32 tick: the frequency term changes, and the error is slewed or stepped
away. -/
def State.correct (s0 : State) (src : Nat) (e : Int) : State :=
  if s0.srcWanted ≠ src then s0
  else
    let f := clampInt freqMax (sext 20 (s0.free.toNat % 2 ^ 20))
    let s : State := { s0.drawn with tb := { s0.tb with freq := f, src := src, holdUntil := none } }
    if e.natAbs ≤ slewMax.natAbs then { s with tb := { s.tb with err := e, state := 1 + src } }
    else if 0 < e || (decide (s.fld rTbCtl 3 1 = 1) && !s.armedAny) then
      let s1 := (s.setFine (s.fine + e)).setFld rTbStat 49 1 1
      { s1 with tb := { s1.tb with err := 0, state := 1 } }
    else { s with tb := { s.tb with err := e, state := 1 } }

/-- The source in use is lost: HOLDOVER for HOLD_MAX × 2^20 ticks with the frequency term as it stood and no phase term; FREE
at once when HOLD_MAX is 0. -/
def State.loseSource (s : State) : State :=
  if s.tb.src = 0 then s
  else
    let h := s.fld rTbCtl 8 20
    let tb : Timebase := { s.tb with src := 0, err := 0 }
    if h = 0 then { s with tb := { tb with state := 0, holdUntil := none } }
    else { s with tb := { tb with state := 4, holdUntil := some (s.now + h * 2 ^ 20) } }

/-- `SOURCE_LOSS`. -/
def execSourceLoss (s : State) : Host.Outcome State Fault Refusal := .next s.loseSource

/-- `HOLDOVER_EXPIRY`. -/
def execHoldoverExpiry (s : State) : Host.Outcome State Fault Refusal :=
  match s.tb.state, s.tb.holdUntil with
  | 4, some u => if s.passed u then .next { s with tb := { s.tb with state := 0, holdUntil := none } } else .next s
  | _, _ => .next s

/-- A write of TB_SET (R271): the count is set where SRC is 3, backward only with no sluice entry armed. -/
def State.tbSet (s : State) (val : W64) : State :=
  if s.fld rTbCtl 0 2 = 3 ∧ (s.tb.ticks.toNat ≤ val.toNat ∨ !s.armedAny) then { s with tb := { s.tb with ticks := val, frac := 0 } }
  else s.setFld rTbStat 51 1 1

/-- `TB_SET`. -/
def execTbSet (val : BitVec 64) (s : State) : Host.Outcome State Fault Refusal :=
  .next (if s.inService then s.tbSet val else s.turnedAway)

/-! ### The strand's frames (R247 to R250) -/

/-- Bauds `lo` to `lo + n − 1` of a frame, most significant first; baud 0 is bit 511. -/
def bauds (f : BitVec 512) (lo n : Nat) : Nat := f.toNat / 2 ^ (512 - lo - n) % 2 ^ n

/-- The scrambler's stream (R249): `n` bits from a 23-bit state, first bit highest. -/
def scramble : Nat → Nat → Nat → Nat
  | 0, _, acc => acc
  | n + 1, st, acc =>
    let b := (st / 2 ^ 22 + st / 2 ^ 17) % 2
    scramble n ((st * 2 + b) % 2 ^ 23) (acc * 2 + b)

/-- A frame with bauds 32 to 495 descrambled. -/
def descramble (f : BitVec 512) : BitVec 512 :=
  f ^^^ BitVec.ofNat 512 (scramble 464 (bauds f 16 16 * 2 ^ 7 + 0x55) 0 * 2 ^ 16)

/-- CRC-16 of polynomial 0x1021 over the low `n` bits of `x`, most significant first (R249). -/
def crc16 : Nat → Nat → Nat → Nat
  | 0, _, c => c
  | n + 1, x, c =>
    let top := (c / 2 ^ 15 + x / 2 ^ n) % 2
    let c1 := c * 2 % 2 ^ 16
    crc16 n x (if top = 1 then c1 ^^^ 0x1021 else c1)

/-- Whether a frame's CRC is good. -/
def crcGood (f : BitVec 512) : Bool := decide (crc16 480 (bauds f 16 480) 0xFFFF = bauds f 496 16)

/-- The fields of a frame (R248). -/
structure StrandFields where
  seq : Nat
  time : Nat
  hops : Nat
  source : Nat
deriving DecidableEq, Repr

/-- A frame's fields. -/
def strandFields (f : BitVec 512) : StrandFields :=
  let d := descramble f
  { seq := bauds f 16 16, time := bauds d 80 16 * 2 ^ 48 + bauds d 32 48, hops := bauds d 96 8, source := bauds d 112 16 }

/-- A frame as TSTR_OUT repeats it (R250): HOPS one higher, saturating at 15, in the scrambled bauds; the CRC changed by the
CRC of the changed bits. -/
def repeatFrame (f : BitVec 512) : BitVec 512 :=
  let h := (strandFields f).hops
  let x := (h ^^^ min 15 (h + 1)) * 2 ^ 408
  f ^^^ BitVec.ofNat 512 (x + crc16 480 (x / 2 ^ 16) 0)

/-- The source's time at a frame's arrival, in 2^-32 tick (R250). -/
def State.strandTime (s : State) (x : StrandFields) : Int :=
  (x.time * 2 ^ 32 + s.fld rTbStrandDly 0 16 * 2 ^ 28 + x.hops * 80 * 2 ^ 62 / 10 ^ 9 : Nat)

/-- The measured local time of an edge that arrives now: within half a tick (R250). -/
def State.edge (s : State) : Int := s.fine + sext 33 (s.free.toNat % 2 ^ 33) / 2

/-! ### The strand receiver (R251, R252) -/

def State.setStrand (s : State) (x : Strand) : State := { s with tb := { s.tb with strand := x } }

/-- TSTR_OUT falls to a steady 0 when the receiver no longer repeats. -/
def State.tstrUpdate (s : State) : State :=
  let on := decide (s.tb.strand.st = 3) && decide (s.fld rTbCtl 2 1 = 1)
  if s.tb.strand.repeats && !on then (s.setStrand { s.tb.strand with repeats := false }).send (.tstr none)
  else s.setStrand { s.tb.strand with repeats := on }

/-- The receiver leaves LOCKED or any other state; a strand in use as the source is lost. -/
def State.strandTo (s : State) (st : Nat) : State :=
  let s1 := (s.setStrand { s.tb.strand with st := st, n := 0, hist := [] }).tstrUpdate
  if s.tb.src = 1 then s1.loseSource else s1

/-- A frame that SEARCH tests: PATTERN with a good CRC makes it a candidate. -/
def State.strandSearch (s : State) (f : BitVec 512) : State :=
  let x := strandFields f
  if bauds f 0 16 = 0xE7A4 ∧ crcGood f then
    s.setStrand { s.tb.strand with st := 2, n := 1, seq := x.seq, time := x.time, hops := x.hops, source := x.source, since := 0, hist := [] }
  else s.setStrand { s.tb.strand with st := 1, n := 0 }

/-- Whether a frame passes the tests against the last good frame, `k` frames before it (R251, R252). -/
def Strand.passes (r : Strand) (f : BitVec 512) (spacing k : Nat) : Bool :=
  let x := strandFields f
  let dt := (x.time + 2 ^ 64 - r.time) % 2 ^ 64
  decide (bauds f 0 16 = 0xE7A4) && decide (spacing = 512) && crcGood f && decide (x.seq = (r.seq + k) % 2 ^ 16) &&
    decide (4398 * k ≤ dt) && decide (dt ≤ 4399 * k) && decide (x.hops = r.hops)

/-- `STRAND_FRAME`: the frame whose baud 0 arrives now, `spacing` bauds after the frame before it. -/
def execStrandFrame (bits : BitVec 512) (spacing : BitVec 32) (s : State) : Host.Outcome State Fault Refusal :=
  let r := s.tb.strand
  let x := strandFields bits
  let good : Strand := { r with seq := x.seq, time := x.time, hops := x.hops, source := x.source, since := 0 }
  match r.st with
  | 0 => .next s
  | 1 => .next (s.strandSearch bits)
  | 2 =>
    if r.passes bits spacing.toNat 1 then
      if r.n = 3 then .next (s.setStrand { good with st := 3, n := 0, hist := [] }).tstrUpdate
      else .next (s.setStrand { good with n := r.n + 1 })
    else .next (s.strandSearch bits)
  | _ =>
    let s0 := if s.fld rTbCtl 2 1 = 1 then s.send (.tstr (some (repeatFrame bits))) else s
    if r.passes bits spacing.toNat (r.since + 1) then
      let s1 := s0.setStrand { good with hist := (false :: r.hist).take 32 }
      .next (s1.drawn.correct 1 (s1.strandTime x - s1.edge))
    else
      let hist := (true :: r.hist).take 32
      let s1 := (s0.setStrand { r with since := r.since + 1, hist := hist }).bump rTbStat 32 16 1
      if 3 ≤ (hist.filter id).length then .next ((s1.setFld rTbStat 48 1 1).strandTo 1) else .next s1

/-- `STRAND_NO_SIGNAL`. -/
def execStrandNoSignal (s : State) : Host.Outcome State Fault Refusal := .next (s.strandTo 0)

/-- `STRAND_TRANSITIONS_RETURN`. -/
def execStrandTransitionsReturn (s : State) : Host.Outcome State Fault Refusal :=
  if s.tb.strand.st = 0 then .next (s.setStrand { s.tb.strand with st := 1, n := 0 }) else .next s

/-! ### PTP (R254) -/

def State.setPtp (s : State) (p : Ptp) : State := { s with tb := { s.tb with ptp := p } }

/-- PTP runs, and runs in this domain. -/
def State.ptpOn (s : State) : Bool := decide (s.fld rTbPtpCtl 0 1 = 1)
def State.ptpIn (s : State) (domain : Nat) : Bool := s.ptpOn && decide (domain = s.fld rTbPtpCtl 1 7)

/-- The path delay measured, shown in ticks (R271). -/
def State.setPath (s : State) (x : Int) : State :=
  (s.setPtp { s.tb.ptp with path := x, dreq := none }).setFld rTbPtpStat 32 16 (min 0xFFFF ((max 0 x).toNat / 16))

/-- An offset measurement: origin, local arrival and correction of a Sync, in 1/16 tick (log). -/
def State.ptpOffset (s : State) (origin rx corr : Int) : State :=
  let off := 16 * rx - 16 * origin - corr - s.tb.ptp.path
  let s1 := (s.setPtp { s.tb.ptp with last := some (origin, rx, corr), wait := none }).setFld rTbPtpStat 0 32 (off % 2 ^ 32).toNat
  s1.correct 2 (-off * 2 ^ 28)

/-- `PTP_SYNC`: counted; used once a best master is known; a two-step Sync waits for its Follow_Up. -/
def execPtpSync (m : PtpSyncMsg) (s : State) : Host.Outcome State Fault Refusal :=
  if !s.ptpIn m.domain then .next s
  else
    let s1 := s.bump rTbPtpStat 48 16 1
    if s1.tb.ptp.best.isNone then .next s1
    else if m.twoStep then .next (s1.setPtp { s1.tb.ptp with wait := some m })
    else .next (s1.ptpOffset m.origin.toNat m.rx.toNat m.corr)

/-- `PTP_FOLLOW_UP`: the origin time and the rest of the correction. -/
def execPtpFollowUp (seqId : BitVec 16) (origin : BitVec 64) (corr : Int) (s : State) : Host.Outcome State Fault Refusal :=
  match s.tb.ptp.wait with
  | some m => if s.ptpOn && decide (m.seqId = seqId.toNat) then .next (s.ptpOffset origin.toNat m.rx.toNat (m.corr + corr)) else .next s
  | none => .next s

/-- `PTP_DELAY_REQ_TIMER`: a Delay_Req, or with peer delay a Pdelay_Req, leaves and its time is kept. -/
def execPtpDelayReqTimer (s : State) : Host.Outcome State Fault Refusal :=
  let peer := s.fld rTbPtpCtl 9 1
  if !s.ptpOn || (decide (peer = 0) && (s.tb.ptp.best.isNone || s.tb.ptp.last.isNone)) then .next s
  else
    let q := (s.tb.ptp.seqId + 1) % 2 ^ 16
    .next ((s.setPtp { s.tb.ptp with seqId := q, dreq := some (q, s.now) }).send (.ptpReq peer q))

/-- `PTP_DELAY_RESP`: the mean of the two directions, less the corrections. -/
def execPtpDelayResp (seqId : BitVec 16) (rx : BitVec 64) (corr : Int) (s : State) : Host.Outcome State Fault Refusal :=
  match s.tb.ptp.dreq, s.tb.ptp.last with
  | some (q, t3), some (t1, t2, c) =>
    if s.ptpOn && decide (s.fld rTbPtpCtl 9 1 = 0) && decide (q = seqId.toNat) then
      .next (s.setPath ((16 * (t2 - t1) - c + 16 * ((rx.toNat : Int) - t3) - corr) / 2))
    else .next s
  | _, _ => .next s

/-- `PTP_PDELAY_RESP`. -/
def execPtpPdelayResp (seqId : BitVec 16) (t2 t3 t4 : BitVec 64) (s : State) : Host.Outcome State Fault Refusal :=
  match s.tb.ptp.dreq with
  | some (q, t1) =>
    if s.ptpOn && decide (s.fld rTbPtpCtl 9 1 = 1) && decide (q = seqId.toNat) then
      .next (s.setPath (16 * (((t4.toNat : Int) - t1) - ((t3.toNat : Int) - t2.toNat)) / 2))
    else .next s
  | none => .next s

/-- The default dataset comparison: priority 1, class, accuracy, variance, priority 2, identity; lower is better (R254). -/
def announceRank (a : PtpAnnounce) : List Nat := [a.prio1, a.clockClass, a.accuracy, a.variance, a.prio2, a.identity]

/-- Whether a list of numbers comes before another of the same length. -/
def lexLt : List Nat → List Nat → Bool
  | x :: xs, y :: ys => decide (x < y) || (decide (x = y) && lexLt xs ys)
  | _, _ => false

/-- `PTP_ANNOUNCE`: a better master, or a new dataset of the present one, becomes the best. -/
def execPtpAnnounce (m : PtpAnnounce) (s : State) : Host.Outcome State Fault Refusal :=
  if !s.ptpIn m.domain then .next s
  else
    match s.tb.ptp.best with
    | none => .next (s.setPtp { s.tb.ptp with best := some m })
    | some b =>
      if b.identity = m.identity then .next (s.setPtp { s.tb.ptp with best := some m })
      else if lexLt (announceRank m) (announceRank b) then .next (s.setPtp { s.tb.ptp with best := some m, wait := none, last := none, dreq := none })
      else .next s

end Sys2Proof.Machine
end

