-- ==== Sys2Proof/Machine/Ports.lean ====
section
/-! DEFINITION. Engines, ports and their outages, MACsec keys, LLDP (R273 to R277, R304, R305), the port scheduler, meters and
weirs (R310 to R319). -/

namespace Sys2Proof.Machine

/-! ### Engines and ports (R273, R276) -/

def State.engine (s : State) (e : Nat) : Engine := alGetD s.net.engines e {}
def State.setEngine (s : State) (e : Nat) (x : Engine) : State := { s with net := { s.net with engines := alPut s.net.engines e x } }

/-- Register offsets of an engine. -/
def rEng (r e : Nat) : Nat := r + 0x40 * e

/-- An engine's mode, the pair its spare serves (15 none), and the lanes of a port: none where the mode has no such port. -/
def State.engMode (s : State) (e : Nat) : Nat := s.fld (rEng rPrtEngCtl e) 0 2
def State.spareLane (s : State) (e : Nat) : Nat := s.fld (rEng rPrtEngStat e) 10 4
def State.portLanes (s : State) (p : Nat) : List Nat :=
  match s.engMode (p / 2), p % 2 with
  | 0, 0 => List.range 8
  | 1, 0 => [0, 1, 2, 3]
  | 1, _ => [4, 5, 6, 7]
  | _, _ => []

/-- A fibre pair is served by a working channel. -/
def State.laneOk (s : State) (e l : Nat) : Bool := !(s.engine e).failed.contains l || decide (s.spareLane e = l)

/-- A port can come up: its mode has it, its lanes work, and with MACsec it holds a SAK (R276, R304). -/
def State.portFit (s : State) (p : Nat) : Bool :=
  !(s.portLanes p).isEmpty && (s.portLanes p).all (s.laneOk (p / 2)) && (decide (s.fld rPrtCtl 0 1 = 0) || (s.port p).sak.isSome)

/-- Frames of a port discarded, weirs settled first. -/
def State.clearPort (s : State) (p : Nat) : State :=
  let bs := ((s.port p).frames.filterMap (·.basin)).eraseDups
  let s1 := bs.foldl State.weirSettle s
  s1.setPort p { s1.port p with frames := [], guard := none, holdUntil := none }

/-- HOLD ends with the port down: held frames go, its connections are lost and move (R305). -/
def State.holdOver (s : State) (p : Nat) : State :=
  let s1 := s.clearPort p
  (s1.net.conns.filter (fun x => decide (x.2.port = p))).foldl (fun (s : State) (x : Nat × Conn) =>
    match x.2.st with
    | .established => s.loseConn x.1
    | .reopening | .opening => (s.setConn x.1 { s.conn x.1 with port := s.lowPort.getD p }).askConn x.1
    | .closed => s) s1

/-- A port goes down: its frames are held for HOLD, or go at once when HOLD is 0 (R304). -/
def State.portLost (s : State) (p : Nat) : State :=
  let x := s.port p
  if !x.up then s
  else
    let hold := s.fld rTrnCtl 0 16
    let fs := x.frames.map (fun f => { f with held := true })
    let s1 := (s.setPort p { x with up := false, frames := fs, holdUntil := some (s.now + ticksUs hold), downAt := s.now, guard := none }).setFld
      (rEng rPrtEngStat (p / 2)) 15 1 1
    if hold = 0 then s1.holdOver p else s1

/-- `PORT_DOWN`. -/
def execPortDown (port : BitVec 3) (s : State) : Host.Outcome State Fault Refusal := .next (s.portLost port.toNat)

/-- `PORT_UP`: within HOLD the timers of its connections resume where they stopped. -/
def execPortUp (port : BitVec 3) (s : State) : Host.Outcome State Fault Refusal :=
  let p := port.toNat
  let x := s.port p
  if x.up || !s.portFit p then .next s
  else
    let s1 := s.setPort p { x with up := true, holdUntil := none }
    if x.holdUntil.isNone then .next s1
    else
      let gone := s.now - x.downAt
      .next { s1 with net := { s1.net with conns := alMap s1.net.conns (fun _ c =>
        if c.port = p then { c with rtoAt := c.rtoAt.map (· + gone), progressAt := c.progressAt.map (· + gone) } else c) } }

/-- `PORT_HOLD_EXPIRY`. -/
def execPortHoldExpiry (port : BitVec 3) (s : State) : Host.Outcome State Fault Refusal :=
  match (s.port port.toNat).holdUntil with
  | some t => if s.passed t then .next (s.holdOver port.toNat) else .next s
  | none => .next s

/-- The port of an engine that uses a lane, when the mode has one. -/
def State.lanePort (s : State) (e l : Nat) : Option Nat := [2 * e, 2 * e + 1].find? (fun p => (s.portLanes p).contains l)

/-- The ports of lanes taken down. -/
def State.lanesDown (s : State) (e : Nat) (ls : List Nat) : State :=
  (ls.filterMap (s.lanePort e)).eraseDups.foldl State.portLost s

/-- The spare mapped onto a lane, or onto none (15): the ports of the lanes it leaves and takes go down (R276). -/
def State.remapTo (s : State) (e l : Nat) : State :=
  let old := s.spareLane e
  let s1 := (s.setFld (rEng rPrtEngStat e) 10 4 l).setFld (rEng rPrtEngStat e) 14 1 1
  (s1.setEngine e { s1.engine e with remapped := true }).lanesDown e (if old < 8 then [old, l] else [l])

/-- `LANE_REMAP`: a lane fails; with AUTO_REMAP on an engine that has not remapped, the spare takes it over. -/
def execLaneRemap (engine : BitVec 2) (lane : BitVec 3) (s : State) : Host.Outcome State Fault Refusal :=
  let e := engine.toNat
  let l := lane.toNat
  let x := s.engine e
  if s.engMode e = 2 then .next s
  else
    let s1 := s.setEngine e { x with failed := if x.failed.contains l then x.failed else x.failed ++ [l] }
    if s.fld (rEng rPrtEngCtl e) 2 1 = 1 ∧ !x.remapped then .next (s1.remapTo e l)
    else if s.spareLane e = l then .next ((s1.setFld (rEng rPrtEngStat e) 10 4 15).lanesDown e [l])
    else .next (s1.lanesDown e [l])

/-- A write of PRT_ENGn_CTL: reserved values leave their field; a new MODE takes the ports down; a new SPARE_FOR acts as a remap. -/
def State.engCtlWrite (s : State) (e : Nat) (val : W64) : State :=
  let r := rEng rPrtEngCtl e
  let mode := if Sys2Proof.fld val 0 2 = 3 then s.engMode e else Sys2Proof.fld val 0 2
  let spare := Sys2Proof.fld val 8 4
  let s1 := if mode = s.engMode e then s
    else [2 * e, 2 * e + 1].foldl State.portLost s
  let s2 := (s1.setFld r 0 2 mode).setFld r 2 1 (Sys2Proof.fld val 2 1)
  if 8 ≤ spare ∧ spare ≠ 15 then s2
  else
    let s3 := s2.setFld r 8 4 spare
    if spare = s.spareLane e then s3 else s3.remapTo e spare

/-- `PRT_ENG_CTL_WRITE`. -/
def execPrtEngCtlWrite (engine : BitVec 2) (val : BitVec 64) (s : State) : Host.Outcome State Fault Refusal :=
  .next (if s.inService then s.engCtlWrite engine.toNat val else s.turnedAway)

/-! ### MACsec and LLDP (R275, R277) -/

/-- A SAK installed on a port. -/
def State.installSak (s : State) (p : Nat) (k : List Byte) : State :=
  (s.setPort p { s.port p with sak := some k, sakAt := s.now, pn := 0 }).bump (rEng rPrtEngMacsec (p / 2)) 32 16 1

/-- `SAK_REKEY`: a packet number has reached 2^62, or 24 hours have passed; the new SAK is fresh random data (log). -/
def execSakRekey (port : BitVec 3) (s : State) : Host.Outcome State Fault Refusal :=
  let p := port.toNat
  let x := s.port p
  if s.fld rPrtCtl 0 1 = 1 ∧ x.cak.isSome ∧ x.sak.isSome ∧ (2 ^ 62 ≤ x.pn ∨ x.sakAt + 86400 * 2 ^ 30 ≤ s.now) then
    let k := (List.range 4).flatMap (fun i => leBytes 8 (Config.freeValue (s.fresh + i)).toNat)
    .next ({ s with fresh := s.fresh + 4 }.installSak p k)
  else .next s

/-- `MKA_FRAME`: a SAK wrapped under the port's CAK of that name is installed. -/
def execMkaFrame (port : BitVec 3) (ckn sak : List Byte) (s : State) : Host.Outcome State Fault Refusal :=
  match (s.port port.toNat).cak with
  | some (name, key) =>
    if name = ckn then
      match Config.unwrapKey key sak with
      | some k => .next (s.installSak port.toNat (leBytes 32 k.toNat))
      | none => .next s
    else .next s
  | none => .next s

/-- A frame is refused by the port: too long, or protected where it may not be or unprotected where it must be (R274, R277). -/
def State.frameRefused (s : State) (e len : Nat) (prot : Bool) : Option State :=
  if 4352 < len then some (s.bump (rEng rPrtEngStat e) 48 16 1)
  else if len < 64 then some s
  else if s.fld rPrtCtl 0 1 = 1 then (if prot then none else some (s.bump (rEng rPrtEngMacsec e) 48 16 1))
  else if prot then some s else none

/-- `LLDP_FRAME`. -/
def execLldpFrame (port : BitVec 3) (frame : List Byte) (prot : Bool) (s : State) : Host.Outcome State Fault Refusal :=
  let p := port.toNat
  if !(s.port p).up then .next s
  else
    match s.frameRefused (p / 2) frame.length prot with
    | some t => .next t
    | none => .next (s.setPort p { s.port p with neighbour := frame })

/-! ### The scheduler (R311, R312, R316) -/

/-- A frame may start: its weir's credit is at least 0. -/
def State.eligible (s : State) (f : Frame) : Bool :=
  decide (6 ≤ f.tc) || (match f.basin with
    | some b => decide (0 ≤ s.weirNow b)
    | none => true)

/-- Index of a frame's basin in the turns of a class; frames of no basin take turn 64. -/
def Frame.turn (f : Frame) : Nat := f.basin.getD 64

/-- The next frame of a class: the class's basins in turn after the last one served, each basin's frames in order. -/
def State.nextIn (s : State) (p tc : Nat) : Option Frame :=
  let x := s.port p
  let fs := x.frames.filter (fun f => decide (f.tc = tc) && s.eligible f)
  let start := alGetD x.served tc 64 + 1
  fs.foldl (fun (b : Option Frame) f => match b with
    | some g => if (f.turn + 65 - start % 65) % 65 < (g.turn + 65 - start % 65) % 65 then some f else b
    | none => some f) none

/-- One frame taken from a list. -/
def takeFrame (f : Frame) : List Frame → List Frame
  | [] => []
  | g :: gs => if g = f then gs else g :: takeFrame f gs

/-- A frame starts: its weir is charged and the port's packet number rises (R277, R316). -/
def State.startFrame (s : State) (p : Nat) (f : Frame) : State :=
  let s1 := match f.basin with
    | some b => if f.tc < 6 then
        let t := s.weirSettle b
        if (t.basin b).weirOn then t.setBasin b { t.basin b with credit := (t.basin b).credit - (s.countLen f.len * creditUnit : Nat) } else t
      else s
    | none => s
  let x := s1.port p
  let s2 := s1.setPort p { x with frames := takeFrame f x.frames, served := alPut x.served f.tc f.turn, pn := x.pn + s1.fld rPrtCtl 0 1 }
  (match f.basin with
   | some b => if f.tc < 6 then s2.weirSettle b else s2
   | none => s2).send (.frame p f)

/-- Frames of a class sent while the next one fits the deficit (R311). -/
def State.drrSend (s : State) (p tc : Nat) : Nat → State
  | 0 => s
  | n + 1 =>
    match s.nextIn p tc with
    | none => s
    | some f =>
      let x := s.port p
      let len := s.countLen f.len
      if alGetD x.deficit tc 0 < len then s
      else (s.setPort p { x with deficit := alPut x.deficit tc (alGetD x.deficit tc 0 - len) } |>.startFrame p f).drrSend p tc n

/-- One DRR turn: the next class that holds an eligible packet; classes passed over without packets lose their deficit. -/
def State.drrTurn (s : State) (p : Nat) : Nat → State
  | 0 => s
  | n + 1 =>
    let x := s.port p
    let tc := x.turn
    let s1 := s.setPort p { x with turn := (tc + 1) % 6 }
    if !x.frames.any (fun f => decide (f.tc = tc)) then
      (s1.setPort p { s1.port p with deficit := alPut x.deficit tc 0 }).drrTurn p n
    else if (s.nextIn p tc).isNone then s1.drrTurn p n
    else
      let q := s.fld rTrfDrr (8 * tc) 8 * (if s.fld rTrfCtl 0 1 = 0 then 1 else 4416)
      let s2 := (s1.setPort p { s1.port p with deficit := alPut x.deficit tc (alGetD x.deficit tc 0 + q) }).drrSend p tc x.frames.length
      if (s2.port p).frames.any (fun f => decide (f.tc = tc)) then s2
      else s2.setPort p { s2.port p with deficit := alPut (s2.port p).deficit tc 0 }

/-- Packet starts a weir delays, counted once each (R320). -/
def State.countHeld (s : State) (p : Nat) : State :=
  let bad (f : Frame) : Bool := decide (f.tc < 6) && !s.eligible f && !f.counted
  let fs := (s.port p).frames
  let s1 := (fs.filter bad).foldl (fun (s : State) f => match f.basin with
    | some b => s.setBasin b { s.basin b with weirHeld := satAdd 16 (s.basin b).weirHeld 1 }
    | none => s) s
  s1.setPort p { s1.port p with frames := fs.map (fun f => if bad f then { f with counted := true } else f) }

/-- `PORT_FRAME_SELECT`: frames held through an outage first, then the guard, TC7, TC6 and the DRR classes. -/
def execPortFrameSelect (port : BitVec 3) (s0 : State) : Host.Outcome State Fault Refusal :=
  let p := port.toNat
  if !(s0.port p).up then .next s0
  else
    let s := s0.countHeld p
    let x := s.port p
    match x.frames.find? (fun f => f.held && s.eligible f) with
    | some f => .next (s.startFrame p f)
    | none =>
      let low := (List.range 6).any (fun tc => (s.nextIn p tc).isSome)
      let start := x.guard.getD s.now
      let guardUs := s.fld rTrfCtl 8 8
      let s1 := s.setPort p { x with guard := if low then some start else none }
      let drr (s : State) : State :=
        let t := s.drrTurn p 6
        t.setPort p { t.port p with guard := if (List.range 6).any (fun tc => (t.nextIn p tc).isSome) then some t.now else none }
      if low ∧ guardUs ≠ 0 ∧ s.passed (start + ticksUs guardUs) then .next (drr s1)
      else match s1.nextIn p 7, s1.nextIn p 6 with
        | some f, _ => .next (s1.startFrame p f)
        | none, some f => .next (s1.startFrame p f)
        | none, none => .next (drr s1)

/-! ### Meters (R313 to R315) and the settings of both (R319, R320) -/

def State.meter (s : State) (t : Nat) : Meter := alGetD s.net.meters t {}
def State.setMeter (s : State) (t : Nat) (m : Meter) : State := { s with net := { s.net with meters := alPut s.net.meters t m } }

/-- Rates and bursts of a meter. -/
def Meter.cir (m : Meter) : Nat := Sys2Proof.fld m.rate 0 24
def Meter.pir (m : Meter) : Nat := Sys2Proof.fld m.rate 24 24
def Meter.en (m : Meter) : Bool := decide (Sys2Proof.fld m.rate 48 1 = 1)
def Meter.cbs (m : Meter) : Nat := Sys2Proof.fld m.burst 0 24
def Meter.pbs (m : Meter) : Nat := Sys2Proof.fld m.burst 24 24

/-- Both buckets full. -/
def State.meterFull (s : State) (m : Meter) : Meter := { m with ct := s.burstSize m.cbs, pt := s.burstSize m.pbs, at_ := s.now }

/-- Colours of a packet (R314). -/
inductive Colour where
  | green | yellow | red
deriving DecidableEq, Repr

/-- A packet of `bytes` metered. -/
def State.meterPacket (s : State) (t bytes : Nat) : State × Colour :=
  let m := s.meter t
  if !m.en then (s, .green)
  else
    let dt := s.now - m.at_
    let tc := min (s.burstSize m.cbs) (m.ct + s.earned m.cir dt)
    let tp := min (s.burstSize m.pbs) (m.pt + s.earned m.pir dt)
    let b := s.countLen bytes * creditUnit
    if tp < b then (s.setMeter t { m with ct := tc, pt := tp, at_ := s.now }, .red)
    else if tc < b then (s.setMeter t { m with ct := tc, pt := tp - b, at_ := s.now }, .yellow)
    else (s.setMeter t { m with ct := tc - b, pt := tp - b, at_ := s.now }, .green)

/-- A write of TRF_CTL: a new BYTE_MODE or OVERHEAD fills the meters and clears credits and deficits (R319). -/
def State.trfCtlWrite (s : State) (val : W64) : State :=
  let y := if 100 < Sys2Proof.fld val 24 8 then s.fld rTrfCtl 24 8 else Sys2Proof.fld val 24 8
  let s1 := (((s.setFld rTrfCtl 0 1 (Sys2Proof.fld val 0 1)).setFld rTrfCtl 1 6 (Sys2Proof.fld val 1 6)).setFld rTrfCtl 8 8
    (Sys2Proof.fld val 8 8)).setFld rTrfCtl 24 8 y
  if Sys2Proof.fld val 0 7 = s.fld rTrfCtl 0 7 then s1
  else
    let s2 := { s1 with net := { s1.net with meters := alMap s1.net.meters (fun _ m => s1.meterFull m),
                                             ports := alMap s1.net.ports (fun _ p => { p with deficit := [] }) } }
    { s2 with host := { s2.host with basins := alMap s2.host.basins (fun _ b => { b with credit := 0, creditAt := s2.now }) } }

/-- `TRF_CTL_WRITE`. -/
def execTrfCtlWrite (val : BitVec 64) (s : State) : Host.Outcome State Fault Refusal :=
  .next (if s.inService then s.trfCtlWrite val else s.turnedAway)

/-- A write of TRF_MRATE, for the meter of TRF_MSEL; buckets start full when EN rises (R314). A PIR below CIR is reserved and leaves
PIR as it was (R7). -/
def State.mrateWrite (s : State) (val : W64) : State :=
  let t := s.fld rTrfMsel 0 12
  let m := s.meter t
  let cir := Sys2Proof.fld val 0 24
  let pir := if cir ≤ Sys2Proof.fld val 24 24 then Sys2Proof.fld val 24 24 else m.pir
  let en := Sys2Proof.fld val 48 1
  let m1 : Meter := { m with rate := BitVec.ofNat 64 (cir + pir * 2 ^ 24 + en * 2 ^ 48) }
  s.setMeter t (if en = 1 ∧ !m.en then s.meterFull m1 else m1)

/-- `TRF_MRATE_WRITE`. -/
def execTrfMrateWrite (val : BitVec 64) (s : State) : Host.Outcome State Fault Refusal :=
  .next (if s.inService then s.mrateWrite val else s.turnedAway)

end Sys2Proof.Machine
end

