-- ==== Sys2Proof/Machine/Berths.lean ====
section
/-! DEFINITION. Appends and truncations: their plan, the write of a berth, and their completion (R172, R173, R184, R186,
R211 to R214, R410, R411). -/

namespace Sys2Proof.Machine

/-! ### Completion of an append or truncation (R172, R411) -/

def State.setJobs (s : State) (js : List Job) : State := { s with host := { s.host with jobs := js } }
def State.jobOf (s : State) (id : Nat) : Option Job := s.host.jobs.find? (fun j => decide (j.id = id))
def State.dropWrite (s : State) (o : BerthOp) : State := { s with tiers := { s.tiers with writes := s.tiers.writes.erase o } }

/-- A job whose work at the home is done: without DURABLE it completes; with it, it completes with NO_TWIN where no twin
serves, at once when the twin already holds its last record, and otherwise with a later JOURNAL_ACK (R408, R411). -/
def State.jobDone (s : State) (id result : Nat) : State :=
  match s.jobOf id with
  | none => s
  | some j =>
    match j.durable with
    | none => s.finishJob id stOk result
    | some (t, q) =>
      if !s.twinServes then s.finishJob id stNoTwin result
      else if q ≤ (alGetD s.twin.out t {}).durable then s.finishJob id stOk result
      else s.setJobs (s.host.jobs.map (fun x => if x.id = id then { x with left := 0, result := BitVec.ofNat 64 result } else x))

/-- The last JSEQ of a durable job. -/
def State.jobSeq (s : State) (id q : Nat) : State :=
  s.setJobs (s.host.jobs.map (fun x => if x.id = id then { x with durable := x.durable.map (fun d => (d.1, q)) } else x))
def State.jobDurable (s : State) (id : Nat) : Bool := ((s.jobOf id).bind (·.durable)).isSome

/-! ### Lines of a write (R149, R211) -/

/-- Lines that payload bytes [lo, hi) touch. -/
def linesIn (lo hi : Nat) : List Nat := (List.range 256).filter (fun i => decide (lo < 256 * i + 256) && decide (256 * i < hi))

/-- A line of free bytes: what the spec leaves open of an unreadable line's part in a manifest (log). -/
def State.freeLine (s : State) : State × List Byte :=
  ({ s with fresh := s.fresh + 32 }, (List.range 32).flatMap (fun j => leBytes 8 (Config.freeValue (s.fresh + j)).toNat))

/-- One line read through R207, with what the read does to the part. -/
def State.lineOf (s : State) (g : Geo) (k : BerthKey) (slot i : Nat) : State × Option (List Byte) :=
  let r := s.payLine g k slot { st := s, pay := some [] } i
  (r.st, r.pay)

/-- The plaintext of the lines that hold positions below `count`, zeros beyond; an unreadable line gives free bytes. -/
def State.plainOf (s : State) (g : Geo) (k : BerthKey) (slot count : Nat) : State × List Byte :=
  let r := (List.range (min 256 (ceilDiv (count * g.rp) 256))).foldl (fun (acc : State × List Byte) i =>
    match acc.1.lineOf g k slot i with
    | (s1, some b) => (s1, acc.2 ++ b)
    | (s1, none) => let f := s1.freeLine
      (f.1, acc.2 ++ f.2)) (s, [])
  (r.1, padTo 0 65536 r.2)

/-- A slot's poisoned line after a refused partial write, counted and reported (R212). -/
def State.refuseLine (s : State) (k : BerthKey) (slot i : Nat) : State :=
  let s1 := match s.image slot with
    | some im => (match im.lines[i]? with
      | some l => if l.poison then s else s.setImage slot { im with lines := setNth im.lines i (poisonLine l) }
      | none => s)
    | none => s
  (s1.bump rBthLineStat 48 16 1).berthEvent 0x0103 (tierOf slot) i k 0

/-- A line write begun on the lines of a slot: new plaintext coded and sealed with VER one higher (R211 steps 3 to 7). -/
def State.sealLines (s : State) (g : Geo) (k : BerthKey) (img : SlotImage) (pay : List Byte) (is : List Nat) : SlotImage :=
  let base := s.basePayload g k
  { img with lines := is.foldl (fun ls i =>
      match ls[i]? with
      | some l => setNth ls i (sealLine (s.berthKey k) g k pay base i (l.ver + 1))
      | none => ls) img.lines }

/-- An empty berth: 256 ZERO lines, an unset manifest (log: the first VER of a line is not stated). -/
def blankImage (key : BitVec 256) (g : Geo) (k : BerthKey) : SlotImage :=
  { lines := (List.range 256).map (fun i => sealLine key g k [] none i 0), man := ⟨[], [], 0⟩,
    label := ⟨k.object, k.tenant, k.layer, k.berth, 0, 0⟩ }

/-- A stored line that depends on the base (R199). -/
def codedLine (l : StoredLine) : Bool := decide (l.lcode = 1) || decide (l.lcode = 3)

/-! ### Manifest, entry and journal of a write (R150, R172, R184, R186, R410) -/

/-- SINK and RECENT of a layer's entries brought up to date. -/
def State.protectLayer (s : State) (k : LayerKey) : State :=
  match s.layer k, s.obj k.tenant k.object with
  | some l, some o => s.setLayer k (l.protect o)
  | _, _ => s

/-- The manifest of a berth written afresh from a payload; κ_L rises with it; MAN_BAD clears (R151, R152, R160). -/
def State.writeManifest (s : State) (k : BerthKey) (pay : List Byte) : State :=
  match s.obj k.tenant k.object, s.layer k.lk, s.pte k with
  | some o, some l, some p =>
    match s.image p.slot with
    | none => s
    | some img =>
      let man := buildManifest o.geo (manHead k o l p p.coded) pay
      let s1 := s.setImage p.slot { img with man := sealManifest (s.berthKey k) k man
                                             label := { img.label with gen := p.gen } }
      (s1.setLayer k.lk { l with kappa := fMax l.kappa (o.geo.manKappa man) }).setPte k { p with manBad := false }
  | _, _, _ => s

/-- The records of a written berth: its changed lines, and COUNT after a truncation (R409, R411). The last JSEQ is answered. -/
def State.journalWrite (s : State) (k : BerthKey) (is : List Nat) (durable trunc : Bool) : State × Nat :=
  match s.pte k with
  | none => (s, 0)
  | some p =>
    match s.image p.slot with
    | none => (s, 0)
    | some img =>
      if !s.journalling then (s, 0)
      else
        let t := s.travelImage s.twinPkg k img
        let r := t.1.journal k p.gen p.count durable (.lines (is.filterMap (fun i => (t.2.lines[i]?).map (fun l => (i, l)))))
        if trunc then r.1.journal k p.gen p.count durable .count else r

/-- A berth in stacked DRAM rewritten to a new payload and COUNT: the changed lines, then the manifest, GEN, COUNT, the
score snapshot, protection and journal records, in the order of R172. -/
def State.rewrite (s : State) (k : BerthKey) (pay : List Byte) (count : Nat) (is : List Nat) : State :=
  match s.obj k.tenant k.object, s.layer k.lk, s.pte k with
  | some o, some l, some p =>
    match s.image p.slot with
    | none => s
    | some img =>
      let img1 := s.sealLines o.geo k img pay is
      let p1 := { scoreStep o l.sweeps p 0 with count := count, gen := (p.gen + 1) % 2 ^ 32, coded := img1.lines.any codedLine }
      ((((s.setImage p.slot img1).setPte k p1).protectLayer k.lk).writeManifest k pay).dropCopy k
  | _, _, _ => s

/-! ### Turns (R213, R214) -/

/-- Positions per berth of an operation's object. -/
def State.opP (s : State) (o : BerthOp) : Nat := ((s.obj o.key.tenant o.key.object).map (·.p)).getD 1

/-- The parts of an append: berth, first record in it, records, records before them in the data. -/
def appendParts (p first count : Nat) : List (Nat × Nat × Nat × Nat) :=
  (List.range (ceilDiv (first % p + count) p)).map (fun i =>
    let j := if i = 0 then first % p else 0
    let skip := i * p - (if i = 0 then 0 else first % p)
    (first / p + i, j, min (p - j) (count - skip), skip))

/-- Homes whose lines an operation writes. -/
def State.opHomes (s : State) (o : BerthOp) : List (BerthKey × Pte) :=
  let p := s.opP o
  let bs := if o.truncate then [o.first / p] else (appendParts p o.first o.count).map (·.1)
  bs.filterMap (fun b =>
    let k : BerthKey := { o.key with berth := b }
    match s.pte k with
    | some e => if (e.state = 1 ∨ e.state = 2) ∧ !(o.truncate && decide (e.count ≤ o.first % p)) then some (k, e) else none
    | none => none)

/-- Whether an operation's turn has come: the first of its layer, every home it writes in stacked DRAM with no staging read
in progress. -/
def State.opReady (s : State) (o : BerthOp) : Bool :=
  decide ((s.tiers.writes.find? (fun x => decide (x.key.lk = o.key.lk))) = some o)
    && (s.opHomes o).all (fun h => !isFlash h.2.slot && decide (s.readsOf h.2.slot = 0))

/-- Homes in flash that an operation reaches are barged to stacked DRAM first; another barge of theirs is given up, and one
it breaks off is not retried for 1,073,742 ticks (R178, R214). -/
def State.opFetch (s : State) (o : BerthOp) : State :=
  (s.opHomes o).foldl (fun (s : State) (h : BerthKey × Pte) =>
    let busy := (alGet s.tiers.barges h.1).isSome
    let why := (alGet s.tiers.barges h.1).map (·.why)
    if !isFlash h.2.slot then
      if busy then
        let s1 := s.abortBarge h.1
        { s1 with tiers := { s1.tiers with noRetry := alPut s1.tiers.noRetry h.1 (s.now + 1073742) } }
      else s
    else if why = some BargeWhy.recode then s
    else (s.abortBarge h.1).queueBarge { key := h.1, why := .recode, toFlash := false }) s

/-! ### Appends (R172) -/

/-- Why a berth cannot take the next records of an append: status and result. -/
def State.appendBar (s : State) (k : BerthKey) (j : Nat) : Option (Nat × Nat) :=
  match s.pte k with
  | none => if j = 0 then none else some (stPositionOrder, 0)
  | some e =>
    if e.state = 4 then some (stStaleMap, e.newpkg)
    else if e.state = 6 then some (stTenantRetired, 0)
    else if (e.state = 1 ∨ e.state = 2) ∧ e.count = j then none
    else some (stPositionOrder, 0)

/-- A berth opened: table room, a slot in stacked DRAM, an empty image, a RESIDENT entry (R165, R172, R182); the peers
learn the first home of a HOME block (R227). -/
def State.openBerth (s : State) (k : BerthKey) (o : Obj) : Except (Nat × State) State :=
  let rooted : Except (Nat × State) State := if (s.layer k.lk).isSome then .ok s else s.newRoot k.lk o.basin o.p
  match rooted with
  | .error e => .error e
  | .ok s1 =>
    if !s1.tableRoom k then .error (stPtAreaFull, s.setFld rBthPtStat 20 1 1)
    else
      match s1.takeDram k .home with
      | .error e => .error (e, s)
      | .ok (s2, n) =>
        let sweeps := ((s2.layer k.lk).map (·.sweeps)).getD 0
        let first := s2.homesInBlock k = 0
        let s3 := s2.setSlot n { s2.slot n with img := some (blankImage (s2.berthKey k) o.geo k) }
        let s4 := s3.setPte k { slot := n, state := 1, stamp := sweeps % 2 ^ 16, epoch := s.epoch, basin := o.basin, arrived := s.arrivedNow }
        .ok (if first then s4.homeNotes k true else s4)

/-- Berths an append opens, in order; the first refusal undoes all of them. -/
def State.openAll (s0 : State) (o : Obj) : List BerthKey → State → Except (Nat × State) State
  | [], s => .ok s
  | k :: ks, s =>
    if (s.pte k).isSome then s0.openAll o ks s
    else
      match s.openBerth k o with
      | .error (e, _) => .error (e, if e = stPtAreaFull then s0.setFld rBthPtStat 20 1 1
          else if e = stLedgerFull then s0.setFld rLdgStat 38 1 1 else s0)
      | .ok t => s0.openAll o ks t

/-- The records of one berth of an append written; a failed partial line refuses the append (R211, R212). -/
def State.appendBerth (s : State) (o : Obj) (k : BerthKey) (j n : Nat) (recs : List Byte) : Except State State :=
  match s.pte k with
  | none => .error s
  | some p =>
    let g := o.geo
    let lo := j * g.rp
    let edge := lo / 256
    let t := if lo % 256 = 0 then (s, some []) else s.lineOf g k p.slot edge
    match t.2 with
    | none => .error (t.1.refuseLine k p.slot edge)
    | some _ =>
      let old := t.1.plainOf g k p.slot j
      let pay := padTo 0 65536 (old.2.take lo ++ recs.take (n * g.rp))
      let is := linesIn lo (lo + n * g.rp)
      .ok (old.1.rewrite k pay (j + n) is)

/-- A berth's consequences once it is written: journal records, graph entry and COLD barge of a full one, pressure. -/
def State.appended (s : State) (o : Obj) (k : BerthKey) (lo hi job : Nat) : State :=
  let r := s.journalWrite k (linesIn lo hi) (s.jobDurable job) false
  let s1 := if r.2 = 0 then r.1 else r.1.jobSeq job r.2
  let full := decide (((s1.pte k).map (·.count)) = some o.p)
  let s2 := if full ∧ !s1.tiers.graphQ.contains k then { s1 with tiers := { s1.tiers with graphQ := s1.tiers.graphQ ++ [k] } } else s1
  if full ∧ o.cls = 2 then s2.queueBarge { key := k, why := .fill, toFlash := true } else s2

/-- The part of an append that no refusal of its plan stops: every berth opened, then the records written in order. -/
def State.appendAll (s : State) (op : BerthOp) (o : Obj) (parts : List (Nat × Nat × Nat × Nat)) : State :=
  let key (b : Nat) : BerthKey := { op.key with berth := b }
  let keys := parts.map (fun q => key q.1)
  let rp := o.geo.rp
  match s.openAll o keys s with
  | .error (e, t) => t.finishJob op.job e 0
  | .ok t =>
    let run := parts.foldl (fun (acc : Except State State) q =>
      match acc with
      | .error v => .error v
      | .ok u =>
        match u.appendBerth o (key q.1) q.2.1 q.2.2.1 (op.data.drop (q.2.2.2 * rp)) with
        | .ok v => .ok (v.appended o (key q.1) (q.2.1 * rp) ((q.2.1 + q.2.2.1) * rp) op.job)
        | .error v => .error v) (.ok t)
    match run with
    | .error u => ((keys.filter (fun k => (s.pte k).isNone)).foldl (fun s k => s.freeBerth k false) u).finishJob op.job stLinePoisoned 0
    | .ok u => (u.pressure op.key.tenant).jobDone op.job (((parts.getLast?).map (fun q => q.2.1 + q.2.2.1)).getD 0)

/-- The package an object has moved to, once its move has taken effect (R355). -/
def Obj.movedTo (o : Obj) : Option Nat := if o.moveEffect then o.moving else none

/-- An append at its turn: refusals first. -/
def State.runAppend (s0 : State) (op : BerthOp) : State :=
  let s := s0.dropWrite op
  match s.obj op.key.tenant op.key.object with
  | none => s.finishJob op.job stNotFound 0
  | some o =>
    let parts := appendParts o.p op.first op.count
    if !s.active op.key.tenant then s.finishJob op.job stTenantRetired 0
    else
      match o.movedTo, parts.findSome? (fun q => s.appendBar { op.key with berth := q.1 } q.2.1) with
      | some pkg, _ => s.finishJob op.job stStaleMap pkg
      | none, some (e, r) => s.finishJob op.job e r
      | none, none => s.appendAll op o parts

/-! ### Truncation (R173) -/

/-- A DROPPED berth truncated: its manifest keeps means, radii and row sums below the new COUNT; GEN and COUNT follow. -/
def State.truncDropped (s : State) (k : BerthKey) (o : Obj) (p : Pte) (c : Nat) : State :=
  let p1 := { p with count := c, gen := (p.gen + 1) % 2 ^ 32 }
  let g := o.geo
  match s.readManifest k with
  | (s1, none) => s1.setPte k { p1 with manBad := ((s1.pte k).map (·.manBad)).getD p.manBad }
  | (s1, some man) =>
    let cut := (List.range g.nkv).foldl (fun m h =>
      m.take (g.rsOff + 3 * (h * g.p + c)) ++ List.replicate (3 * (g.p - c)) 0 ++ m.drop (g.rsOff + 3 * (h * g.p + g.p))) man
    let man1 := cut.take 0x10 ++ leBytes 2 c ++ cut.drop 0x12
    let x := s1.slot p.shadow
    (s1.setSlot p.shadow { x with pack := alPut x.pack p.shadowIx (k, sealManifest (s1.berthKey k) k man1) }).setPte k { p1 with manBad := false }

/-- The berth that holds the first invalid position, cut to `c` positions; a failed partial line refuses the truncation. -/
def State.cutBerth (s : State) (k : BerthKey) (o : Obj) (c job : Nat) : Except State State :=
  match s.pte k with
  | none => .ok s
  | some p =>
    if !p.home ∨ p.count ≤ c then .ok s
    else if p.state = 5 then
      if c = 0 then .ok s
      else
        let t := s.truncDropped k o p c
        let r := t.journal k ((p.gen + 1) % 2 ^ 32) c (t.jobDurable job) .count
        .ok (if r.2 = 0 then r.1 else r.1.jobSeq job r.2)
    else
      let g := o.geo
      let lo := c * g.rp
      let t := if lo % 256 = 0 then (s, some []) else s.lineOf g k p.slot (lo / 256)
      match t.2 with
      | none => .error (t.1.refuseLine k p.slot (lo / 256))
      | some _ =>
        let old := t.1.plainOf g k p.slot c
        let is := linesIn lo (p.count * g.rp)
        let s1 := old.1.rewrite k (padTo 0 65536 (old.2.take lo)) c is
        let s2 := if c = 0 then s1.plbInval [k] else s1
        let r := s2.journalWrite k is (s2.jobDurable job) true
        .ok (if r.2 = 0 then r.1 else r.1.jobSeq job r.2)

/-- A truncation at its turn. -/
def State.runTruncate (s0 : State) (op : BerthOp) : State :=
  let s := s0.dropWrite op
  match s.obj op.key.tenant op.key.object, s.layer op.key.lk with
  | none, _ => s.finishJob op.job stNotFound 0
  | some _, none => s.finishJob op.job stOk 0
  | some o, some l =>
    if !s.active op.key.tenant then s.finishJob op.job stTenantRetired 0
    else if o.movedTo.isSome then s.finishJob op.job stStaleMap (o.moving.getD 0)
    else if l.nextPos o.p ≤ op.first then s.finishJob op.job stOk 0
    else
      let b := op.first / o.p
      let c := op.first % o.p
      let key (x : Nat) : BerthKey := { op.key with berth := x }
      match s.cutBerth (key b) o c op.job with
      | .error t => t.finishJob op.job stLinePoisoned 0
      | .ok t =>
        let gone := sortNat ((l.ptes.filter (fun e => e.2.home &&
          (decide (b < e.1) || (decide (e.1 = b) && decide (c = 0) && decide (e.2.state = 5))))).map (·.1))
        let seq0 := (alGetD t.twin.out op.key.tenant {}).next
        let u := gone.foldl (fun s x => s.freeBerth (key x) true) t
        let seq1 := (alGetD u.twin.out op.key.tenant {}).next
        let u1 := if seq0 < seq1 then u.jobSeq op.job (seq1 - 1) else u
        ((u1.protectLayer op.key.lk).dropRoot op.key.lk).jobDone op.job gone.length

/-! ### Commands -/

/-- Operations whose turn has come carried out, in the order they were taken. -/
def State.runWrites (s : State) : Nat → State
  | 0 => s
  | n + 1 =>
    match s.tiers.writes.find? (fun o => s.opReady o) with
    | none => s
    | some o =>
      let s1 := s.opFetch o
      (if o.truncate then s1.runTruncate o else s1.runAppend o).runWrites n

/-- An operation queued for its turn: flash homes it reaches are fetched, and it runs at once where nothing holds it. -/
def State.queueOp (s : State) (o : BerthOp) : State :=
  let s1 := { s with tiers := { s.tiers with writes := s.tiers.writes ++ [o] } }
  (s1.opFetch o).runWrites (s1.tiers.writes.length)

/-- A descriptor's job for an append or truncation. -/
def State.writeJob (s : State) (d : Dsc) : State :=
  s.addJob { d.job with left := 1, durable := if d.f 1 1 / 2 % 2 = 1 then some (d.tenant, 0) else none }

/-- Disturbances of the stored bytes an operation reads first. -/
def State.upsetBerth (s : State) (k : BerthKey) (ups : List Upset) : State :=
  match (s.pte k).bind (fun p => (s.image p.slot).map (fun i => (p.slot, i))) with
  | some (n, img) => if ups.isEmpty then s else s.setImage n (upsetAll img ups)
  | none => s

/-- `APPEND`. -/
def doAppend (ups : List Upset) (d : Dsc) (s : State) : State :=
  let object := d.f 0x10 4
  match s.obj d.tenant object with
  | none => s.fin d stNotFound 0
  | some o =>
    let first := d.f 0x18 4
    let count := d.f 0x1C 4
    let n := count * o.geo.rp
    if o.basin ≠ d.basin then s.fin d stNotFound 0
    else if count = 0 ∨ 65536 < count ∨ 2 ^ 25 * o.p < first + count then s.fin d stInvalidField 0
    else if !s.inHost d.basin (d.f 0x20 8) n then s.fin d stAccessDenied 0
    else
      let k : BerthKey := ⟨d.tenant, object, d.f 0x14 2, first / o.p⟩
      let s1 := (s.upsetBerth k ups).writeJob d
      s1.queueOp { key := k, basin := d.basin, first := first, count := count, data := s1.buffer (d.f 0x20 8) n, truncate := false,
                   job := s.host.nextJob }

def execAppend (basin : BitVec 6) (ring : BitVec 8) (ups : List Upset) (s : State) : Host.Outcome State Fault Refusal :=
  .next (serve 0x06 (tenantDsc (doAppend ups)) basin.toNat ring.toNat s)

/-- `TRUNCATE`. -/
def doTruncate (ups : List Upset) (d : Dsc) (s : State) : State :=
  let object := d.f 0x10 4
  match s.obj d.tenant object with
  | none => s.fin d stNotFound 0
  | some o =>
    let pos := d.f 0x18 4
    let k : BerthKey := ⟨d.tenant, object, d.f 0x14 2, pos / o.p⟩
    if o.basin ≠ d.basin then s.fin d stNotFound 0
    else
      match o.movedTo with
      | some pkg => s.fin d stStaleMap pkg
      | none =>
        let s1 := (s.upsetBerth k ups).writeJob d
        s1.queueOp { key := k, basin := d.basin, first := pos, count := 0, data := [], truncate := true, job := s.host.nextJob }

def execTruncate (basin : BitVec 6) (ring : BitVec 8) (ups : List Upset) (s : State) : Host.Outcome State Fault Refusal :=
  .next (serve 0x07 (tenantDsc (doTruncate ups)) basin.toNat ring.toNat s)

/-- `BERTH_WRITE` (R211, R213): the waiting operation that begins in a berth, once its turn has come. -/
def execBerthWrite (k : BerthKey) (s : State) : Host.Outcome State Fault Refusal :=
  match s.tiers.writes.find? (fun o => decide (o.key = k)) with
  | none => .next s
  | some o =>
    if s.opReady o then
      let s1 := s.opFetch o
      .next ((if o.truncate then s1.runTruncate o else s1.runAppend o).runWrites s1.tiers.writes.length)
    else .next s

end Sys2Proof.Machine
end

