-- ==== Sys2Proof/Machine/Compose.lean ====
section
/-! DEFINITION. Composition of basins: the queue of operations, COMPOSE, RESIZE, DECOMPOSE, BASIN_TENANT, MAP_EPOCH, the start of
a tenant's removal, cluster passes (R347 to R353, R356, R379, R380). -/

namespace Sys2Proof.Machine

/-! ### Clusters and shares -/

/-- A cluster in service. -/
def State.clusterUp (s : State) (c : Nat) : Bool := !(s.cluster c).failed && !(s.region (c / 16)).out

/-- Clusters of a basin, and those of them in service. -/
def State.clustersOf (s : State) (b : Nat) : List Nat := (List.range 512).filter (fun c => decide ((s.cluster c).owner = some b))
def State.upOf (s : State) (b : Nat) : List Nat := (s.clustersOf b).filter s.clusterUp

/-- A run of `n` units from `lo` below `hi` that meets no range of `used`, lowest first. -/
def lowestRun (used : List (Nat × Nat)) (lo hi n : Nat) : Option Nat :=
  (sortNat (lo :: used.map (fun u => u.1 + u.2))).find? (fun a =>
    decide (lo ≤ a) && decide (a + n ≤ hi) && used.all (fun u => decide (u.2 = 0) || decide (a + n ≤ u.1) || decide (u.1 + u.2 ≤ a)))

/-- Runs of slots and of MiB that composed basins hold. -/
def State.hostRuns (s : State) : List (Nat × Nat) :=
  (s.host.basins.filter (fun p => decide (p.2.st ≠ 0))).map (fun p => (p.2.hostBase, p.2.hostSlots))
def State.moorRuns (s : State) : List (Nat × Nat) :=
  (s.host.basins.filter (fun p => decide (p.2.st ≠ 0))).map (fun p => (p.2.moorBase, p.2.moorLen))

/-! ### Emptying a run of slots (R351 step 2) -/

/-- A stacked-DRAM slot for a home that leaves a new host area: the tenant's use does not grow, so its quota does not
count. -/
def State.takeHost (s : State) (k : BerthKey) : Except Nat (State × Nat) :=
  match s.freeSlot with
  | none => .error stNoSlot
  | some n => .ok ((s.evictCopyAt n).setSlot n { st := .reserved, key := some k, tenant := k.tenant }, n)

/-- A pack, graph or working-copy slot moved whole to another slot: the entries that name it follow. -/
def State.moveSlot (s : State) (n : Nat) : State :=
  match s.freeSlot with
  | none => s
  | some m =>
    let x := s.slot n
    let s1 := (s.evictCopyAt m).setSlot m x
    let s2 : State := { s1 with tiers := { s1.tiers with slots := alDel s1.tiers.slots n } }
    let s3 := x.pack.foldl (fun (s : State) (q : Nat × (BerthKey × StoredManifest)) => s.modPte q.2.1 (fun p => { p with shadow := m })) s2
    match x.st, x.key with
    | .working, some k => (match s3.jentry k with
      | some e => s3.setJentry k { e with working := some m }
      | none => s3)
    | .graph, _ =>
      s3.setLedger { s3.ledger with entries := alMap s3.ledger.entries (fun _ e =>
        if e.sound && decide (kfld e.key 0 4 = 3) && decide (vfld e.val 0 23 = n) then LEntry.make e.key e.care (Sys2Proof.setFld e.val 0 23 m) else e) }
    | _, _ => s3

/-- The barge out of a slot: one already queued for the berth gives way to it. -/
def State.hostBarge (s : State) (k : BerthKey) : State :=
  if (alGet s.tiers.barges k).isSome then s
  else
    let s1 : State := { s with tiers := { s.tiers with bargeQ := s.tiers.bargeQ.filter (fun q => decide (q.key ≠ k)) } }
    s1.queueBarge { key := k, why := .host, toFlash := false }

/-- One slot of a run being emptied: a home is barged out, a barge toward it is given up and queued again, packs and graph
slots move. -/
def State.emptySlot (s : State) (n : Nat) : State :=
  let x := s.slot n
  match x.st, x.key with
  | .home, some k => s.hostBarge k
  | .reserved, some k =>
    match alGet s.tiers.barges k with
    | none => s
    | some b =>
      if b.dest ≠ n then s
      else
        let s1 := s.abortBarge k
        if b.incoming then s1 else s1.queueBarge { key := k, why := b.why, toFlash := false }
  | .pack, _ => s.moveSlot n
  | .graph, _ => s.moveSlot n
  | .working, _ => s.moveSlot n
  | _, _ => s

/-- Slots of a run in use. -/
def State.usedIn (s : State) (lo n : Nat) : List Nat :=
  (s.tiers.slots.filter (fun p => decide (lo ≤ p.1) && decide (p.1 < lo + n) && decide (p.2.st ≠ .free))).map (·.1)

/-- A run being emptied: staging copies in it are dropped, its slots given up. -/
def State.emptyRun (s : State) (lo n : Nat) : State :=
  let s1 : State := { s with tiers := { s.tiers with copies := s.tiers.copies.filter (fun p => decide (p.2.slot < lo) || decide (lo + n ≤ p.2.slot)) } }
  (s1.usedIn lo n).foldl State.emptySlot s1

/-! ### TENANT entries (R220, R353) -/

/-- A basin's bit in a tenant's TENANT entry set, or cleared; an entry without a bit is deleted. -/
def State.tenantBit (s : State) (t b : Nat) (on : Bool) : Except (Nat × State) State :=
  let old := match s.ldgSame (tenantKeyOf t) tenantCare with
    | some i => (s.ldgEntry i).val
    | none => 0
  let bit : W64 := BitVec.ofNat 64 (2 ^ b)
  let bs := s.basin b
  if on then
    match s.ldgAdd (tenantKeyOf t) tenantCare (old ||| bit) with
    | .error e => .error e
    | .ok u => .ok (u.setBasin b { bs with tenants := if bs.tenants.contains t then bs.tenants else bs.tenants ++ [t] })
  else
    let val := old &&& ~~~bit
    let s1 := if val = 0 then s.ldgDrop (tenantKeyOf t) tenantCare else
      match s.ldgSame (tenantKeyOf t) tenantCare with
      | some i => s.ldgPut i (LEntry.make (tenantKeyOf t) tenantCare val)
      | none => s
    .ok (s1.setBasin b { bs with tenants := bs.tenants.filter (fun x => decide (x ≠ t)) })

/-! ### Base objects of a basin (R194, R196, R376) -/

/-- A bound base object taken off the part. -/
def State.freeBase (s : State) (b object : Nat) : State :=
  let t := baseTenant b
  let s1 := (s.homesOf t object).foldl (fun s k => s.freeBerth k false) s
  let s2 := (s1.layersOf t object).foldl State.dropRoot s1
  { s2 with tiers := { s2.tiers with objects := alDel s2.tiers.objects (t, object) } }

/-! ### Field checks (R350 to R353) -/

/-- Clusters of a descriptor's mask. -/
def Dsc.mask (d : Dsc) : List Nat := (List.range 512).filter (fun c => (d.f 0x40 64).testBit c)

/-- Fields of COMPOSE and RESIZE other than BASIN, in the order of R350's table. -/
def Dsc.shareOk (d : Dsc) : Bool :=
  decide (d.f 0x12 2 ≤ 4080) && decide (d.f 0x14 4 ≠ 0) && decide (16 ≤ d.f 0x18 4) && decide (d.f 0x18 4 ≤ 786432)
    && decide (1 ≤ d.f 0x1C 1) && decide (d.f 0x20 2 ≤ 512)

/-- Whether the key of a descriptor, where it carries one, lies in basin 0's host area. -/
def State.pkeyOk (s : State) (d : Dsc) : Bool := decide (d.f 0x11 1 % 2 = 0) || s.inHost 0 (d.f 0x30 8) 2592

/-- What refuses a cluster mask for basin b: no cluster or one out of service, one of another basin, basin 0 left empty. -/
def State.maskRefuse (s : State) (b : Nat) (mask : List Nat) : Option Nat :=
  if mask.isEmpty ∨ mask.any (fun c => !s.clusterUp c) then some stInvalidField
  else if mask.any (fun c => match (s.cluster c).owner with
      | some o => decide (o ≠ 0) && decide (o ≠ b)
      | none => false) then some stClusterTaken
  else if (s.upOf 0).all (fun c => mask.contains c) then some stInvalidField else none

/-- The basin a COMPOSE names; 0xFF takes the lowest FREE one. -/
def State.composeBasin (s : State) (d : Dsc) : Except Nat Nat :=
  let b := d.f 0x10 1
  if b = 0xFF then
    match ((List.range 63).map (· + 1)).find? (fun x => decide ((s.basin x).st = 0)) with
    | some x => .ok x
    | none => .error stComposeFull
  else if b = 0 ∨ 63 < b then .error stInvalidField
  else if (s.basin b).st ≠ 0 then .error stBasinExists
  else .ok b

/-! ### Steps -/

/-- What one advance of an operation gives: the state, and the operation where it has not ended. -/
structure Advance where
  st : State
  op : Option ComposeOp := none

/-- COMPOSE steps 1 and 2. -/
def State.composeStart (s : State) (o : ComposeOp) (d : Dsc) : Advance :=
  match s.composeBasin d with
  | .error e => { st := s.fin d e 0 }
  | .ok b =>
    if !d.shareOk then { st := s.fin d stInvalidField 0 }
    else if !s.pkeyOk d then { st := s.fin d stAccessDenied 0 }
    else
      match s.maskRefuse b d.mask with
      | some e => { st := s.fin d e 0 }
      | none =>
        let n := d.f 0x18 4
        match lowestRun s.hostRuns 4194304 4980736 n with
        | none => { st := s.fin d stNoSlot 0 }
        | some base =>
          let s1 := s.setBasin b { st := 1, hostBase := base, hostSlots := n }
          if s1.dramFree < (s1.usedIn base n).length then { st := s.fin d stNoSlot 0 }
          else { st := s1.emptyRun base n, op := some { o with step := 1, basin := b } }

/-- Steps 3 and 4, and the passes of step 5 begun. -/
def State.composeTake (s : State) (o : ComposeOp) (d : Dsc) : Advance :=
  let b := o.basin
  let n := d.f 0x20 2
  let undo (e : Nat) : Advance := { st := (s.setBasin b {}).fin d e 0 }
  match (if n = 0 then some 0 else lowestRun s.moorRuns 0 512 n) with
  | none => undo stMooringFull
  | some m =>
    let chb := d.f 0x12 2
    match (if chb = 0 then some 0 else s.chamberRun b chb) with
    | none => undo stChamberFull
    | some r =>
      let s1 := s.setBasin b { s.basin b with moorBase := m, moorLen := n }
      let s2 := if chb = 0 then s1 else s1.giveBlocks b r chb
      let s3 := d.mask.foldl (fun (s : State) c => s.setCluster c { s.cluster c with passing := some b }) s2
      { st := s3, op := some { o with step := 2, clusters := d.mask } }

/-- Weir, weight, flash mask and, with KEY, the program key of a descriptor. -/
def State.installShare (s : State) (d : Dsc) (b : Basin) : Basin :=
  let rate := d.f 0x24 4 % 2 ^ 24
  { b with dramW := d.f 0x1C 1, flash := BitVec.ofNat 32 (d.f 0x14 4), rate := rate, cap := d.f 0x28 4 % 2 ^ 24,
           weirOn := decide (rate ≠ 0), credit := if b.weirOn && decide (rate ≠ 0) then b.credit else 0,
           creditAt := if b.weirOn && decide (rate ≠ 0) then b.creditAt else s.now,
           pkey := if d.f 0x11 1 % 2 = 1 then some (memReadN s.dram (d.f 0x30 8) 2592) else b.pkey }

/-- Steps 6 and 7. -/
def State.composeEnd (s : State) (o : ComposeOp) (d : Dsc) : State :=
  let b := s.basin o.basin
  let dram := memZero (memZero s.dram b.hostLo (b.hostHi - b.hostLo)) b.moorLo (b.moorHi - b.moorLo)
  let b1 : Basin := s.installShare d { b with
    st := 2,
    sqs := [(0, { base := b.hostLo, log2 := 8, cq := 0 })],
    cqs := [(0, { base := b.hostLo + 0x8000, log2 := 10 })] }
  ((s.setDram dram).setBasin o.basin b1).fin d stOk o.basin

/-- RESIZE up to its passes: steps 1, 4 and 5. -/
def State.resizeStart (s : State) (o : ComposeOp) (d : Dsc) : Advance :=
  let b := d.f 0x10 1
  let bs := s.basin b
  if b = 0 ∨ 63 < b ∨ bs.st ≠ 2 ∨ !d.shareOk ∨ d.f 0x18 4 ≠ bs.hostSlots ∨ d.f 0x20 2 ≠ bs.moorLen then { st := s.fin d stInvalidField 0 }
  else if !s.pkeyOk d then { st := s.fin d stAccessDenied 0 }
  else
    match s.maskRefuse b d.mask with
    | some e => { st := s.fin d e 0 }
    | none =>
      let chb := d.f 0x12 2
      match (if chb = 0 then some 0 else s.chamberRun b chb) with
      | none => { st := s.fin d stChamberFull 0 }
      | some r =>
        let s1 := if chb = 0 then s else s.giveBlocks b r chb
        let more := d.mask.filter (fun c => decide ((s.cluster c).owner ≠ some b))
        let less := (s.upOf b).filter (fun c => !d.mask.contains c)
        let pass (b2 : Nat) (s : State) (c : Nat) : State := s.setCluster c { s.cluster c with passing := some b2 }
        { st := less.foldl (pass 0) (more.foldl (pass b) s1), op := some { o with step := 2, basin := b, clusters := more ++ less } }

/-- What a DECOMPOSE still finds in a basin (R352). -/
def State.notEmpty (s : State) (b : Nat) : Bool :=
  s.tiers.objects.any (fun p => decide (p.2.basin = b) && !p.2.isBase)
    || s.tiers.layers.any (fun p => p.2.ptes.any (fun e => decide (e.2.state = 3) && decide (e.2.basin = b)))
    || s.net.conns.any (fun p => decide (p.2.st ≠ .closed) && decide (p.2.kind = 0) && decide (p.2.basin = b))
    || s.net.moorings.any (fun p => decide (p.2.st ≠ 0) && decide (p.2.basin = b))
    || s.sweeps.accepted.any (fun p => decide (p.2.basin = b))

/-- DECOMPOSE up to its passes: checks, steps 1 and 2. -/
def State.decomposeStart (s : State) (o : ComposeOp) (d : Dsc) : Advance :=
  let b := d.f 0x10 1
  if b = 0 ∨ 63 < b then { st := s.fin d stInvalidField 0 }
  else if (s.basin b).st ≠ 2 then { st := s.fin d stNotFound 0 }
  else if s.notEmpty b then { st := s.fin d stBasinNotEmpty 0 }
  else
    let mine := s.clustersOf b
    let s1 := s.setBasin b { s.basin b with st := 3 }
    let s2 := mine.foldl (fun (s : State) c => s.setCluster c { s.cluster c with passing := some 0 }) s1
    { st := s2, op := some { o with step := 2, basin := b, clusters := mine } }

/-- DECOMPOSE steps 3 to 8. -/
def State.decomposeEnd (s : State) (o : ComposeOp) (d : Dsc) : State :=
  let b := o.basin
  let bs := s.basin b
  let blocks := (List.range 4096).filter (fun i => (s.chamber (16 * i)).alloc && decide ((s.chamber (16 * i)).owner = b))
  let s1 := blocks.foldl (fun (s : State) i => s.freeBlocks i 1) s
  let s2 := (bs.binds.filter (fun x => decide (x.kind = 1))).foldl (fun (s : State) (x : Binding) => s.freeBase b x.object) s1
  let s3 : State := { s2 with sweeps := { s2.sweeps with flights := s2.sweeps.flights.filter (fun f => decide (f.basin ≠ b)),
                                                         handed := s2.sweeps.handed.filter (fun h => decide (h.1 ≠ b)) } }
  let s4 := s3.setDram (memZero (memZero s3.dram bs.hostLo (bs.hostHi - bs.hostLo)) bs.moorLo (bs.moorHi - bs.moorLo))
  let s5 := bs.tenants.foldl (fun (s : State) t => match s.tenantBit t b false with
    | .ok u => u
    | .error e => e.2) s4
  (s5.setBasin b {}).fin d stOk 0

/-- BASIN_TENANT (R353). -/
def State.basinTenant (s : State) (d : Dsc) : State :=
  let b := d.f 0x10 1
  let act := d.f 0x11 1
  let t := d.tenant
  if 63 < b ∨ act = 0 ∨ 2 < act then s.fin d stInvalidField 0
  else if (s.basin b).st ≠ 2 then s.fin d stNotFound 0
  else if act = 1 then
    match s.tenantBit t b true with
    | .ok u => u.fin d stOk 0
    | .error e => e.2.fin d e.1 0
  else if s.tiers.objects.any (fun p => decide (p.1.1 = t) && decide (p.2.basin = b))
      ∨ s.net.conns.any (fun p => decide (p.2.st ≠ .closed) && decide (p.2.kind = 0) && decide (p.2.basin = b) && decide (p.2.tenant = t))
      ∨ s.net.moorings.any (fun p => decide (p.2.st ≠ 0) && decide (p.2.basin = b) && decide (p.2.tenant = t)) then
    s.fin d stBasinNotEmpty 0
  else
    match s.tenantBit t b false with
    | .ok u => u.fin d stOk 0
    | .error e => e.2.fin d e.1 0

/-- A map epoch installed; none where it is refused (R356). -/
def State.setEpoch (s : State) (e : Nat) : Option State :=
  if s.epochUnset ∨ epochNewer e s.epoch then some ((s.setFld rBsnEpoch 0 16 e).setFld rBsnEpoch 18 1 0) else none

/-- TENANT_RESERVE (R370, R379). -/
def State.tenantReserve (s : State) (d : Dsc) : State :=
  if d.tenant = 0 ∨ (s.keySlot d.tenant).st ≠ 0 then s.fin d stSlotState 0
  else (s.setKeySlot d.tenant { st := 1, owner := BitVec.ofNat 384 (d.f 0x10 48) }).fin d stOk 0

/-- Work of a tenant that waits ends with its removal (R380 step 1): waiting appends and truncations, barges queued. -/
def State.drainTenant (s : State) (t : Nat) : State :=
  let ops := s.tiers.writes.filter (fun o => decide (o.key.tenant = t))
  let s1 : State := { s with tiers := { s.tiers with writes := s.tiers.writes.filter (fun o => decide (o.key.tenant ≠ t)),
                                                     bargeQ := s.tiers.bargeQ.filter (fun q => decide (q.key.tenant ≠ t)) } }
  let s2 := ops.foldl (fun (s : State) (o : BerthOp) => s.finishJob o.job stTenantRetired 0) s1
  { s2 with fab := { s2.fab with clusters := alMap s2.fab.clusters (fun _ c => { c with plb := c.plb.filter (fun e => decide (e.key.tenant ≠ t)) }) } }

/-- The removal record (R382). -/
def Removal.record (r : Removal) (end_ : Nat) : List Byte :=
  leBytes 2 r.tenant ++ leBytes 2 stOk ++ leBytes 4 r.fenced ++ leBytes 4 r.sweeps ++ leBytes 4 r.barges ++ leBytes 4 r.dram
    ++ leBytes 4 r.flash ++ leBytes 4 r.conns ++ leBytes 4 r.moorings ++ leBytes 8 r.dropped ++ leBytes 8 r.start ++ leBytes 8 end_
    ++ leBytes 8 0

/-- Step 5 of R380: the record is written, the slot EMPTY, the descriptor complete. -/
def State.removeEnd (s : State) (r : Removal) (d : Dsc) : State :=
  let s1 := (s.setDram (memWriteL s.dram r.report (r.record s.now))).setKeySlot r.tenant {}
  let s2 : State := { s1 with sec := { s1.sec with removal := none } }
  s2.fin d stOk (r.fenced % 2 ^ 32 + (r.dram + r.flash) % 2 ^ 32 * 2 ^ 32)

/-- TENANT_REMOVE, step 1 of R380; a RESERVED slot goes straight to EMPTY with zero counts. -/
def State.removeStart (s : State) (o : ComposeOp) (d : Dsc) : Advance :=
  let t := d.tenant
  let k := s.keySlot t
  let rm : Removal := { tenant := t, report := d.f 0x10 8, start := s.now }
  if t = 0 ∨ (k.st ≠ 1 ∧ k.st ≠ 2) then { st := s.fin d stSlotState 0 }
  else if !s.inHost 0 (d.f 0x10 8) 64 then { st := s.fin d stAccessDenied 0 }
  else if k.st = 1 then { st := s.removeEnd rm d }
  else
    let s1 : State := { s with sec := { s.sec with removal := some rm } }
    { st := (s1.setKeySlot t { k with st := 3 }).drainTenant t, op := some { o with step := 1 } }

/-- One operation as far as it can go. -/
def State.composeStep (s : State) (o : ComposeOp) : Advance :=
  let d := dscOf 0 o.ring o.desc
  let passed := o.clusters.all (fun c => (s.cluster c).passing.isNone)
  let wait : Advance := { st := s, op := some o }
  match d.op, o.step with
  | 0x20, 0 =>
    let a := s.composeStart o d
    match a.op with
    | none => a
    | some o1 => if (a.st.usedIn (a.st.basin o1.basin).hostBase (d.f 0x18 4)).isEmpty then a.st.composeTake o1 d else a
  | 0x20, 1 =>
    let lo := (s.basin o.basin).hostBase
    if (s.usedIn lo (d.f 0x18 4)).isEmpty then s.composeTake o d else { st := s.emptyRun lo (d.f 0x18 4), op := some o }
  | 0x20, _ => if passed then { st := s.composeEnd o d } else wait
  | 0x21, 0 =>
    let a := s.resizeStart o d
    match a.op with
    | none => a
    | some o1 => if o1.clusters.isEmpty then { st := (a.st.setBasin o1.basin (a.st.installShare d (a.st.basin o1.basin))).fin d stOk 0 } else a
  | 0x21, _ => if passed then { st := (s.setBasin o.basin (s.installShare d (s.basin o.basin))).fin d stOk 0 } else wait
  | 0x22, 0 =>
    let a := s.decomposeStart o d
    match a.op with
    | none => a
    | some o1 => if o1.clusters.isEmpty then { st := a.st.decomposeEnd o1 d } else a
  | 0x22, _ => if passed then { st := s.decomposeEnd o d } else wait
  | 0x23, _ => { st := s.basinTenant d }
  | 0x24, _ =>
    match s.setEpoch (d.f 0x10 2) with
    | some t => { st := t.fin d stOk s.epoch }
    | none => { st := s.fin d stInvalidField 0 }
  | 0x28, _ => { st := s.tenantReserve d }
  | 0x29, 0 => s.removeStart o d
  | _, _ => wait

/-- The queue worked off as far as it can go, one operation at a time. -/
def State.composeGo : Nat → State → State
  | 0, s => s
  | n + 1, s =>
    match s.host.composing, s.host.composeQ with
    | some o, _ =>
      let a := s.composeStep o
      let s1 : State := { a.st with host := { a.st.host with composing := a.op } }
      if a.op.isNone then State.composeGo n s1 else s1
    | none, o :: rest =>
      let s0 : State := { s with host := { s.host with composeQ := rest, composing := some o } }
      let a := s0.composeStep o
      let s1 : State := { a.st with host := { a.st.host with composing := a.op } }
      if a.op.isNone then State.composeGo n s1 else s1
    | none, [] => s

/-- Composition taken on from where it stands. -/
def State.composeOn (s : State) : State := s.composeGo (s.host.composeQ.length + 1)

/-- The operation in progress ended with a status. -/
def State.composeFail (s : State) (e : Nat) : State :=
  match s.host.composing with
  | none => s
  | some o =>
    let s1 : State := { (s.setBasin o.basin {}) with host := { (s.setBasin o.basin {}).host with composing := none } }
    (s1.fin (dscOf 0 o.ring o.desc) e 0).composeOn

/-! ### Commands -/

/-- The descriptor in BSN_CMDBUF, and BUSY. -/
def State.cmdBuf (s : State) : List Byte := (List.range 16).flatMap (fun n => leBytes 8 (s.reg (rBsnCmdbuf + 8 * n)).toNat)
def State.cmdBusy (s : State) : Bool := decide (s.fld rBsnCmdRes 16 1 = 1)

/-- A composition operation taken into the queue: from ring 0 of basin 0 and BSN_CMD only (R349). -/
def doCompose (d : Dsc) (s : State) : State :=
  if d.basin ≠ 0 ∨ (d.ring ≠ 0 ∧ d.ring ≠ cmdRing) then s.fin d stAccessDenied 0
  else
    let own := decide (d.op = 0x23) || decide (d.op = 0x28) || decide (d.op = 0x29)
    match (if own then none else s.tenantRefuse 0 d.tenant) with
    | some e => s.fin d e 0
    | none =>
      let s1 : State := { s with host := { s.host with composeQ := s.host.composeQ ++ [{ ring := d.ring, desc := d.bytes }] } }
      s1.composeOn

/-- A composition operation from either source. -/
def composeFrom (op : Nat) (src : ComposeSrc) (s : State) : State :=
  match src with
  | .ring b r => serve op doCompose b.toNat r.toNat s
  | .cmd =>
    let d := dscOf 0 cmdRing s.cmdBuf
    if !s.inService then s.turnedAway else if s.cmdBusy ∨ d.op ≠ op then s else doCompose d (s.setFld rBsnCmdRes 16 1 1)

def execCompose (src : ComposeSrc) (s : State) : Host.Outcome State Fault Refusal := .next (composeFrom 0x20 src s)
def execResize (src : ComposeSrc) (s : State) : Host.Outcome State Fault Refusal := .next (composeFrom 0x21 src s)
def execDecompose (src : ComposeSrc) (s : State) : Host.Outcome State Fault Refusal := .next (composeFrom 0x22 src s)
def execBasinTenant (src : ComposeSrc) (s : State) : Host.Outcome State Fault Refusal := .next (composeFrom 0x23 src s)
def execMapEpoch (src : ComposeSrc) (s : State) : Host.Outcome State Fault Refusal := .next (composeFrom 0x24 src s)
def execTenantReserve (src : ComposeSrc) (s : State) : Host.Outcome State Fault Refusal := .next (composeFrom 0x28 src s)
def execTenantRemove (src : ComposeSrc) (s : State) : Host.Outcome State Fault Refusal := .next (composeFrom 0x29 src s)

/-- A core and a cluster zeroed as a cluster passes (R14): stores, PLB, bays, score latch. -/
def State.passCluster (s : State) (c owner : Nat) : State :=
  let s1 := (List.range 8).foldl (fun (s : State) i =>
    s.setCore (8 * c + i) { s.core (8 * c + i) with ls := [], hdr := [], scratch := [] }) s
  s1.setCluster c { s.cluster c with owner := some owner, passing := none, plb := [], bays := [], scores := [] }

/-- `CLUSTER_PASS` (R14, R351 step 5): a passing cluster whose last run has ended. -/
def execClusterPass (cluster : BitVec 9) (s : State) : Host.Outcome State Fault Refusal :=
  let c := cluster.toNat
  match (s.cluster c).passing with
  | none => .next s
  | some b =>
    if (List.range 8).any (fun i => (s.core (8 * c + i)).run.isSome) then .next s
    else .next (s.passCluster c b).composeOn

/-- `BSN_EPOCH_WRITE` (R356, R362): W1C bits, then the epoch; one not newer sets OLD_WR. -/
def State.epochWrite (s : State) (val : W64) : State :=
  let s1 := if vfld val 16 1 = 1 then s.setFld rBsnEpoch 16 1 0 else s
  let s2 := if vfld val 17 1 = 1 then s1.setFld rBsnEpoch 17 1 0 else s1
  match s2.setEpoch (vfld val 0 16) with
  | some t => t
  | none => s2.setFld rBsnEpoch 16 1 1

def execBsnEpochWrite (val : BitVec 64) (s : State) : Host.Outcome State Fault Refusal :=
  .next (if s.inService then s.epochWrite val else s.turnedAway)

end Sys2Proof.Machine
end

