-- ==== Sys2Proof/Machine/Barges.lean ====
section
/-! DEFINITION. Barges: local ones with their switch, drain, erase and compaction (R170, R176, R178, R209, R215), barges
between parts and their tombstones (R177 to R180, R357, R358). -/

namespace Sys2Proof.Machine

/-! ### Compaction (R170) -/

/-- Slots of a channel in the block that holds most stale slots, and that block. -/
def State.stalestBlock (s : State) (ch : Nat) : Option Nat :=
  let blocks := ((s.nv.slots.filter (fun p => decide (p.1 % 32 = ch) && decide (p.2.st = .stale))).map (fun p => Config.blockOf ch (p.1 / 32)))
  let n (b : Nat) : Nat := (blocks.filter (· = b)).length
  (sortNat blocks.dedup).foldl (fun best b => match best with
    | none => some b
    | some x => if n x < n b then some b else some x) none

/-- Compaction of a channel whose erased slots have fallen below 2 % of its usable count: the homes of its stalest block are
queued to barge to other slots of the channel. -/
def State.compact (s : State) (ch : Nat) : State :=
  let usable := ((usableIx ch).filter (fun ix => decide ((s.fslot (ch + 32 * ix)).st ≠ .retired))).length
  if 2 * usable ≤ 100 * (s.erasedIx ch).length then s
  else
    match s.stalestBlock ch with
    | none => s
    | some b =>
      (s.nv.slots.filter (fun p => decide (p.1 % 32 = ch) && decide (p.2.st = .home) && decide (Config.blockOf ch (p.1 / 32) = b))).foldl
        (fun s p => match p.2.key with
          | some k => s.queueBarge { key := k, why := .compact, toFlash := true }
          | none => s) s

/-- A flash slot of one channel outside a block (R170). -/
def State.takeAway (s : State) (k : BerthKey) (ch blk : Nat) : Except Nat (State × Nat) :=
  let ok := (s.erasedIx ch).filter (fun ix => decide (Config.blockOf ch ix ≠ blk))
  let w (i : Nat) : Nat := alGetD s.nv.blockWear (ch, Config.blockOf ch i) 0
  match ok.foldl (fun best ix => match best with
    | none => some ix
    | some b => if w ix < w b then some ix else some b) none with
  | none => .error stNoSlot
  | some ix => .ok (s.setFslot (ch + 32 * ix) { s.fslot (ch + 32 * ix) with st := .reserved, key := some k, tenant := k.tenant },
      ch + 32 * ix + 0x01000000)

/-! ### Starting a barge (R176, R179, R180, R187) -/

/-- Whether R180 and R186 bind a barge: moves by score, class change or SPREAD rehash. -/
def BargeWhy.bound : BargeWhy → Bool
  | .sink | .rise | .quota | .classMove | .spread => true
  | _ => false

/-- Whether R186 binds it: a protected berth never sinks and is never barged by score. -/
def BargeWhy.guarded : BargeWhy → Bool
  | .sink | .rise | .quota => true
  | _ => false

/-- Scores decide the order of a kind: ascending for sinks, descending for rises and pulls (R187, R355). -/
def BargeWhy.before (w : BargeWhy) (a b : Nat) : Bool :=
  match w with
  | .sink | .quota => bfLt a b
  | .rise | .move => bfLt b a
  | _ => false

/-- Whether a queued barge may start now. -/
def State.startable (s : State) (q : BargeReq) : Bool :=
  match s.pte q.key with
  | none => false
  | some p =>
    decide (p.state = 1) && decide (p.slot ≠ 0xFFFFFFFF) && decide (alGetD s.tiers.noRetry q.key 0 ≤ s.now)
      && (decide (q.why = .recode) || !(s.tiers.writes.any (fun o => (s.opHomes o).any (fun h => decide (h.1 = q.key)))))
      && (!q.why.bound || !s.young p)

/-- The score of a queued berth. -/
def State.reqScore (s : State) (q : BargeReq) : Nat := ((s.pte q.key).map (·.score)).getD 0

/-- A request that may start and that none of its kind goes before. -/
def State.nextBarge (s : State) (q : BargeReq) : Bool :=
  s.startable q && s.tiers.bargeQ.all (fun x => decide (x.why ≠ q.why) || !s.startable x || !q.why.before (s.reqScore x) (s.reqScore q))

def State.unqueue (s : State) (k : BerthKey) : State :=
  { s with tiers := { s.tiers with bargeQ := s.tiers.bargeQ.filter (fun q => decide (q.key ≠ k)) } }
def State.setBarge (s : State) (k : BerthKey) (b : Barge) : State :=
  { s with tiers := { s.tiers with barges := alPut s.tiers.barges k b } }
def State.delBarge (s : State) (k : BerthKey) : State := { s with tiers := { s.tiers with barges := alDel s.tiers.barges k } }

/-- Operations that wait for a berth to come to stacked DRAM fail with the status that stopped its barge. -/
def State.failOps (s : State) (k : BerthKey) (e : Nat) : State :=
  let mine := s.tiers.writes.filter (fun o => (s.opHomes o).any (fun h => decide (h.1 = k)))
  mine.foldl (fun s o => (s.dropWrite o).finishJob o.job e 0) s

/-- A destination for a local barge; one that clears a channel or a host area leaves the tenant's use as it is, so its quota does not
count. -/
def State.bargeDest (s : State) (q : BargeReq) (p : Pte) : Except Nat (State × Nat) :=
  if q.why = .host ∨ (q.why = .drain ∧ !q.toFlash) then s.takeHost q.key
  else if q.why = .drain then
    match s.flashPlace q.key (s.basin p.basin).flash with
    | none => .error stNoSlot
    | some f => .ok (s.setFslot f { s.fslot f with st := .reserved, key := some q.key, tenant := q.key.tenant }, f + 0x01000000)
  else if !q.toFlash then s.takeDram q.key .reserved
  else if q.why = .compact then s.takeAway q.key (flashNo p.slot % 32) (Config.blockOf (flashNo p.slot % 32) (flashNo p.slot / 32))
  else s.takeFlash q.key (s.basin p.basin).flash .reserved

/-- `LOCAL_BARGE_START` (R176 steps 1 and 2): a queued barge reserves its destination and begins; one toward another part
asks that part to reserve. -/
def execLocalBargeStart (k : BerthKey) (s : State) : Host.Outcome State Fault Refusal :=
  match s.tiers.bargeQ.find? (fun q => decide (q.key = k)) with
  | none => .next s
  | some q =>
    let s1 := s.unqueue k
    match s.pte k with
    | none => .next s1
    | some p =>
      if !p.home ∨ p.state = 5 ∨ (q.why.guarded && p.prot) ∨ !s.keyLive k then .next s1
      else if !s.nextBarge q ∨ s.fld rBthCtl 8 16 ≤ s.tiers.barges.length then .next s
      else
        let b0 : Barge := { why := q.why, peer := q.peer, toFlash := q.toFlash, dest := 0xFFFFFFFF, gen0 := p.gen, count0 := p.count }
        match q.peer with
        | some pkg => .next (((s1.setBarge k b0).setPte k { p with state := 2 }).send (.bargeReserve pkg k q.toFlash))
        | none =>
          match s1.bargeDest q p with
          | .error e =>
            let s2 := if e = stQuotaExceeded then s1.countNospace else s1
            .next (if q.why = .recode then s2.failOps k e else if q.why = .host then s2.composeFail e else s2)
          | .ok (s2, n) =>
            let s3 := (s2.setBarge k { b0 with dest := n }).setPte k { p with state := 2 }
            .next (if q.toFlash then s3.compact (flashNo n % 32) else s3)

/-! ### The copy and the switch (R176, R184, R215) -/

/-- Every line of a slot through steps 1 to 3 of the read path: corrections are counted, a line beyond correction is
poisoned and reported. -/
def State.correctAll (s : State) (k : BerthKey) (slot : Nat) : State :=
  (List.range 256).foldl (fun (s : State) (i : Nat) =>
    match s.image slot with
    | none => s
    | some im =>
      match im.lines[i]? with
      | none => s
      | some l =>
        match correctLine l with
        | none =>
          ((s.setImage slot { im with lines := setNth im.lines i (poisonLine l) }).bump rBthLineStat 16 16 1).berthEvent 0x0101
            (tierOf slot) i k 0
        | some (c, n) => if n = 0 then s else (s.setImage slot { im with lines := setNth im.lines i c }).bump rBthLineStat 0 16 1) s

/-- Score snapshot and flags written into a manifest (R150, R184). -/
def stampManifest (man : List Byte) (l : Layer) (p : Pte) : List Byte :=
  let b (x : Bool) (v : Nat) : Nat := if x then v else 0
  man.take 0x18 ++ leBytes 4 (p.score % 2 ^ 16 * 2 ^ 16) ++ leBytes 4 (l.sweeps % 2 ^ 32) ++ (man.drop 0x20).take 6
    ++ leBytes 2 (b p.sink 1 + b p.recent 2 + b p.pinned 4 + b p.coded 8) ++ man.drop 0x28

/-- The manifest a barge writes: the old one with a new snapshot, or one recomputed from the payload (R152, R176). -/
def State.bargeManifest (s : State) (k : BerthKey) (o : Obj) (l : Layer) (p : Pte) : State × StoredManifest :=
  match s.readManifest k with
  | (s1, some man) => (s1, sealManifest (s.berthKey k) k (stampManifest man l p))
  | (s1, none) =>
    let r := s1.plainOf o.geo k p.slot p.count
    (r.1, sealManifest (s.berthKey k) k (buildManifest o.geo (manHead k o l p p.coded) r.2))

/-- A shadow for a berth homed in flash, unless its object is COLD: refreshed where it has one, else put into a pack when
there is room (R187). -/
def State.putShadow (s : State) (k : BerthKey) (m : StoredManifest) : State :=
  match s.obj k.tenant k.object, s.pte k with
  | some o, some p =>
    if o.cls = 2 ∨ o.isBase then s
    else if p.shadow ≠ 0xFFFFFFFF then
      let x := s.slot p.shadow
      s.setSlot p.shadow { x with pack := alPut x.pack p.shadowIx (k, m) }
    else
      match s.packPut k m with
      | some (t, n, i) => t.modPte k (fun p => { p with shadow := n, shadowIx := i })
      | none => s
  | _, _ => s

/-- A berth's shadow given up. -/
def State.dropShadow (s : State) (k : BerthKey) : State :=
  match s.pte k with
  | some p => (s.packDrop p).modPte k (fun p => { p with shadow := 0xFFFFFFFF, shadowIx := 0 })
  | none => s

/-- A reserved slot made a berth's home. -/
def State.makeHome (s : State) (slot : Nat) (img : SlotImage) : State :=
  if isFlash slot then s.setFslot (flashNo slot) { s.fslot (flashNo slot) with st := .home, img := some img }
  else s.setSlot slot { s.slot slot with st := .home, img := some img }

/-- The switch of a local barge. -/
def State.switchBarge (s : State) (k : BerthKey) (b : Barge) : State :=
  match s.obj k.tenant k.object, s.layer k.lk, s.pte k with
  | some o, some l, some p0 =>
    let s1 := s.correctAll k p0.slot
    let p := scoreStep o l.sweeps p0 0
    let r := s1.bargeManifest k o l p
    match r.1.image p0.slot with
    | none => s
    | some img =>
      let gen := (p.gen + 1) % 2 ^ 32
      let img1 : SlotImage := { img with man := r.2, label := { img.label with gen := gen } }
      let s2 := (r.1.makeHome b.dest img1).setPte k { p with slot := b.dest, state := 1, arrived := s.arrivedNow, gen := gen, manBad := false }
      let s3 := (((s2.delBarge k).drainHome p0.slot).dropCopy k).plbInval [k]
      let s4 := if b.toFlash then s3.putShadow k r.2 else s3.dropShadow k
      (s4.pressure k.tenant).runWrites s4.tiers.writes.length
  | _, _, _ => s

/-- `BARGE_SWITCH` (R176 steps 3 to 5). -/
def execBargeSwitch (k : BerthKey) (s : State) : Host.Outcome State Fault Refusal :=
  match alGet s.tiers.barges k with
  | none => .next s
  | some b =>
    if b.incoming ∨ b.peer.isSome then .next s
    else if !s.keyLive k then .next (s.abortBarge k)
    else .next (s.switchBarge k b).composeOn

/-- `PLB_INVAL_ACKED` (R167): the oldest invalidation has reached every PLB. -/
def execPlbInvalAcked (s : State) : Host.Outcome State Fault Refusal :=
  match s.tiers.invals with
  | [] => .next s
  | ks :: rest => .next ({ s with tiers := { s.tiers with invals := rest } }.plbDrop ks)

/-- `FLASH_BLOCK_ERASE_DONE` (R170): the slots of a block that holds none in use become erased; the block has worn once more. -/
def execFlashBlockEraseDone (channel : BitVec 5) (block : List Nat) (s : State) : Host.Outcome State Fault Refusal :=
  let ch := channel.toNat
  match block with
  | [] => .next s
  | ix0 :: _ =>
    let blk := Config.blockOf ch ix0
    let st (ix : Nat) : FlashSt := (s.fslot (ch + 32 * ix)).st
    let mine := (usableIx ch).filter (fun ix => decide (Config.blockOf ch ix = blk))
    if mine.any (fun ix => decide (st ix ≠ .erased) && decide (st ix ≠ .stale) && decide (st ix ≠ .retired)) ∨ !mine.contains ix0 then .next s
    else
      let s1 := (mine.filter (fun ix => decide (st ix = .stale))).foldl (fun (s : State) (ix : Nat) =>
        { s with nv := { s.nv with slots := alDel s.nv.slots (ch + 32 * ix) } }) s
      let s2 : State := { s1 with nv := { s1.nv with blockWear := alPut s1.nv.blockWear (ch, blk) (alGetD s1.nv.blockWear (ch, blk) 0 + 1) } }
      .next (s2.compact ch)

/-- `FLASH_PROGRAM_FAIL` (R170, R178): the slot a barge programs is retired and the barge given up. -/
def execFlashProgramFail (k : BerthKey) (s : State) : Host.Outcome State Fault Refusal :=
  match alGet s.tiers.barges k with
  | none => .next s
  | some b =>
    if !isFlash b.dest then .next s
    else
      let f := flashNo b.dest
      let s1 := (s.abortBarge k).setFslot f { s.fslot f with st := .retired, key := none, img := none, tenant := 0 }
      .next (s1.compact (f % 32))

/-! ### Barges between parts (R177 to R179) -/

/-- An event of a berth's basin without a line. -/
def State.keyEvent (s : State) (code : Nat) (k : BerthKey) (basin : Nat) : State := s.event basin (eventRec code 0 0 k s.now 0)

/-- Free slots of a tier. -/
def State.tierFree (s : State) (flash : Bool) : Nat := if flash then s.flashErased else s.dramFree

/-- A barge that meets the removal of its tenant is counted (R380, R382). -/
def State.countRefusedBarge (s : State) (t : Nat) : State :=
  match s.sec.removal with
  | some r => if r.tenant = t then { s with sec := { s.sec with removal := some { r with barges := r.barges + 1 } } } else s
  | none => s

/-- `BARGE_RESERVE` at the destination (R177 step 2, R179, R380): granted or refused at once. -/
def execBargeReserve (src : BitVec 10) (epoch : BitVec 16) (k : BerthKey) (tier : Bool) (s0 : State) : Host.Outcome State Fault Refusal :=
  if !s0.hears src.toNat then .next s0 else
  let s := s0.sawEpoch epoch.toNat
  let p := src.toNat
  let refuse (s : State) (e : Nat) : State := (s.countNospace).send (.bargeGrant p k e)
  let crossing := s.tiers.barges.any (fun b => decide (b.2.peer = some p) && !b.2.incoming && decide (b.2.phase = 0) && decide (b.2.toFlash = tier))
  if !s.active k.tenant then .next ((s.countRefusedBarge k.tenant).send (.bargeGrant p k stTenantRetired))
  else
  match s.obj k.tenant k.object with
  | none => .next (refuse s stBargeNospace)
  | some o =>
    if (s.pte k).any (fun e => decide (e.state = 2)) then .next (s.send (.bargeGrant p k stBargeBusy))
    else if (s.pte k).any (fun e => e.home || decide (e.state = 3)) then .next (refuse s stBargeNospace)
    else if crossing ∧ s.tierFree tier ≤ 1 ∧ selfPkg < p then .next (refuse s stBargeNospace)
    else
      let rooted : Except (Nat × State) State := if (s.layer k.lk).isSome then .ok s else s.newRoot k.lk o.basin o.p
      match rooted with
      | .error (_, t) => .next (refuse t stBargeNospace)
      | .ok t =>
        if !t.tableRoom k then .next (refuse (s.setFld rBthPtStat 20 1 1) stBargeNospace)
        else
          match (if tier then t.takeFlash k (t.basin o.basin).flash .reserved else t.takeDram k .reserved) with
          | .error e => .next (refuse (t.dropRoot k.lk) (if e = stQuotaExceeded then e else stBargeNospace))
          | .ok (u, n) =>
            let e : Pte := { slot := n, state := 3, basin := o.basin, epoch := s.epoch, arrived := s.arrivedNow }
            let u1 : State := { (u.setPte k e) with tiers := { (u.setPte k e).tiers with tombs := alDel u.tiers.tombs k } }
            let b : Barge := { why := .move, peer := some p, toFlash := tier, dest := n, gen0 := 0, count0 := 0, incoming := true }
            .next (((u1.setBarge k b).send (.bargeGrant p k stOk)).pressure k.tenant)

/-- The APPEND berth of a layer, where it is homed here. -/
def State.appendHome (s : State) (lk : LayerKey) : Option BerthKey :=
  match s.layer lk with
  | none => none
  | some l =>
    match alGet l.ptes l.append with
    | some p => if p.home then some ⟨lk.tenant, lk.object, lk.layer, l.append⟩ else none
    | none => none

/-- A move toward a peer that has not taken effect: the APPEND berths homed here are queued, and the move is in effect once
none is left (R355 steps 1 and 2). -/
def State.moveOn (s : State) (tenant object : Nat) : State :=
  match s.obj tenant object with
  | none => s
  | some o =>
    match o.moving with
    | none => s
    | some pkg =>
      if o.moveEffect then s
      else
        let left := (s.layersOf tenant object).filterMap s.appendHome
        if left.isEmpty then s.setObj tenant object { o with moveEffect := true }
        else left.foldl (fun (s : State) k =>
          s.queueBarge { key := k, why := .move, toFlash := isFlash (((s.pte k).map (·.slot)).getD 0), peer := some pkg }) s

/-- A refused or aborted barge of a move is tried again after 1,073,742 ticks (R178, R179). -/
def State.moveAgain (s : State) (k : BerthKey) : State :=
  let s1 : State := { s with tiers := { s.tiers with noRetry := alPut s.tiers.noRetry k (s.now + 1073742) } }
  match s.obj k.tenant k.object with
  | some o => if o.moving.isSome ∧ !o.moveEffect then s1.moveOn k.tenant k.object else s
  | none => s

/-- The content a barge carries to a peer: lines corrected, re-coded where the peer lacks the base, the manifest written
afresh (R177 step 3, R215). -/
def State.cargo (s : State) (pkg : Nat) (k : BerthKey) : Option (State × SlotImage) :=
  match s.obj k.tenant k.object, s.layer k.lk, s.pte k with
  | some o, some l, some p0 =>
    let s1 := s.correctAll k p0.slot
    match s1.image p0.slot with
    | none => none
    | some img =>
      let t := s1.travelImage pkg k img
      let p := { scoreStep o l.sweeps p0 0 with coded := t.2.lines.any codedLine }
      let r := t.1.bargeManifest k o l p
      some (r.1, { t.2 with man := r.2 })
  | _, _, _ => none

/-- `BARGE_GRANT` at the source (R177 steps 2 and 3). A grant that is no longer OK ends a barge on either side. -/
def execBargeGrant (src : BitVec 10) (k : BerthKey) (status : BitVec 16) (s : State) : Host.Outcome State Fault Refusal :=
  if !s.hears src.toNat then .next s else
  let p := src.toNat
  match alGet s.tiers.barges k with
  | none => .next s
  | some b =>
    if b.peer ≠ some p then .next s
    else if status.toNat ≠ 0 then
      if b.incoming then .next ((s.setBarge k { b with peer := none }).abortBarge k)
      else
        let s1 := (s.delBarge k).modPte k (fun e => if e.state = 2 then { e with state := 1 } else e)
        .next ((if b.phase = 0 then s1 else s1.bump rBthBargeStat 16 16 1).moveAgain k)
    else if b.incoming ∨ b.phase ≠ 0 then .next s
    else if !s.keyLive k then .next (s.abortBarge k)
    else
      match s.cargo p k with
      | none => .next s
      | some (t, img) =>
        .next ((t.setBarge k { b with phase := 1 }).sends
          [.bargeData p k .manifest img, .bargeData p k .payload img, .bargeData p k .label img])

/-- The whole berth has landed: with a twin in service it is journalled durably first, else BARGE_READY goes out (R177
steps 4 and 5, R411). -/
def State.landed (s : State) (k : BerthKey) (b : Barge) (src : Nat) (img : SlotImage) : State :=
  let count := match openManifest (s.berthKey k) k img.man with
    | some man => manCount man
    | none => 0
  if s.twinServes then
    let t := s.travelImage s.twinPkg k img
    let r := t.1.journal k img.label.gen count true (.image t.2)
    r.1.setBarge k { b with phase := 3, img := some img, jseq := some r.2 }
  else (s.setBarge k { b with phase := 4, img := some img }).send (.bargeReady src k)

/-- `BARGE_DATA` at the destination (R177 step 4): the manifest first, verified on landing (R191), then lines, then label; a tenant
under removal is answered TENANT_RETIRED (R380). -/
def execBargeData (src : BitVec 10) (k : BerthKey) (phase : BargePhase) (slot : SlotImage) (s : State) :
    Host.Outcome State Fault Refusal :=
  if !s.hears src.toNat then .next s else
  match alGet s.tiers.barges k with
  | none => .next (if s.active k.tenant then s else s.send (.bargeGrant src.toNat k stTenantRetired))
  | some b =>
    if b.peer ≠ some src.toNat ∨ !b.incoming then .next s
    else
      match phase with
      | .manifest =>
        if b.phase ≠ 0 then .next s
        else
          let img : SlotImage := { lines := [], man := slot.man, label := ⟨0, 0, 0, 0, 0, 0⟩ }
          let b1 : Barge := { b with phase := 1, img := some img, manOk := (openManifest (s.berthKey k) k slot.man).isSome }
          let s1 := (s.setImage b.dest img).setBarge k b1
          match openManifest (s.berthKey k) k slot.man with
          | some man => .next (s1.modPte k (fun e => { e with count := manCount man, coded := decide (dsc man 0x26 2 / 8 % 2 = 1) }))
          | none =>
            if s.keyLive k then .next ((s1.modPte k (fun e => { e with manBad := true })).berthEvent 0x0105 2 0 k 0) else .next s1
      | .payload =>
        if b.phase ≠ 1 then .next s
        else
          let img : SlotImage := { lines := slot.lines, man := ((b.img.map (·.man)).getD slot.man), label := ⟨0, 0, 0, 0, 0, 0⟩ }
          .next ((s.setImage b.dest img).setBarge k { b with phase := 2, img := some img })
      | .label =>
        match b.img with
        | some im =>
          if b.phase ≠ 2 then .next s
          else
            let img : SlotImage := { im with label := slot.label }
            .next ((s.setImage b.dest img).landed k b src.toNat img)
        | none => .next s

/-- A convoy armed here covers a berth and has not reached its cutoff (R358). -/
def State.covered (s : State) (k : BerthKey) : Bool :=
  s.sweeps.members.any (fun m => !m.twin && decide (m.lk = k.lk) && meetsRange m.p m.desc.lo m.desc.hi k.berth && decide (s.now < m.times.c))

/-- An object whose homes have all moved away is deleted with its empty roots, and MOVE_DONE reported (R355 step 5). -/
def State.moveDone (s : State) (tenant object : Nat) : State :=
  match s.obj tenant object with
  | none => s
  | some o =>
    if o.movedTo.isNone ∨ !(s.homesOf tenant object).isEmpty then s
    else
      let s1 := (s.layersOf tenant object).foldl State.dropRoot s
      let s2 : State := { s1 with tiers := { s1.tiers with objects := alDel s1.tiers.objects (tenant, object) } }
      s2.event o.basin (eventRec 0x0202 0 0 ⟨tenant, object, 0, 0⟩ s2.now 0)

/-- The commit of a barge to a peer (R177 step 6): TOMBSTONE, ledger, BARGE_COMMIT; the slot drains; peers and twin learn
it (R227, R411); the commit of the last APPEND berth puts a move into effect (R355). -/
def State.commitAway (s : State) (k : BerthKey) (pkg : Nat) (p : Pte) : State :=
  let care := homeCare s.homeBlk
  let blk := k.berth / 2 ^ s.homeBlk * 2 ^ s.homeBlk
  let homed := match s.ldgSame (homeKey k.lk blk) care (homeVal pkg 0 0) with
    | some i => vfld (s.ldgEntry i).val 32 25 + 1
    | none => 1
  let s1 := ((s.delBarge k).dropCopy k).packDrop p
  let s2 := s1.setPte k { p with state := 4, slot := 0xFFFFFFFF, newpkg := pkg, epoch := s.epoch, shadow := 0xFFFFFFFF, shadowIx := 0 }
  let s3 : State := { s2 with tiers := { s2.tiers with tombs := alPut s2.tiers.tombs k (s.now + ticksMs (s.fld rBsnCtl 0 16)),
                                                       graphQ := s2.tiers.graphQ.filter (fun g => decide (g ≠ k)) } }
  let s4 := ((s3.homeInsert (homeKey k.lk blk) care (homeVal pkg s.epoch homed)).send (.bargeCommit pkg k)).drainHome p.slot
  let s5 := (s4.plbInval [k]).journal k ((p.gen + 1) % 2 ^ 32) 0 false .free
  let s6 := if s5.1.homesInBlock k = 0 then s5.1.homeNotes k false else s5.1
  (s6.moveOn k.tenant k.object).moveDone k.tenant k.object

/-- Step 6 of a barge to a peer: GEN and COUNT compared with those of its start. -/
def State.tryCommit (s : State) (k : BerthKey) (b : Barge) (pkg : Nat) : State :=
  match s.pte k with
  | none => s.abortBarge k
  | some p => if p.gen ≠ b.gen0 ∨ p.count ≠ b.count0 ∨ p.state ≠ 2 then (s.abortBarge k).moveAgain k else s.commitAway k pkg p

/-- `BARGE_READY` at the source: a covering convoy holds the commit until its C (R358). -/
def execBargeReady (src : BitVec 10) (k : BerthKey) (s : State) : Host.Outcome State Fault Refusal :=
  if !s.hears src.toNat then .next s else
  match alGet s.tiers.barges k with
  | none => .next s
  | some b =>
    if b.peer ≠ some src.toNat ∨ b.incoming ∨ b.phase ≠ 1 then .next s
    else if s.covered k then .next (s.setBarge k { b with phase := 2 })
    else .next (s.tryCommit k b src.toNat)

/-- `BARGE_COMMIT_AFTER_CUTOFF`. -/
def execBargeCommitAfterCutoff (k : BerthKey) (s : State) : Host.Outcome State Fault Refusal :=
  match alGet s.tiers.barges k with
  | none => .next s
  | some b =>
    match b.peer with
    | none => .next s
    | some pkg => if b.incoming ∨ b.phase ≠ 2 ∨ s.covered k then .next s else .next (s.tryCommit k b pkg)

/-- The arrived berth's entry: RESIDENT, GEN one above the label's, score and COUNT from its manifest; a manifest that cannot
be read leaves COUNT open (log). -/
def State.arrive (s : State) (k : BerthKey) (b : Barge) (img : SlotImage) : State :=
  match s.obj k.tenant k.object, s.layer k.lk, s.pte k with
  | some o, some l, some e =>
    let man := openManifest (s.berthKey k) k img.man
    let (s1, count) := match man with
      | some m => (s, manCount m)
      | none => (s.drawn, s.free.toNat % (o.p + 1))
    let score := match man with
      | some m => manF m 0x18
      | none => 0
    let e1 : Pte := { e with state := 1, count := count, score := score.toNat / 2 ^ 16, stamp := l.sweeps % 2 ^ 16, epoch := s.epoch,
                             arrived := s.arrivedNow, gen := (img.label.gen + 1) % 2 ^ 32, coded := img.lines.any codedLine,
                             pinned := (man.map (fun m => decide (dsc m 0x26 2 / 4 % 2 = 1))).getD false, basin := o.basin }
    let kap := match man with
      | some m => fMax l.kappa (o.geo.manKappa m)
      | none => l.kappa
    let img1 : SlotImage := { img with label := { img.label with gen := e1.gen } }
    let s2 := ((s1.setLayer k.lk { l with kappa := kap }).makeHome b.dest img1).setPte k e1
    let s3 := (s2.delBarge k).protectLayer k.lk
    let s4 := if b.toFlash then s3.putShadow k img.man else s3
    let s5 : State := { s4 with tiers := { s4.tiers with graphQ := if s4.tiers.graphQ.contains k then s4.tiers.graphQ else s4.tiers.graphQ ++ [k] } }
    s5.homeNotes k true
  | _, _, _ => s

/-- A berth less in a peer's HOME entry of its block. -/
def State.homeLess (s : State) (k : BerthKey) (pkg : Nat) : State :=
  let blk := k.berth / 2 ^ s.homeBlk * 2 ^ s.homeBlk
  match s.ldgSame (homeKey k.lk blk) (homeCare s.homeBlk) (homeVal pkg 0 0) with
  | none => s
  | some i =>
    let e := s.ldgEntry i
    let n := vfld e.val 32 25
    if n ≤ 1 then s.ldgDel i
    else s.ldgPut i (LEntry.make e.key e.care (homeVal pkg (vfld e.val 16 16) (n - 1)))

/-- `BARGE_COMMIT` at the destination (R177 step 7). -/
def execBargeCommit (src : BitVec 10) (k : BerthKey) (s : State) : Host.Outcome State Fault Refusal :=
  if !s.hears src.toNat then .next s else
  match alGet s.tiers.barges k with
  | none => .next s
  | some b =>
    match b.img with
    | some img => if b.peer ≠ some src.toNat ∨ !b.incoming ∨ b.phase ≠ 4 then .next s
        else .next ((((s.arrive k b img).homeLess k src.toNat).pressure k.tenant).composeOn)
    | none => .next s

/-- `TOMBSTONE_EXPIRY` (R357): TOMB_MS after the commit the entry is FREE. -/
def execTombstoneExpiry (k : BerthKey) (s : State) : Host.Outcome State Fault Refusal :=
  match alGet s.tiers.tombs k with
  | none => .next s
  | some t =>
    if s.now < t then .next s
    else
      let s1 : State := { s with tiers := { s.tiers with tombs := alDel s.tiers.tombs k } }
      if (s.pte k).any (fun e => decide (e.state = 4)) then
        .next (((s1.delPte k).dropRoot k.lk).bump rBsnTomb 24 24 1)
      else .next s1

end Sys2Proof.Machine
end

