-- ==== Sys2Proof/Machine/Scan.lean ====
section
/-! DEFINITION. The eviction scan and what it carries out (R157, R165, R174, R182, R184 to R188, R240), the prefetch lead
(R190). -/

namespace Sys2Proof.Machine

/-! ### Moves of a scan -/

/-- The part a SPREAD berth belongs on (R174). -/
def spreadHome (o : Obj) (object berth : Nat) : Nat :=
  nthD 0 o.spread (crc32c (leBytes 4 object ++ leBytes 4 berth) % o.spread.length)

/-- Class moves of one berth: a COLD berth other than an unfilled APPEND berth to flash, a SPREAD berth to its part. -/
def State.classMoves (s : State) (k : BerthKey) : State :=
  match s.obj k.tenant k.object, s.pte k, s.layer k.lk with
  | some o, some p, some l =>
    if p.state ≠ 1 ∨ (l.top = some k.berth ∧ p.count < o.p) ∨ o.isBase then s
    else if o.cls = 2 ∧ !isFlash p.slot then s.queueBarge { key := k, why := .classMove, toFlash := true }
    else if o.cls = 3 ∧ !o.spread.isEmpty ∧ spreadHome o k.object k.berth ≠ selfPkg then
      s.queueBarge { key := k, why := .spread, toFlash := false, peer := some (spreadHome o k.object k.berth) }
    else s
  | _, _, _ => s

/-- Whether eviction-to-drop takes a berth (R188). -/
def State.dropNow (s : State) (k : BerthKey) (o : Obj) (l : Layer) (p : Pte) : Bool :=
  o.dropEn && decide (s.fld rBthCtl 0 1 = 1) && decide (s.fld rBthCtl 1 1 = 1) && decide (o.dropMin + 1 ≤ l.nextPos o.p)
    && decide (p.state = 1) && isFlash p.slot && !p.prot && !s.young p && bfLt p.score o.dropThr
    && !(s.tiers.writes.any (fun w => (s.opHomes w).any (fun h => decide (h.1 = k))))

/-- A payload dropped: the manifest is in a pack or is put into one, the slot is freed, the entry becomes DROPPED; without a
pack the drop waits for the next scan. -/
def State.dropPayload (s : State) (k : BerthKey) (p : Pte) : State :=
  let packed : Option State :=
    if p.shadow ≠ 0xFFFFFFFF then some s
    else
      match (s.image p.slot).map (·.man) with
      | none => none
      | some m => (s.packPut k m).map (fun t => t.1.modPte k (fun e => { e with shadow := t.2.1, shadowIx := t.2.2 }))
  match packed with
  | none => s
  | some t =>
    let s1 := (((t.unqueue k).drainHome p.slot).modPte k (fun e =>
      { e with slot := 0xFFFFFFFF, state := 5, gen := (e.gen + 1) % 2 ^ 32 })).dropCopy k
    ((s1.plbInval [k]).journal k ((p.gen + 1) % 2 ^ 32) p.count false .drop).1

/-- A berth homed in flash without a shadow gets one when there is room (R187). -/
def State.addShadow (s : State) (k : BerthKey) : State :=
  match s.pte k with
  | some p =>
    if (p.state = 1 ∨ p.state = 2) ∧ isFlash p.slot ∧ p.shadow = 0xFFFFFFFF then
      (match (s.image p.slot).map (·.man) with
       | some m => s.putShadow k m
       | none => s)
    else s
  | none => s

/-- The scan of one entry: decay, then class, thresholds, drop, shadow. -/
def State.scanBerth (s : State) (k : BerthKey) : State :=
  let s1 := s.scoreUpdate k 0
  let s2 := (s1.classMoves k).classCheck k
  let s3 := match s2.obj k.tenant k.object, s2.layer k.lk, s2.pte k with
    | some o, some l, some p => if s2.dropNow k o l p then s2.dropPayload k p else s2
    | _, _, _ => s2
  s3.addShadow k

/-! ### Leaves moved to flash (R165) -/

/-- Leaves of COLD objects in the page-table area, the longest unwalked first. -/
def State.coldLeaves (s : State) : List (LayerKey × Nat) :=
  let ls := s.tiers.layers.flatMap (fun q =>
    match s.obj q.1.tenant q.1.object with
    | some o => if o.cls ≠ 2 then [] else
        (((q.2.ptes.map (fun e => e.1 / 128)).dedup).filter (fun x => (alGet q.2.spilled x).isNone)).map
          (fun x => (q.1, x, alGetD q.2.lastWalk x 0))
    | none => [])
  let put (x : LayerKey × Nat × Nat) (l : List (LayerKey × Nat × Nat)) : List (LayerKey × Nat × Nat) :=
    (l.takeWhile (fun y => decide (y.2.2 < x.2.2))) ++ x :: l.dropWhile (fun y => decide (y.2.2 < x.2.2))
  (ls.foldr put []).map (fun x => (x.1, x.2.1))

/-- Up to sixteen leaves moved into one table slot; their berths leave every PLB (R165, R167). -/
def State.spillGroup (s : State) (ls : List (LayerKey × Nat)) : State :=
  match ls with
  | [] => s
  | (k0, x0) :: _ =>
    match s.flashPlace ⟨k0.tenant, k0.object, k0.layer, x0 * 128⟩ (BitVec.allOnes 32) with
    | none => s
    | some f =>
      let s1 := s.setFslot f { s.fslot f with st := .table }
      ls.zipIdx.foldl (fun (s : State) (e : (LayerKey × Nat) × Nat) =>
        match s.layer e.1.1 with
        | none => s
        | some l =>
          let k := e.1.1
          ((s.setLayer k { l with spilled := alPut l.spilled e.1.2 (f + 0x01000000, e.2) })).plbInval
            ((List.range 128).map (fun i => (⟨k.tenant, k.object, k.layer, e.1.2 * 128 + i⟩ : BerthKey)))) s1

/-- Leaves spilled while more than 90 % of the page-table area is in use. -/
def State.spill (s : State) : Nat → State
  | 0 => s
  | n + 1 =>
    let used := 0x80000 - s.ptFree
    let want := (10 * used - 9 * 0x80000 + 9) / 10
    if 10 * used ≤ 9 * 0x80000 then s
    else
      match s.coldLeaves.take (min 16 want) with
      | [] => s
      | ls => (s.spillGroup ls).spill n

/-! ### Commands -/

/-- `EVICTION_SCAN` (R185): every entry of a layer, then κ_L, the graph, table space and pressure. -/
def execEvictionScan (k : LayerKey) (s : State) : Host.Outcome State Fault Refusal :=
  match s.layer k, s.obj k.tenant k.object with
  | some l, some o =>
    if o.isBase then .next s
    else
      let keys := (sortNat ((l.ptes.filter (fun e => e.2.home)).map (·.1))).map (fun b => (⟨k.tenant, k.object, k.layer, b⟩ : BerthKey))
      let s1 := keys.foldl State.scanBerth (s.protectLayer k)
      let kap := s1.layerKappa k o.geo
      let s2 := match s1.layer k with
        | some l1 => s1.setLayer k { l1 with kappa := kap }
        | none => s1
      .next (((s2.graphTrim k).spill 32768).pressure k.tenant)
  | _, _ => .next s

/-- The lead one step nearer its target (R190). -/
def stepLead (o : Obj) (p99 : Nat) : Nat :=
  match o.interval with
  | none => o.lead
  | some t =>
    if t = 0 then (if o.lead < o.leadMax then o.lead + 1 else o.lead)
    else
      let target := min o.leadMax (max o.leadMin (ceilDiv p99 t + 1))
      if o.lead < target then o.lead + 1 else if target < o.lead then o.lead - 1 else o.lead

/-- `PREFETCH_LEAD_UPDATE` (R190): objects that launched in the window move one step; the others keep their lead. -/
def execPrefetchLeadUpdate (p99 : BitVec 32) (s : State) : Host.Outcome State Fault Refusal :=
  .next { s with tiers := { s.tiers with objects := alMap s.tiers.objects (fun _ o =>
    if o.launched then { o with lead := stepLead o p99.toNat, launched := false } else o) } }

end Sys2Proof.Machine
end

