-- ==== Sys2Proof/Machine/Moves.lean ====
section
/-! DEFINITION. Moving objects between basins and parts (R354, R355). -/

namespace Sys2Proof.Machine

/-- Sweeps of an object armed in its basin whose D has not passed. -/
def State.armedBefore (s : State) (tenant object basin : Nat) : Bool :=
  s.sweeps.members.any (fun m => decide (m.tenant = tenant) && decide (m.desc.object = object) && decide (m.basin = basin)
    && decide (s.now < m.times.d))

/-- The ledger entries of a layer under a basin replaced by entries under another: LAYER and NBR. -/
def State.rekey (s : State) (lk : LayerKey) (old new : Nat) : State :=
  s.setLedger { s.ledger with entries := alMap s.ledger.entries (fun _ e =>
    let kind := kfld e.key 0 4
    if e.retired || !e.sound || !(decide (kind = 1) || decide (kind = 3)) || decide (kfld e.key 4 12 ≠ lk.tenant)
        || decide (kfld e.key 16 6 ≠ old) || decide (kfld e.key 22 32 ≠ lk.object) || decide (kfld e.key 54 16 ≠ lk.layer) then e
    else LEntry.make (ldgKey kind lk.tenant new lk.object lk.layer (kfld e.key 70 25)) e.care e.val) }

/-- Every berth of an object with an entry here. -/
def State.berthsOf (s : State) (tenant object : Nat) : List BerthKey :=
  (s.layersOf tenant object).flatMap (fun lk => match s.layer lk with
    | some l => l.ptes.map (fun e => ⟨lk.tenant, lk.object, lk.layer, e.1⟩)
    | none => [])

/-- The move to another basin takes effect (R354). -/
def State.switchBasin (s : State) (tenant object : Nat) (o : Obj) (b : Nat) : State :=
  let ls := s.layersOf tenant object
  let s1 := ls.foldl (fun (s : State) lk => s.rekey lk o.basin b) s
  let s2 := ls.foldl (fun (s : State) lk => match s.layer lk with
    | some l => s.setLayer lk { l with basin := b }
    | none => s) s1
  (s2.setObj tenant object { o with basin := b, moveBasin := none }).plbInval (s.berthsOf tenant object)

/-- `MOVE_OBJECT`. -/
def doMoveObject (d : Dsc) (s : State) : State :=
  let object := d.f 0x10 4
  let pkg := d.f 0x16 2
  match s.obj d.tenant object with
  | none => s.fin d stNotFound 0
  | some o =>
    let n := (s.homesOf d.tenant object).length
    if o.basin ≠ d.basin ∨ o.isBase then s.fin d stNotFound 0
    else if pkg = 0xFFFF then
      let b := d.f 0x14 1
      if 63 < b ∨ (s.basin b).st ≠ 2 ∨ o.moving.isSome ∨ (o.moveBasin.isSome ∧ o.moveBasin ≠ some b) then s.fin d stInvalidField 0
      else if !(s.basin b).tenants.contains d.tenant then s.fin d stAccessDenied 0
      else if b = o.basin then s.fin d stOk n
      else
        let s1 := s.setObj d.tenant object { o with moveBasin := some b }
        (if s1.armedBefore d.tenant object o.basin then s1 else s1.switchBasin d.tenant object o b).fin d stOk n
    else if 1023 < pkg ∨ pkg = selfPkg ∨ o.moveBasin.isSome ∨ (o.moving.isSome ∧ o.moving ≠ some pkg) then s.fin d stInvalidField 0
    else if !o.pset.contains pkg ∨ !Config.peerObject pkg d.tenant object s.fresh then s.drawn.fin d stNotFound 0
    else
      let s1 := s.drawn.setObj d.tenant object { o with moving := some pkg, touched := if o.moving.isSome then o.touched else [] }
      ((s1.moveOn d.tenant object).moveDone d.tenant object).fin d stOk n

def execMoveObject (basin : BitVec 6) (ring : BitVec 8) (s : State) : Host.Outcome State Fault Refusal :=
  .next (serve 0x25 (tenantDsc doMoveObject) basin.toNat ring.toNat s)

/-- `MOVE_LEDGER_SWITCH`. -/
def execMoveLedgerSwitch (tenant : BitVec 12) (object : BitVec 32) (s : State) : Host.Outcome State Fault Refusal :=
  let t := tenant.toNat
  match s.obj t object.toNat with
  | none => .next s
  | some o =>
    match o.moveBasin with
    | none => .next s
    | some b => if s.armedBefore t object.toNat o.basin then .next s else .next (s.switchBasin t object.toNat o b)

/-- Berths of a moving object that no sweep has touched, homed here and not queued. -/
def State.pullable (s : State) (o : Obj) (tenant object : Nat) : List BerthKey :=
  (s.homesOf tenant object).filter (fun k => !o.touched.contains (k.layer, k.berth)
    && !(s.tiers.bargeQ.any (fun q => decide (q.key = k))) && (alGet s.tiers.barges k).isNone)

/-- `BACKGROUND_PULL` (R355 step 4): at its time an untouched berth with the highest score goes to the peer. -/
def execBackgroundPull (k : BerthKey) (s : State) : Host.Outcome State Fault Refusal :=
  match s.obj k.tenant k.object with
  | none => .next s
  | some o =>
    match o.movedTo with
    | none => .next s
    | some pkg =>
      let l := s.pullable o k.tenant k.object
      let score (x : BerthKey) : Nat := ((s.pte x).map (·.score)).getD 0
      if s.fld rBsnCtl 16 16 = 0 ∨ !l.contains k ∨ l.any (fun x => bfLt (score k) (score x)) then .next s
      else .next (s.queueBarge { key := k, why := .move, toFlash := isFlash (((s.pte k).map (·.slot)).getD 0), peer := some pkg })

end Sys2Proof.Machine
end

