-- ==== Sys2Proof/Machine/Programs.lean ====
section
/-! DEFINITION. Program images and rings: LOAD_PROGRAM, retiring images, RING_CONFIG (R106 to R108, R327, R332, R375). -/

namespace Sys2Proof.Machine

/-! ### Program images (R99, R106, R107) -/

/-- Length of a signature. -/
def sigLen : Nat := 4627

/-- Holds of a code section: none nested, each ended, at most 16 instructions, all allowed inside. `inside` counts the
instructions since `hold.begin`. -/
def holdsOk : List W64 → Option Nat → Bool
  | [], inside => inside.isNone
  | w :: ws, inside =>
    match coreOp w, inside with
    | some .holdBegin, none => holdsOk ws (some 0)
    | some .holdBegin, some _ => false
    | some .holdEnd, some _ => holdsOk ws none
    | some .holdEnd, none => false
    | some o, some n => o.inHold && decide (n < 16) && holdsOk ws (some (n + 1))
    | _, none => holdsOk ws none
    | none, some _ => false

/-- Code words of an image. -/
def imageWords (b : List Byte) (n : Nat) : List W64 := (List.range n).map (fun i => BitVec.ofNat 64 (dsc b (0x100 + 8 * i) 8))

/-- Whether every instruction is legal and every direct target lies in the image and outside holds. -/
def codeOk (ws : List W64) (iflags : Nat) : Bool :=
  let marks := holdMarks ws 0 false
  ws.all (fun w => match coreOp w with
    | none => false
    | some o => legalWord o w iflags && (match o with
        | .br | .loopI | .call => decide (imm w % 2 ^ 11 < ws.length) && !marks.contains (imm w % 2 ^ 11)
        | _ => true)) && holdsOk ws none

/-- The image a keeper runs, and its version (R400). -/
def State.keeperImage (s : State) (k : Nat) : Option KImage := if s.boot.onNew.contains k then s.boot.staged else s.boot.image
def State.keeperVersion (s : State) (k : Nat) : Nat := ((s.keeperImage k).map (·.version)).getD 0

/-- The lowest running VERSION, which MIN_KEEPER is compared with (R107, R401). -/
def State.lowVersion (s : State) : Nat := ((List.range 4).map s.keeperVersion).min?.getD 0

/-- Whether an image passes the checks of BAD_IMAGE. -/
def State.imageOk (s : State) (img : List Byte) : Bool :=
  let n := dsc img 8 4
  let nd := dsc img 0xC 4
  decide (dsc img 0 4 = 0x50534C54) && decide (dsc img 4 2 = 1) && decide (dsc img 6 2 < 8) && decide (1 ≤ n) && decide (n ≤ 2048)
    && decide (nd ≤ 35584) && decide (dsc img 0x10 4 < n) && dscZero img 0x18 0x28 && dscZero img 0x60 0xA0
    && decide (img.length = 0x100 + 8 * n + nd + sigLen) && decide (dsc img 0x14 4 ≤ s.lowVersion)
    && codeOk (imageWords img n) (dsc img 6 2)

/-- The installed form of an image. -/
def imageOf (img : List Byte) : Image :=
  let n := dsc img 8 4
  { words := imageWords img n, data := bytesAt img (0x100 + 8 * n) (dsc img 0xC 4), iflags := dsc img 6 2, entry := dsc img 0x10 4,
    digest := Config.sha384 (img.take (img.length - sigLen)) }

/-! ### The program table (R108) -/

def State.progEntry (s : State) (b e : Nat) : ProgEntry := alGetD (s.basin b).progs e {}
def State.setProg (s : State) (b e : Nat) (p : ProgEntry) : State :=
  s.setBasin b { s.basin b with progs := alPut (s.basin b).progs e p }

/-- Whether an image of an entry is bound to a sweep here that has not ended its runs. -/
def State.imageUsed (s : State) (b e : Nat) (i : Image) : Bool :=
  s.sweeps.members.any (fun m => decide (m.basin = b) && decide (m.prog = e) && decide (m.image = i.words) && decide (m.data = i.data)
      && decide (m.entry = i.entry) && decide (m.iflags = i.iflags))
    || s.sweeps.accepted.any (fun p => decide (p.2.basin = b) && decide (p.2.desc.prog = e) && decide (p.2.prog = some i) && decide (p.2.state < 5))

/-- An image made READY: the one before it retires, unless nothing runs it. -/
def State.installImage (s : State) (b e : Nat) (i : Image) : State :=
  let p := s.progEntry b e
  s.setProg b e { p with ready := some i, retiring := match p.ready with
    | some old => if s.imageUsed b e old then some old else none
    | none => none }

/-- A PROJ binding of an entry. -/
def Basin.projOf (b : Basin) (e : Nat) : Bool := b.binds.any (fun x => decide (x.kind = 2) && decide (x.entry = e))

/-- `LOAD_PROGRAM`. -/
def doLoadProgram (d : Dsc) (s : State) : State :=
  let e := d.f 0x10 1
  let n := d.f 0x20 4
  if e = 0 ∨ 15 < e then s.fin d stInvalidField 0
  else if !s.inHost d.basin (d.f 0x18 8) n then s.fin d stAccessDenied 0
  else
    match (s.basin d.basin).pkey with
    | none => s.fin d stNoKey 0
    | some key =>
      let img := s.buffer (d.f 0x18 8) n
      if n < sigLen ∨ !Config.mldsaVerify key (img.take (n - sigLen)) (img.drop (n - sigLen)) then s.fin d stBadSignature 0
      else if !s.imageOk img ∨ ((s.basin d.basin).projOf e ∧ 31488 < dsc img 0xC 4) then s.fin d stBadImage 0
      else
        let p := s.progEntry d.basin e
        if p.retiring.isNone then (s.installImage d.basin e (imageOf img)).fin d stOk 0
        else (s.setProg d.basin e { p with waiting := p.waiting ++ [(imageOf img, s.host.nextJob)] }).addJob d.job

def execLoadProgram (basin : BitVec 6) (ring : BitVec 8) (s : State) : Host.Outcome State Fault Refusal :=
  .next (serve 0x08 (tenantDsc doLoadProgram) basin.toNat ring.toNat s)

/-- Loads that waited for a RETIRING image, while none is left. -/
def State.loadWaiting (s : State) (b e : Nat) : Nat → State
  | 0 => s
  | n + 1 =>
    let p := s.progEntry b e
    match p.retiring, p.waiting with
    | none, (i, job) :: rest => (((s.setProg b e { p with waiting := rest }).installImage b e i).finishJob job stOk 0).loadWaiting b e n
    | _, _ => s

/-- `RETIRING_IMAGE_FREE`: the last run of a RETIRING image has ended. -/
def execRetiringImageFree (basin : BitVec 6) (entry : BitVec 4) (s : State) : Host.Outcome State Fault Refusal :=
  let b := basin.toNat
  let e := entry.toNat
  let p := s.progEntry b e
  match p.retiring with
  | none => .next s
  | some i =>
    if s.imageUsed b e i then .next s
    else .next ((s.setProg b e { p with retiring := none }).loadWaiting b e p.waiting.length)

/-! ### RING_CONFIG (R327, R332) -/

/-- A submission ring configured, changed or removed. -/
def configSq (d : Dsc) (s : State) : State :=
  let bs := s.basin d.basin
  let r := d.f 0x11 1
  let k := d.f 0x12 1
  let busy : Bool := match alGet bs.sqs r with
    | some q => decide (q.head ≠ q.tail)
    | none => false
  if r = 0 ∨ busy then s.fin d stRingInUse 0
  else if k = 0 then (s.setBasin d.basin { bs with sqs := alDel bs.sqs r }).fin d stOk 0
  else if k < 4 ∨ 12 < k ∨ (alGet bs.cqs (d.f 0x13 1)).isNone ∨ d.f 0x20 8 % (128 * 2 ^ k) ≠ 0 then s.fin d stInvalidField 0
  else if !s.inHost d.basin (d.f 0x20 8) (128 * 2 ^ k) then s.fin d stAccessDenied 0
  else (s.setBasin d.basin { bs with sqs := alPut bs.sqs r { base := d.f 0x20 8, log2 := k, cq := d.f 0x13 1 } }).fin d stOk 0

/-- A completion ring configured, changed or removed. -/
def configCq (d : Dsc) (s : State) : State :=
  let bs := s.basin d.basin
  let c := d.f 0x11 1
  let k := d.f 0x12 1
  let busy : Bool := match alGet bs.cqs c with
    | some q => decide (q.head ≠ q.tail) || !q.back.isEmpty
    | none => false
  if c = 0 ∨ busy ∨ (k = 0 ∧ bs.sqs.any (fun p => decide (p.2.cq = c))) then s.fin d stRingInUse 0
  else if k = 0 then (s.setBasin d.basin { bs with cqs := alDel bs.cqs c }).fin d stOk 0
  else if k < 4 ∨ 14 < k ∨ 63 < d.f 0x14 1 ∨ 1 < d.f 0x15 1 ∨ d.f 0x20 8 % (32 * 2 ^ k) ≠ 0 then s.fin d stInvalidField 0
  else if !s.inHost d.basin (d.f 0x20 8) (32 * 2 ^ k) then s.fin d stAccessDenied 0
  else
    let q : CQ := { base := d.f 0x20 8, log2 := k, vector := d.f 0x14 1, ien := decide (d.f 0x15 1 = 1), coalN := d.f 0x16 2,
                    coalUs := d.f 0x18 2 }
    let s1 := s.setBasin d.basin { bs with cqs := alPut bs.cqs c q }
    (s1.setDram (memZero s1.dram q.base (32 * 2 ^ k))).fin d stOk 0

/-- `RING_CONFIG`. -/
def doRingConfig (d : Dsc) (s : State) : State :=
  match d.f 0x10 1 with
  | 0 => configSq d s
  | 1 => configCq d s
  | _ => s.fin d stInvalidField 0

def execRingConfig (basin : BitVec 6) (ring : BitVec 8) (s : State) : Host.Outcome State Fault Refusal :=
  .next (serve 0x09 (tenantDsc doRingConfig) basin.toNat ring.toNat s)

end Sys2Proof.Machine
end

