-- ==== Sys2Proof/Machine/Tenancy.lean ====
section
/-! DEFINITION. Bound data and the removal of a tenant: BIND, UNBIND, steps 2 to 5 of TENANT_REMOVE (R374 to R376, R379 to
R382). -/

namespace Sys2Proof.Machine

/-! ### Bound data (R374 to R376) -/

/-- DEV_ID, and the private key a member's binding key is unwrapped with (R364, R365). -/
def devId : BitVec 384 := Config.sha384 Config.devicePub
def bindKem : BitVec 256 := Config.kdf256 (leBytes 48 cdi0.toNat) "BIND-KEM" []

/-- Length of a member entry, and of one berth image in the data section. -/
def memberLen : Nat := 1656
def imageLen : Nat := 75776

/-- A line of a berth image as stored (R148, R201). -/
def lineOfImage (b : List Byte) (i : Nat) : StoredLine :=
  let side := bytesAt b (0x10000 + 24 * i) 24
  let len := dsc side 0 1 / 4 % 32
  lineOfSeq ((side.take 12 ++ bytesAt b (256 * i) (16 * len)).map (·.toNat)) ((bytesAt side 12 6).map (·.toNat))
    ((bytesAt side 18 6).map (·.toNat))

/-- A berth image read from a package. -/
def slotOfImage (b : List Byte) (k : BerthKey) : SlotImage :=
  { lines := (List.range 256).map (lineOfImage b),
    man := ⟨bytesAt b 0x11800 3968, bytesAt b 0x12780 112, BitVec.ofNat 64 (dsc b 0x127F0 8)⟩,
    label := ⟨k.object, k.tenant, k.layer, k.berth, 0, 0⟩ }

/-- Whether a base image verifies: every line EXACT or ZERO and sound, and the manifest's tag. -/
def imageSound (key : BitVec 256) (g : Geo) (k : BerthKey) (img : SlotImage) : Bool :=
  (List.range 256).all (fun i => match img.lines[i]? with
    | some l => (decide (l.lcode = 0) || decide (l.lcode = 2)) &&
        (match (readLine true key g k (fun _ => none) i l).res with
         | .ok _ => true
         | .error _ => false)
    | none => false) && (openManifest key k img.man).isSome

/-- Geometry of a BASE package, its layers and berths, and a berth's place in the data section. -/
def pkgGeo (p : List Byte) : Geo := ⟨dsc p 0xE 1, dsc p 0xF 1, dsc p 0x10 2, dsc p 0x12 2⟩
def pkgBerths (p : List Byte) : List (Nat × Nat) :=
  (List.range (dsc p 0x14 2)).flatMap (fun l => (List.range (dsc p 0x18 4)).map (fun b => (l, b)))

/-- Whether a BASE geometry lies in the ranges of R157 and fits (R158). -/
def pkgGeoOk (g : Geo) : Bool :=
  decide (g.fmt ≤ 2) && decide (1 ≤ g.nkv) && decide (g.nkv ≤ 16) && (decide (g.d = 64) || decide (g.d = 128) || decide (g.d = 256))
    && decide (1 ≤ g.p) && decide (g.p ≤ 256) && fitsGeo g

/-- One base berth placed in stacked DRAM, pinned (R194). -/
def State.placeBase (s : State) (b : Nat) (k : BerthKey) (p : Nat) (img : SlotImage) : Except Nat State :=
  let rooted : Except (Nat × State) State := if (s.layer k.lk).isSome then .ok s else s.newRoot k.lk b p
  match rooted with
  | .error e => .error e.1
  | .ok s1 =>
    if !s1.tableRoom k then .error stPtAreaFull
    else
      match s1.freeSlot with
      | none => .error stNoSlot
      | some n =>
        let count := match openManifest (s1.berthKey k) k img.man with
          | some m => manCount m
          | none => p
        .ok (((s1.evictCopyAt n).setSlot n { st := .home, key := some k, img := some img, tenant := k.tenant }).setPte k
          { slot := n, count := count, state := 1, pinned := true, epoch := s.epoch, basin := b, arrived := s.arrivedNow })

/-- A BASE package bound: every berth placed; a refusal undoes them all. -/
def State.bindBase (s : State) (b : Nat) (p : List Byte) (key : BitVec 256) (data : List Byte) : Except Nat State :=
  let object := dsc p 8 4
  let g := pkgGeo p
  let bd : Binding := { kind := 1, entry := 0, object := object, digest := BitVec.ofNat 384 (dsc p 0x28 48), nlayer := dsc p 0x14 2,
                        nberth := dsc p 0x18 4, key := key }
  let bs := s.basin b
  let s1 := (s.setBasin b { bs with binds := bs.binds ++ [bd] }).setObj (baseTenant b) object
    { basin := b, nkv := g.nkv, gq := 1, d := g.d, fmt := g.fmt, p := g.p, isBase := true }
  (pkgBerths p).zipIdx.foldl (fun (acc : Except Nat State) e =>
    match acc with
    | .error x => .error x
    | .ok t =>
      let k : BerthKey := ⟨baseTenant b, object, e.1.1, e.1.2⟩
      t.placeBase b k g.p (slotOfImage (bytesAt data (imageLen * e.2) imageLen) k)) (.ok s1)

/-- Whether the data section of a BASE package holds its berths, all sound. -/
def baseSound (b : Nat) (p : List Byte) (key : BitVec 256) (data : List Byte) : Bool :=
  (pkgBerths p).zipIdx.all (fun e =>
    let k : BerthKey := ⟨baseTenant b, dsc p 8 4, e.1.1, e.1.2⟩
    imageSound key (pkgGeo p) k (slotOfImage (bytesAt data (imageLen * e.2) imageLen) k))

/-- Whether the fields of a package lie in their ranges, its length fits and its reserved bytes are 0. -/
def pkgFieldsOk (p : List Byte) : Bool :=
  let n := dsc p 6 2
  let len := dsc p 0x20 8
  decide (dsc p 0 4 = 0x4C444E42) && (decide (dsc p 4 1 = 1) || decide (dsc p 4 1 = 2)) && decide (1 ≤ n) && decide (n ≤ 1024)
    && dscZero p 0x16 2 && dscZero p 0x1C 4 && dscZero p 0x68 0x18 && decide (dsc p 0xC 2 < 4096)
    && decide (p.length = 0x80 + memberLen * n + len)
    && (if dsc p 4 1 = 1 then decide (dsc p 5 1 = 0) && decide (dsc p 8 4 ≠ 0) && decide (len = dsc p 0x14 2 * dsc p 0x18 4 * imageLen)
        else decide (1 ≤ dsc p 5 1) && decide (dsc p 5 1 ≤ 15) && decide (len ≤ 4096 + 16))

/-- The member entry of this part: the binding key it unwraps, where the part is a member. -/
def memberKey (p : List Byte) : Option (BitVec 256) :=
  match (List.range (min 1024 (dsc p 6 2))).find? (fun i => decide (BitVec.ofNat 384 (dsc p (0x80 + memberLen * i) 48) = devId)) with
  | some i => Config.unwrapKey bindKem (bytesAt p (0x80 + memberLen * i + 48) 1608)
  | none => none

/-- The checks of R375 in order, and the binding. -/
def State.bindPackage (s : State) (b : Nat) (p : List Byte) : Except Nat State :=
  let t := dsc p 0xC 2 % 4096
  let kind := dsc p 4 1
  let data := p.drop (0x80 + memberLen * dsc p 6 2)
  match s.tenantRefuse b t with
  | some e => .error e
  | none =>
    if leBytes 16 (Config.cmac (Config.kdf256 (leBytes 32 (s.keySlot t).mem.toNat) "BIND-AUTH" []) (p.take 0x58)).toNat ≠ bytesAt p 0x58 16 then
      .error stAuthFail
    else
      match memberKey p with
      | none => .error stNotInSet
      | some key =>
        if !pkgFieldsOk p ∨ Config.sha384 (p.take 0x28 ++ data) ≠ BitVec.ofNat 384 (dsc p 0x28 48) then .error stBindInvalid
        else if kind = 1 then
          if !pkgGeoOk (pkgGeo p) then .error stGeometryUnfit
          else if !baseSound b p key data then .error stBindInvalid
          else if (s.basin b).binds.any (fun x => decide (x.kind = 1) && decide (x.object = dsc p 8 4)) then .error stObjectExists
          else if s.dramFree < dsc p 0x14 2 * dsc p 0x18 4 then .error stNoSlot
          else s.bindBase b p key data
        else
          let e := dsc p 5 1
          if (s.basin b).projOf e then .error stObjectExists
          else if (match (s.progEntry b e).ready with
            | some i => decide (31488 < i.data.length)
            | none => false) then .error stBadImage
          else
            match Config.gcmOpen (Config.kdf256 (leBytes 32 key.toNat) "PROJ" []) data with
            | none => .error stBindInvalid
            | some table =>
              let bs := s.basin b
              .ok (s.setBasin b { bs with binds := bs.binds ++
                [{ kind := 2, entry := e, object := dsc p 8 4, digest := BitVec.ofNat 384 (dsc p 0x28 48), key := key, table := table }] })

/-- `BIND`. -/
def doBind (d : Dsc) (s : State) : State :=
  let n := d.f 0x18 8
  if !s.inHost d.basin (d.f 0x10 8) n then (s.bump rSecErr 16 16 1).fin d stAccessDenied 0
  else
    let p := s.buffer (d.f 0x10 8) n
    match s.bindPackage d.basin p with
    | .ok t => t.fin d stOk (dsc p 8 4)
    | .error e => (if e = stAuthFail then s.bump rSecErr 0 16 1 else s.bump rSecErr 16 16 1).fin d e 0

def execBind (basin : BitVec 6) (ring : BitVec 8) (s : State) : Host.Outcome State Fault Refusal :=
  .next (serve 0x2A (tenantDsc doBind) basin.toNat ring.toNat s)

/-- `UNBIND` (R196, R376). -/
def doUnbind (d : Dsc) (s : State) : State :=
  let kind := d.f 0x10 1
  let object := d.f 0x14 4
  let bs := s.basin d.basin
  let mine (x : Binding) : Bool := decide (x.kind = kind) && decide (x.object = object) && (decide (kind = 1) || decide (x.entry = d.f 0x11 1))
  if kind = 0 ∨ 2 < kind then s.fin d stInvalidField 0
  else if !bs.binds.any mine then s.fin d stNotFound 0
  else if kind = 1 ∧ s.tiers.objects.any (fun o => decide (o.2.basin = d.basin) && decide (o.2.base = object)) then s.fin d stBaseInUse 0
  else
    let s1 := if kind = 1 then s.freeBase d.basin object else s
    (s1.setBasin d.basin { s1.basin d.basin with binds := (s1.basin d.basin).binds.filter (fun x => !mine x) }).fin d stOk 0

def execUnbind (basin : BitVec 6) (ring : BitVec 8) (s : State) : Host.Outcome State Fault Refusal :=
  .next (serve 0x2B (tenantDsc doUnbind) basin.toNat ring.toNat s)

/-! ### Removal of a tenant (R380) -/

/-- The removal in progress at a step. -/
def State.removalAt (s : State) (step : Nat) : Option Removal := s.sec.removal.filter (fun r => decide (r.step = step))
def State.setRemoval (s : State) (r : Removal) : State := { s with sec := { s.sec with removal := some r } }

/-- An entry with its FENCED bit set, where its kind has one (R220). -/
def LEntry.fence (e : LEntry) : LEntry :=
  let bit := match kfld e.key 0 4 with
    | 1 => 33
    | 2 => 57
    | 3 => 23
    | 4 => 40
    | _ => 64
  if bit = 64 then e else LEntry.make e.key e.care (setFld e.val bit 1 1)

/-- Connections of a tenant. -/
def State.connsOf (s : State) (t : Nat) : List Nat :=
  (s.net.conns.filter (fun p => decide (p.2.kind = 0) && decide (p.2.tenant = t) && decide (p.2.st ≠ .closed))).map (·.1)

/-- `REMOVAL_FENCE` (step 2): every matching entry is fenced, the tenant's moorings are revoked, its connections stop
sending. -/
def execRemovalFence (s : State) : Host.Outcome State Fault Refusal :=
  match s.removalAt 1 with
  | none => .next s
  | some r =>
    let t := r.tenant
    let key := ldgKey 0 t 0 0 0 0
    let mask := BitVec.ofNat 128 (8 + (2 ^ 12 - 1) * 2 ^ 4)
    let s1 := s.ldgTest (s.ldgHits key mask)
    let hits := s1.ldgHits key mask
    let s2 := hits.foldl (fun (s : State) i => s.ldgPut i (s.ldgEntry i).fence) s1
    let moors := (s2.net.moorings.filter (fun p => decide (p.2.tenant = t) && decide (p.2.st = 1))).map (·.1)
    let s3 := moors.foldl (fun (s : State) i => (s.setMooring i { s.mooring i with st := 2 }).moorSettle i) s2
    let s4 := (s3.connsOf t).foldl (fun (s : State) n => s.dropFrames n) s3
    .next (s4.setRemoval { r with step := 2, fenced := hits.length })

/-- Both halves of a sweep's result slot zeroed (R342). -/
def State.zeroHalves (s : State) (a : ASweep) : State := s.setDram (memZero s.dram (a.desc.slot + 64) (a.desc.slotLen - 64))

/-- `REMOVAL_CANCEL` (step 3): the tenant's sweeps end ABANDONED, its runs stop, its barges are given up. -/
def execRemovalCancel (s : State) : Host.Outcome State Fault Refusal :=
  match s.removalAt 2 with
  | none => .next s
  | some r =>
    let t := r.tenant
    let held := s.sweeps.accepted.filter (fun p => decide (p.2.tenant = t) && decide (p.2.state < 5))
    let s1 := held.foldl (fun (s : State) p => (s.zeroHalves p.2).abandon p.2 stTenantRetired) s
    let s2 := (s1.sweeps.members.filter (fun m => decide (m.tenant = t) && decide (m.stage < 3))).foldl (fun (s : State) m => s.stopMember m) s1
    let keys := (s2.tiers.barges.filter (fun b => decide (b.1.tenant = t))).map (·.1)
    let s3 := keys.foldl (fun (s : State) k => s.abortBarge k) s2
    .next (s3.setRemoval { r with step := 3, sweeps := held.length, barges := r.barges + keys.length })

/-- Stacked-DRAM and flash slots of a tenant. -/
def State.dramOf (s : State) (t : Nat) : List Nat :=
  (s.tiers.slots.filter (fun p => decide (p.2.st ≠ .free) && (decide (p.2.tenant = t) || decide (p.2.key.map (·.tenant) = some t)))).map (·.1)
def State.flashOf (s : State) (t : Nat) : List Nat :=
  (s.nv.slots.filter (fun p => decide (p.2.tenant = t) &&
    (match p.2.st with | .home | .reserved | .draining | .journal => true | _ => false))).map (·.1)

/-- Table slots whose leaves are all gone marked stale. -/
def State.dropTables (s : State) : State :=
  let used := s.tiers.layers.flatMap (fun p => p.2.spilled.map (fun q => q.2.1))
  (s.nv.slots.filter (fun p => decide (p.2.st = .table) && !used.contains (p.1 + 0x01000000))).foldl
    (fun (s : State) p => s.freeHome (p.1 + 0x01000000)) s

/-- `REMOVAL_SCRUB` (step 4): keys zeroed, storage, tables, ledger entries, connections and moorings of the tenant gone. -/
def execRemovalScrub (s : State) : Host.Outcome State Fault Refusal :=
  match s.removalAt 3 with
  | none => .next s
  | some r =>
    let t := r.tenant
    let s1 := s.setKeySlot t { st := 4, owner := (s.keySlot t).owner }
    let dram := s1.dramOf t
    let flash := s1.flashOf t
    let conns := s1.connsOf t
    let moors := (s1.net.moorings.filter (fun p => decide (p.2.tenant = t) && decide (p.2.st ≠ 0))).map (·.1)
    let s2 := dram.foldl (fun (s : State) n => s.freeHome n) s1
    let s3 := flash.foldl (fun (s : State) f => s.freeHome (f + 0x01000000)) s2
    let s4 := conns.foldl (fun (s : State) n => ((s.closeConn n stWrCancelled).send (.connClose n))) s3
    let s5 := moors.foldl (fun (s : State) i => (s.setMooring i { s.mooring i with st := 3, inflight := 0, jobs := [] })) s4
    let s6 : State := { s5 with
      tiers := { s5.tiers with
        layers := s5.tiers.layers.filter (fun p => decide (p.1.tenant ≠ t)),
        objects := s5.tiers.objects.filter (fun p => decide (p.1.1 ≠ t)),
        copies := s5.tiers.copies.filter (fun p => decide (p.1.tenant ≠ t)),
        reads := s5.tiers.reads.filter (fun q => decide (q.key.tenant ≠ t)),
        tombs := s5.tiers.tombs.filter (fun p => decide (p.1.tenant ≠ t)),
        noRetry := s5.tiers.noRetry.filter (fun p => decide (p.1.tenant ≠ t)),
        graphQ := s5.tiers.graphQ.filter (fun k => decide (k.tenant ≠ t)),
        bargeQ := s5.tiers.bargeQ.filter (fun q => decide (q.key.tenant ≠ t)) },
      twin := { s5.twin with out := alDel s5.twin.out t, src := alDel s5.twin.src t, seeding := alDel s5.twin.seeding t,
                             unjournalled := s5.twin.unjournalled.filter (fun k => decide (k.tenant ≠ t)),
                             fetching := s5.twin.fetching.filter (fun k => decide (k.tenant ≠ t)),
                             claims := s5.twin.claims.filter (fun c => decide (c.key.tenant ≠ t)),
                             indexWait := s5.twin.indexWait.filter (fun x => decide (x ≠ t)) },
      host := { s5.host with basins := alMap s5.host.basins (fun _ b => { b with tenants := b.tenants.filter (fun x => decide (x ≠ t)) }) },
      ledger := { s5.ledger with entries := s5.ledger.entries.filter (fun e => e.2.retired || e.2.isFree
        || decide (kfld e.2.key 4 12 ≠ t) || decide (kfld e.2.key 0 4 = 6)) } }
    let jobs := moors.flatMap (fun i => (s5.mooring i).jobs)
    let s7 := jobs.foldl (fun (s : State) j => s.finishJob j stOk 0) s6
    .next ((s7.dropTables).setRemoval { r with step := 4, dram := dram.length, flash := flash.length, conns := conns.length, moorings := moors.length })

/-- `REMOVAL_REPORT` (step 5); the composition queue goes on. -/
def execRemovalReport (s : State) : Host.Outcome State Fault Refusal :=
  match s.removalAt 4, s.host.composing with
  | some r, some o =>
    let s1 := s.removeEnd r (dscOf 0 o.ring o.desc)
    .next ({ s1 with host := { s1.host with composing := none } } : State).composeOn
  | _, _ => .next s

end Sys2Proof.Machine
end

