-- ==== Sys2Proof/Machine/Spdm.lean ====
section
/-! DEFINITION. SPDM, vendor commands, TDISP and IDE (R365 to R371, R377). Message codes are those of DSP0274 (log). -/

namespace Sys2Proof.Machine

/-- An SPDM response, and the ERROR response with its code. -/
def State.spdmOut (s : State) (code : Nat) (body : List Byte) : State := s.send (.spdm code body)
def State.spdmError (s : State) (e : Nat) : State := s.spdmOut 0x7F [BitVec.ofNat 8 e]
def errInvalid : Nat := 0x01
def errBusy : Nat := 0x03
def errSession : Nat := 0x02

/-! ### Identity (R364 to R366) -/

/-- The current owner's hash; none while the part is unowned. -/
def State.owner (s : State) : Option (BitVec 384) := s.nv.owners.getLast?
def State.ownerHash (s : State) : BitVec 384 := s.owner.getD 0

def State.chain (s : State) (slot : Nat) : List Byte := Config.certChain slot s.sec.bootDigest s.sec.bootSvn
def State.signed (s : State) (body : List Byte) : List Byte := body ++ Config.aliasSign s.sec.bootDigest s.sec.bootSvn body

/-! ### The measurement report (R368) -/

def digestBytes (d : BitVec 384) : List Byte := leBytes 48 d.toNat

/-- State byte and digests of one program entry. -/
def ProgEntry.measure (p : ProgEntry) : List Byte :=
  let d (i : Option Image) : List Byte := digestBytes ((i.map (·.digest)).getD 0)
  (match p.ready, p.retiring with
   | none, none => [0]
   | _, none => [1]
   | _, some _ => [2]) ++ d p.ready ++ d p.retiring

/-- A block of the report; none where it is absent. -/
def State.measureBlock (s : State) (i : Nat) : Option (List Byte) :=
  if i = 1 then some (digestBytes (Config.sha384 Config.fuses) ++ Config.hwIdent)
  else if i = 2 then some (digestBytes s.sec.bootDigest ++ leBytes 4 s.sec.bootSvn)
  else if i = 3 then some ((List.range 4).flatMap (fun k => digestBytes (((s.keeperImage k).map (·.digest)).getD 0)))
  else if i = 4 then some ([if s.sec.dbgCount = 0 then 0 else 1] ++ leBytes 8 s.sec.dbgMask.toNat ++ leBytes 4 s.sec.dbgCount ++ digestBytes s.sec.dbgOwner)
  else if i = 5 then some (s.nv.owners.flatMap digestBytes ++ leBytes 1 (s.fld rPrtCtl 0 1) ++ leBytes 1 s.sec.tdisp)
  else if 0x10 ≤ i ∧ i < 0x50 then
    if (s.basin (i - 0x10)).st = 0 then none
    else some ((List.range 15).flatMap (fun e => (s.progEntry (i - 0x10) (e + 1)).measure))
  else if 0x50 ≤ i ∧ i < 0x90 then
    let bs := (s.basin (i - 0x50)).binds
    some (leBytes 2 bs.length ++ bs.flatMap (fun b => leBytes 1 b.kind ++ leBytes 1 b.entry ++ leBytes 4 b.object ++ digestBytes b.digest))
  else none

/-- The blocks of a report, each with its index. -/
def State.report (s : State) : List (Nat × List Byte) :=
  (List.range 0x90).filterMap (fun i => (s.measureBlock i).map (fun b => (i, b)))

/-! ### Connection set-up and certificates (R365, R367) -/

def State.setSec (s : State) (x : Sec) : State := { s with sec := x }

/-- No SPDM request is served in RECOVERY (R398), nor in reset. -/
def State.spdmOff (s : State) : Bool := decide (s.mode = 3) || s.boot.inReset

/-- `GET_VERSION`: 1.2 and 1.3. -/
def execGetVersion (s : State) : Host.Outcome State Fault Refusal :=
  if s.spdmOff then .next s else
  .next (s.spdmOut 0x04 (leBytes 1 2 ++ leBytes 2 0x1200 ++ leBytes 2 0x1300))

/-- `GET_CAPABILITIES`: CERT, CHAL, MEAS with signature, ENCRYPT, MAC, MUT_AUTH, KEY_EX, HBEAT, KEY_UPD, CHUNK. -/
def execGetCapabilities (s : State) : Host.Outcome State Fault Refusal :=
  if s.spdmOff then .next s else
  .next (s.spdmOut 0x61 (leBytes 4 0x000263D6))

/-- `NEGOTIATE_ALGORITHMS`: ECDSA P-384, SHA-384, secp384r1, AES-256-GCM. -/
def execNegotiateAlgorithms (s : State) : Host.Outcome State Fault Refusal :=
  if s.spdmOff then .next s else
  .next (s.spdmOut 0x63 (leBytes 4 0x80 ++ leBytes 4 0x02 ++ leBytes 2 0x10 ++ leBytes 2 0x02))

/-- `GET_DIGESTS`: the digests of the chains in slots 0 and 1. -/
def execGetDigests (s : State) : Host.Outcome State Fault Refusal :=
  if s.spdmOff then .next s else
  .next (s.spdmOut 0x01 (leBytes 1 3 ++ digestBytes (Config.sha384 (s.chain 0)) ++ digestBytes (Config.sha384 (s.chain 1))))

/-- `GET_CERTIFICATE`. -/
def execGetCertificate (slot : BitVec 4) (s : State) : Host.Outcome State Fault Refusal :=
  if s.spdmOff then .next s else
  .next (if slot.toNat ≤ 1 then s.spdmOut 0x02 (s.chain slot.toNat) else s.spdmError errInvalid)

/-- `CHALLENGE`: signed with the Alias key. -/
def execChallenge (slot : BitVec 4) (nonce : List Byte) (s : State) : Host.Outcome State Fault Refusal :=
  if s.spdmOff then .next s else
  .next (if slot.toNat ≤ 1 then s.spdmOut 0x03 (s.signed (digestBytes (Config.sha384 (s.chain slot.toNat)) ++ nonce)) else s.spdmError errInvalid)

/-- `GET_MEASUREMENTS`: index 0 the number of blocks, 0xFF all of them, else one; one snapshot, signed with the Alias key. -/
def execGetMeasurements (index : BitVec 8) (s : State) : Host.Outcome State Fault Refusal :=
  if s.spdmOff then .next s else
  let i := index.toNat
  if i = 0 then .next (s.spdmOut 0x60 (s.signed (leBytes 1 s.report.length)))
  else if i = 0xFF then
    .next (s.spdmOut 0x60 (s.signed (s.report.flatMap (fun b => leBytes 1 b.1 ++ leBytes 2 b.2.length ++ b.2))))
  else
    match s.measureBlock i with
    | some b => .next (s.spdmOut 0x60 (s.signed (leBytes 1 i ++ leBytes 2 b.length ++ b)))
    | none => .next (s.spdmError errInvalid)

/-! ### Sessions (R367) -/

def State.session (s : State) (id : Nat) : Option Session := s.sec.sessions.find? (fun x => decide (x.id = id))
def State.modSession (s : State) (id : Nat) (f : Session → Session) : State :=
  s.setSec { s.sec with sessions := s.sec.sessions.map (fun x => if x.id = id then f x else x) }

/-- `KEY_EXCHANGE`: up to eight sessions; a ninth is answered Busy. -/
def execKeyExchange (sess : BitVec 32) (reqCert : List Byte) (s : State) : Host.Outcome State Fault Refusal :=
  if s.spdmOff then .next s else
  if 8 ≤ s.sec.sessions.length then .next (s.spdmError errBusy)
  else if (s.session sess.toNat).isSome then .next (s.spdmError errInvalid)
  else
    let x : Session := { id := sess.toNat, leaf := Config.leafHash reqCert }
    .next ((s.setSec { s.sec with sessions := s.sec.sessions ++ [x] }).spdmOut 0x64 (leBytes 4 sess.toNat))

/-- `FINISH`. -/
def execFinish (sess : BitVec 32) (mutAuth : Bool) (s : State) : Host.Outcome State Fault Refusal :=
  if s.spdmOff then .next s else
  match s.session sess.toNat with
  | none => .next (s.spdmError errSession)
  | some x =>
    if x.done then .next (s.spdmError errInvalid)
    else .next ((s.modSession x.id (fun y => { y with done := true, mutAuth := mutAuth })).spdmOut 0x65 [])

/-- `KEY_UPDATE`. -/
def execKeyUpdate (sess : BitVec 32) (s : State) : Host.Outcome State Fault Refusal :=
  if s.spdmOff then .next s else
  match s.session sess.toNat with
  | some x => if x.done then .next ((s.modSession x.id (fun y => { y with updates := y.updates + 1 })).spdmOut 0x69 []) else .next (s.spdmError errSession)
  | none => .next (s.spdmError errSession)

/-- `HEARTBEAT`. -/
def execHeartbeat (sess : BitVec 32) (s : State) : Host.Outcome State Fault Refusal :=
  if s.spdmOff then .next s else
  match s.session sess.toNat with
  | some x => .next (if x.done then s.spdmOut 0x68 [] else s.spdmError errSession)
  | none => .next (s.spdmError errSession)

/-- `END_SESSION`. -/
def execEndSession (sess : BitVec 32) (s : State) : Host.Outcome State Fault Refusal :=
  if s.spdmOff then .next s else
  match s.session sess.toNat with
  | some x => .next ((s.setSec { s.sec with sessions := s.sec.sessions.filter (fun y => decide (y.id ≠ x.id)) }).spdmOut 0x6C [])
  | none => .next (s.spdmError errSession)

/-! ### Vendor commands (R366, R371, R377) -/

/-- The kind of session a command asks for. -/
inductive SessKind where
  | any | mutualAuth | owner | tenant (t : Nat)
deriving DecidableEq, Repr

def State.sessOk (s : State) (x : Session) : SessKind → Bool
  | .any => true
  | .mutualAuth => x.mutAuth
  | .owner => x.mutAuth && decide (s.owner = some x.leaf)
  | .tenant t => x.mutAuth && decide ((s.keySlot t).st ≠ 0) && decide ((s.keySlot t).owner = x.leaf)

/-- A vendor response: code, status and what follows. -/
def State.vendor (s : State) (code status : Nat) (more : List Byte) : State := s.spdmOut 0x7E (leBytes 2 code ++ leBytes 2 status ++ more)

/-- A vendor command in a session: without one an SPDM error, in one of the wrong kind AUTH_FAIL, counted. -/
def State.command (s : State) (sess code : Nat) (k : SessKind) (f : Session → State) : State :=
  match s.session sess with
  | none => s.spdmError errSession
  | some x =>
    if !x.done then s.spdmError errSession
    else if !s.sessOk x k then (s.bump rSecErr 0 16 1).vendor code stAuthFail []
    else f x

/-- Basins a tenant's TENANT entry names. -/
def State.tenantMask (s : State) (t : Nat) : Nat :=
  match s.ldgSame (tenantKeyOf t) tenantCare with
  | some i => (s.ldgEntry i).val.toNat
  | none => 0

/-- `GET_SLOT`. -/
def execGetSlot (sess : BitVec 32) (tenant : BitVec 16) (s : State) : Host.Outcome State Fault Refusal :=
  if s.spdmOff then .next s else
  let t := tenant.toNat
  .next (s.command sess.toNat 0x0001 .any (fun _ =>
    if 4096 ≤ t then s.vendor 0x0001 stInvalidField []
    else s.vendor 0x0001 stOk (leBytes 1 (s.keySlot t).st ++ digestBytes (s.keySlot t).owner ++ leBytes 8 (s.tenantMask t))))

/-- Journal records held for a tenant go out once its slot is ACTIVE (R410). -/
def State.sendHeld (s : State) (t : Nat) : State :=
  let j := s.jout t
  if j.held.isEmpty then s
  else (s.setJout t { j with out := j.out ++ j.held, held := [] }).send (.journal s.twinPkg t j.held)

/-- `KEY_LOAD`: RESERVED becomes ACTIVE. -/
def execKeyLoad (sess : BitVec 32) (tenant : BitVec 16) (mem conn : BitVec 256) (s : State) : Host.Outcome State Fault Refusal :=
  if s.spdmOff then .next s else
  let t := tenant.toNat
  .next (s.command sess.toNat 0x0002 (.tenant t) (fun _ =>
    let k := s.keySlot t
    if k.st ≠ 1 then s.vendor 0x0002 stSlotState []
    else (((s.setKeySlot t { k with st := 2, mem := mem, conn := conn }).sendHeld t).askIndex t).vendor 0x0002 stOk []))

/-- `KEY_CONN`. -/
def execKeyConn (sess : BitVec 32) (tenant : BitVec 16) (conn : BitVec 256) (s : State) : Host.Outcome State Fault Refusal :=
  if s.spdmOff then .next s else
  let t := tenant.toNat
  .next (s.command sess.toNat 0x0003 (.tenant t) (fun _ =>
    let k := s.keySlot t
    if k.st ≠ 2 then s.vendor 0x0003 stSlotState []
    else (s.setKeySlot t { k with conn := conn, loads := (k.loads + 1) % 2 ^ 16 }).vendor 0x0003 stOk []))

def State.addOwner (s : State) (h : BitVec 384) : State := { s with nv := { s.nv with owners := s.nv.owners ++ [h] } }

/-- `OWNER_CLAIM`: the first entry of an unowned part. -/
def execOwnerClaim (sess : BitVec 32) (s : State) : Host.Outcome State Fault Refusal :=
  if s.spdmOff then .next s else
  .next (s.command sess.toNat 0x0010 .mutualAuth (fun x =>
    if s.owner.isSome then s.vendor 0x0010 stSlotState [] else (s.addOwner x.leaf).vendor 0x0010 stOk []))

/-- `OWNER_TRANSFER`: the next of eight entries. -/
def execOwnerTransfer (sess : BitVec 32) (hash : BitVec 384) (s : State) : Host.Outcome State Fault Refusal :=
  if s.spdmOff then .next s else
  .next (s.command sess.toNat 0x0011 .owner (fun _ =>
    if 8 ≤ s.nv.owners.length then s.vendor 0x0011 stSlotState [] else (s.addOwner hash).vendor 0x0011 stOk []))

/-- `SYS_KEY`: the manager key, the system key of a pair, a port's CAK. -/
def execSysKey (sess : BitVec 32) (kind : BitVec 8) (peer : BitVec 16) (port : BitVec 8) (ckn : BitVec 128) (key : BitVec 256)
    (s : State) : Host.Outcome State Fault Refusal :=
  if s.spdmOff then .next s else
  .next (s.command sess.toNat 0x0012 .owner (fun _ =>
    if kind = 1 then (s.setSec { s.sec with mgrKey := some key }).vendor 0x0012 stOk []
    else if kind = 2 ∧ peer.toNat < 1024 then (s.setSec { s.sec with sysKeys := alPut s.sec.sysKeys peer.toNat key }).vendor 0x0012 stOk []
    else if kind = 3 ∧ port.toNat < 8 then
      (s.setPort port.toNat { s.port port.toNat with cak := some (leBytes 16 ckn.toNat, key) }).vendor 0x0012 stOk []
    else s.vendor 0x0012 stInvalidField []))

/-- `DEBUG_UNLOCK` (R377). -/
def execDebugUnlock (sess : BitVec 32) (basins : BitVec 64) (s : State) : Host.Outcome State Fault Refusal :=
  if s.spdmOff then .next s else
  .next (s.command sess.toNat 0x0013 .owner (fun _ =>
    (s.setSec { s.sec with dbgMask := s.sec.dbgMask ||| basins, dbgCount := (s.sec.dbgCount + 1) % 2 ^ 32, dbgOwner := s.ownerHash }).vendor
      0x0013 stOk []))

/-- Whether tenant 0 homes a berth or holds a connection. -/
def State.tenant0Busy (s : State) : Bool :=
  s.tiers.layers.any (fun p => decide (p.1.tenant = 0) && p.2.ptes.any (fun e => e.2.home)) || !(s.connsOf 0).isEmpty

/-- `TENANT0_KEY`. -/
def execTenant0Key (sess : BitVec 32) (mem conn : BitVec 256) (s : State) : Host.Outcome State Fault Refusal :=
  if s.spdmOff then .next s else
  .next (s.command sess.toNat 0x0014 .owner (fun _ =>
    if s.tenant0Busy then s.vendor 0x0014 stSlotState []
    else (s.setKeySlot 0 { s.keySlot 0 with mem := mem, conn := conn }).vendor 0x0014 stOk []))

/-! ### TDISP and IDE (R369) -/

def State.setTdisp (s : State) (n : Nat) : State := s.setSec { s.sec with tdisp := n }

/-- The interface in ERROR, from a locked state. -/
def State.tdispError (s : State) : State := if s.sec.tdisp = 1 ∨ s.sec.tdisp = 2 then s.setTdisp 3 else s

/-- `LOCK_INTERFACE`. -/
def execLockInterface (s : State) : Host.Outcome State Fault Refusal :=
  if s.spdmOff then .next s else
  .next (if s.sec.tdisp = 0 then (s.setTdisp 1).spdmOut 0x7E [] else s.spdmError errInvalid)

/-- `START_INTERFACE`. -/
def execStartInterface (s : State) : Host.Outcome State Fault Refusal :=
  if s.spdmOff then .next s else
  .next (if s.sec.tdisp = 1 then (s.setTdisp 2).spdmOut 0x7E [] else s.spdmError errInvalid)

/-- `STOP_INTERFACE`: every sweep cancelled, every host area zeroed, CONFIG_UNLOCKED. -/
def execStopInterface (s : State) : Host.Outcome State Fault Refusal :=
  if s.spdmOff then .next s else
  let held := s.sweeps.accepted.filter (fun p => decide (p.2.state < 5))
  let s1 := held.foldl (fun (s : State) p => s.abandon p.2 0) s
  let s2 := s1.host.basins.foldl (fun (s : State) p =>
    if p.2.st = 0 then s else s.setDram (memZero s.dram p.2.hostLo (p.2.hostHi - p.2.hostLo))) s1
  .next ((s2.setTdisp 0).spdmOut 0x7E [])

/-- `IDE_KM`: the key of the link stream or of one of two selective streams; a new stream is a change of the IDE configuration,
which a locked interface has frozen. -/
def execIdeKm (sess : BitVec 32) (stream : BitVec 2) (key : BitVec 256) (s : State) : Host.Outcome State Fault Refusal :=
  if s.spdmOff then .next s else
  match s.session sess.toNat with
  | none => .next (s.spdmError errSession)
  | some x =>
    if !x.done then .next (s.spdmError errSession)
    else if stream = 3 then .next (s.spdmError errInvalid)
    else
      let new := (alGet s.sec.ide stream.toNat).isNone
      let s1 := s.setSec { s.sec with ide := alPut s.sec.ide stream.toNat key }
      .next ((if new then s1.tdispError else s1).spdmOut 0x7E [])

/-- `IDE_INTEGRITY_FAIL`. -/
def execIdeIntegrityFail (s : State) : Host.Outcome State Fault Refusal := .next s.tdispError

/-- `IDE_KEY_EXPIRY`. -/
def execIdeKeyExpiry (s : State) : Host.Outcome State Fault Refusal := .next (s.setSec { s.sec with ide := [] }).tdispError

/-- `FROZEN_CONFIG_CHANGE`. -/
def execFrozenConfigChange (s : State) : Host.Outcome State Fault Refusal := .next s.tdispError

end Sys2Proof.Machine
end

