-- ==== Sys2Proof/Machine/Registers.lean ====
section
/-! DEFINITION. The registers of BAR0 as they are read and written: which block each mode serves (R324, R326), what each register
shows (the maps of R24, R193, R243, R244, R271, R272, R308, R309, R320, R328, R362, R384, R407, R436, R444, R447, R455), what a read does
to it and what a write that performs no action of its own does (R6, R7). -/

namespace Sys2Proof.Machine

/-! ### Blocks and modes (R324, R326) -/

/-- The block an offset lies in. -/
def blockOf (off : Nat) : Nat := off / 2 ^ 16

/-- Blocks the boot sequencer serves: HUB_, BOOT_, RST_, PWR_, TWP_ and the MSI-X structures. -/
def bootBlock (off : Nat) : Bool :=
  decide (blockOf off ≤ 3) || decide (blockOf off = 0x12) || decide (blockOf off = 0xFE) || decide (blockOf off = 0xFF)

/-- Blocks of the map. -/
def mapped (off : Nat) : Bool :=
  decide (off < 0x140000) || (decide (0x800000 ≤ off) && decide (off < 0xC00000)) || decide (blockOf off = 0xFE) || decide (blockOf off = 0xFF)

/-- Whether a block is served in the present mode. -/
def State.blockServed (s : State) (off : Nat) : Bool :=
  !s.boot.inReset && mapped off && (bootBlock off || decide (s.mode = 2))

/-- Whether a host write is taken: HANDOVER takes writes of the HUB_ block alone; ERROR takes none (R326, R369). -/
def State.takesWrite (s : State) (off : Nat) : Bool :=
  s.blockServed off && (decide (s.mode ≠ 1) || decide (blockOf off = 0)) && decide (s.sec.tdisp ≠ 3)

/-! ### Supplies (R386 to R389) -/

/-- The latched backup class; 5 to 7 stand for no backup, as 0 does (R388). -/
def State.bkpClass (s : State) : Nat := s.aon.straps.toNat % 8
def State.bkpThere (s : State) : Bool := decide (1 ≤ s.bkpClass) && decide (s.bkpClass ≤ 4)

/-- Low-water pace in M steps/s for the class, where the class has one (R388). -/
def State.lowWaterPace (s : State) : Option Nat :=
  match s.bkpClass with
  | 1 => some 860
  | 2 => some 1290
  | 3 => some 2150
  | _ => none

/-- Low-water pace in force (R389). -/
def State.lowWater (s : State) : Bool :=
  s.lowWaterPace.isSome && (s.aon.onBackup || decide (s.fld rPwrCtl 0 1 = 1))

/-! ### What registers show -/

/-- A word with fields set: least bit, width, value. -/
def pack (v : W64) (fs : List (Nat × Nat × Nat)) : W64 := fs.foldl (fun v f => Sys2Proof.setFld v f.1 f.2.1 f.2.2) v

/-- Bits of a list of numbers below 64. -/
def bitsOf (l : List Nat) : Nat := (l.eraseDups.map (fun i => 2 ^ i)).sum

/-- RST_CAUSE and TWP_WDT_LOG as a read returns them: the oldest entry (R407, R444). -/
def State.causeWord (s : State) : W64 :=
  match s.aon.causes with
  | [] => 0
  | c :: _ => pack 0 [(0, 3, c), (8, 1, 1)]
def State.wdtWord (s : State) : W64 :=
  match s.aon.wdt with
  | [] => 0
  | (k, rb, pc, t) :: _ => pack 0 [(0, 2, k), (2, 1, 1), (3, 1, rb.toNat), (4, 28, pc), (32, 32, t)]

/-- The sensor shown by an index: value and alarm; none before its first update (R442). -/
def State.sensorWord (s : State) (i : Nat) : W64 :=
  match alGet s.towpath.sensors i with
  | some (v, a) => pack 0 [(0, 16, v), (16, 1, 1), (17, 1, a.toNat)]
  | none => 0

/-- A ledger entry in use. -/
def LEntry.used (e : LEntry) : Bool := !e.retired

/-- The cursor registers of cursor `n`, `o` their offset in its page (R243). -/
def State.cursorWord (s : State) (n o : Nat) : W64 :=
  let c := s.cursor n
  match o with
  | 0x28 => pack 0 [(0, 18, c.index), (18, 1, c.valid.toNat), (19, 1, (decide (1 < c.count)).toNat), (20, 1, c.busy.toNat),
                    (21, 1, c.isEnd.toNat), (22, 19, c.count)]
  | 0x30 => c.val
  | 0x38 => c.ekey.setWidth 64
  | 0x40 => (c.ekey >>> 64).setWidth 64
  | 0x48 => c.emask.setWidth 64
  | 0x50 => (c.emask >>> 64).setWidth 64
  | _ => 0

/-- A signed number in 32 bits. -/
def int32 (x : Int) : Nat := (x % 2 ^ 32).toNat

/-- A doorbell page register, `o` its offset in the page of basin `b` (R328). -/
def State.pageWord (s : State) (b o : Nat) : W64 :=
  let bs := s.basin b
  if o < 0x0800 then
    match alGet bs.sqs (o / 8) with
    | some q => pack 0 [(0, 12, q.tail)]
    | none => 0
  else if o < 0x1000 then
    match alGet bs.sqs ((o - 0x0800) / 8) with
    | some q =>
      let sweep := decide (q.head ≠ q.tail) && decide (dsc (memReadN s.dram (q.base + 128 * q.head) 1) 0 1 = 1)
        && decide (16384 ≤ s.sweeps.accepted.length)
      pack 0 [(0, 12, q.head), (12, 1, (s.cqBlocked b q || sweep).toNat)]
    | none => 0
  else if o < 0x1800 then
    match alGet bs.cqs ((o - 0x1000) / 8) with
    | some q => pack 0 [(0, 14, q.head)]
    | none => 0
  else if o = 0x1808 then pack 0 [(0, 10, bs.evt.head)]
  else if o = 0x1810 then pack 0 [(0, 10, bs.evt.tail), (16, 16, bs.evt.lost)]
  else if o = 0x1818 then pack 0 [(0, 10, bs.exc.head)]
  else if o = 0x1820 then pack 0 [(0, 10, bs.exc.tail), (16, 16, bs.exc.lost)]
  else if o = 0x1830 then
    pack 0 [(0, 15, (s.sweeps.accepted.filter (fun p => decide (p.2.basin = b))).length), (16, 15, s.sweeps.accepted.length),
            (32, 16, bitsOf ((bs.cqs.filter (fun p => decide (p.1 < 16) && p.2.full)).map (·.1)))]
  else 0

/-- Registers of the boot, reset, supply and keeper blocks and of the towpath (R407, R444). -/
def State.bootWord (s : State) (off : Nat) : W64 :=
  if off = rBootAttempt then pack 0 [(0, 2, s.aon.attempt)]
  else if off = rRstCause then s.causeWord
  else if off = rPwrStat then
    pack 0 [(0, 1, s.aon.mainOk.toNat), (1, 1, (s.aon.bkpOk && s.bkpThere).toNat), (2, 1, s.aon.onBackup.toNat), (3, 3, s.bkpClass),
            (6, 1, s.lowWater.toNat), (7, 1, s.aon.switchEvt.toNat), (16, 12, ((alGet s.towpath.sensors 19).map (·.1)).getD 0)]
  else if off = rKprStat then pack (s.reg rKprStat) [(16, 4, bitsOf s.boot.onNew), (32, 32, s.lowVersion)]
  else if off = rTwpStat then
    pack 0 [(0, 7, 0x60 + s.aon.straps.toNat / 8), (8, 7, s.towpath.dyn), (15, 1, s.towpath.i3c.toNat), (16, 8, s.towpath.pecErr),
            (24, 1, s.aon.wdtLost.toNat)]
  else if off = rTwpSens then s.sensorWord (s.fld rTwpSensSel 0 8)
  else if off = rTwpWdtLog then s.wdtWord
  else s.reg off

/-- SEC_ registers (R384). -/
def State.secWord (s : State) (off : Nat) : W64 :=
  if off = rSecStat then
    pack 0 [(0, 2, s.sec.tdisp), (2, 1, (!s.sec.ide.isEmpty).toNat), (3, 4, s.sec.sessions.length), (7, 4, s.nv.owners.length),
            (11, 1, (decide (s.sec.dbgCount ≠ 0)).toNat), (16, 16, s.sec.dbgCount)]
  else if off = rSecSlot then
    let k := s.keySlot (s.fld rSecSlotSel 0 12)
    pack 0 [(0, 3, k.st), (16, 16, k.loads), (32, 32, k.owner.toNat % 2 ^ 32)]
  else if off = rSecRmv then
    match s.sec.removal with
    | some r => pack 0 [(0, 12, r.tenant), (12, 3, r.step), (15, 1, 1), (32, 32, r.fenced)]
    | none => 0
  else s.reg off

/-- BSN_ registers (R362). -/
def State.bsnWord (s : State) (off : Nat) : W64 :=
  let sel := s.fld rBsnSel 0 6
  let b := s.basin sel
  if off = rBsnTomb then pack (s.reg rBsnTomb) [(0, 24, s.tiers.tombs.length)]
  else if off = rBsnInfo then
    pack 0 [(0, 2, b.st), (2, 10, (s.upOf sel).length), (12, 2, sel % 4), (14, 1, (decide (b.st ≠ 0) && (s.upOf sel).isEmpty).toNat),
            (16, 8, b.dramW), (32, 32, b.flash.toNat)]
  else if off = rBsnHost then pack 0 [(0, 23, b.hostBase), (23, 23, b.hostSlots)]
  else if off = rBsnMoor then pack 0 [(0, 16, b.moorBase), (16, 16, b.moorLen)]
  else if rBsnClmask ≤ off ∧ off < rBsnClmask + 64 then
    let n := (off - rBsnClmask) / 8
    pack 0 [(0, 64, bitsOf (((s.upOf sel).filter (fun c => decide (c / 64 = n))).map (· % 64)))]
  else s.reg off

/-- TB_, CH_, PRT_ and TRN_ registers (R271, R272, R308, R309). -/
def State.linkWord (s : State) (off : Nat) : W64 :=
  if off = rTbStat then
    pack (s.reg rTbStat) [(0, 3, s.tb.state), (3, 2, s.tb.strand.st), (5, 4, min 15 s.tb.strand.hops), (16, 16, s.tb.strand.source),
                          (50, 1, s.slewing.toNat)]
  else if off = rTbTime then s.tb.ticks
  else if off = rChStat then
    pack (s.reg rChStat) [(0, 12, ((List.range 4096).filter (fun i => decide (16 ≤ i) && !(s.chamber (16 * i)).alloc && !(s.chamber (16 * i)).out)).length),
                          (12, 17, s.poolWaiters)]
  else if off = rChCfg then
    let c := s.chamber (s.fld rChSel 0 16)
    pack 0 [(0, 1, c.fireEn.toNat), (1, 6, c.vector), (7, 1, c.fired.toNat), (8, 6, c.owner), (14, 1, c.alloc.toNat), (15, 1, c.out.toNat)]
  else if off = rChVal then (s.chamber (s.fld rChSel 0 16)).word
  else if rPrtEngCtl ≤ off ∧ off < rPrtEngCtl + 0x100 ∧ off % 0x40 = 8 then
    let e := (off - rPrtEngCtl) / 0x40
    pack (s.reg off) [(0, 1, (s.port (2 * e)).up.toNat), (1, 1, (s.port (2 * e + 1)).up.toNat),
                      (2, 8, bitsOf ((List.range 8).filter (s.laneOk e)))]
  else if off = rTrnStat then
    pack (s.reg rTrnStat) [(0, 13, (s.net.conns.filter (fun p => p.2.live)).length),
                           (16, 21, (s.net.conns.filter (fun p => decide (p.2.st = .established))).length)]
  else if off = rTrnMoor then
    pack 0 [(0, 17, (s.net.moorings.filter (fun p => decide (p.2.st ≠ 0))).length),
            (32, 17, (s.net.moorings.filter (fun p => decide (p.2.st = 2))).length)]
  else s.reg off

/-- TRF_ registers: the meter of TRF_MSEL, the weir of TRF_WSEL (R320). -/
def State.trfWord (s : State) (off : Nat) : W64 :=
  let m := s.meter (s.fld rTrfMsel 0 12)
  let w := s.fld rTrfWsel 0 6
  let b := s.basin w
  if off = rTrfMrate then m.rate
  else if off = rTrfMburst then m.burst
  else if off = rTrfMstat then pack 0 [(0, 32, m.green), (32, 16, m.yellow), (48, 16, m.red)]
  else if off = rTrfWcfg then pack 0 [(0, 24, b.rate), (24, 24, b.cap), (48, 1, b.weirOn.toNat)]
  else if off = rTrfWstat then pack 0 [(0, 32, int32 (s.weirNow w / 2 ^ 22)), (32, 16, b.weirHeld)]
  else s.reg off

/-- LDG_, SND_ and BTH_ registers (R193, R243, R244). -/
def State.storeWord (s : State) (off : Nat) : W64 :=
  if off = rLdgStat then
    pack (s.reg rLdgStat) [(0, 19, (s.ledger.entries.filter (fun p => p.2.used)).length), (19, 19, s.ledger.retiredCount),
                           (39, 1, (!s.ledger.rebuilds.isEmpty).toNat)]
  else if off = rLdgDredge then pack 0 [(0, 18, s.ledger.next), (32, 16, s.ledger.passes)]
  else if off = rLdgRetireLog then s.retireLogWord
  else if rLdgCurKey0 ≤ off ∧ off < rLdgCurKey0 + 0x200 then
    if off % 0x80 < 0x20 then s.reg off else s.cursorWord ((off - rLdgCurKey0) / 0x80) (off % 0x80)
  else if off = rSndColl then
    pack (s.reg rSndColl) [(0, 21, s.sweeps.collFree),
                           (32, 16, (s.sweeps.members.filter (fun m => (m.snd.map (fun x => !x.fixed)).getD false)).length)]
  else if off = rSndGraph then pack (s.reg rSndGraph) [(0, 23, (s.tiers.slots.filter (fun p => decide (p.2.st = .graph))).length)]
  else if off = rBthFree then pack 0 [(0, 23, s.dramFree), (23, 32, s.flashErased)]
  else if off = rBthPtStat then pack (s.reg rBthPtStat) [(0, 20, s.ptFree), (32, 25, s.spilledLeaves)]
  else if off = rBthQdram then
    let t := s.fld rBthQsel 0 12
    pack 0 [(0, 23, (s.quota t).dram), (32, 23, s.dramUse t)]
  else if off = rBthQflash then
    let t := s.fld rBthQsel 0 12
    pack 0 [(0, 32, (s.quota t).flash), (32, 32, s.flashUse t)]
  else if off = rBthBargeStat then pack (s.reg rBthBargeStat) [(0, 16, s.tiers.barges.length)]
  else s.reg off

/-- Journal slots in use on this part (R413). -/
def State.journalUsed (s : State) : Nat := (s.nv.slots.filter (fun p => decide (p.2.st = .journal))).length

/-- TWN_ registers (R436). -/
def State.twnWord (s : State) (off : Nat) : W64 :=
  if off = rTwnStat then pack (s.reg rTwnStat) [(0, 2, s.twin.pair), (32, 32, min (2 ^ 32 - 1) s.lag)]
  else if off = rTwnJour then pack (s.reg rTwnJour) [(32, 32, s.journalUsed)]
  else if off = rTwnQset then
    match s.twin.qset with
    | some q => pack 0 [(0, 32, q.version), (32, 8, q.k), (40, 8, q.n)]
    | none => 0
  else if off = rTwnSpare then
    let c := s.fld rTwnSpareSel 0 9
    let m := s.spareMap c
    pack 0 ((List.range 8).map (fun i => (4 * i, 4, nthD 0xF m.map i)) ++
      [(32, 4, m.spare.getD 0xF), (36, 9, bitsOf m.failed), (45, 1, (s.cluster c).failed.toNat)])
  else s.reg off

/-- DBG_STAT: the core of DBG_CORE_SEL (R455). -/
def State.dbgWord (s : State) (off : Nat) : W64 :=
  if off = rDbgStat then
    let c := s.core (s.fld rDbgCoreSel 0 12)
    let halted := decide (c.halt = .halted) || decide (c.halt = .forced)
    pack (s.reg rDbgStat) [(0, 1, (decide (s.sec.dbgMask ≠ 0)).toNat), (2, 1, halted.toNat), (3, 1, (decide (c.halt = .requested)).toNat),
      (4, 1, c.brkHit.toNat), (16, 16, c.brkCode), (32, 11, if halted then (c.run.map (·.ip)).getD 0 else 0)]
  else s.reg off

/-- HUB_ registers: OUT of a pace register shows the region (R24). -/
def State.hubWord (s : State) (off : Nat) : W64 :=
  if rHubPaceReg ≤ off ∧ off < rHubPaceReg + 0x100 then pack (s.reg off) [(49, 1, (s.region ((off - rHubPaceReg) / 8)).out.toNat)] else s.reg off

/-- A register's value, were its block served. WO and reserved fields read 0 (R6, R7). -/
def State.regValue (s : State) (off : Nat) : W64 :=
  match blockOf off with
  | 0x00 => s.hubWord off
  | 0x01 | 0x02 | 0x03 | 0x04 | 0x12 => s.bootWord off
  | 0x05 => s.secWord off
  | 0x06 => s.bsnWord off
  | 0x07 | 0x08 | 0x09 | 0x0A => s.linkWord off
  | 0x0B => s.trfWord off
  | 0x0C | 0x0D | 0x0E => s.storeWord off
  | 0x0F => s.free
  | 0x10 => s.twnWord off
  | 0x11 => s.dbgWord off
  | 0xFE => alGetD s.regs off (if off % 16 = 8 then BitVec.ofNat 64 (2 ^ 32) else 0)
  | _ => if 0x800000 ≤ off ∧ off < 0xC00000 then s.pageWord ((off - 0x800000) / 0x10000) (off % 0x10000) else s.reg off

/-- What a read returns; an offset off the 8-byte grid or in a block not served reads 0. -/
def State.regShown (s : State) (off : Nat) : W64 := if off % 8 = 0 ∧ s.blockServed off then s.regValue off else 0

/-! ### What a read does (R6) -/

/-- Fields cleared and log entries removed by a read. -/
def State.regReadEffect (s : State) (off : Nat) : State :=
  if off % 8 ≠ 0 ∨ !s.blockServed off then s
  else if off = rRstCause then { s with aon := { s.aon with causes := s.aon.causes.drop 1 } }
  else if off = rTwpWdtLog then { s with aon := { s.aon with wdt := s.aon.wdt.drop 1 } }
  else if off = rTwpStat then { s with towpath := { s.towpath with pecErr := 0 } }
  else if off = rLdgRetireLog then s.retireLogPop
  else if off = rTrfMstat then
    let t := s.fld rTrfMsel 0 12
    s.setMeter t { s.meter t with green := 0, yellow := 0, red := 0 }
  else if off = rTrfWstat then
    let b := s.fld rTrfWsel 0 6
    s.setBasin b { s.basin b with weirHeld := 0 }
  else if 0x800000 ≤ off ∧ off < 0xC00000 then
    let b := (off - 0x800000) / 0x10000
    let bs := s.basin b
    if off % 0x10000 = 0x1810 then s.setBasin b { bs with evt := { bs.evt with lost := 0 } }
    else if off % 0x10000 = 0x1820 then s.setBasin b { bs with exc := { bs.exc with lost := 0 } }
    else s
  else if blockOf off = 0x0F then s.drawn
  else s.setReg off (readClear (regFields off) (s.reg off))

/-- Whether a register has a field whose read has a side effect (R452). -/
def readEffect (off : Nat) : Bool := (regFields off).any (fun f => decide (f.acc = .RC) || decide (f.acc = .RSE))

/-! ### What a write does (R6, R7) -/

/-- Values of RW fields that their maps mark reserved: register, least bit of the field, the test on the value and the word it
would stand in. -/
def reservedVals : List (Nat × Nat × (Nat → W64 → Bool)) := [
  (rHubPaceCtl, 0, fun x _ => decide (8 < x)),
  (rKprCtl, 0, fun x _ => decide (x < 10)),
  (rBsnCtl, 0, fun x _ => decide (x < 10)),
  (rTbPtpCtl, 12, fun x _ => decide (9 < x)),
  (rChCtl, 0, fun x _ => decide (x < 0x400)),
  (rTrnCtl, 16, fun x _ => decide (x < 0x3E8)),
  (rTrnCtl, 32, fun x _ => decide (x = 0)),
  (rTrnCc, 24, fun x _ => decide (x = 0)),
  (rTrnCc, 32, fun x _ => decide (x = 0)),
  (rTrnCc, 48, fun x v => decide (x < Sys2Proof.fld v 32 16)),
  (rTrfDrr, 0, fun x _ => decide (x = 0)),
  (rTrfDrr, 8, fun x _ => decide (x = 0)),
  (rTrfDrr, 16, fun x _ => decide (x = 0)),
  (rTrfDrr, 24, fun x _ => decide (x = 0)),
  (rTrfDrr, 32, fun x _ => decide (x = 0)),
  (rTrfDrr, 40, fun x _ => decide (x = 0)),
  (rLdgCtl, 0, fun x _ => decide (1 ≤ x) && decide (x ≤ 99)),
  (rLdgCtl, 16, fun x _ => decide (25 < x)),
  (rSndCtl, 8, fun x _ => decide (x = 0)),
  (rBthCtl, 8, fun x _ => decide (x = 0) || decide (4096 < x)),
  (rTwnCfg, 16, fun x _ => decide (x = 0)),
  (rTwnSt, 8, fun x _ => decide (x < 100)),
  (rLbsCtl, 0, fun x _ => decide (x = 3)),
  (rLbsCtl, 8, fun x _ => decide (x < 25))]

/-- Whether a value is reserved in a field. -/
def reservedIn (off lo x : Nat) (v : W64) : Bool := reservedVals.any (fun r => decide (r.1 = off) && decide (r.2.1 = lo) && r.2.2 x v)

/-- A register's word after a write: field by field in rising order, a reserved value leaving its field as it was. -/
def written (off : Nat) (old val : W64) : W64 :=
  (regFields off).foldl (fun v f =>
    if f.acc = .RW ∧ reservedIn off f.lo (Sys2Proof.fld val f.lo f.w) v then v else writeField f v val) old

/-- A burst or cap below 69 is reserved in byte mode while EN is 1 (R318, R320). -/
def State.tooShort (s : State) (en : Bool) (x : Nat) : Bool := en && decide (s.fld rTrfCtl 0 1 = 1) && decide (x < 69)

/-- TRF_MBURST of the meter selected (R320). -/
def State.mburstWrite (s : State) (val : W64) : State :=
  let t := s.fld rTrfMsel 0 12
  let m := s.meter t
  let cbs := if s.tooShort m.en (Sys2Proof.fld val 0 24) then m.cbs else Sys2Proof.fld val 0 24
  let pbs := if Sys2Proof.fld val 24 24 < cbs then m.pbs else Sys2Proof.fld val 24 24
  s.setMeter t { m with burst := pack 0 [(0, 24, cbs), (24, 24, pbs)] }

/-- TRF_WCFG of the weir selected; its credit starts at 0 where EN rises (R316, R320). -/
def State.wcfgWrite (s0 : State) (val : W64) : State :=
  let b := s0.fld rTrfWsel 0 6
  let s := s0.weirSettle b
  let bs := s.basin b
  let en := decide (Sys2Proof.fld val 48 1 = 1)
  let cap := if s.tooShort en (Sys2Proof.fld val 24 24) then bs.cap else Sys2Proof.fld val 24 24
  s.setBasin b { bs with rate := Sys2Proof.fld val 0 24, cap := cap, weirOn := en, credit := if en && bs.weirOn then bs.credit else 0 }

/-- The state a step that is a register write leaves; register writes neither fault nor are refused. -/
def took (s : State) : Host.Outcome State Fault Refusal → State
  | .next t => t
  | _ => s

/-- TB_CTL: a source that is no longer selected is lost, and TSTR_OUT follows REPEAT_EN (R246, R251, R256). -/
def State.tbCtlWrite (s : State) (val : W64) : State :=
  let s1 := s.setReg rTbCtl (written rTbCtl (s.reg rTbCtl) val)
  let s2 := if s1.tb.src ≠ 0 ∧ s1.srcWanted ≠ s1.tb.src then s1.loseSource else s1
  s2.tstrUpdate

/-- An MSI-X table word; a vector unmasked sends the message it holds pending (R344). -/
def State.msixWrite (s : State) (off : Nat) (val : W64) : State :=
  if off % 16 = 0 then s.setReg off val
  else
    let v := off % 2 ^ 16 / 16
    let s1 := s.setReg off (pack 0 [(0, 32, Sys2Proof.fld val 0 32), (32, 1, Sys2Proof.fld val 32 1)])
    if Sys2Proof.fld val 32 1 = 0 ∧ s1.fld rMsixPba v 1 = 1 then (s1.setFld rMsixPba v 1 0).send (.msix v) else s1

/-- A write of a register that performs no action of its own. -/
def State.regPut (s : State) (off : Nat) (val : W64) : State :=
  if off % 8 ≠ 0 then s
  else if off = rTbCtl then s.tbCtlWrite val
  else if off = rTrfMburst then s.mburstWrite val
  else if off = rTrfWcfg then s.wcfgWrite val
  else if off = rBthQdram then
    let t := s.fld rBthQsel 0 12
    { s with tiers := { s.tiers with quotas := alPut s.tiers.quotas t { s.quota t with dram := Sys2Proof.fld val 0 23 } } }
  else if off = rBthQflash then
    let t := s.fld rBthQsel 0 12
    { s with tiers := { s.tiers with quotas := alPut s.tiers.quotas t { s.quota t with flash := Sys2Proof.fld val 0 32 } } }
  else if off = rTwpStat then
    if Sys2Proof.fld val 24 1 = 1 then { s with aon := { s.aon with wdtLost := false } } else s
  else if off = rPwrStat then
    if Sys2Proof.fld val 7 1 = 1 then { s with aon := { s.aon with switchEvt := false } } else s
  else if off = rDbgStat then
    let c := s.fld rDbgCoreSel 0 12
    let s1 := if Sys2Proof.fld val 4 1 = 1 then s.setCore c { s.core c with brkHit := false } else s
    s1.setReg off (written off (s1.reg off) val)
  else if blockOf off = 0xFE ∧ off < 0xFE0400 then s.msixWrite off val
  else if (regFields off).isEmpty then s
  else s.setReg off (written off (s.reg off) val)

end Sys2Proof.Machine
end

