-- ==== Sys2Proof/Machine/Debug.lean ====
section
/-! DEFINITION. The debug path and JTAG: DBG_ commands, DBG_SEL scans, boundary scan (R448 to R455). -/

namespace Sys2Proof.Machine

/-! ### Results (R455) -/

/-- DBG_RES: 0 OK, 1 LOCKED, 2 RANGE, 3 NOT_HALTED, 4 INVALID_FIELD; SHADOW. -/
def State.dbgRes (s : State) (status : Nat) (shadow : Bool) : State :=
  ((s.setFld rDbgRes 0 3 status).setFld rDbgRes 3 1 0).setFld rDbgRes 4 1 shadow.toNat
def State.dbgData (s : State) (v : W64) : State := s.setReg rDbgData v
def State.dbgCore (s : State) : Nat := s.fld rDbgCoreSel 0 12
def State.dbgAddr (s : State) : W64 := s.reg rDbgAddr

/-- A basin is unlocked, and the basin of the selected core is (R377, R450, R451). -/
def State.dbgOpen (s : State) : Bool := decide (s.sec.dbgMask ≠ 0)
def State.dbgCoreOpen (s : State) : Bool :=
  match s.basinOf s.dbgCore with
  | some b => s.sec.dbgMask.getLsbD b
  | none => false

/-! ### Commands (R451 to R454) -/

/-- HALT: at once between instructions and in any wait; inside a hold the halt is deferred. -/
def State.haltCore (s : State) (c : Nat) : State :=
  let x := s.core c
  match x.halt with
  | .running =>
    let inHold := (x.run.map (fun r => r.hold.isSome)).getD false
    s.setCore c { x with halt := if inHold then .requested else .halted }
  | _ => s

/-- A hold aborted: its effects and locks go, registers stand as before `hold.begin`; the core stays halted. -/
def State.forceCore (s : State) (c : Nat) : State :=
  match (s.core c).run with
  | some r =>
    if r.hold.isSome then
      let s1 := s.restartHold c
      s1.setCore c { s1.core c with halt := .forced }
    else s.haltCore c
  | none => s.haltCore c

/-- RESUME: a run whose hold was aborted ends with HALT_ABORTED_HOLD; any other goes on. -/
def State.resumeCore (s : State) (c : Nat) : State :=
  let x := s.core c
  match x.halt with
  | .forced => (s.setCore c { x with halt := .running }).raise c exHaltHold 0
  | .halted => s.setCore c { x with halt := .running, stepOnce := false }
  | _ => s

/-- STEP: one instruction, then a halt. -/
def State.stepCore (s : State) (c : Nat) : State :=
  let x := s.core c
  match x.halt with
  | .forced => s.resumeCore c
  | _ => s.setCore c { x with halt := .running, stepOnce := true }

/-- A register of a core, by the numbers of R80, with the lane or element named; none out of range. -/
def Core.dbgGet (x : Core) (n i : Nat) : Option W64 :=
  if n < 0x20 then some (x.sGet n)
  else if n < 0x30 then (if i < 32 then some (BitVec.ofNat 64 (nthD 0 (x.vGet n) i).toNat) else none)
  else if n < 0x38 then some (BitVec.ofNat 64 (nthD 0 (x.tGet n).elems i))
  else some (BitVec.ofNat 64 (nthD 0 (x.aGet n).val i).toNat)

/-- The reverse: the low bits of a word written to a register, lane or element. -/
def Core.dbgPut (x : Core) (n i : Nat) (v : W64) : Option Core :=
  if n < 0x20 then some (x.sPut n v)
  else if n < 0x30 then (if i < 32 then some (x.vPut n (setNth (x.vGet n) i (BitVec.ofNat 32 v.toNat))) else none)
  else if n < 0x38 then
    let t := x.tGet n
    let width := if t.tag = 0 then 4 else if t.tag = 1 then 8 else 16
    some (x.tPut n { t with elems := setNth (padTo 0 1024 t.elems) i (v.toNat % 2 ^ width) })
  else
    let a := x.aGet n
    some { x with a := alPut x.a (n - 0x38) { a with val := setNth (padTo 0 1024 a.val) i (BitVec.ofNat 32 v.toNat) } }

/-- A command that works on the registers or memory of a halted core. -/
def State.onHalted (s : State) (f : Core → State) : State :=
  let x := s.core s.dbgCore
  if x.halt = .halted ∨ x.halt = .forced then f x else s.dbgRes 3 false

/-- RDREG, WRREG, RDMEM, WRMEM. -/
def State.rdReg (s : State) : State :=
  s.onHalted (fun x =>
    let n := vfld s.dbgAddr 0 6
    if 0x3C ≤ n then s.dbgRes 4 false
    else match x.dbgGet n (vfld s.dbgAddr 8 8) with
      | some v => (s.dbgData v).dbgRes 0 false
      | none => s.dbgRes 2 false)
def State.wrReg (s : State) : State :=
  s.onHalted (fun x =>
    let n := vfld s.dbgAddr 0 6
    if 0x3C ≤ n then s.dbgRes 4 false
    else match x.dbgPut n (vfld s.dbgAddr 8 8) (s.reg rDbgData) with
      | some y => (s.setCore s.dbgCore y).dbgRes 0 false
      | none => s.dbgRes 2 false)
def State.rdMem (s : State) : State :=
  s.onHalted (fun x =>
    if localOk s.dbgAddr.toNat 8 then (s.dbgData (BitVec.ofNat 64 (leNat (x.readLocal s.dbgAddr.toNat 8)))).dbgRes 0 false
    else s.dbgRes 2 false)
def State.wrMem (s : State) : State :=
  s.onHalted (fun x =>
    if storeOk s.dbgAddr.toNat 8 then (s.setCore s.dbgCore (x.writeLocal s.dbgAddr.toNat (leBytes 8 (s.reg rDbgData).toNat))).dbgRes 0 false
    else s.dbgRes 2 false)

/-- BREAK: one of four breakpoints set or cleared; other bits of DBG_ADDR must be 0. -/
def State.setBreak (s : State) : State :=
  let a := s.dbgAddr
  let x := s.core s.dbgCore
  let n := vfld a 16 2
  if vfld a 11 5 ≠ 0 ∨ vfld a 18 2 ≠ 0 ∨ vfld a 21 43 ≠ 0 then s.dbgRes 4 false
  else
    let y : Core := { x with breaks := if vfld a 20 1 = 1 then alDel x.breaks n else alPut x.breaks n (vfld a 0 11) }
    (s.setCore s.dbgCore y).dbgRes 0 false

/-- QREAD: what a host read would return, without its side effect. -/
def State.quietRead (s : State) : State :=
  let off := vfld s.dbgAddr 0 24
  (s.dbgData (s.regShown off)).dbgRes 0 (readEffect off)

/-- A command of DBG_CMD. While no basin is unlocked it is ignored; a core command needs the core's basin unlocked. -/
def State.dbgCmd (s : State) (op : Nat) : State :=
  let c := s.dbgCore
  if op = 0 ∨ 10 < op then s
  else if !s.dbgOpen then s.dbgRes 1 false
  else if op = 10 then s.quietRead
  else if !s.dbgCoreOpen then s.dbgRes 1 false
  else if op = 1 then (s.haltCore c).dbgRes 0 false
  else if op = 2 then (s.forceCore c).dbgRes 0 false
  else if op = 3 then (s.resumeCore c).dbgRes 0 false
  else if op = 4 then (s.stepCore c).dbgRes 0 false
  else if op = 5 then s.rdReg
  else if op = 6 then s.wrReg
  else if op = 7 then s.rdMem
  else if op = 8 then s.wrMem
  else s.setBreak

def execDbgHalt (s : State) : Host.Outcome State Fault Refusal := .next (s.dbgCmd 1)
def execForceHalt (s : State) : Host.Outcome State Fault Refusal := .next (s.dbgCmd 2)
def execResume (s : State) : Host.Outcome State Fault Refusal := .next (s.dbgCmd 3)
def execStepOne (s : State) : Host.Outcome State Fault Refusal := .next (s.dbgCmd 4)
def execRdreg (s : State) : Host.Outcome State Fault Refusal := .next (s.dbgCmd 5)
def execWrreg (s : State) : Host.Outcome State Fault Refusal := .next (s.dbgCmd 6)
def execRdmem (s : State) : Host.Outcome State Fault Refusal := .next (s.dbgCmd 7)
def execWrmem (s : State) : Host.Outcome State Fault Refusal := .next (s.dbgCmd 8)
def execBreakSet (s : State) : Host.Outcome State Fault Refusal := .next (s.dbgCmd 9)
def execQread (s : State) : Host.Outcome State Fault Refusal := .next (s.dbgCmd 10)

/-- `HALT_DEFER_LIMIT`: a deferred halt has seen 4,096 steps without a completed `hold.end`; it is forced. -/
def execHaltDeferLimit (core : BitVec 12) (s : State) : Host.Outcome State Fault Refusal :=
  .next (if (s.core core.toNat).halt = .requested then s.forceCore core.toNat else s)

/-! ### JTAG (R448 to R450) -/

def State.setJtag (s : State) (j : Jtag) : State := { s with jtag := j }

/-- An instruction selected; what the TAP shifts out is recorded. -/
def State.tap (s : State) (code : Nat) (out : BitVec 128) : State :=
  (s.setJtag { s.jtag with ir := code, out := out }).send (.tap out)

/-- EXTEST, CLAMP and HIGHZ are taken in RECOVERY or WAIT_IMAGE; once one is, no image is loaded until the next pin reset. Elsewhere
BYPASS is loaded and EXTEST_REFUSED set. -/
def State.tapDrive (s : State) (code : Nat) (out : BitVec 128) : State :=
  if s.mode = 3 ∨ s.fld rBootStat 0 3 = 1 then
    let s1 := s.tap code out
    s1.setJtag { s1.jtag with blocked := true }
  else (s.tap 0xFF 0).setFld rDbgStat 1 1 1

/-- `EXTEST`: pins are driven from the boundary register. -/
def execExtest (s : State) : Host.Outcome State Fault Refusal := .next (s.tapDrive 0x00 s.jtag.bound)
/-- `SAMPLE_PRELOAD`: the pins are captured and shifted out, the boundary register preloaded. -/
def execSamplePreload (pins preload : BitVec 128) (s : State) : Host.Outcome State Fault Refusal :=
  let s1 := s.tap 0x01 pins
  .next (s1.setJtag { s1.jtag with bound := preload })
/-- `IDCODE`. -/
def execIdcode (s : State) : Host.Outcome State Fault Refusal := .next (s.tap 0x02 0x1409656B)
/-- `CLAMP`: outputs are held from the boundary register; the bypass register is selected. -/
def execClamp (s : State) : Host.Outcome State Fault Refusal := .next (s.tapDrive 0x03 0)
/-- `HIGHZ`: outputs float. -/
def execHighz (s : State) : Host.Outcome State Fault Refusal := .next (s.tapDrive 0x04 0)
/-- `BYPASS`: one bit, 0. -/
def execBypass (s : State) : Host.Outcome State Fault Refusal := .next (s.tap 0xFF 0)

/-- A DBG_ register written; DBG_CMD runs its OP. -/
def State.dbgWrite (s : State) (off : Nat) (val : W64) : State :=
  if off = rDbgCmd then s.dbgCmd (vfld val 0 4) else s.regPut off val

/-- `DBG_SEL`: a scan with a register number, a write flag and 64 bits of data, read or written in every mode; a number without a
register reads 0 and takes nothing. -/
def execDbgSel (scan : BitVec 96) (s : State) : Host.Outcome State Fault Refusal :=
  let off := rDbgStat + 8 * (scan.toNat % 16)
  let data := BitVec.ofNat 64 (scan.toNat / 32)
  if scan.getLsbD 4 then .next ((s.dbgWrite off data).tap 0x20 0)
  else .next (s.tap 0x20 (BitVec.ofNat 128 (if (regFields off).isEmpty then 0 else (s.regValue off).toNat)))

end Sys2Proof.Machine
end

