-- ==== Sys2Proof/Machine/Boot.lean ====
section
/-! DEFINITION. Supplies, reset, the boot sequence, recovery, keeper watchdogs and live update, the settings record (R386 to R407,
R441, R443). -/

namespace Sys2Proof.Machine

/-! ### In-band interrupts of the towpath (R441) -/

/-- Whether the target may raise an interrupt: IBIs enabled, a dynamic address held, I3C in use. -/
def State.ibiOn (s : State) : Bool := s.towpath.ibi && decide (s.towpath.dyn ≠ 0) && decide (s.fld rTwpCtl 0 1 = 0)

/-- An event of the towpath: raised, or kept until IBIs are enabled (log). -/
def State.ibi (s : State) (b : Byte) : State :=
  if s.ibiOn then s.send (.ibi b) else { s with towpath := { s.towpath with waiting := s.towpath.waiting ++ [b] } }

/-- Interrupts that waited go out once the target may raise them. -/
def State.ibiFlush (s : State) : State :=
  if s.ibiOn then ({ s with towpath := { s.towpath with waiting := [] } : State }).sends (s.towpath.waiting.map OutMsg.ibi) else s

/-! ### Reset (R391 to R393) -/

/-- The last `n` of a list. -/
def lastN {α : Type} (n : Nat) (l : List α) : List α := l.drop (l.length - n)

/-- Flash after a reset: slots with berths or journal pages are held; one that was being programmed is retired; one reserved and
not yet written stays erased (R393, R420). -/
def State.heldSlots (s : State) : AL Nat FSlot :=
  let empty (f : Nat) : Bool := s.tiers.barges.any (fun p => p.2.incoming && decide (p.2.phase = 0) && decide (p.2.dest = 0x01000000 + f))
  alMap s.nv.slots (fun f x => match x.st with
    | .reserved => if empty f then {} else { st := .retired }
    | .home | .draining | .table | .journal => { x with st := .held }
    | _ => x)

/-- Settings copies after a reset that may have met a save: the copy on channel 0 is written first, so at least one copy is whole;
how far the save had come is free (R403). -/
def State.heldSettings (s : State) : AL Nat SettingsCopy :=
  match s.boot.saving with
  | none => s.nv.settings
  | some c =>
    match s.free.toNat % 4 with
    | 0 => s.nv.settings
    | 1 => if (alGet s.nv.settings 16).isSome then alDel s.nv.settings 0 else s.nv.settings
    | 2 => alPut (alDel s.nv.settings 16) 0 c
    | _ => alPut s.nv.settings 0 c

/-- A reset: all state at its reset values but the always-on well, with the cause logged, flash, the bar on image loads that only a pin or
power reset ends (R449), and the strand receiver's lock
(R393, R407, R467). PORST_N is low until the stretch ends. -/
def State.resetPart (s : State) (cause : Nat) : State :=
  { State.reset with
    pending := s.pending
    sent := s.sent
    fresh := s.fresh + 1
    aon := { s.aon with causes := lastN 8 (s.aon.causes ++ [cause]) }
    nv := { s.nv with slots := s.heldSlots, settings := s.heldSettings }
    towpath := { waiting := [0x01] }
    jtag := { blocked := s.jtag.blocked && decide (3 ≤ cause) }
    tb := { strand := s.tb.strand } : State }.tstrUpdate

/-- The part draws from VIN_BACKUP: VIN_MAIN out of range, VIN_BACKUP in range and declared (R386, R388). -/
def State.toBackup (s : State) : State :=
  if !s.aon.mainOk && s.aon.bkpOk && s.bkpThere && !s.aon.onBackup then
    { s with aon := { s.aon with onBackup := true, switchEvt := true } }
  else s

/-- `POWER_ON`: where the always-on well had no supply it starts at its reset values and latches the straps (R388, R390, R391,
R458). -/
def execPowerOn (straps : BitVec 6) (mainOk bkpOk : Bool) (s : State) : Host.Outcome State Fault Refusal :=
  let a : Aon := if s.aon.powered then { s.aon with mainOk := mainOk, bkpOk := bkpOk }
    else { powered := true, straps := straps, mainOk := mainOk, bkpOk := bkpOk }
  let s1 : State := { s with aon := a }
  let s2 : State := { s1 with aon := { a with onBackup := !mainOk && bkpOk && s1.bkpThere } }
  .next (s2.resetPart 1)

/-- `PIN_RESET`: a low pulse of 5 µs is accepted, one below 1 µs ignored; between them either may happen (R391, log). -/
def execPinReset (widthNs : BitVec 32) (s : State) : Host.Outcome State Fault Refusal :=
  let w := widthNs.toNat
  if s.boot.inReset ∨ w < 1000 then .next s
  else if w < 5000 then .next (if s.free.getLsbD 0 then s.drawn.resetPart 2 else s.drawn)
  else .next (s.resetPart 2)

/-- `AON_POWER_LOSS`: the always-on well and everything but flash and fuses return to their reset values (R390). -/
def execAonPowerLoss (s : State) : Host.Outcome State Fault Refusal :=
  let t := s.resetPart 0
  .next { t with aon := {}, towpath := {}, tb := {} }

/-- `VIN_MAIN_LOSS` (R386). -/
def execVinMainLoss (s : State) : Host.Outcome State Fault Refusal :=
  .next (State.toBackup { s with aon := { s.aon with mainOk := false } })

/-- `VIN_MAIN_STABLE` (R386). -/
def execVinMainStable (s : State) : Host.Outcome State Fault Refusal :=
  .next { s with aon := { s.aon with mainOk := true, onBackup := false, switchEvt := s.aon.switchEvt || s.aon.onBackup } }

/-- `BROWN_OUT` (R387). -/
def execBrownOut (s : State) : Host.Outcome State Fault Refusal := .next (s.resetPart 5)

/-- `THERMAL_TRIP` (R391): PORST_N stays low until THERMAL_CLEAR. -/
def execThermalTrip (s : State) : Host.Outcome State Fault Refusal :=
  if s.aon.thermal then .next s else .next (State.resetPart { s with aon := { s.aon with thermal := true } } 6)

/-- `THERMAL_CLEAR`. -/
def execThermalClear (s : State) : Host.Outcome State Fault Refusal := .next { s with aon := { s.aon with thermal := false } }

/-- A write of RST_CTL. -/
def State.rstCtlWrite (s : State) (val : W64) : State := if Sys2Proof.fld val 0 1 = 1 then s.resetPart 3 else s

/-- `SWRST`. -/
def execSwrst (val : BitVec 64) (s : State) : Host.Outcome State Fault Refusal :=
  .next (if s.takesWrite rRstCtl then s.rstCtlWrite val else s.turnedAway)

/-- `RST_CAUSE_READ`. -/
def execRstCauseRead (s : State) : Host.Outcome State Fault Refusal :=
  .next (if s.sec.tdisp = 3 then s.unsupported else (s.send (.read (s.regShown rRstCause))).regReadEffect rRstCause)

/-- `FORCE_LW` (R389). -/
def execForceLw (val : BitVec 64) (s : State) : Host.Outcome State Fault Refusal :=
  .next (if s.takesWrite rPwrCtl then s.regPut rPwrCtl val else s.turnedAway)

/-! ### The boot sequence (R394 to R398) -/

def State.bootStage (s : State) : Nat := s.fld rBootStat 0 3
def State.setBootStage (s : State) (n : Nat) : State := s.setFld rBootStat 0 3 n

/-- BOOT_STAT.RESULT changed, which the towpath reports (R441). -/
def State.bootResult (s : State) (r : Nat) : State :=
  if s.fld rBootStat 8 4 = r then s else (s.setFld rBootStat 8 4 r).ibi 0x04

/-- A supply the joined switches can draw from. -/
def State.supplied (s : State) : Bool := s.aon.powered && (s.aon.mainOk || s.aon.onBackup)

/-- `RESET_STRETCH_END` (R392, R394 steps 1 and 2, R397): PORST_N is released; after three failed starts the part enters RECOVERY;
flash is held (R420); the local bus is cleared (R446). -/
def execResetStretchEnd (s : State) : Host.Outcome State Fault Refusal :=
  if !s.boot.inReset ∨ s.aon.thermal ∨ !s.supplied then .next s
  else
    let rec3 := decide (3 ≤ s.aon.attempt)
    let s1 : State := { s with boot := { s.boot with inReset := false }, lbs := { s.lbs with clearing := true },
                               aon := { s.aon with attempt := if rec3 then s.aon.attempt else s.aon.attempt + 1 } }
    .next ((s1.setFld rHubHostif 0 2 (if rec3 then 3 else 0)).setFld rTwnStat 4 1 1)

/-- The newer of the settings copies, of those whose channel is in service (R404). -/
def State.newestCopy (s : State) : Option SettingsCopy :=
  (s.nv.settings.filter (fun p => (s.channel p.1).inService)).foldl (fun (b : Option SettingsCopy) (p : Nat × SettingsCopy) => match b with
    | some c => if c.seq < p.2.seq then some p.2 else b
    | none => some p.2) none

/-- The bodies of a copy's sections of one kind. -/
def SettingsCopy.kind (c : SettingsCopy) (k : Nat) : List Byte := (c.sections.filter (fun x => decide (x.1 = k))).flatMap (·.2)

/-- Channels of a mask of 256 bits, and the mask of channels. -/
def channelsOf (b : List Byte) : List Nat := (List.range 256).filter (fun c => (leNat (b.take 32)).testBit c)
def channelMask (l : List Nat) : List Byte := leBytes 32 (l.eraseDups.map (fun c => 2 ^ (c % 256))).sum

/-- Slots of a stacked-DRAM channel that a withdrawal takes: at most 155,648 of the berth area (R429). -/
def channelTake (ch : Nat) : List Nat := (((Config.channelSlots ch).filter (fun n => decide (n < 0x4C0000))).eraseDups).take 155648

/-- Slots withdrawn from the berth pool; answered with how many. -/
def State.withdraw (s : State) (ch : Nat) : State × Nat :=
  let ns := (channelTake ch).filter (fun n => (s.hostEnd n).isNone && decide ((s.slot n).st ≠ .withdrawn))
  (ns.foldl (fun (s : State) n => (s.evictCopyAt n).setSlot n { st := .withdrawn }) s, ns.length)

/-! ### The local bus at its start (R445) -/

def State.setLbs (s : State) (l : Lbs) : State := { s with lbs := l }

/-- The next transfer starts when the bus is idle and no clear runs. -/
def State.lbsGo (s : State) : State :=
  match s.lbs.cur, s.lbs.queue with
  | none, op :: rest => if s.lbs.clearing then s else (s.setLbs { s.lbs with cur := some op, queue := rest }).send (.lbs op)
  | _, _ => s

/-- A transfer queued. -/
def State.lbsPush (s : State) (op : LbsOp) : State := (s.setLbs { s.lbs with queue := s.lbs.queue ++ [op] }).lbsGo

/-- `DRAM_READY` (R394 steps 3 and 4, R429): channels that fail their test and channels named in the retirement section are
withdrawn, basin 0's host area is zeroed, the sequencer waits for an image. The keepers' EEPROM read of R445 is queued. -/
def execDramReady (s : State) : Host.Outcome State Fault Refusal :=
  if s.boot.inReset ∨ s.bootStage ≠ 0 ∨ s.fld rBootStat 3 1 = 1 then .next s
  else
    let named := match s.newestCopy with
      | some c => channelsOf (c.kind 5)
      | none => []
    let failed := (List.range 256).filter (fun c => Config.channelFails c s.fresh)
    let s1 := ((named ++ failed).eraseDups).foldl (fun (s : State) c => (s.withdraw c).1) s.drawn
    let b0 := s1.basin 0
    let s2 : State := { s1 with tiers := { s1.tiers with retiredCh := named },
                                dram := memZero s1.dram b0.hostLo (b0.hostHi - b0.hostLo) }
    let s3 := if s2.fld rLbsStat 0 1 = 1 then s2 else s2.lbsPush { host := false, addr := 0x50, pec := false, wlen := 1, rlen := 8, wdata := 0 }
    .next (((s3.setFld rBootStat 4 1 1).setFld rBootStat 3 1 1).setBootStage 1)

/-- Where the image buffer of a download begins: BAR2 offset 0. -/
def imageAt : Nat := 0x5000000000

/-- A length the image buffers take (R395, R407). -/
def imageLenOk (n : Nat) : Bool := decide (0xB60 ≤ n) && decide (n ≤ 0x800000)

/-- BOOT_CMD.LOAD (R395, R396): the image is copied and its source zeroed. Ignored in SERVICE, after EXTEST, CLAMP or HIGHZ (R449),
and while the sequencer is not waiting (log). -/
def State.bootLoad (s : State) : State :=
  let n := s.fld rBootImg 0 24
  if s.mode = 2 ∨ s.jtag.blocked then s
  else if s.fld rBootStat 3 1 = 0 ∨ !imageLenOk n then s.bootResult 2
  else if s.bootStage ≠ 1 then s
  else
    let b := memReadN s.dram imageAt n
    { s with dram := memZero s.dram imageAt n, boot := { s.boot with copy := some b } : State }.setBootStage 2

/-- `BOOT_LOAD`. -/
def execBootLoad (s : State) : Host.Outcome State Fault Refusal :=
  .next (if s.takesWrite rBootCmd then s.bootLoad else s.turnedAway)

/-- The checks of R396 in order: the image's header, or the RESULT of the first that fails. -/
def checkImage (b : List Byte) : Except Nat KImage :=
  let n := dsc b 0x18 4
  let body := b.length - sigLen
  if dsc b 0 4 ≠ 0x4B504C54 ∨ b.length ≠ 0xA50 + n + 16 + sigLen ∨ !dscZero b 0x12 6 ∨ !dscZero b 0x1C 4 ∨ !dscZero b 0x2C 4 then .error 3
  else if Config.sha384 (bytesAt b 0x30 2592) ≠ Config.imageKeyHash then .error 4
  else if !Config.mldsaVerify (bytesAt b 0x30 2592) (b.take body) (b.drop body) then .error 5
  else if (Config.gcmOpen Config.imageKey (bytesAt b 0x20 12 ++ bytesAt b 0xA50 (n + 16))).isNone then .error 3
  else .ok { version := dsc b 4 4, svn := dsc b 8 4, schemaMin := dsc b 0xC 2, schemaMax := dsc b 0xE 2, schemaOut := dsc b 0x10 2,
             digest := Config.sha384 (b.take body) }

/-- `IMAGE_VERIFY_DONE` (R394 steps 6 to 8, R396): a pass outside RECOVERY fixes the identity (R364) and starts the keepers. -/
def execImageVerifyDone (s : State) : Host.Outcome State Fault Refusal :=
  match s.boot.copy with
  | none => .next s
  | some b =>
    let s1 : State := { s with boot := { s.boot with copy := none } }
    match checkImage b with
    | .error e => .next ((s1.setBootStage 1).bootResult e)
    | .ok k =>
      if s.mode = 3 then .next ((s1.setBootStage 1).bootResult 1)
      else
        .next (({ s1 with boot := { s1.boot with image := some k },
                          sec := { s1.sec with bootDigest := k.digest, bootSvn := k.svn } : State }.setBootStage 4).bootResult 1)

/-! ### The settings record (R402 to R405) -/

/-- The COMPOSE entry of a basin, without its program key, which no record holds (R402). -/
def State.composeEntry (s : State) (b : Nat) : List Byte :=
  let bs := s.basin b
  let chb := ((List.range 4096).filter (fun i => (s.chamber (16 * i)).alloc && decide ((s.chamber (16 * i)).owner = b))).length
  [0x20] ++ leBytes 15 0 ++ leBytes 1 b ++ [0] ++ leBytes 2 chb ++ leBytes 4 bs.flash.toNat ++ leBytes 4 bs.hostSlots ++ leBytes 1 bs.dramW
    ++ leBytes 3 0 ++ leBytes 2 bs.moorLen ++ leBytes 2 0 ++ leBytes 4 (if bs.weirOn then bs.rate else 0) ++ leBytes 4 bs.cap ++ leBytes 20 0
    ++ leBytes 64 ((s.upOf b).map (fun c => 2 ^ c)).sum

/-- The BASIN_TENANT entry that adds a tenant to a basin. -/
def tenantEntry (b t : Nat) : List Byte := [0x23, 0, 0, 0] ++ leBytes 2 t ++ leBytes 10 0 ++ leBytes 1 b ++ [1] ++ leBytes 110 0

/-- Registers the record holds, in the order it lists them; meters follow with their selection, then basin 0's weir (log). -/
def savedRegs : List Nat :=
  [rTbCtl, rTbStrandDly, rTbPtpCtl, rChCtl, rPrtCtl, rPrtEngCtl, rPrtEngCtl + 0x40, rPrtEngCtl + 0x80, rPrtEngCtl + 0xC0, rTrnCtl, rTrnCc,
   rTrfCtl, rTrfDrr, rLdgCtl, rSndCtl, rBthCtl, rBsnCtl, rKprCtl]
def State.savedPairs (s : State) : List (Nat × W64) :=
  let b0 := s.basin 0
  savedRegs.map (fun r => (r, s.regValue r))
    ++ s.net.meters.flatMap (fun p => [(rTrfMsel, BitVec.ofNat 64 p.1), (rTrfMrate, p.2.rate), (rTrfMburst, p.2.burst)])
    ++ [(rTrfWsel, 0), (rTrfWcfg, pack 0 [(0, 24, b0.rate), (24, 24, b0.cap), (48, 1, b0.weirOn.toNat)]),
        (rTrfMsel, s.reg rTrfMsel), (rTrfWsel, s.reg rTrfWsel)]

/-- The sections a save writes (R402). -/
def State.settingsNow (s : State) : List (Nat × List Byte) :=
  let act := s.host.basins.filter (fun p => decide (p.2.st = 2))
  [(1, leBytes 2 (s.fld rHubPaceCtl 16 16)),
   (2, (act.filter (fun p => decide (p.1 ≠ 0))).flatMap (fun p => s.composeEntry p.1)
      ++ act.flatMap (fun p => (p.2.tenants.filter (fun t => decide (p.1 ≠ 0 ∨ t ≠ 0))).flatMap (tenantEntry p.1))),
   (3, s.tiers.quotas.flatMap (fun p => leBytes 8 p.1 ++ leBytes 8 p.2.dram ++ leBytes 8 p.2.flash)),
   (4, s.savedPairs.flatMap (fun p => leBytes 8 p.1 ++ leBytes 8 p.2.toNat)),
   (5, channelMask s.tiers.retiredCh)]

/-- Chunks of `n` bytes. -/
def chunks (n : Nat) (b : List Byte) : List (List Byte) := (List.range (b.length / n)).map (fun i => bytesAt b (n * i) n)

/-- A register of the record applied. -/
def State.bootPut (s : State) (off : Nat) (val : W64) : State :=
  if off = rTrfCtl then s.trfCtlWrite val
  else if off = rTrfMrate then s.mrateWrite val
  else if rPrtEngCtl ≤ off ∧ off < rPrtEngCtl + 0x100 ∧ off % 0x40 = 0 then s.engCtlWrite ((off - rPrtEngCtl) / 0x40) val
  else s.regPut off val

/-- Passing clusters without a run pass (R351 step 5). -/
def State.passIdle (s : State) : State :=
  (List.range 512).foldl (fun (s : State) c => match (s.cluster c).passing with
    | some b => if (List.range 8).any (fun i => (s.core (8 * c + i)).run.isSome) then s else (s.passCluster c b).composeOn
    | none => s) s

/-- A composition entry of the record carried out; a refusal is reported (R405). -/
def State.bootEntry (s : State) (d : List Byte) : State :=
  let keep := s.reg rBsnCmdRes
  let s1 := (doCompose (dscOf 0 cmdRing d) (s.setReg rBsnCmdRes 0)).passIdle
  let code := s1.fld rBsnCmdRes 0 16
  let s2 := s1.setReg rBsnCmdRes keep
  if code = 0 then s2
  else { s2 with boot := { s2.boot with reports := s2.boot.reports ++ [eventRec code 0 0 ⟨0, 0, 0, 0⟩ s.now (dsc d 0x10 1)] } }

/-- A readable record applied: calibration, registers, quotas, composition (R405). -/
def State.applySettings (s : State) (c : SettingsCopy) : State :=
  let s1 := match c.kind 1 with
    | [] => s
    | b => s.setFld rHubPaceCtl 16 16 (dsc b 0 2)
  let s2 := (chunks 16 (c.kind 4)).foldl (fun s p => s.bootPut (dsc p 0 8) (BitVec.ofNat 64 (dsc p 8 8))) s1
  let s3 := (chunks 24 (c.kind 3)).foldl (fun (s : State) p =>
    { s with tiers := { s.tiers with quotas := alPut s.tiers.quotas (dsc p 0 8) { dram := dsc p 8 8, flash := dsc p 16 8 } } }) s2
  (chunks 128 (c.kind 2)).foldl State.bootEntry s3

/-- `KEEPERS_RUNNING` (R394 steps 8 and 9, R404, R405): the record in force is chosen and applied, tenant 0's TENANT entry is
entered (log), and MODE becomes HANDOVER. -/
def execKeepersRunning (s : State) : Host.Outcome State Fault Refusal :=
  match s.boot.image with
  | none => .next s
  | some k =>
    if s.bootStage ≠ 4 then .next s
    else
      let s0 := match s.tenantBit 0 0 true with
        | .ok u => u
        | .error e => e.2
      let s1 : State := match s0.newestCopy with
        | none => (s0.setFld rKprSet 4 1 1).setFld rKprSet 16 16 k.schemaOut
        | some c =>
          if c.schema < k.schemaMin ∨ k.schemaMax < c.schema then
            let t := (s0.setFld rKprSet 3 1 1).setFld rKprSet 16 16 k.schemaOut
            { t with boot := { t.boot with reports := t.boot.reports ++ [eventRec 0x0501 0 0 ⟨0, 0, 0, 0⟩ s.now 0] } }
          else ((s0.setFld rKprSet 16 16 c.schema).setFld rKprSet 32 32 c.seq).applySettings c
      .next ((s1.setBootStage 5).setFld rHubHostif 0 2 1)

/-! ### Boot attempts and recovery (R397, R398) -/

/-- `BOOT_COUNT_CLEAR`: 2^31 ticks in SERVICE. -/
def execBootCountClear (s : State) : Host.Outcome State Fault Refusal :=
  if s.mode = 2 ∧ !s.boot.countCleared ∧ s.passed (s.boot.serviceAt + 2 ^ 31) then
    .next { s with aon := { s.aon with attempt := 0 }, boot := { s.boot with countCleared := true } }
  else .next s

/-- A write of BOOT_ATTEMPT. -/
def State.attemptWrite (s : State) (val : W64) : State :=
  if Sys2Proof.fld val 2 1 = 1 then { s with aon := { s.aon with attempt := 0 } } else s

/-- `ATTEMPT_CLEAR`. -/
def execAttemptClear (val : BitVec 64) (s : State) : Host.Outcome State Fault Refusal :=
  .next (if s.takesWrite rBootAttempt then s.attemptWrite val else s.turnedAway)

/-- BOOT_CMD.DIAG: in RECOVERY a diagnostic starts, unless one runs (R398). -/
def State.diagStart (s : State) (sel : Nat) : State :=
  if s.mode ≠ 3 ∨ s.boot.inReset ∨ s.boot.diag.isSome ∨ 2 < sel then s
  else { s with boot := { s.boot with diag := some sel } : State }.setFld rBootStat 12 4 1

def execDiagDramTest (s : State) : Host.Outcome State Fault Refusal := .next (s.diagStart 0)
def execDiagFlashScan (s : State) : Host.Outcome State Fault Refusal := .next (s.diagStart 1)
def execDiagOpticalLoopback (s : State) : Host.Outcome State Fault Refusal := .next (s.diagStart 2)

/-- `DIAG_DONE`: DIAG_DETAIL names what failed first. -/
def execDiagDone (pass : Bool) (detail : BitVec 48) (s : State) : Host.Outcome State Fault Refusal :=
  if s.boot.diag.isNone then .next s
  else
    let s1 : State := { s with boot := { s.boot with diag := none } }
    .next ((s1.setFld rBootStat 12 4 (if pass then 2 else 3)).setFld rBootStat 16 48 (if pass then 0 else detail.toNat))

/-- A write of BOOT_CMD (R407). -/
def State.bootCmdWrite (s : State) (val : W64) : State :=
  let s1 := if Sys2Proof.fld val 0 1 = 1 then s.bootLoad else s
  if Sys2Proof.fld val 1 1 = 1 then s1.diagStart (Sys2Proof.fld val 2 2) else s1

/-! ### Watchdogs and live update (R399 to R401, R443) -/

/-- KPR_UPD.STATE, and STATE with RESULT set. -/
def State.updState (s : State) : Nat := s.fld rKprUpd 2 3
def State.setUpd (s : State) (st res : Nat) : State := (s.setFld rKprUpd 2 3 st).setFld rKprUpd 5 4 res

/-- An entry of the keeper watchdog log, the oldest giving way; the keeper's count; the towpath's interrupt (R399, R441, R443). -/
def State.wdtEntry (s : State) (k pc : Nat) (rollback : Bool) : State :=
  let l := s.aon.wdt ++ [(k, rollback, pc, s.now / 2 ^ 20 % 2 ^ 32)]
  let s1 : State := { s with aon := { s.aon with wdt := lastN 16 l, wdtLost := s.aon.wdtLost || decide (16 < l.length) } }
  (s1.bump rKprStat (4 * k) 4 1).ibi 0x02

/-- `KEEPER_WATCHDOG_EXPIRY`: a keeper on the staged image within 2^30 ticks of its switch rolls the update back; outside an update
the third expiry of a keeper within 2^30 ticks resets the part; otherwise the keeper is restarted and takes up every consumed
descriptor where it stood. -/
def execKeeperWatchdogExpiry (keeper : BitVec 2) (pc : BitVec 28) (s : State) : Host.Outcome State Fault Refusal :=
  let k := keeper.toNat
  if s.mode ≠ 1 ∧ s.mode ≠ 2 then .next s
  else if s.updState = 3 then
    let back := s.boot.onNew.contains k && decide (s.now ≤ alGetD s.boot.switchAt k 0 + 2 ^ 30)
    let s1 := s.wdtEntry k pc.toNat back
    if back then .next ({ s1 with boot := { s1.boot with onNew := [], switchAt := [], staged := none } : State }.setUpd 5 7) else .next s1
  else
    let s1 := s.wdtEntry k pc.toNat false
    let l := (s.boot.expiries ++ [(k, s.now)]).filter (fun x => decide (s.now ≤ x.2 + 2 ^ 30))
    let s2 : State := { s1 with boot := { s1.boot with expiries := l } }
    if 3 ≤ (l.filter (fun x => decide (x.1 = k))).length then .next (s2.resetPart 4) else .next s2

/-- KPR_UPD.STAGE (R400): the image is copied from basin 0's host area, and its source zeroed. Ignored while staging or switching
(log). -/
def State.updStage (s : State) : State :=
  let off := s.fld rKprUpdImg 0 32
  let n := s.fld rKprUpdImg 32 24
  let b0 := s.basin 0
  if s.updState = 1 ∨ s.updState = 3 then s
  else if off < 0x20000 ∨ !imageLenOk n ∨ !s.inHost 0 (b0.hostLo + off) n then
    { s with boot := { s.boot with staged := none } : State }.setUpd 5 2
  else
    let b := memReadN s.dram (b0.hostLo + off) n
    { s with dram := memZero s.dram (b0.hostLo + off) n, boot := { s.boot with stagingImg := some b, staged := none } : State }.setUpd 1 0

/-- `UPD_STAGE`. -/
def execUpdStage (s : State) : Host.Outcome State Fault Refusal := .next (if s.inService then s.updStage else s.turnedAway)

/-- `UPDATE_STAGED`: the checks of R396, then the schema in force. -/
def execUpdateStaged (s : State) : Host.Outcome State Fault Refusal :=
  match s.boot.stagingImg with
  | none => .next s
  | some b =>
    let s1 : State := { s with boot := { s.boot with stagingImg := none } }
    let schema := s.fld rKprSet 16 16
    match checkImage b with
    | .error e => .next (s1.setUpd 5 e)
    | .ok k =>
      if schema < k.schemaMin ∨ k.schemaMax < schema then .next (s1.setUpd 5 6)
      else .next ({ s1 with boot := { s1.boot with staged := some k } : State }.setUpd 2 1)

/-- A keeper restarted on the staged image. -/
def State.switchKeeper (s : State) (k : Nat) : State :=
  { s with boot := { s.boot with onNew := s.boot.onNew ++ [k], switchAt := alPut s.boot.switchAt k s.now } }

/-- KPR_UPD.SWITCH: only in STAGED. -/
def State.updSwitch (s : State) : State := if s.updState = 2 then (s.switchKeeper 0).setUpd 3 1 else s

/-- `UPD_SWITCH`. -/
def execUpdSwitch (s : State) : Host.Outcome State Fault Refusal := .next (if s.inService then s.updSwitch else s.turnedAway)

/-- `KEEPER_SWITCH_NEXT`: 2^27 ticks after the last switch the next keeper follows; once all four have switched the staged image is
the image (R400, R401). -/
def execKeeperSwitchNext (s : State) : Host.Outcome State Fault Refusal :=
  let n := s.boot.onNew.length
  if s.updState ≠ 3 ∨ n = 0 ∨ 3 < n ∨ !s.passed (alGetD s.boot.switchAt (n - 1) 0 + 2 ^ 27) then .next s
  else if n < 3 then .next (s.switchKeeper n)
  else .next ({ s with boot := { s.boot with image := s.boot.staged, staged := none, onNew := [], switchAt := [] } : State }.setUpd 4 1)

/-- A write of KPR_UPD (R407). -/
def State.kprUpdWrite (s : State) (val : W64) : State :=
  let s1 := if Sys2Proof.fld val 0 1 = 1 then s.updStage else s
  if Sys2Proof.fld val 1 1 = 1 then s1.updSwitch else s1

/-! ### Saving the settings (R403) -/

/-- KPR_SET.SAVE: refused while UNREADABLE without FORCE; ignored while a save runs (log). -/
def State.settingsSave (s : State) (force : Bool) : State :=
  match s.boot.image with
  | none => s
  | some k =>
    if s.fld rKprSet 2 1 = 1 ∨ (s.fld rKprSet 3 1 = 1 ∧ !force) then s
    else
      let seq := ((s.newestCopy).map (·.seq)).getD 0 + 1
      { s with boot := { s.boot with saving := some { schema := k.schemaOut, seq := seq, sections := s.settingsNow } } : State }.setFld rKprSet 2 1 1

/-- `SETTINGS_SAVE`. -/
def execSettingsSave (force : Bool) (s : State) : Host.Outcome State Fault Refusal :=
  .next (if s.inService then s.settingsSave force else s.turnedAway)

/-- A write of KPR_SET. -/
def State.kprSetWrite (s : State) (val : W64) : State :=
  if Sys2Proof.fld val 0 1 = 1 then s.settingsSave (decide (Sys2Proof.fld val 1 1 = 1)) else s

/-- Both settings copies replaced, each on its channel while that is in service. -/
def State.putCopies (s : State) (f : Nat → SettingsCopy → SettingsCopy) (c : SettingsCopy) (fresh : Bool) : State :=
  [0, 16].foldl (fun (s : State) ch =>
    if !(s.channel ch).inService then s
    else match alGet s.nv.settings ch, fresh with
      | some old, _ => { s with nv := { s.nv with settings := alPut s.nv.settings ch (f ch old) } }
      | none, true => { s with nv := { s.nv with settings := alPut s.nv.settings ch c } }
      | none, false => s) s

/-- `SETTINGS_SAVE_DONE`. -/
def execSettingsSaveDone (s : State) : Host.Outcome State Fault Refusal :=
  match s.boot.saving with
  | none => .next s
  | some c =>
    let s1 := (s.putCopies (fun _ _ => c) c true)
    let s2 : State := { s1 with boot := { s1.boot with saving := none } }
    .next (((((s2.setFld rKprSet 2 1 0).setFld rKprSet 3 1 0).setFld rKprSet 4 1 0).setFld rKprSet 16 16 c.schema).setFld rKprSet 32 32 c.seq)

end Sys2Proof.Machine
end

