-- ==== Sys2Proof/Machine/Lbs.lean ====
section
/-! DEFINITION. The local bus controller: transfers in arrival order, bus clears, polling (R445 to R447). -/

namespace Sys2Proof.Machine

/-- LBS_STAT of a host transfer that has ended. -/
def State.lbsEnd (s : State) (status : Nat) : State := (s.setFld rLbsStat 2 2 status).setFld rLbsStat 1 1 0

/-- A write of LBS_XFER: GO starts a host transfer; ignored while BUSY, refused with STUCK on a stuck bus. A length beyond 8 is
reserved. -/
def State.lbsXferWrite (s : State) (val : W64) : State :=
  let w := vfld val 8 4
  let r := vfld val 12 4
  if vfld val 16 1 = 0 ∨ s.fld rLbsStat 1 1 = 1 ∨ 8 < w ∨ 8 < r then s
  else if s.fld rLbsStat 0 1 = 1 then s.lbsEnd 3
  else (s.setFld rLbsStat 1 1 1).lbsPush
    { host := true, addr := vfld val 0 7, pec := decide (vfld val 7 1 = 1), wlen := w, rlen := r, wdata := s.reg rLbsWdata }

/-- `LBS_XFER`. -/
def execLbsXfer (val : BitVec 64) (s : State) : Host.Outcome State Fault Refusal :=
  .next (if s.inService then s.lbsXferWrite val else s.turnedAway)

/-- `LBS_TRANSFER_DONE`: the transfer on the bus ends, acknowledged or not; a host's read lands in LBS_RDATA; the keepers' read of the
EEPROM makes the board known. -/
def execLbsTransferDone (ack : Bool) (data : BitVec 64) (s : State) : Host.Outcome State Fault Refusal :=
  match s.lbs.cur with
  | none => .next s
  | some op =>
    let s1 := s.setLbs { s.lbs with cur := none, known := s.lbs.known || (!op.host && decide (op.addr = 0x50) && ack) }
    let s2 := if ack then s1 else s1.bump rLbsStat 16 16 1
    let s3 := if !op.host then s2
      else (if ack then s2.setReg rLbsRdata (BitVec.ofNat 64 (data.toNat % 2 ^ (8 * op.rlen))) else s2).lbsEnd (if ack then 0 else 1)
    .next s3.lbsGo

/-- `LBS_TIMEOUT`: SCL has been held low for longer than TIMEOUT_MS; the transfer ends and the bus is cleared. -/
def execLbsTimeout (s : State) : Host.Outcome State Fault Refusal :=
  match s.lbs.cur with
  | none => .next s
  | some op =>
    let s1 := s.setLbs { s.lbs with cur := none, clearing := true, repeats := 0 }
    .next (if op.host then s1.lbsEnd 2 else s1)

/-- One run of steps 1 to 3 of the clear: up to nine pulses, up to the first after which SDA reads high, then STOP; SDA and SCL both
high free the bus. -/
def State.clearOnce (s : State) (sda : List Bool) (sclHigh : Bool) : State × Bool :=
  let nine := sda.take 9
  let pulses := match nine.findIdx? id with
    | some i => i + 1
    | none => 9
  ((s.setFld rLbsStat 4 4 pulses).send .lbsClear, nine.any id && sclHigh)

/-- A clear that succeeds clears STUCK; what waits starts. -/
def State.clearDone (s : State) : State :=
  ((s.setLbs { s.lbs with clearing := false, repeats := 0 }).setFld rLbsStat 0 1 0).lbsGo

/-- The bus stays stuck: reported; board identity unknown, keeper transfers dropped, a waiting host transfer refused. -/
def State.lbsStuck (s : State) : State :=
  let host := s.lbs.queue.any (·.host)
  let s1 := (s.setLbs { s.lbs with clearing := false, repeats := 0, queue := [], known := false }).setFld rLbsStat 0 1 1
  (if host then s1.lbsEnd 3 else s1).unitEvent 0x0701 0

/-- `LBS_CLEAR`: a write of LBS_CTL.CLEAR, or the clear a reset or timeout asked for, runs for the first time. A transfer on the bus is
not split; the clear follows it. -/
def execLbsClear (sda : List Bool) (sclHigh : Bool) (s : State) : Host.Outcome State Fault Refusal :=
  if s.boot.inReset then .next s
  else if s.lbs.cur.isSome ∨ (s.lbs.clearing ∧ 0 < s.lbs.repeats) then .next (s.setLbs { s.lbs with clearing := true })
  else
    let r := (s.bump rLbsStat 8 8 1).clearOnce sda sclHigh
    .next (if r.2 then r.1.clearDone else r.1.setLbs { r.1.lbs with clearing := true, repeats := 1 })

/-- `LBS_CLEAR_RETRY`: 10 ms after a failed attempt; three repeats are allowed. -/
def execLbsClearRetry (sda : List Bool) (sclHigh : Bool) (s : State) : Host.Outcome State Fault Refusal :=
  if !s.lbs.clearing ∨ s.lbs.repeats = 0 then .next s
  else
    let r := s.clearOnce sda sclHigh
    .next (if r.2 then r.1.clearDone else if 3 ≤ s.lbs.repeats then r.1.lbsStuck
      else r.1.setLbs { r.1.lbs with repeats := s.lbs.repeats + 1 })

/-- A write of LBS_CTL; CLEAR asks for a clear, which LBS_CLEAR then runs. -/
def State.lbsCtlWrite (s : State) (val : W64) : State :=
  let s1 := s.setReg rLbsCtl (written rLbsCtl (s.reg rLbsCtl) val)
  if vfld val 2 1 = 1 then s1.setLbs { s1.lbs with clearing := true } else s1

/-- `REGULATOR_POLL`: the keepers read a carrier regulator; its address came from the EEPROM, so it is an open value. -/
def execRegulatorPoll (s : State) : Host.Outcome State Fault Refusal :=
  if s.fld rLbsCtl 3 1 = 0 ∨ s.fld rLbsStat 0 1 = 1 ∨ !s.lbs.known then .next s
  else .next (s.drawn.lbsPush { host := false, addr := s.free.toNat % 128, pec := true, wlen := 1, rlen := 2, wdata := s.free })

end Sys2Proof.Machine
end

