-- ==== Sys2Proof/Machine/Twin.lean ====
section
/-! DEFINITION. The journal a twin keeps for its partner, what JOURNAL_ACK does at the source, and the homes taken back after a
REJOIN (R408 to R413, R420). -/

namespace Sys2Proof.Machine

/-! ### TWN_CFG (R408, R409) -/

/-- A write of TWN_CFG: pairing ends when EN is 0; SEEDING begins when EN is set, or TWIN changes under it. -/
def State.twnCfgWrite (s : State) (val : W64) : State :=
  let s1 := s.setReg rTwnCfg (written rTwnCfg (s.reg rTwnCfg) val)
  let on := s1.fld rTwnCfg 10 1
  if on = 0 then (if s.twin.pair = 0 then s1 else s1.pairOut 0)
  else if s.fld rTwnCfg 10 1 = 1 ∧ s.twinPkg = s1.twinPkg then s1
  else
    let s2 := if s1.twin.pair = 0 then s1 else s1.pairOut 0
    if s1.twinPkg = selfPkg then s2 else s2.seedStart

/-! ### Journal slots (R412, R413) -/

/-- Bytes of a record in a log page. -/
def recSize (r : JRecord) : Nat :=
  48 + match r.body with
    | .object a _ => a.length
    | .image _ => 0x12840
    | .lines ls => (ls.map (fun l => 32 + l.2.bytes.length)).sum
    | _ => 0

/-- What a record in a log page stands for until something supersedes it: its berth, or its object. -/
def objMark (k : BerthKey) : BerthKey := { k with layer := 65536, berth := 0 }
def recMark (r : JRecord) : Option (BerthKey × Nat) :=
  match r.body with
  | .lines _ => some (r.key, r.jseq)
  | .count => some (r.key, r.jseq)
  | .drop => some (r.key, r.jseq)
  | .object _ false => some (objMark r.key, r.jseq)
  | _ => none

/-- Journal slots in use, with one for each open page. -/
def State.openPages (s : State) : Nat := (s.twin.src.filter (fun p => !p.2.page.isEmpty)).length
def State.journalRoom (s : State) : Bool :=
  decide (s.journalUsed + s.openPages < s.fld rTwnJour 0 32) && decide (s.openPages < s.flashErased)

/-- The open page of a tenant's source goes to a journal slot; it stays open while no slot is erased. -/
def State.programPage (s : State) (t : Nat) : State :=
  let j := s.jsrc t
  match j.page.getLast?, s.flashPlace ⟨t, 0, 0, 0⟩ (BitVec.allOnes 32) with
  | some r, some f =>
    (s.setFslot f { s.fslot f with st := .journal, key := none, img := none, tenant := t }).setJsrc t
      { j with page := [], pageAt := none, prog := j.prog ++ [{ slot := f + 0x01000000, upTo := r.jseq, recs := j.page.filterMap recMark }] }
  | _, _ => s

/-- A berth's image programmed into a journal slot of its own, its label with KIND 3. -/
def State.programImage (s : State) (k : BerthKey) (img : SlotImage) (covers upTo : Nat) : Option State :=
  let j := s.jsrc k.tenant
  (s.flashPlace k (BitVec.allOnes 32)).map (fun f =>
    (s.setFslot f { s.fslot f with st := .journal, key := some k, tenant := k.tenant,
                                   img := some { img with label := { img.label with kind := 3 } } }).setJsrc k.tenant
      { j with prog := j.prog ++ [{ slot := f + 0x01000000, upTo := upTo, key := some k, covers := covers }] })

/-- The JSEQ up to which everything is in flash or on its way there. -/
def JSource.promised (j : JSource) : Nat := j.prog.foldl (fun a p => max a p.upTo) j.durable

/-- Log slots with nothing left in them marked stale. -/
def State.dropLogs (s : State) (t : Nat) : State :=
  let j := s.jsrc t
  let gone := j.logs.filter (fun p => p.2.isEmpty)
  gone.foldl (fun (s : State) p => s.freeHome p.1) (s.setJsrc t { j with logs := j.logs.filter (fun p => !p.2.isEmpty) })

/-- Records of a mark up to a JSEQ superseded in every log slot. -/
def State.supersede (s : State) (k : BerthKey) (q : Nat) : State :=
  let j := s.jsrc k.tenant
  (s.setJsrc k.tenant { j with logs := alMap j.logs (fun _ l => l.filter (fun x => decide (x.1 ≠ k) || decide (q < x.2))) }).dropLogs k.tenant

/-! ### Records applied (R410 to R413) -/

/-- Geometry of a journalled object, from its last OBJECT record. -/
def State.jgeo (s : State) (k : BerthKey) : Option (Geo × Nat) :=
  (alGet (s.jsrc k.tenant).objects k.object).map (fun a => (attrGeo a, attrN a 0x1A 2))

/-- The manifest of a working copy, written afresh from its payload where all of it reads (log: the spec does not say how the twin
keeps it). -/
def State.jManifest (s : State) (k : BerthKey) (e : JEntry) (img : SlotImage) : StoredManifest :=
  match s.jgeo k with
  | none => img.man
  | some (g, p) =>
    let key := (s.keySlot k.tenant).mem
    let ls := (List.range 256).map (fun i => (img.lines[i]?).bind (fun l =>
      match (readLine (s.active k.tenant) key g k (fun j => (s.baseOf k).bind (fun bk => s.baseLine g bk j)) i l).res with
      | .ok b => some b
      | .error _ => none))
    if ls.all (·.isSome) then
      let h : ManHead := ⟨k, k.berth * p, e.count, 0, 0, false, false, false, img.lines.any codedLine⟩
      sealManifest key k (buildManifest g h (padTo 0 65536 (ls.flatMap (·.getD []))))
    else img.man

/-- A working copy for a berth that has none: a free stacked-DRAM slot, charged to no quota. -/
def State.takeWorking (s : State) (k : BerthKey) (e : JEntry) : State × JEntry :=
  if e.working.isSome then (s, e)
  else
    match s.freeSlot with
    | some n => ((s.evictCopyAt n).setSlot n { st := .working, key := some k }, { e with working := some n })
    | none => (s, e)

/-- A working copy given back. -/
def State.freeWorking (s : State) (e : JEntry) : State :=
  match e.working with
  | some n => s.freeHome n
  | none => s

/-- A full or idle working copy programmed as a new image slot. -/
def State.programWorking (s : State) (k : BerthKey) : State :=
  match s.jentry k with
  | some e =>
    (match e.img, e.working with
     | some img, some _ =>
       if !s.journalRoom || (s.jsrc k.tenant).prog.any (fun p => decide (p.key = some k) && decide (p.covers = e.last)) then s
       else (s.programImage k img e.last (s.jsrc k.tenant).promised).getD s
     | _, _ => s)
  | none => s

/-- The lines, COUNT and GEN of a record taken over by a berth's image. -/
def State.applyLines (s : State) (r : JRecord) (ls : List (Nat × StoredLine)) : State :=
  let k := r.key
  let e0 := (s.jentry k).getD {}
  let t := s.takeWorking k e0
  match s.jgeo k with
  | none => s
  | some (g, p) =>
    let img0 := e0.img.getD (blankImage (s.keySlot k.tenant).mem g k)
    let img1 : SlotImage := { img0 with lines := ls.foldl (fun a x => setNth a x.1 x.2) img0.lines,
                                        label := { img0.label with gen := r.gen } }
    let e1 : JEntry := { t.2 with count := r.count, gen := r.gen, dropped := false, linesAt := s.now, last := r.jseq }
    let s1 := t.1.setJentry k { e1 with img := some { img1 with man := t.1.jManifest k e1 img1 } }
    if r.count = p then s1.programWorking k else s1

/-- A berth taken out of the index, its slots stale. -/
def State.dropEntry (s : State) (k : BerthKey) : State :=
  match s.jentry k with
  | none => s
  | some e =>
    let s1 := s.freeWorking e
    let s2 := match e.slot with
      | some n => s1.freeHome n
      | none => s1
    let j := s2.jsrc k.tenant
    (s2.setJsrc k.tenant { j with berths := alDel j.berths k,
                                  prog := j.prog.map (fun p => if p.key = some k then { p with key := none } else p) }).supersede k (2 ^ 64)

/-- What a record does to the index. -/
def State.applyRec (s : State) (r : JRecord) : State :=
  let k := r.key
  match r.body with
  | .object a destroy =>
    let j := s.jsrc k.tenant
    if destroy then (s.setJsrc k.tenant { j with objects := alDel j.objects k.object }).supersede (objMark k) (2 ^ 64)
    else s.setJsrc k.tenant { j with objects := alPut j.objects k.object a }
  | .image img =>
    let e := (s.jentry k).getD {}
    s.setJentry k { e with img := some img, count := r.count, gen := r.gen, unjournalled := false, dropped := false, last := r.jseq }
  | .lines ls => s.applyLines r ls
  | .count =>
    (match s.jentry k with
     | some e =>
       let e1 : JEntry := { e with count := r.count, gen := r.gen, last := r.jseq }
       s.setJentry k { e1 with img := e1.img.map (fun im => { im with man := s.jManifest k e1 im }) }
     | none => s)
  | .drop =>
    (match s.jentry k with
     | some e => (s.freeWorking e).setJentry k { e with dropped := true, gen := r.gen, working := none, last := r.jseq,
                                                        img := e.img.map (fun im => { im with lines := [] }) }
     | none => s)
  | .free => s.dropEntry k

/-- A record put into the journal: an IMAGE fills a page by itself and goes to flash at once, behind the open page; another record
joins the open page, or a new one when it does not fit. None when that would take a slot beyond TWN_JOUR.MAX or none is erased. -/
def State.logRec (s : State) (r : JRecord) : Option State :=
  let t := r.key.tenant
  let put (s : State) : State :=
    let j := s.jsrc t
    s.setJsrc t { j with page := j.page ++ [r], pageAt := if r.durable && j.pageAt.isNone then some s.now else j.pageAt }
  let page := (s.jsrc t).page
  match r.body with
  | .image img =>
    let s1 := if page.isEmpty then s else s.programPage t
    if !(s1.jsrc t).page.isEmpty ∨ !s1.journalRoom then none else s1.programImage r.key img r.jseq r.jseq
  | _ =>
    if !page.isEmpty ∧ (page.map recSize).sum + recSize r ≤ 81856 then some (put s)
    else
      let s1 := if page.isEmpty then s else s.programPage t
      if !(s1.jsrc t).page.isEmpty ∨ !s1.journalRoom then none else some (put s1)

/-- The next record of a source, with the JSEQ of a refused one: a refused berth is marked unjournalled (R413). -/
def State.takeRec (s : State) (r : JRecord) : State × Option Nat :=
  let t := r.key.tenant
  let step (s : State) (full : Bool) : State := s.setJsrc t { s.jsrc t with recv := r.jseq, full := (s.jsrc t).full || full }
  match s.logRec r with
  | some s1 => (step (s1.applyRec r) false, none)
  | none =>
    let e := (s.jentry r.key).getD {}
    (step (s.setJentry r.key { e with unjournalled := true, last := r.jseq }) true, some r.jseq)

/-- JOURNAL_ACK of a tenant's source; it says once that USED has fallen below 7/8 of MAX. -/
def State.sendJack (s : State) (t : Nat) (refused : Option Nat) (images : List JRecord) (index : Option (List JIndexEntry)) : State :=
  let j := s.jsrc t
  let below := j.full && refused.isNone && decide (8 * s.journalUsed < 7 * s.fld rTwnJour 0 32)
  (s.setJsrc t { j with full := j.full && !below }).send (.journalAck s.twinPkg
    { tenant := t, status := if refused.isSome then stJournalFull else stOk, recv := j.recv, durable := j.durable, refused := refused,
      below := below, images := images, index := index })

/-- Records that wait and whose turn has come. -/
def State.takeRecs (s : State) (t : Nat) : Nat → State
  | 0 => s
  | n + 1 =>
    let j := s.jsrc t
    match j.ahead.find? (fun r => decide (r.jseq = j.recv + 1)) with
    | none => s.sendJack t none [] none
    | some r =>
      let x := (s.setJsrc t { j with ahead := j.ahead.erase r }).takeRec r
      match x.2 with
      | some q => (x.1.sendJack t (some q) [] none).takeRecs t n
      | none => x.1.takeRecs t n

/-- `JOURNAL_RECORDS`: the records of one source and tenant in JSEQ order; those ahead of a gap wait. A tenant whose slot is not
ACTIVE here has no connection for them. -/
def execJournalRecords (tenant : BitVec 12) (recs : List JRecord) (s : State) : Host.Outcome State Fault Refusal :=
  let t := tenant.toNat
  if !s.hears s.twinPkg ∨ !s.active t then .next s
  else
    let j := s.jsrc t
    let mine := recs.filter (fun r => decide (r.key.tenant = t) && decide (j.recv < r.jseq) && !j.ahead.any (fun a => decide (a.jseq = r.jseq)))
    let ahead := j.ahead ++ mine
    .next ((s.setJsrc t { j with ahead := ahead }).takeRecs t (ahead.length + 1))

/-- The IMAGE record of a journalled berth, as FETCH answers it. -/
def imageRec (p : BerthKey × JEntry) : Option JRecord :=
  if p.2.unjournalled || p.2.dropped then none
  else p.2.img.map (fun im => { durable := false, key := p.1, jseq := p.2.last, gen := p.2.gen, count := p.2.count, body := .image im })

/-- `JOURNAL_FETCH`. -/
def execJournalFetch (k : LayerKey) (first last : BitVec 25) (s : State) : Host.Outcome State Fault Refusal :=
  if !s.hears s.twinPkg ∨ !s.active k.tenant then .next s
  else .next (s.sendJack k.tenant none (((s.jsrc k.tenant).berths.filter (fun p => decide (p.1.lk = k) && decide (first.toNat ≤ p.1.berth)
    && decide (p.1.berth ≤ last.toNat))).filterMap imageRec) none)

/-- Index entries of a tenant's journalled berths; of a dropped one the twin has no image to index (log). -/
def State.jIndex (s : State) (t : Nat) : List JIndexEntry :=
  ((s.jsrc t).berths.filter (fun p => !p.2.unjournalled && !p.2.dropped && p.2.img.isSome)).map (fun p => { key := p.1, count := p.2.count, gen := p.2.gen })

/-- `JOURNAL_INDEX`. -/
def execJournalIndex (tenant : BitVec 12) (s : State) : Host.Outcome State Fault Refusal :=
  let t := tenant.toNat
  if !s.hears s.twinPkg ∨ !s.active t then .next s else .next (s.sendJack t none [] (some (s.jIndex t)))

/-! ### Programming (R412) -/

/-- `JOURNAL_FLUSH_TIMER`: a DURABLE record has waited JFLUSH µs. -/
def execJournalFlushTimer (tenant : BitVec 12) (s : State) : Host.Outcome State Fault Refusal :=
  let t := tenant.toNat
  match (s.jsrc t).pageAt with
  | some a => if s.passed (a + ticksUs (s.fld rTwnCfg 16 16)) then .next (s.programPage t) else .next s
  | none => .next s

/-- `WORKING_COPY_IDLE`: 2^30 ticks without LINES. -/
def execWorkingCopyIdle (k : BerthKey) (s : State) : Host.Outcome State Fault Refusal :=
  match s.jentry k with
  | some e => if e.working.isSome ∧ s.passed (e.linesAt + 2 ^ 30) then .next (s.programWorking k) else .next s
  | none => .next s

/-- An image slot programmed: it supersedes the berth's older image and log records; the working copy goes when no record has come
since. -/
def State.imageDone (s : State) (k : BerthKey) (p : JProg) : State :=
  match s.jentry k with
  | none => s.freeHome p.slot
  | some e =>
    if p.covers < e.covers then s.freeHome p.slot
    else
      let s1 := match e.slot with
        | some n => s.freeHome n
        | none => s
      let still := decide (p.covers < e.last)
      let s2 := if still then s1 else s1.freeWorking e
      (s2.setJentry k { e with slot := some p.slot, covers := p.covers, working := if still then e.working else none }).supersede k p.covers

/-- A log page programmed: what it holds stays until superseded; its OBJECT records supersede older ones. -/
def State.pageDone (s : State) (t : Nat) (p : JProg) : State :=
  let j := s.jsrc t
  let live := p.recs.filter (fun x => if x.1.layer = 65536 then (alGet j.objects x.1.object).isSome
    else match alGet j.berths x.1 with
      | some e => decide (e.covers < x.2)
      | none => false)
  let s1 := (p.recs.filter (fun x => decide (x.1.layer = 65536))).foldl (fun (s : State) x => s.supersede x.1 (x.2 - 1)) s
  let j1 := s1.jsrc t
  (s1.setJsrc t { j1 with logs := alPut j1.logs p.slot live }).dropLogs t

/-- `JOURNAL_PAGE_PROGRAMMED`: the oldest slot being programmed is done; DURABLE advances and JOURNAL_ACK says so. -/
def execJournalPageProgrammed (tenant : BitVec 12) (s : State) : Host.Outcome State Fault Refusal :=
  let t := tenant.toNat
  let j := s.jsrc t
  match j.prog with
  | [] => .next s
  | p :: rest =>
    let s1 := s.setJsrc t { j with prog := rest, durable := max j.durable p.upTo }
    let s2 := match p.key with
      | some k => s1.imageDone k p
      | none => if p.recs.isEmpty then s1.freeHome p.slot else s1.pageDone t p
    .next (s2.sendJack t none [] none)

/-! ### Homes taken back (R420, R428) -/

/-- The held flash slot whose label names a berth in a GEN. -/
def State.heldSlot (s : State) (k : BerthKey) (gen : Nat) : Option Nat :=
  (s.nv.slots.find? (fun p => decide (p.2.st = .held) && p.2.img.any (fun im =>
    decide (im.label = ⟨k.object, k.tenant, k.layer, k.berth, gen, 0⟩)))).map (·.1)

/-- A slot made a berth's home with a COUNT and GEN; a berth new here gets an entry, a layer root where it needs one, and its
peers learn it. An entry that had lost its slot keeps the rest. -/
def State.homeIn (s : State) (k : BerthKey) (slot count gen : Nat) (img : SlotImage) : Option State :=
  match s.obj k.tenant k.object with
  | none => none
  | some o =>
    let rooted := if (s.layer k.lk).isSome then some s else
      match s.newRoot k.lk o.basin o.p with
      | .ok t => some t
      | .error _ => none
    match rooted with
    | none => none
    | some t =>
      if (t.pte k).isNone ∧ !t.tableRoom k then none
      else
        match t.layer k.lk with
        | none => none
        | some l =>
          let man := openManifest (t.berthKey k) k img.man
          let fresh : Pte := { basin := o.basin, stamp := l.sweeps % 2 ^ 16, score := (man.map (fun m => (manF m 0x18).toNat / 2 ^ 16)).getD 0,
                               pinned := (man.map (fun m => decide (dsc m 0x26 2 / 4 % 2 = 1))).getD false }
          let old := t.pte k
          let e : Pte := { old.getD fresh with slot := slot, state := 1, count := count, gen := gen, epoch := t.epoch, arrived := t.arrivedNow,
                                               coded := img.lines.any codedLine, manBad := false }
          let kap := (man.map (fun m => fMax l.kappa (o.geo.manKappa m))).getD l.kappa
          let img1 : SlotImage := { img with label := { img.label with gen := gen, kind := 0 } }
          let t1 := if slot = 0xFFFFFFFF then t
            else if isFlash slot then (t.setFslot (flashNo slot) { t.fslot (flashNo slot) with key := some k, tenant := k.tenant }).makeHome slot img1
            else (t.setSlot slot { st := .reserved, key := some k, tenant := k.tenant }).makeHome slot img1
          let t2 := ((t1.setLayer k.lk { l with kappa := kap }).setPte k e).protectLayer k.lk
          let t3 := if isFlash slot && decide (slot ≠ 0xFFFFFFFF) then t2.putShadow k img1.man else t2
          some (if old.isSome then t3.plbInval [k] else t3.homeNotes k true)

/-- A slot for an image that comes back: stacked DRAM unless the class is COLD, flash when it has none free (R174; log). -/
def State.placeBack (s : State) (k : BerthKey) (o : Obj) : Option (State × Nat) :=
  let flash := (s.flashPlace k (s.basin o.basin).flash).map (fun f => (s, f + 0x01000000))
  if o.cls = 2 then flash
  else
    match s.freeSlot with
    | some n => some (s.evictCopyAt n, n)
    | none => flash

/-- An image that FETCH brought made a home. -/
def State.homeFetched (s : State) (r : JRecord) : State :=
  match r.body, s.obj r.key.tenant r.key.object with
  | .image img, some o =>
    if !s.twin.fetching.contains r.key then s
    else
      let s1 := s.setTwin { s.twin with fetching := s.twin.fetching.filter (fun k => decide (k ≠ r.key)) }
      (match s1.placeBack r.key o with
       | some (t, n) => (t.homeIn r.key n r.count r.gen img).getD s1
       | none => s1)
  | _, _ => s

/-- An index entry claimed: the held slot of its GEN becomes the home in place, any other image is fetched. -/
def State.claim (s : State) (c : JIndexEntry) : State :=
  if (s.pte c.key).any (·.home) then s
  else
    match s.heldSlot c.key c.gen with
    | some f =>
      (match (s.fslot f).img with
       | some img => (s.homeIn c.key (f + 0x01000000) c.count c.gen img).getD (s.freeHome (f + 0x01000000))
       | none => s)
    | none => s.askFetch c.key

/-- Held slots of a tenant that no claim names become stale. -/
def State.staleHeld (s : State) (p : FSlot → Bool) : State :=
  (s.nv.slots.filter (fun x => decide (x.2.st = .held) && p x.2)).foldl (fun (s : State) x => s.freeHome (x.1 + 0x01000000)) s
def State.anyHeld (s : State) : Bool := s.nv.slots.any (fun x => decide (x.2.st = .held))

/-- TWN_STAT.HELD is clear once no slot is held; the part enters SEEDING once nothing of the rejoin is outstanding (R420). -/
def State.rejoinCheck (s : State) : State :=
  let s1 := if s.anyHeld then s else s.setFld rTwnStat 4 1 0
  if s1.twin.rejoined && !s1.anyHeld && s1.twin.indexWait.isEmpty && s1.twin.claims.isEmpty && s1.twin.fetching.isEmpty
    && decide (s1.twin.pair = 0) && decide (s1.fld rTwnCfg 10 1 = 1) then s1.seedStart else s1

/-- Claims whose object exists and whose tenant's slot is ACTIVE are settled; the others wait. -/
def State.rejoinGo (s : State) : State :=
  let ready (c : JIndexEntry) : Bool := (s.obj c.key.tenant c.key.object).isSome && s.active c.key.tenant
  let now := s.twin.claims.filter ready
  let s1 := s.setTwin { s.twin with claims := s.twin.claims.filter (fun c => !ready c) }
  (now.foldl State.claim s1).rejoinCheck

/-- The answer to INDEX after a REJOIN. -/
def State.takeIndex (s : State) (t : Nat) (es : List JIndexEntry) : State :=
  let named (f : FSlot) : Bool := f.img.any (fun im => es.any (fun e =>
    decide (im.label = ⟨e.key.object, e.key.tenant, e.key.layer, e.key.berth, e.gen, 0⟩)))
  let s1 := s.staleHeld (fun f => decide (f.tenant = t) && !named f)
  (s1.setTwin { s1.twin with indexWait := s1.twin.indexWait.filter (fun x => decide (x ≠ t)), claims := s1.twin.claims ++ es }).rejoinGo

/-- `CREATE_OBJECT` (R157, R195, R332, R420). -/
def doCreateObject (d : Dsc) (s : State) : State :=
  let zmask := d.f 0x58 8
  let a0 := bytesAt d.bytes 0x10 0x50
  let object := d.f 0x10 4
  match s.withLists d.basin a0 true true true [] with
  | none => s.fin d stAccessDenied 0
  | some full0 =>
    let full := resolveAttrs (full0.take 0x50) zmask ++ full0.drop 0x50
    if !geoOk a0 ∨ !attrsOk full zmask true ∨ 2 ^ 10 ≤ zmask then s.fin d stInvalidField 0
    else if (s.obj d.tenant object).isSome then s.fin d stObjectExists 0
    else if !fitsGeo (attrGeo full) ∨ attrN full 0x1A 2 = 0 then s.fin d stGeometryUnfit 0
    else
      match s.baseRefuse d.basin full with
      | some e => s.fin d e 0
      | none =>
        let o := objOf d.basin full
        (((s.setObj d.tenant object o).journalObj d.tenant object o false).rejoinGo).fin d stOk 0

def execCreateObject (basin : BitVec 6) (ring : BitVec 8) (s : State) : Host.Outcome State Fault Refusal :=
  .next (serve 0x03 (tenantDsc doCreateObject) basin.toNat ring.toNat s)

/-! ### JOURNAL_ACK at the source (R409, R411, R413) -/

/-- A refused record: JFULL, its berth unjournalled; the durable append it belongs to completes with JOURNAL_FULL, a barge that waited
for it goes on. -/
def State.jRefused (s : State) (t q : Nat) : State :=
  match ((s.jout t).out ++ (s.jout t).held).find? (fun r => decide (r.jseq = q)) with
  | none => s.setFld rTwnStat 2 1 1
  | some r =>
    let un := s.twin.unjournalled
    let s1 := (s.setFld rTwnStat 2 1 1).setTwin { s.twin with unjournalled := if un.contains r.key then un else un ++ [r.key] }
    let ends := s1.host.jobs.filterMap (fun j => match j.durable with
      | some (x, e) => if x = t ∧ q ≤ e then some e else none
      | none => none)
    let s2 := match ends.min? with
      | some e => if r.durable then s1.endDurable (fun j => decide (j.durable = some (t, e))) stJournalFull else s1
      | none => s1
    s2.bargesReady (fun _ b => decide (b.jseq = some q))

/-- RECV and DURABLE of an acknowledgement taken in: durable appends, barges and FLUSHes they satisfy end; SEEDING may end. -/
def State.jAcked (s : State) (t recv durable : Nat) : State :=
  let j := s.jout t
  let d := max j.durable durable
  let s1 := s.setJout t { j with recv := max j.recv recv, durable := d, next := max j.next (recv + 1),
                                 out := j.out.filter (fun r => decide (d < r.jseq)) }
  let s2 := s1.setTwin { s1.twin with ackAt := if s1.outstanding then some s1.now else none }
  let s3 := s2.endDurable (fun j => match j.durable with
    | some (x, q) => decide (x = t) && decide (q ≤ d)
    | none => false) stOk
  let s4 := s3.bargesReady (fun k b => decide (k.tenant = t) && (b.jseq.any (fun q => decide (q ≤ d))))
  (s4.endFlushes (fun x q => decide (x = t) && decide (q ≤ d)) id).seedCheck

/-- IMAGE records of berths the twin no longer holds. -/
def State.resendImages (s : State) (ks : List BerthKey) : State := ks.foldl (fun (s : State) k => s.journalImage k false) s

/-- `JOURNAL_ACK`. An index that was not asked for tells what the twin still holds (R428, log): IMAGE records of the rest go again. -/
def execJournalAck (m : JAckMsg) (s : State) : Host.Outcome State Fault Refusal :=
  let t := m.tenant
  if !s.hears s.twinPkg ∨ (!s.journalling ∧ !s.twin.rejoined ∧ s.twin.fetching.isEmpty) then .next s
  else
    let s0 := match m.refused with
      | some q => s.jRefused t q
      | none => s
    let s1 := s0.jAcked t m.recv m.durable
    let s2 := if m.below then
        ((s1.setFld rTwnStat 2 1 0).setTwin { s1.twin with unjournalled := s1.twin.unjournalled.filter (fun k => decide (k.tenant ≠ t)) }).resendImages
          (s1.twin.unjournalled.filter (fun k => decide (k.tenant = t)))
      else s1
    let s3 := match m.index with
      | some es =>
        if s2.twin.indexWait.contains t then s2.takeIndex t es
        else if s2.journalling then
          s2.resendImages ((s2.allHomes).filter (fun k => decide (k.tenant = t) && !es.any (fun e => decide (e.key = k))))
        else s2
      | none => s2
    .next (m.images.foldl State.homeFetched s3).rejoinCheck

/-- `JOURNAL_ACK_TIMEOUT`: none for CONN_LOSS with records outstanding; the pair is LOST. -/
def execJournalAckTimeout (s : State) : Host.Outcome State Fault Refusal :=
  match s.twin.ackAt with
  | some a => if s.outstanding ∧ s.passed (a + s.connLoss) then .next s.pairLost else .next s
  | none => .next s

end Sys2Proof.Machine
end

