-- ==== Sys2Proof/Machine/Certs.lean ====
section
/-! DEFINITION. Quorum certificates: their layout and validity, and what QSET, EXPEL, TAKEOVER and REJOIN make the part do; the
REQUEST it sends (R415 to R421). -/

namespace Sys2Proof.Machine

/-! ### The certificate (R415) -/

def certField (b : List Byte) (o n : Nat) : Nat := dsc b o n
def certBody (b : List Byte) : List Byte := bytesAt b 0x30 (certField b 0x28 4)
/-- What a signature covers: every byte before the signature block. -/
def certSigned (b : List Byte) : List Byte := b.take (0x30 + certField b 0x28 4)
/-- INDEX and r‖s of each signature. -/
def certSigs (b : List Byte) : List (Nat × List Byte) :=
  (List.range (certField b 5 1)).map (fun i =>
    let o := 0x30 + certField b 0x28 4 + 104 * i
    (certField b o 1, bytesAt b (o + 8) 96))
def certShape (kind : Nat) (b : List Byte) : Bool :=
  decide (certField b 0 4 = 0x51435254) && decide (certField b 4 1 = kind) &&
    decide (b.length = 0x30 + certField b 0x28 4 + 104 * certField b 5 1)
def certSubject (b : List Byte) : Nat := certField b 8 2 % 1024
def certTwin (b : List Byte) : Nat := certField b 0xA 2 % 1024

/-- A certificate discarded and counted (R416). -/
def State.certBad (s : State) : State := s.bump rTwnStat 8 8 1

/-! ### QSET (R416) -/

/-- The quorum set a valid QSET installs. -/
def State.qsetOf (s : State) (b : List Byte) : Option QSet :=
  let k := certField b 6 1
  let n := certField b 7 1
  let body := certBody b
  let owner := body.take 120
  match certSigs b with
  | [(0xFF, sig)] =>
    if certShape 0 b && decide (body.length = 120 * (1 + n)) && decide (1 ≤ n) && decide (n ≤ 16) && decide (n / 2 + 1 ≤ k) && decide (k ≤ n)
        && decide (s.owner = some (Config.sha384 owner)) && Config.ecdsaVerify owner (certSigned b) sig
        && decide ((s.twin.qset.map (·.version)).getD 0 < certField b 0x10 4) then
      some { version := certField b 0x10 4, k := k, n := n, owner := owner, keys := (List.range n).map (fun i => bytesAt body (120 + 120 * i) 120) }
    else none
  | _ => none

/-- `QSET`. -/
def execQset (cert : List Byte) (s : State) : Host.Outcome State Fault Refusal :=
  if s.expelled then .next s
  else
    match s.qsetOf cert with
    | some q => .next (s.setTwin { s.twin with qset := some q })
    | none => .next s.certBad

/-- Managers of the set in force whose signature of a certificate verifies. -/
def signers (q : QSet) (b : List Byte) : List Nat :=
  ((certSigs b).filter (fun x => match q.keys[x.1]? with
    | some key => Config.ecdsaVerify key (certSigned b) x.2
    | none => false)).map (·.1) |>.eraseDups

/-- Validity of an EXPEL, TAKEOVER or REJOIN (R416). -/
def State.certOk (s : State) (kind : Nat) (b : List Byte) : Bool :=
  match s.twin.qset with
  | none => false
  | some q =>
    certShape kind b && decide (certField b 0x10 4 = q.version) && decide (q.k ≤ (signers q b).length)
      && (s.epochUnset || epochNewer (certField b 0xC 2) s.epoch)
      && (!s.timeLocked || (decide (certField b 0x18 8 ≤ s.now) && decide (s.now ≤ certField b 0x20 8)))

/-- EPOCH of a valid certificate installed. -/
def State.certEpoch (s : State) (b : List Byte) : State := (s.setEpoch (certField b 0xC 2)).getD s

/-! ### EXPEL (R417, R418, R420) -/

/-- Descriptors that have not completed end with EXPELLED: jobs, composition operations, SWEEPs of released flight entries. -/
def State.endDescriptors (s : State) : State :=
  let s1 := s.host.jobs.foldl (fun (s : State) j => s.finishJob j.id stExpelled 0) s
  let ops := s1.host.composing.toList ++ s1.host.composeQ
  let s2 := ops.foldl (fun (s : State) o => s.fin (dscOf 0 o.ring o.desc) stExpelled 0)
    { s1 with host := { s1.host with composing := none, composeQ := [] } }
  let s3 := s2.sweeps.handed.foldl (fun (s : State) x => s.fin (dscOf x.1 x.2.1 x.2.2) stExpelled 0) s2
  { s3 with sweeps := { s3.sweeps with handed := [], flights := [] }, tiers := { s3.tiers with writes := [] } }

/-- This part named by an EXPEL: it stops sending, ends what it holds, zeroes every tenant key slot but slot 0, gives up held slots
and reports. -/
def State.expelSelf (s : State) : State :=
  let s1 := s.setFld rTwnStat 3 1 1
  let s2 := (s1.sweeps.accepted.filter (fun p => decide (p.2.state < 5))).foldl (fun (s : State) p => s.abandon p.2 stExpelled) s1
  let s3 := (s2.sweeps.members.filter (fun m => decide (m.stage < 3))).foldl (fun (s : State) m => s.stopMember m) s2
  let s4 := (s3.sweeps.convoys.filter (fun p => !p.2.finished)).foldl (fun (s : State) p => (s.freePool p.2).setConvoy { p.2 with finished := true }) s3
  let s5 := s4.endDescriptors
  let s6 : State := { s5 with sec := { s5.sec with removal := none, slots := s5.sec.slots.filter (fun p => decide (p.1 = 0)) } }
  let s7 := (s6.staleHeld (fun _ => true)).setFld rTwnStat 4 1 0
  let s8 := s7.setTwin { s7.twin with rejoined := false, indexed := [], indexWait := [], claims := [], fetching := [] }
  s8.unitEvent 0x0607 selfPkg

/-- A connection to an expelled part: its requests complete CONN_DOWN. -/
def State.cutConn (s : State) (n : Nat) : State :=
  let s1 := (((s.failLive n stConnDown).failQueue n stConnDown).dropFrames n).dropInMsg n
  s1.setConn n { (s1.conn n).clear with st := .reopening, down := true, lostAt := s1.now }

/-- Another part named by an EXPEL. -/
def State.expelOther (s : State) (x : Nat) : State :=
  let ex := s.twin.expelled
  let s1 := s.setTwin { s.twin with expelled := if ex.contains x then ex else ex ++ [x] }
  let conns := (s1.net.conns.filter (fun p => decide (p.2.peerPkg = x) && (decide (p.2.st = .established) || decide (p.2.st = .reopening)))).map (·.1)
  let s2 := conns.foldl (fun (s : State) n => s.cutConn n) s1
  let homes := (s2.ledger.entries.filter (fun p => decide (kfld p.2.key 0 4 = 2) && !p.2.isFree && !p.2.retired && decide (vfld p.2.val 0 10 = x))).map (·.1)
  let s3 := homes.foldl (fun (s : State) i => s.ldgDel i) s2
  let s4 := s3.sweeps.convoys.foldl (fun (s : State) p => (List.range p.2.slots.length).foldl (fun (s : State) i =>
    match s.convoy p.1 with
    | some c => (match c.slots[i]? with
      | some m => if m.pkg = x ∧ m.st = 0 ∧ !m.backup ∧ !c.finished then s.sendBackup c i else s
      | none => s)
    | none => s) s) s3
  if x = s4.twinPkg then s4.pairLost else s4

/-- `EXPEL`. -/
def execExpel (cert : List Byte) (s : State) : Host.Outcome State Fault Refusal :=
  if s.expelled then .next s
  else if !s.certOk 1 cert then .next s.certBad
  else
    let s1 := s.certEpoch cert
    .next (if certSubject cert = selfPkg then s1.expelSelf else s1.expelOther (certSubject cert))

/-! ### TAKEOVER (R419) -/

/-- The basin that homes what a takeover brings of a tenant: the first that serves it, else basin 0. -/
def State.basinServing (s : State) (t : Nat) : Nat :=
  (sortNat ((s.host.basins.filter (fun p => decide (p.2.st = 2) && p.2.tenants.contains t)).map (·.1))).headD 0

/-- A journalled berth made a home where its image lies: the working copy, else its image slot, programmed or being programmed; a
dropped one keeps its manifest in a pack. One with no slot of its own is written to a free one. -/
def State.takeBerth (s : State) (k : BerthKey) (e : JEntry) : State :=
  match e.img, s.obj k.tenant k.object with
  | some img, some o =>
    if e.unjournalled ∨ (s.pte k).any (·.home) then s
    else if e.dropped then
      match s.packPut k img.man with
      | some (t, n, i) =>
        (match t.homeIn k 0xFFFFFFFF e.count e.gen img with
         | some u => u.modPte k (fun p => { p with state := 5, shadow := n, shadowIx := i })
         | none => s)
      | none => s
    else
      let inProg := ((s.jsrc k.tenant).prog.filter (fun p => decide (p.key = some k))).getLast?.map (·.slot)
      let s1 := match e.slot, e.working.isSome || inProg.isSome with
        | some n, true => s.freeHome n
        | _, _ => s
      let own : Option (State × Nat) := match e.working with
        | some n => some (s1, n)
        | none => (match inProg <|> e.slot with
          | some n => some (s1, n)
          | none => s1.placeBack k o)
      match own with
      | some (t, n) => (t.homeIn k n e.count e.gen img).getD s
      | none => s
  | _, _ => s

/-- The journal of a tenant taken over: records behind gaps go, objects are created, images become homes, log slots go stale. -/
def State.takeTenant (s : State) (t : Nat) (j : JSource) : State :=
  let b := s.basinServing t
  let s1 := j.objects.foldl (fun (s : State) x => if (s.obj t x.1).isSome then s else s.setObj t x.1 (objOf b x.2)) s
  let s2 := j.berths.foldl (fun (s : State) x => s.takeBerth x.1 x.2) s1
  let logs := j.logs.map (·.1) ++ (j.prog.filter (fun p => p.key.isNone)).map (·.slot)
  (logs.foldl (fun (s : State) n => s.freeHome n) s2).pressure t

/-- `TAKEOVER`: with TWIN naming this part it is accepted only for the part's own twin, expelled before; naming another part it only
installs its epoch. -/
def execTakeover (cert : List Byte) (s : State) : Host.Outcome State Fault Refusal :=
  if s.expelled then .next s
  else if !s.certOk 2 cert then .next s.certBad
  else if certTwin cert ≠ selfPkg then .next (s.certEpoch cert)
  else if certSubject cert ≠ s.twinPkg ∨ !s.twin.expelled.contains (certSubject cert) then .next s.certBad
  else
    let s1 := s.certEpoch cert
    let lost := (s1.twin.src.map (fun p => (p.2.berths.filter (fun x => x.2.unjournalled)).length)).sum
    let s2 := s1.twin.src.foldl (fun (s : State) p => s.takeTenant p.1 p.2) s1
    let s3 := (s2.setTwin { s2.twin with src := [] }).pairOut 0
    .next (s3.partEvent 0x0606 (certSubject cert) lost)

/-! ### REJOIN (R420) -/

/-- `REJOIN`: this part pairs with TWIN and asks it for its index, tenant by tenant; another part named is heard again. -/
def execRejoin (cert : List Byte) (s : State) : Host.Outcome State Fault Refusal :=
  if s.expelled then .next s
  else if !s.certOk 3 cert then .next s.certBad
  else
    let s1 := s.certEpoch cert
    if certSubject cert ≠ selfPkg then
      .next (s1.setTwin { s1.twin with expelled := s1.twin.expelled.filter (fun x => decide (x ≠ certSubject cert)) })
    else
      let s2 := (s1.setFld rTwnCfg 0 10 (certTwin cert)).setFld rTwnCfg 10 1 1
      let s3 := s2.setTwin { s2.twin with rejoined := true, indexed := [], indexWait := [], claims := [], fetching := [] }
      let s4 := s3.staleHeld (fun f => match f.img with
        | some im => decide (im.label.kind ≠ 0)
        | none => true)
      let live := (s4.sec.slots.filter (fun p => decide (p.2.st = 2))).map (·.1)
      .next ((sortNat live).foldl (fun (s : State) t => s.askIndex t) s4).rejoinCheck

/-! ### REQUEST (R415, R421) -/

/-- `REQUEST`: certificates of this kind are for managers; a part discards and counts one. -/
def execRequest (cert : List Byte) (s : State) : Host.Outcome State Fault Refusal :=
  if s.expelled ∨ cert.isEmpty then .next s else .next s.certBad

/-- Peers about which the part sends a REQUEST: a SYSTEM connection CONN_DOWN, or the twin LOST, for REQ_MS; none once expelled. -/
def State.missing (s : State) : List Nat :=
  let req := ticksMs (s.fld rTwnCfg 32 16)
  let down := (s.net.conns.filter (fun p => decide (p.2.kind = 1) && p.2.down && s.passed (p.2.lostAt + s.connLoss + req))).map (·.2.peerPkg)
  let lost := if s.twin.pair = 3 ∧ s.passed (s.twin.lostAt + req) then [s.twinPkg] else []
  (down ++ lost).eraseDups.filter (fun x => !s.twin.expelled.contains x)

/-- A REQUEST certificate about a part, signed with the Alias key; REASON, EXPIRES and LAST are open values (log). -/
def State.requestCert (s : State) (x : Nat) : List Byte :=
  let v (i : Nat) : Nat := (Config.freeValue (s.fresh + i)).toNat
  let head := leBytes 4 0x51435254 ++ leBytes 1 4 ++ leBytes 1 1 ++ leBytes 2 0 ++ leBytes 2 x ++ leBytes 2 ((Config.twinOf s.epoch x).getD 0)
    ++ leBytes 2 s.epoch ++ leBytes 2 0 ++ leBytes 4 ((s.twin.qset.map (·.version)).getD 0) ++ leBytes 4 0 ++ leBytes 8 s.now ++ leBytes 8 (v 0)
    ++ leBytes 4 16 ++ leBytes 4 0 ++ leBytes 4 (v 1) ++ leBytes 4 0 ++ leBytes 8 (v 2)
  head ++ leBytes 1 0xFE ++ leBytes 7 0 ++ Config.aliasSign s.sec.bootDigest s.sec.bootSvn head

/-- `REQUEST_TIMER`: one REQUEST per missing peer to every manager connected, every REQ_MS. -/
def execRequestTimer (s : State) : Host.Outcome State Fault Refusal :=
  let req := s.fld rTwnCfg 32 16
  let due := match s.twin.reqAt with
    | some a => s.passed (a + ticksMs req)
    | none => true
  if req = 0 ∨ !due ∨ s.missing.isEmpty then .next s
  else
    let mgrs := (s.net.conns.filter (fun p => decide (p.2.kind = 2) && decide (p.2.st = .established))).map (·.2.peerPkg)
    let s1 := s.missing.foldl (fun (s : State) x =>
      { (mgrs.foldl (fun (s : State) m => s.send (.cert m (s.requestCert x))) s) with fresh := s.fresh + 3 }) s
    .next (s1.setTwin { s1.twin with reqAt := some s.now })

end Sys2Proof.Machine
end

