-- ==== Sys2Proof/Machine/Reliability.lean ====
section
/-! DEFINITION. Spare cores and self-test, service actions, region bypass, flash channels, retired stacked-DRAM channels, PLB
invalidation by register (R167, R193, R264, R423 to R429). -/

namespace Sys2Proof.Machine

/-! ### Rotating self-test (R424, R425) -/

/-- `SELF_TEST_START`: INTERVAL_MS after a cluster's last test, with a working spare and no test on, the next logical core is picked:
it takes no new run; once it has none, the spare takes its number and the released core is tested. -/
def execSelfTestStart (cluster : BitVec 9) (s : State) : Host.Outcome State Fault Refusal :=
  let cl := cluster.toNat
  let m := s.spareMap cl
  let i := m.next
  match m.spare with
  | none => .next s
  | some p =>
    if s.mode ≠ 2 ∨ s.fld rTwnSt 0 1 = 0 ∨ m.testing.isSome ∨ (s.cluster cl).failed ∨
        (m.pick.isNone ∧ !s.passed (m.began + ticksMs (s.fld rTwnSt 8 16))) then .next s
    else if (s.core (8 * cl + i)).run.isSome then .next (s.setSpareMap cl { m with pick := some i })
    else .next (s.setSpareMap cl { m with map := setNth m.map i p, spare := none, testing := some (nthD 0 m.map i), next := (i + 1) % 8,
                                          pick := none, began := s.now })

/-- `SELF_TEST_DONE`: a core that passes becomes the spare, one that fails is FAILED and reported; nine tests make a rotation. The
event names the logical number the core had (R13). -/
def execSelfTestDone (cluster : BitVec 9) (pass : Bool) (s : State) : Host.Outcome State Fault Refusal :=
  let cl := cluster.toNat
  let m := s.spareMap cl
  match m.testing with
  | none => .next s
  | some p =>
    let n := m.tests + 1
    let m1 : SpareMap := { m with testing := none, tests := n % 9, errs := if n = 9 then [] else m.errs }
    if pass then .next ((s.setSpareMap cl { m1 with spare := some p }).bump rTwnSt 24 16 1)
    else
      let s1 := (s.setSpareMap cl { m1 with failed := m1.failed ++ [p] }).bump rTwnSt 40 8 1
      .next ((s1.unitEvent 0x0601 (8 * cl + (m.next + 7) % 8)).spareSettle cl)

/-! ### Bypass of a region (R17, R264, R427) -/

/-- Cores of a region with a run. -/
def State.runsIn (s : State) (r : Nat) : List Nat :=
  (s.fab.cores.filter (fun p => decide (regionOf p.1 = r) && p.2.run.isSome)).map (·.1)

/-- A region bypassed: it takes no new run, its chambers go out of service, its flash channel passes to the partner region; it
reports no pace (R22, R24). -/
def State.bypassRegion (s : State) (r : Nat) : State :=
  if (s.region r).out then s
  else
    let s0 := s.setReg (rHubPaceReg + 8 * r) (pack (s.reg (rHubPaceReg + 8 * r)) [(0, 32, 0), (48, 1, 0)])
    let s1 := s0.setRegion r { out := true, pendingUntil := if (s.runsIn r).isEmpty then none else some (s.now + 2 ^ 24) }
    let s2 := (List.range 2048).foldl (fun (s : State) i =>
      let t := s.chEmpty (2048 * r + i) stChamberOut
      t.setChamber (2048 * r + i) { t.chamber (2048 * r + i) with out := true }) s1
    (s2.setChannel r { s2.channel r with region := some (r ^^^ 1) }).unitEvent 0x0604 r

/-- A region back in service: its clusters go back to the basin that held them while that is ACTIVE, to basin 0 otherwise; its chambers
return empty. -/
def State.returnRegion (s : State) (r : Nat) : State :=
  let s1 := s.setRegion r { midWindow := true }
  let s2 := (List.range 16).foldl (fun (s : State) i =>
    let c := s.cluster (16 * r + i)
    let keep := match c.owner with
      | some b => decide ((s.basin b).st = 2)
      | none => false
    if keep then s else s.setCluster (16 * r + i) { c with owner := some 0 }) s1
  let s3 := (List.range 2048).foldl (fun (s : State) i =>
    let c := s.chamber (2048 * r + i)
    s.setChamber (2048 * r + i) { c with out := false, counter := 0, threshold := 0, fired := false, waiters := [] }) s2
  s3.setChannel r { s3.channel r with region := none }

/-- A run of a bypassed region stopped: its rows are written as skipped (R104). -/
def State.stopRun (s : State) (core : Nat) : State :=
  match (s.core core).run with
  | none => s
  | some r =>
    (s.clearRun core).modMember r (fun m =>
      let m0 := { m with runRecs := m.runRecs.filter (fun q => decide (¬(q.core = core ∧ q.order = r.order))) }
      { m0 with runRecs := m0.runRecs ++ [{ region := regionOf core, group := r.group, core := core, order := r.order, recs := m0.skipRecs r }] })

/-! ### Service actions (R426) -/

def State.setSvc (s : State) (x : Option Svc) : State := { s with fab := { s.fab with svc := x } }

/-- An action ended: STATUS and COUNT shown, BUSY clear. -/
def State.svcEnd (s : State) (status count : Nat) : State :=
  (((s.setSvc none).setFld rTwnSvcRes 0 16 status).setFld rTwnSvcRes 16 1 0).setFld rTwnSvcRes 32 32 count

/-- An action begun: BUSY. -/
def State.svcBegin (s : State) (op target : Nat) : State :=
  (s.setSvc (some { op := op, target := target })).setFld rTwnSvcRes 16 1 1

/-- Homes of a flash channel, highest score first. -/
def State.flashHomes (s : State) (ch : Nat) : List BerthKey :=
  let hs := s.tiers.layers.flatMap (fun p => (p.2.ptes.filter (fun e => e.2.home && decide (e.2.slot ≠ 0xFFFFFFFF) && isFlash e.2.slot
    && decide (flashNo e.2.slot % 32 = ch))).map (fun e => ((⟨p.1.tenant, p.1.object, p.1.layer, e.1⟩ : BerthKey), e.2.score)))
  ((hs.foldr scoreInsert []).map (·.1)).reverse

/-- A flash slot's content moved to an erased slot of another channel. -/
def State.moveFlash (s : State) (f : Nat) (k : BerthKey) : Option (State × Nat) :=
  (s.flashPlace k (BitVec.allOnes 32)).map (fun g => ((s.setFslot g (s.fslot f)).freeHome (f + 0x01000000), g))

/-- A journal slot moved: whatever names it follows. -/
def State.moveJournal (s : State) (f : Nat) : State :=
  let x := s.fslot f
  match s.moveFlash f (x.key.getD ⟨x.tenant, 0, 0, 0⟩) with
  | none => s
  | some (t, g) =>
    let old := f + 0x01000000
    let new := g + 0x01000000
    let j := t.jsrc x.tenant
    t.setJsrc x.tenant { j with
      berths := alMap j.berths (fun _ e => if e.slot = some old then { e with slot := some new } else e)
      logs := j.logs.map (fun p => if p.1 = old then (new, p.2) else p)
      prog := j.prog.map (fun p => if p.slot = old then { p with slot := new } else p) }

/-- A leaf-table slot moved: the leaves in it follow. -/
def State.moveTable (s : State) (f : Nat) : State :=
  match s.moveFlash f ⟨0, 0, 0, 0⟩ with
  | none => s
  | some (t, g) => { t with tiers := { t.tiers with layers := alMap t.tiers.layers (fun _ l =>
      { l with spilled := alMap l.spilled (fun _ q => if q.1 = f + 0x01000000 then (g + 0x01000000, q.2) else q) }) } }

/-- Flash slots of a channel in a state. -/
def State.channelSlotsIn (s : State) (ch : Nat) (p : FlashSt → Bool) : List Nat :=
  (s.nv.slots.filter (fun x => decide (x.1 % 32 = ch) && p x.2.st)).map (·.1)
def FlashSt.live : FlashSt → Bool
  | .home | .reserved | .draining | .table | .journal => true
  | _ => false

/-- Barges queued for homes that have to leave and have none queued or running. -/
def State.queueOut (s : State) (ks : List BerthKey) (flash : Bool) : State :=
  ks.foldl (fun (s : State) k =>
    if (alGet s.tiers.barges k).isSome ∨ s.tiers.bargeQ.any (fun q => decide (q.key = k) && decide (q.why = .drain)) then s
    else (s.unqueue k).queueBarge { key := k, why := .drain, toFlash := flash }) s

/-- Journal and leaf-table slots leave a channel that drains; a page being programmed is moved once it is done. -/
def State.drainSlots (s : State) (ch : Nat) : State :=
  let busy (f : Nat) : Bool := s.twin.src.any (fun p => p.2.prog.any (fun x => decide (x.slot = f + 0x01000000)))
  let js := (s.channelSlotsIn ch (fun x => decide (x = .journal))).filter (fun f => !busy f)
  let ts := s.channelSlotsIn ch (fun x => decide (x = .table))
  ts.foldl (fun (s : State) f => s.moveTable f) (js.foldl (fun (s : State) f => s.moveJournal f) s)

/-- Homes whose stacked-DRAM slot has bytes on a channel. -/
def State.channelHomes (s : State) (ch : Nat) : List BerthKey :=
  (channelTake ch).filterMap (fun n => if (s.slot n).st = .home ∧ (s.hostEnd n).isNone then (s.slot n).key else none)
def State.channelBusy (s : State) (ch : Nat) : Bool :=
  (channelTake ch).any (fun n => (s.hostEnd n).isNone && decide ((s.slot n).st ≠ .free) && decide ((s.slot n).st ≠ .withdrawn))

/-- FREE slots of a retired channel withdrawn, others given up: packs, graph slots and working copies move, a barge toward one starts
over. -/
def State.drainDram (s : State) (ch : Nat) : State :=
  let ns := (channelTake ch).filter (fun n => (s.hostEnd n).isNone)
  let free := ns.filter (fun n => (s.slot n).st = .free)
  let s1 := free.foldl (fun (s : State) n => (s.evictCopyAt n).setSlot n { st := .withdrawn }) s
  ns.foldl (fun (s : State) n => match (s.slot n).st with
    | .pack | .graph | .working | .reserved => s.emptySlot n
    | _ => s) s1

/-- The retirement in both settings copies at once, without a full save, unless UNREADABLE is set (R429). -/
def State.recordRetired (s : State) : State :=
  if s.fld rKprSet 3 1 = 1 then s
  else
    let body := channelMask s.tiers.retiredCh
    s.putCopies (fun _ c => { c with sections := c.sections.filter (fun x => decide (x.1 ≠ 5)) ++ [(5, body)] })
      { schema := 0, seq := 0, sections := [] } false

/-- An action in progress taken as far as it now goes. -/
def State.svcOn (s : State) : State :=
  match s.fab.svc with
  | none => s
  | some x =>
    if x.op = 1 then (if (s.runsIn x.target).isEmpty then s.svcEnd stOk x.count else s)
    else if x.op = 4 then
      let before := (s.channelSlotsIn x.target (fun st => decide (st = .journal) || decide (st = .table))).length
      let s1 := s.drainSlots x.target
      let moved := before - (s1.channelSlotsIn x.target (fun st => decide (st = .journal) || decide (st = .table))).length
      let x1 : Svc := { x with count := x.count + moved }
      if (s1.channelSlotsIn x.target FlashSt.live).isEmpty then
        (s1.setChannel x.target { s1.channel x.target with inService := false, draining := false }).svcEnd stOk x1.count
      else if s1.flashErased = 0 then (s1.setChannel x.target { s1.channel x.target with draining := false }).svcEnd stNoSlot x1.count
      else (s1.setSvc (some x1)).queueOut (s1.flashHomes x.target) true
    else if x.op = 7 then
      let s1 := s.drainDram x.target
      if !s1.channelBusy x.target then
        s1.svcEnd stOk ((channelTake x.target).filter (fun n => decide ((s1.slot n).st = .withdrawn))).length
      else if s1.freeSlot.isNone ∧ s1.flashErased = 0 then s1.svcEnd stNoSlot 0
      else s1.queueOut (s1.channelHomes x.target) s1.freeSlot.isNone
    else s

/-- `SOURCE_DRAIN_FREE` (R176 step 6): a DRAINING slot without a staged read in progress, its invalidation acknowledged; what waits for
slots to come free goes on. -/
def execSourceDrainFree (slot : BitVec 32) (s : State) : Host.Outcome State Fault Refusal :=
  let n := slot.toNat
  let draining := if isFlash n then decide ((s.fslot (flashNo n)).st = .draining) else decide ((s.slot n).st = .draining)
  let key := if isFlash n then (s.fslot (flashNo n)).key else (s.slot n).key
  let wait := match key with | some k => s.invalPending k | none => false
  if draining ∧ s.readsOf n = 0 ∧ !wait then
    let s1 := s.freeHome n
    let s2 := match s1.fab.svc with
      | some x => if x.op = 4 ∧ isFlash n ∧ flashNo n % 32 = x.target then s1.setSvc (some { x with count := x.count + 1 }) else s1
      | none => s1
    .next (if isFlash n then s2.compact (flashNo n % 32) else s2.composeOn).svcOn
  else .next s

/-! ### A channel taken out at once (R428) -/

/-- A home whose slot is gone: its image is fetched where the twin journals it, else the berth is lost. -/
def State.loseHome (s : State) (k : BerthKey) : State × Bool :=
  let s1 := (s.abortBarge k).dropCopy k
  if s.fld rTwnCfg 10 1 = 1 ∧ s.twin.pair ≠ 0 ∧ !s.twin.unjournalled.contains k ∧ k.tenant < 0x1000 then
    (((s1.modPte k (fun p => { p with slot := 0xFFFFFFFF })).plbInval [k]).askFetch k, false)
  else
    let s2 := match s1.pte k with
      | some p => s1.packDrop p
      | none => s1
    let s3 := (s2.delPte k).plbInval [k]
    (if s3.homesInBlock k = 0 then s3.homeNotes k false else s3, true)

/-- The partner's journal without the slots of a channel: berths held only there are gone from the index, and the twin is told by an
index it did not ask for (log: the spec names no message). -/
def State.loseJournal (s : State) (ch : Nat) : State :=
  let on (slot : Nat) : Bool := isFlash slot && decide (flashNo slot % 32 = ch)
  s.twin.src.foldl (fun (s : State) (x : Nat × JSource) =>
    let j := x.2
    let logged := (j.logs.filter (fun p => on p.1)).flatMap (fun p => p.2.map (·.1)) ++ (j.prog.filter (fun p => on p.slot)).flatMap (fun p => p.recs.map (·.1))
    let hit (b : BerthKey × JEntry) : Bool := b.2.working.isNone && (b.2.slot.any on || logged.contains b.1
      || j.prog.any (fun p => decide (p.key = some b.1) && on p.slot))
    let gone := (j.berths.filter hit).map (·.1)
    if gone.isEmpty ∧ !j.logs.any (fun p => on p.1) ∧ !j.berths.any (fun b => b.2.slot.any on) then s
    else
      let s1 := gone.foldl (fun (s : State) k => s.dropEntry k) s
      let j1 := s1.jsrc x.1
      let s2 := s1.setJsrc x.1 { j1 with logs := j1.logs.filter (fun p => !on p.1),
                                         berths := alMap j1.berths (fun _ e => if e.slot.any on then { e with slot := none } else e) }
      s2.sendJack x.1 none [] (some (s2.jIndex x.1))) s

/-- A channel isolated: homes, journal slots and leaf tables on it are lost here; reported with the berths that no twin journals.
Answered with the homes lost locally. -/
def State.isolate (s : State) (ch : Nat) : State × Nat :=
  let homes := s.flashHomes ch
  let incoming := (s.tiers.barges.filter (fun b => isFlash b.2.dest && decide (b.2.dest ≠ 0xFFFFFFFF) && decide (flashNo b.2.dest % 32 = ch))).map (·.1)
  let s1 := incoming.foldl (fun (s : State) k => s.abortBarge k) s
  let s2 := s1.setChannel ch { s1.channel ch with inService := false, draining := false }
  let r := homes.foldl (fun (a : State × Nat) k =>
    let x := a.1.loseHome k
    (x.1, if x.2 then a.2 + 1 else a.2)) (s2, 0)
  let s3 := r.1.loseJournal ch
  let on (slot : Nat) : Bool := isFlash slot && decide (flashNo slot % 32 = ch)
  let s4 : State := { s3 with
    tiers := { s3.tiers with layers := alMap s3.tiers.layers (fun _ l => { l with spilled := l.spilled.filter (fun q => !on q.2.1) })
                             reads := s3.tiers.reads.filter (fun q => !homes.contains q.key) },
    nv := { s3.nv with slots := s3.nv.slots.map (fun p => if p.1 % 32 = ch ∧ p.2.st ≠ .retired then
      (p.1, { p.2 with st := .stale, key := none, img := none, tenant := 0 }) else p) } }
  (s4.partEvent 0x0605 ch r.2, homes.length)

/-- A channel back in service, empty (R426). -/
def State.returnChannel (s : State) (ch : Nat) : State :=
  if (s.channel ch).inService then s
  else
    let s1 : State := { s with nv := { s.nv with slots := s.nv.slots.filter (fun p => decide (p.1 % 32 ≠ ch) || decide (p.2.st = .retired)) } }
    s1.setChannel ch { s1.channel ch with inService := true, draining := false }
def State.usableSlots (s : State) (ch : Nat) : Nat :=
  ((usableIx ch).filter (fun ix => decide ((s.fslot (ch + 32 * ix)).st ≠ .retired))).length

/-! ### The actions by OP (R420, R426) -/

/-- TWN_SVC.OP written with a TARGET. A write while BUSY is ignored and counted; a reserved OP (R7) and a TARGET that names no such unit end with
INVALID_FIELD. -/
def State.svcWrite (s0 : State) (op target : Nat) : State :=
  let s := s0.svcOn
  if s.fab.svc.isSome then s.bump rTwnStat 16 8 1
  else
    let limit := if op ≤ 3 then 32 else if op ≤ 6 then 32 else if op = 7 then 256 else 4096
    if op = 0 ∨ 8 < op ∨ limit ≤ target then s.svcEnd stInvalidField 0
    else if op = 1 then ((s.bypassRegion target).svcBegin 1 target).svcOn
    else if op = 2 then
      let n := ((List.range 16).filter (fun i => (s.region target).out && !(s.cluster (16 * target + i)).failed)).length
      (if (s.region target).out then s.returnRegion target else s).svcEnd stOk n
    else if op = 3 then (s.bypassRegion target).svcBegin 3 target
    else if op = 4 then ((s.setChannel target { s.channel target with draining := true }).svcBegin 4 target).svcOn
    else if op = 5 then let r := s.isolate target
      r.1.svcEnd stOk r.2
    else if op = 6 then (s.returnChannel target).svcEnd stOk ((s.returnChannel target).usableSlots target)
    else if op = 7 then
      let known := s.tiers.retiredCh
      let s1 : State := { s with tiers := { s.tiers with retiredCh := if known.contains target then known else known ++ [target] } }
      ((s1.recordRetired).svcBegin 7 target).svcOn
    else
      let n := (s.nv.slots.filter (fun x => decide (x.2.st = .held) && decide (x.2.tenant = target))).length
      ((s.staleHeld (fun f => decide (f.tenant = target))).rejoinCheck).svcEnd stOk n

/-- One row of R426 written to TWN_SVC. -/
def svcRow (op target : Nat) (s : State) : State := if s.inService then s.svcWrite op target else s.turnedAway

def execRegionBypass (region : BitVec 12) (s : State) : Host.Outcome State Fault Refusal := .next (svcRow 1 region.toNat s)
def execRegionReturn (region : BitVec 12) (s : State) : Host.Outcome State Fault Refusal := .next (svcRow 2 region.toNat s)
def execFlashDrain (channel : BitVec 12) (s : State) : Host.Outcome State Fault Refusal := .next (svcRow 4 channel.toNat s)
def execFlashIsolate (channel : BitVec 12) (s : State) : Host.Outcome State Fault Refusal := .next (svcRow 5 channel.toNat s)
def execFlashReturn (channel : BitVec 12) (s : State) : Host.Outcome State Fault Refusal := .next (svcRow 6 channel.toNat s)
def execHbmRetire (channel : BitVec 12) (s : State) : Host.Outcome State Fault Refusal := .next (svcRow 7 channel.toNat s)
def execReleaseHeld (tenant : BitVec 12) (s : State) : Host.Outcome State Fault Refusal := .next (svcRow 8 tenant.toNat s)

/-- A core that failed its test in REGION_TEST: FAILED, reported, replaced by the spare where there is one (R424, R425). -/
def State.failCore (s : State) (core : Nat) : State :=
  let cl := clusterOf core
  let m := s.spareMap cl
  let p := nthD 0 m.map (core % 8)
  if m.failed.contains p then s
  else (((s.setSpareMap cl { m with failed := m.failed ++ [p] }).bump rTwnSt 40 8 1).unitEvent 0x0601 core).spareSettle cl

/-- `REGION_TEST`: the write that begins it where none is on; once the region has no run left, the outcome of the tests. -/
def execRegionTest (region : BitVec 12) (failed : List (BitVec 12)) (s : State) : Host.Outcome State Fault Refusal :=
  let r := region.toNat
  let on (s : State) : Bool := match s.fab.svc with
    | some x => decide (x.op = 3) && decide (x.target = r)
    | none => false
  let s1 := if on s then s else svcRow 3 r s
  if !on s1 ∨ !(s1.runsIn r).isEmpty then .next s1
  else
    let bad := ((failed.map (·.toNat)).eraseDups).filter (fun c => decide (regionOf c = r))
    .next ((bad.foldl (fun (s : State) c => s.failCore c) s1).svcEnd stOk bad.length)

/-- `REGION_FAULT_BYPASS`: the region's crossbar or pace monitor reported an uncorrectable fault. -/
def execRegionFaultBypass (region : BitVec 5) (s : State) : Host.Outcome State Fault Refusal := .next (s.bypassRegion region.toNat)

/-- `BYPASS_RUN_TIMEOUT`: a run still going in a bypassed region after its sweep's C, or after 2^24 ticks, is stopped. -/
def execBypassRunTimeout (core : BitVec 12) (s : State) : Host.Outcome State Fault Refusal :=
  let c := core.toNat
  let r := regionOf c
  match (s.core c).run with
  | none => .next s.svcOn
  | some run =>
    let late := (s.region r).pendingUntil.any (fun t => decide (t ≤ s.now)) || ((s.memberOf run).map (fun m => decide (m.times.c ≤ s.now))).getD true
    if !(s.region r).out ∨ !late then .next s
    else
      let s1 := s.stopRun c
      let s2 := match s1.fab.svc with
        | some x => if x.op = 1 ∧ x.target = r then s1.setSvc (some { x with count := x.count + 1 }) else s1
        | none => s1
      let s3 := if (s2.runsIn r).isEmpty then s2.setRegion r { s2.region r with pendingUntil := none } else s2
      .next s3.svcOn

/-- `FLASH_CHANNEL_FAILURE`. -/
def execFlashChannelFailure (channel : BitVec 5) (s : State) : Host.Outcome State Fault Refusal :=
  .next (if (s.channel channel.toNat).inService then (s.isolate channel.toNat).1 else s)

/-! ### BTH_PLB_INV (R167, R193) -/

/-- A write of BTH_PLB_INV: the entries it names are invalidated once every PLB has acknowledged. -/
def State.plbInvWrite (s : State) (val : W64) : State :=
  let mine (e : PlbEntry) : Bool := decide (vfld val 6 1 = 1) || decide (e.basin = vfld val 0 6)
  s.plbInval ((s.fab.clusters.flatMap (fun c => (c.2.plb.filter mine).map (·.key))).eraseDups)

/-- `PLB_INV_BASIN`: the write with ALL clear. -/
def execPlbInvBasin (val : BitVec 64) (s : State) : Host.Outcome State Fault Refusal :=
  .next (if s.inService then s.plbInvWrite (Sys2Proof.setFld val 6 1 0) else s.turnedAway)

/-- `PLB_INV_ALL`: the write with ALL set. -/
def execPlbInvAll (val : BitVec 64) (s : State) : Host.Outcome State Fault Refusal :=
  .next (if s.inService then s.plbInvWrite (Sys2Proof.setFld val 6 1 1) else s.turnedAway)

end Sys2Proof.Machine
end

