-- ==== Sys2Proof/Machine/Access.lean ====
section
/-! DEFINITION. Accesses to the two windows: a register written or read by any path, the action of each register (R6, R7, R24, R28,
R272, R320 to R329, R362, R384, R407, R436, R439, R447), the pace window (R22), writes to BAR2 (R323), a PCIe reset (R322). -/

namespace Sys2Proof.Machine

/-! ### BSN_CMD (R362) -/

/-- The descriptor of BSN_CMDBUF carried out as if consumed from basin 0's ring 0, its completion going to BSN_CMD_RES. A SWEEP waits
where no local number is free (R330). -/
def State.cmdRun (s : State) (d : Dsc) : State :=
  match d.op with
  | 0x01 =>
    let s1 : State := { s with sweeps := { s.sweeps with handed := s.sweeps.handed ++ [(0, cmdRing, d.bytes)] } }
    s1.acceptHanded s1.sweeps.handed.length
  | 0x02 => tenantDsc doCancel d s
  | 0x03 => tenantDsc doCreateObject d s
  | 0x04 => tenantDsc doUpdateObject d s
  | 0x05 => tenantDsc doDestroyObject d s
  | 0x06 => tenantDsc (doAppend []) d s
  | 0x07 => tenantDsc (doTruncate []) d s
  | 0x08 => tenantDsc doLoadProgram d s
  | 0x09 => tenantDsc doRingConfig d s
  | 0x0A => tenantDsc doMoorReg d s
  | 0x0B => tenantDsc doMoorRevoke d s
  | 0x0C => tenantDsc doMoorDereg d s
  | 0x0D => tenantDsc doFlightArmDesc d s
  | 0x0E => tenantDsc doFlightCancel d s
  | 0x0F => tenantDsc doConnOpen d s
  | 0x10 => tenantDsc doConnClose d s
  | 0x20 | 0x21 | 0x22 | 0x23 | 0x24 | 0x28 | 0x29 => doCompose d s
  | 0x25 => tenantDsc doMoveObject d s
  | 0x2A => tenantDsc doBind d s
  | 0x2B => tenantDsc doUnbind d s
  | _ => s.fin d stInvalidField 0

/-- A write of BSN_CMD: GO while BUSY is ignored. -/
def State.cmdGo (s : State) (val : W64) : State :=
  if vfld val 0 1 = 0 ∨ s.cmdBusy then s else (s.setFld rBsnCmdRes 16 1 1).cmdRun (dscOf 0 cmdRing s.cmdBuf)

/-- `BSN_CMD_GO`. -/
def execBsnCmdGo (val : BitVec 64) (s : State) : Host.Outcome State Fault Refusal :=
  .next (if s.inService then s.cmdGo val else s.turnedAway)

/-! ### What a register write does -/

/-- A write to a doorbell page (R328); QUEUE 3 of CONN_DB is reserved. -/
def State.pageWrite (s : State) (b o : Nat) (val : W64) : State :=
  let basin := BitVec.ofNat 6 b
  if o < 0x0800 then took s (execSqTail basin (BitVec.ofNat 8 (o / 8)) val s)
  else if o < 0x1000 then s
  else if o < 0x1800 then took s (execCqHead basin (BitVec.ofNat 8 ((o - 0x1000) / 8)) val s)
  else if o = 0x1800 then took s (execRelease basin val s)
  else if o = 0x1808 then took s (execEvtHead basin val s)
  else if o = 0x1818 then took s (execExcHead basin val s)
  else if o = 0x1828 then
    let conn := BitVec.ofNat 24 (vfld val 0 24)
    let index := BitVec.ofNat 16 (vfld val 24 16)
    match vfld val 40 2 with
    | 0 => took s (execConnDbSend basin conn index s)
    | 1 => took s (execConnDbRecv basin conn index s)
    | 2 => took s (execConnDbCompletion basin conn index s)
    | _ => s
  else s

/-- CH_ALLOC. -/
def State.chAllocWrite (s : State) (val : W64) : State :=
  match vfld val 18 2 with
  | 1 => s.chAllocate (vfld val 0 6) (vfld val 6 12)
  | 2 => s.chFree (vfld val 0 6) (vfld val 6 12) (vfld val 20 16)
  | _ => s.chResult 0 2

/-- LDG_CURn_CMD. -/
def State.curCmdWrite (s : State) (n : Nat) (val : W64) : State :=
  let word (o : Nat) : BitVec 128 := BitVec.ofNat 128 ((s.reg (rLdgCurKey0 + 0x80 * n + o)).toNat + (s.reg (rLdgCurKey0 + 0x80 * n + o + 8)).toNat * 2 ^ 64)
  match vfld val 0 2 with
  | 1 => s.cursorLookup n (word 0) (word 0x10)
  | 2 => s.cursorNext n
  | 3 => s.cursorClose n
  | _ => s

/-- The effect of a word written to a register, whoever writes it: the action of its register, or its fields by their access codes. -/
def State.regAct (s : State) (off : Nat) (val : W64) : State :=
  if off % 8 ≠ 0 then s
  else match blockOf off with
  | 0x01 => if off = rBootCmd then s.bootCmdWrite val else if off = rBootAttempt then s.attemptWrite val else s.regPut off val
  | 0x02 => if off = rRstCtl then s.rstCtlWrite val else s.regPut off val
  | 0x04 => if off = rKprUpd then s.kprUpdWrite val else if off = rKprSet then s.kprSetWrite val else s.regPut off val
  | 0x06 => if off = rBsnEpoch then s.epochWrite val else if off = rBsnCmd then s.cmdGo val else s.regPut off val
  | 0x07 => if off = rTbSet then s.tbSet val else s.regPut off val
  | 0x08 => if off = rChAlloc then s.chAllocWrite val else if off = rChCfg then s.chCfgWrite val else s.regPut off val
  | 0x09 =>
    if rPrtEngCtl ≤ off ∧ off < rPrtEngCtl + 0x100 ∧ off % 0x40 = 0 then s.engCtlWrite ((off - rPrtEngCtl) / 0x40) val else s.regPut off val
  | 0x0B => if off = rTrfCtl then s.trfCtlWrite val else if off = rTrfMrate then s.mrateWrite val else s.regPut off val
  | 0x0C =>
    if rLdgCurKey0 ≤ off ∧ off < rLdgCurKey0 + 0x200 ∧ off % 0x80 = 0x20 then s.curCmdWrite ((off - rLdgCurKey0) / 0x80) val else s.regPut off val
  | 0x0E => if off = rBthPlbInv then s.plbInvWrite val else s.regPut off val
  | 0x10 =>
    if off = rTwnCfg then s.twnCfgWrite val
    else if off = rTwnSvc then s.svcWrite (vfld val 0 4) (vfld val 4 12) else s.regPut off val
  | 0x11 => s.dbgWrite off val
  | 0x12 => (s.regPut off val).ibiFlush
  | 0x13 => if off = rLbsCtl then s.lbsCtlWrite val else if off = rLbsXfer then s.lbsXferWrite val else s.regPut off val
  | 0xFE => if s.sec.tdisp = 1 ∨ s.sec.tdisp = 2 then s.tdispError else s.regPut off val
  | _ => if 0x800000 ≤ off ∧ off < 0xC00000 then s.pageWrite ((off - 0x800000) / 0x10000) (off % 0x10000) val else s.regPut off val

/-! ### Paths (R28, R324, R326, R369, R439) -/

/-- What only the host reaches: doorbell pages and the MSI-X structures. -/
def hostOnly (off : Nat) : Bool := (decide (0x800000 ≤ off) && decide (off < 0xC00000)) || decide (0xFE ≤ blockOf off)

/-- Blocks the towpath reads: HUB_, BOOT_, RST_, PWR_, TWP_; and writes: those but HUB_. -/
def towReads (off : Nat) : Bool := decide (blockOf off ≤ 3) || decide (blockOf off = 0x12)
def towWrites (off : Nat) : Bool := towReads off && decide (blockOf off ≠ 0)

/-- A register written by a path: the host's write in ERROR is a non-IDE TLP; HANDOVER discards BAR0 writes and the manager's alike
outside HUB_; the towpath is not BAR0 and goes on (log). -/
def State.writeVia (s : State) (path : Path) (off : Nat) (val : W64) : State :=
  match path with
  | .host => if s.sec.tdisp = 3 then s.turnedAway else if s.takesWrite off then s.regAct off val else s
  | .manager => if s.blockServed off && !hostOnly off && (decide (s.mode ≠ 1) || decide (blockOf off = 0)) then s.regAct off val else s
  | .towpath => if s.blockServed off && towWrites off then s.regAct off val else s

/-- What a path reads, and what the read does: a service action is first taken as far as it goes. -/
def State.readVia (s0 : State) (path : Path) (off : Nat) : State × W64 :=
  let s := s0.svcOn
  let ok := match path with
    | .host => true
    | .manager => !hostOnly off
    | .towpath => towReads off
  if ok then (s.regReadEffect off, s.regShown off) else (s, 0)

/-- `REGISTER_WRITE`. -/
def execRegisterWrite (path : Path) (off : BitVec 24) (val : BitVec 64) (s : State) : Host.Outcome State Fault Refusal :=
  .next (s.writeVia path off.toNat val)

/-- `TWN_CFG_WRITE`: pairing as R408 lays down, by the host or the manager; the towpath does not reach the block. -/
def execTwnCfgWrite (path : Path) (val : BitVec 64) (s : State) : Host.Outcome State Fault Refusal := .next (s.writeVia path rTwnCfg val)

/-- `REGISTER_READ`: the value goes out; in ERROR a host read completes with Unsupported Request. -/
def execRegisterRead (path : Path) (off : BitVec 24) (s : State) : Host.Outcome State Fault Refusal :=
  if path = .host ∧ s.sec.tdisp = 3 then .next s.unsupported
  else
    let r := s.readVia path off.toNat
    .next (r.1.send (.read r.2))

/-! ### Pace (R22 to R24, R344) -/

/-- A region's pace register at the end of a window; a region out of service reports none, and one that came back during the window
has not had a complete one. -/
def State.paceStore (s : State) (r steps : Nat) : State :=
  let off := rHubPaceReg + 8 * r
  let seq := (s.fld off 32 16 + 1) % 2 ^ 16
  let x := s.region r
  if x.out then s.setReg off (pack 0 [(32, 16, seq)])
  else if x.midWindow then (s.setRegion r { x with midWindow := false }).setReg off (pack 0 [(32, 16, seq)])
  else s.setReg off (pack 0 [(0, 32, steps), (32, 16, seq), (48, 1, 1)])

/-- The regions that report a pace, with their step counts. -/
def State.paced (s : State) : List (Nat × Nat) :=
  (List.range 32).filterMap (fun r => if s.fld (rHubPaceReg + 8 * r) 48 1 = 1 then some (r, s.fld (rHubPaceReg + 8 * r) 0 32) else none)

/-- Pace of a step count in M steps/s, rounded down, for the window in force. -/
def State.msps (s : State) (steps : Nat) : Nat := steps * 2 ^ 14 / (2 ^ s.fld rHubPaceCtl 0 4 * 10 ^ 6)

/-- Part pace, the slowest region, and the floor: BELOW_FLOOR raises vector 0 as it becomes set. -/
def State.paceUpdate (s : State) : State :=
  match s.paced with
  | [] => s
  | p :: ps =>
    let least := ps.foldl (fun (b x : Nat × Nat) => if x.2 < b.2 then x else b) p
    let s1 := (s.setFld rHubPaceStat 0 16 (min (2 ^ 16 - 1) (s.msps least.2))).setFld rHubPaceStat 16 5 least.1
    let below := decide (least.2 * 2 ^ 14 < s.fld rHubPaceCtl 16 16 * 10 ^ 6 * 2 ^ s.fld rHubPaceCtl 0 4)
    if below && decide (s.fld rHubPaceStat 32 1 = 0) then (s1.setFld rHubPaceStat 32 1 1).raiseMsix 0 else s1

/-- `PACE_WINDOW_END`: step counts of regions 0 to 31 in the window that ends. -/
def execPaceWindowEnd (counts : List Nat) (s : State) : Host.Outcome State Fault Refusal :=
  if s.boot.inReset then .next s
  else .next ((List.range 32).foldl (fun (s : State) r => s.paceStore r (nthD 0 counts r % 2 ^ 32)) s).paceUpdate

/-! ### BAR2 and PCIe resets (R322, R323, R369) -/

/-- Whether bytes lie wholly in the host area or the mooring share of a composed basin. -/
def State.hostMay (s : State) (a n : Nat) : Bool :=
  s.host.basins.any (fun p => decide (p.2.st ≠ 0) && (s.inHost p.1 a n || s.inMoor p.1 a n))

/-- `BAR2_WRITE`: `ide` tells that the TLP came on an IDE stream with the T bit set. -/
def execBar2Write (off : BitVec 36) (data : List Byte) (ide : Bool) (s : State) : Host.Outcome State Fault Refusal :=
  let a := imageAt + off.toNat
  if s.boot.inReset then .next s
  else if s.sec.tdisp = 3 then .next s.turnedAway
  else if s.sec.tdisp = 2 ∧ !ide then .next (s.bump rSecErr 32 32 1)
  else if s.hostMay a data.length then .next (s.setDram (memWriteL s.dram a data))
  else .next (s.bump rHubHostif 32 16 1)

/-- `PCIE_HOT_RESET`: the PCIe island alone: the MSI-X structures and the IDE keys go, and a locked interface sees its configuration
change (PRESUMED, log). Rings, sweeps and status words stay. -/
def execPcieHotReset (s : State) : Host.Outcome State Fault Refusal :=
  let s1 := s.tdispError
  .next ({ s1 with regs := s1.regs.filter (fun p => decide (blockOf p.1 < 0xFE)) }.setSec { s1.sec with ide := [] })

end Sys2Proof.Machine
end

