-- ==== Sys2Proof/Machine/Target.lean ====
section
/-! DEFINITION. Packets that arrive on connections: the checks of the port (R297), metering (R315), order and duplicates (R286, R289),
what each operation does at the target (R283 to R288, R293, R295, R302) and at the requester (R287); contexts loaded (R291); work
requests started (R292, R294, R295). -/

namespace Sys2Proof.Machine

/-! ### Packets -/

/-- The base header of a packet command. -/
def pktOf : Instr → Option Pkt
  | .readReq h _ => some h
  | .readResp h _ _ => some h
  | .write h _ _ => some h
  | .atomicAdd h _ => some h
  | .cas h _ => some h
  | .atomicResp h _ => some h
  | .fabricChAdd h _ => some h
  | .flush h _ _ => some h
  | .flushResp h _ => some h
  | .enable h _ _ => some h
  | .ack h _ => some h
  | _ => none

/-- The virtual channel of its opcode (R281). -/
def vcOf : Instr → Nat
  | .readResp _ _ _ => 1
  | .atomicResp _ _ => 1
  | .flushResp _ _ => 1
  | .ack _ _ => 3
  | _ => 0

/-- Its payload. -/
def payloadOf : Instr → List Byte
  | .readResp _ _ d => d
  | .write _ _ d => d
  | _ => []

/-- Bytes of the request pool in use: request payloads waiting in reorder stores (R282; log). -/
def requestPool : Nat := 32 * 2 ^ 20
def State.poolFill (s : State) : Nat :=
  (s.net.conns.map (fun c => (c.2.reorder.map (fun p => if vcOf p.2 = 0 then (payloadOf p.2).length else 0)).sum)).sum

/-! ### Reaching the spaces of an address (R25 to R28, R283 to R285, R302) -/

/-- Whether an address is one the layout gives a meaning, whatever the length of the access (R27). -/
def yNamed (a : W64) : Bool :=
  match ySpace a with
  | 1 => yValid (a &&& ~~~0xFF) 256
  | 3 => yValid a 8
  | 4 => yValid (a &&& ~~~0x7) 8
  | _ => yValid a 1

/-- The chamber an address of chamber space names. -/
def yChamber (a : W64) : Nat := yOff a / 8 % 65536

/-- The ruling on a READ (op 1) or WRITE (op 3) of `len` bytes over connection `n`. -/
def State.rwRule (s : State) (n op : Nat) (a : W64) (mkey mgen len : Nat) (notify : Bool) : Nat :=
  let c := s.conn n
  if !yNamed a ∨ yPkg a ≠ selfPkg ∨ len = 0 ∨ 2 ^ 24 < len then stInvalidField
  else match ySpace a with
    | 0 => s.moorRule n op (yOff a) mkey mgen len notify
    | 3 =>
      if op ≠ 1 ∨ len ≠ 8 then stAccessDenied
      else if c.kind ≠ 0 then stNotOwner else (s.chRefuse c.basin (yChamber a)).getD stOk
    | 4 => if c.kind = 2 ∧ len = 8 ∧ yOff a % 8 = 0 ∧ !hostOnly (yOff a) then stOk else stAccessDenied
    | _ => stAccessDenied

/-- The ruling on an atomic: `hi` the high words that chamber space takes as 0. -/
def State.atRule (s : State) (n : Nat) (a : W64) (mkey mgen : Nat) (hi : Nat) : Nat :=
  let c := s.conn n
  if !yNamed a ∨ yPkg a ≠ selfPkg ∨ yOff a % 8 ≠ 0 then stInvalidField
  else match ySpace a with
    | 0 => s.moorRule n 4 (yOff a) mkey mgen 8 false
    | 3 => if hi ≠ 0 then stInvalidField else if c.kind ≠ 0 then stNotOwner else (s.chRefuse c.basin (yChamber a)).getD stOk
    | _ => stAccessDenied

/-- The ruling on a chamber add. -/
def State.addRule (s : State) (n : Nat) (a opnd : W64) : Nat :=
  let c := s.conn n
  if !yNamed a ∨ yPkg a ≠ selfPkg ∨ ySpace a ≠ 3 ∨ opnd.toNat / 2 ^ 32 ≠ 0 then stInvalidField
  else if c.kind ≠ 0 then stNotOwner else (s.chRefuse c.basin (yChamber a)).getD stOk

/-- Bytes read at an address the ruling accepted. -/
def State.yRead (s : State) (a : W64) (len : Nat) : State × List Byte :=
  match ySpace a with
  | 0 => (s, memReadN s.dram (yOff a) len)
  | 3 => (s, leBytes 8 (s.chamber (yChamber a)).word.toNat)
  | _ => let r := s.readVia .manager (yOff a)
         (r.1, leBytes 8 r.2.toNat)

/-- Bytes written at one. -/
def State.yWrite (s : State) (a : W64) (b : List Byte) : State :=
  match ySpace a with
  | 0 => s.setDram (memWriteL s.dram (yOff a) b)
  | _ => s.writeVia .manager (yOff a) (BitVec.ofNat 64 (leNat b))

/-- An atomic performed at an address the ruling accepted, and the old value: an addition, or a compare with `x` that stores `y`. -/
def State.yAtomic (s : State) (a x : W64) (y : Option W64) : State × W64 :=
  match ySpace a with
  | 0 =>
    let old := BitVec.ofNat 64 (memNat s.dram (yOff a) 8)
    let new := match y with
      | none => old + x
      | some v => if old = x then v else old
    (s.setDram (memWriteL s.dram (yOff a) (leBytes 8 new.toNat)), old)
  | _ =>
    let ch := yChamber a
    let op : ChOp := match y with
      | none => .add (BitVec.ofNat 32 x.toNat)
      | some v => .cas (BitVec.ofNat 32 x.toNat) (BitVec.ofNat 32 v.toNat)
    (s.chEffect ch op, (s.chamber ch).word)

/-! ### The target (R283 to R288, R293, R295) -/

/-- A refusal as the target: returned as the ruling, kept for the next FLUSH (R288). -/
def State.refuseAs (s : State) (n psn status : Nat) : State :=
  let c := s.conn n
  (s.setConn n { c with rxFailed := if c.rxFailed = 0 then status else c.rxFailed }).rule n psn status

/-- The first request of a list that waits for an enable tag, enabled. -/
def enableIn (tag : Nat) : List WR → Option (List WR)
  | [] => none
  | w :: ws => if w.disabled ∧ w.tag = tag then some ({ w with disabled := false } :: ws) else (enableIn tag ws).map (w :: ·)

/-- An enable tag that has arrived: a DISABLED request with it is enabled, else the latch keeps it; a ninth pushes the oldest out
(R295). -/
def State.enableTag (s : State) (n tag : Nat) : State :=
  let c := s.conn n
  match enableIn tag c.queue with
  | some q => s.setConn n { c with queue := q }
  | none =>
    if c.latch.length < 8 then s.setConn n { c with latch := c.latch ++ [tag] }
    else (s.setConn n { c with latch := c.latch.drop 1 ++ [tag] }).bump rTrnErr 44 8 1

/-- A request has taken effect: its tag counts. -/
def State.tagged (s : State) (n : Nat) (h : Pkt) : State := if h.en then s.enableTag n h.tag else s

/-- READ_REQ. -/
def State.takeRead (s : State) (n : Nat) (h : Pkt) (r : RmaExt) : State :=
  let e := s.rwRule n 1 r.addr r.mkey r.mgen r.msgLen false
  if e ≠ stOk then s.refuseAs n h.psn e
  else
    let x := s.yRead r.addr r.msgLen
    ((x.1.rule n h.psn stOk).respond n 2 h.psn stOk 0 x.2).tagged n h

/-- Whether the receive queue has no room. -/
def Conn.rqFull (c : Conn) : Bool := decide ((c.rqTail + 1) % 2 ^ c.log2r = c.rqHead)

/-- A receive completion (R293). -/
def State.notify (s : State) (n value len : Nat) : State :=
  let c := s.conn n
  ((s.setDram (memWriteL s.dram (c.rq + 16 * c.rqTail) (connEntry value stOk 3 1 len))).setConn n { c with rqTail := (c.rqTail + 1) % 2 ^ c.log2r }).connChamber n

/-- The end of an accepted WRITE: it leaves its mooring, and its notify entry is written. -/
def State.endWrite (s : State) (n : Nat) (h : Pkt) (m : InMsg) : State :=
  let s1 := s.setConn n { s.conn n with inMsg := none }
  if m.status ≠ stOk then s1
  else
    let s2 := match m.moor with
      | some i => s1.moorLeave i
      | none => s1
    let s3 := match m.notify with
      | some v => s2.notify n v m.len
      | none => s2
    s3.tagged n h

/-- WRITE: ruled on at the first packet; later packets are checked only for range. -/
def State.takeWrite (s : State) (n : Nat) (h : Pkt) (r : RmaExt) (data : List Byte) : State :=
  let s1 :=
    if h.first then
      let e := s.rwRule n 3 r.addr r.mkey r.mgen r.msgLen r.notify
      let i := if ySpace r.addr = 0 ∧ e = stOk then s.mooringOf r.mkey else none
      let t := match i with
        | some k => s.setMooring k { s.mooring k with inflight := (s.mooring k).inflight + 1 }
        | none => s
      let msg : InMsg := { psn := h.psn, status := e, moor := i, len := r.msgLen,
                           notify := if r.notify then some (r.opnd0.toNat % 2 ^ 32) else none }
      let u := t.setConn n { t.conn n with inMsg := some msg }
      if e = stOk then u.rule n h.psn stOk else u.refuseAs n h.psn e
    else s
  match (s1.conn n).inMsg with
  | none => s1
  | some m =>
    let fits : Bool := match m.moor with
      | some i => decide ((s1.mooring i).base ≤ yOff r.addr) && decide (yOff r.addr + data.length ≤ (s1.mooring i).base + (s1.mooring i).len)
      | none => decide (data.length ≤ m.len)
    let s2 := if m.status = stOk ∧ fits = true then s1.yWrite r.addr data else s1
    if h.last then s2.endWrite n h m else s2

/-- ATOMIC_ADD and CAS. -/
def State.takeAtomic (s : State) (n : Nat) (h : Pkt) (r : RmaExt) (isCas : Bool) : State :=
  let e := s.atRule n r.addr r.mkey r.mgen (r.opnd0.toNat / 2 ^ 32 + (if isCas then r.opnd1.toNat / 2 ^ 32 else 0))
  if e ≠ stOk then s.refuseAs n h.psn e
  else
    let x := s.yAtomic r.addr r.opnd0 (if isCas then some r.opnd1 else none)
    ((x.1.rule n h.psn stOk).respond n 6 h.psn stOk x.2 []).tagged n h

/-- CH_ADD. -/
def State.takeChAdd (s : State) (n : Nat) (h : Pkt) (r : RmaExt) : State :=
  let e := s.addRule n r.addr r.opnd0
  if e ≠ stOk then s.refuseAs n h.psn e
  else ((s.chEffect (yChamber r.addr) (.add (BitVec.ofNat 32 r.opnd0.toNat))).rule n h.psn stOk).tagged n h

/-- FLUSH: earlier requests have taken effect, as they do in order; in durable mode the answer waits for the journal (R288). -/
def State.takeFlush (s : State) (n : Nat) (h : Pkt) (durable : Bool) : State :=
  let c := s.conn n
  let st := c.rxFailed
  let s1 := s.setConn n { c with rxFailed := 0 }
  let j := s.jout c.tenant
  let s2 :=
    if !durable then s1.respond n 9 h.psn st 0 []
    else if s.twin.pair ≠ 2 then s1.respond n 9 h.psn stNoTwin 0 []
    else if j.next ≤ j.durable + 1 then s1.respond n 9 h.psn st 0 []
    else s1.setConn n { s1.conn n with flushes := (s1.conn n).flushes ++ [(h.psn, j.next - 1, st)] }
  s2.tagged n h

/-! ### The requester (R283, R284, R287, R288) -/

/-- The started request a response names. -/
def Conn.answered (c : Conn) (rpsn op : Nat) : Option LiveWR := c.liveWr.find? (fun l => decide (l.psn = rpsn) && decide (l.wr.op = op))

/-- READ_RESP: data placed in order; the last byte completes the read. A core's data is kept until then. -/
def State.takeReadResp (s : State) (n : Nat) (r : RespExt) (data : List Byte) : State :=
  let c := s.conn n
  match c.answered r.rpsn 1 with
  | none => s
  | some l =>
    if r.status ≠ stOk then s.liveDone n l.id r.status 0 []
    else
      let d := data.take (l.wr.len - l.got)
      let s1 := if l.wr.core.isSome then s else s.setDram (memWriteL s.dram (l.wr.laddr + l.got) d)
      let l1 : LiveWR := { l with got := l.got + d.length, wr := if l.wr.core.isSome then { l.wr with bytes := l.wr.bytes ++ d } else l.wr }
      let s2 := s1.setConn n { s1.conn n with liveWr := (s1.conn n).liveWr.map (fun x => if x.id = l.id then l1 else x) }
      if l1.got < l.wr.len then s2 else s2.liveDone n l.id stOk (BitVec.ofNat 64 l.wr.len) l1.wr.bytes

/-- ATOMIC_RESP, for either atomic. -/
def State.takeAtomicResp (s : State) (n : Nat) (r : RespExt) : State :=
  let c := s.conn n
  match (c.answered r.rpsn 4).orElse (fun _ => c.answered r.rpsn 5) with
  | none => s
  | some l => s.liveDone n l.id r.status r.result []

/-- FLUSH_RESP: failures up to this FLUSH have been reported. -/
def State.takeFlushResp (s : State) (n : Nat) (r : RespExt) : State :=
  let c := s.conn n
  match c.answered r.rpsn 8 with
  | none => s
  | some l =>
    let st := c.flushStatus l.id r.status
    (s.setConn n { c with failed := c.failed.filter (fun f => decide (l.id < f.1)) }).liveDone n l.id st 0 []

/-- A packet in order taking effect. -/
def State.deliver (s : State) (n : Nat) (i : Instr) : State :=
  match i with
  | .readReq h r => s.takeRead n h r
  | .write h r d => s.takeWrite n h r d
  | .atomicAdd h r => s.takeAtomic n h r false
  | .cas h r => s.takeAtomic n h r true
  | .fabricChAdd h r => s.takeChAdd n h r
  | .flush h _ durable => s.takeFlush n h durable
  | .enable h _ tag => (s.enableTag n tag.toNat).rule n h.psn stOk
  | .readResp _ r d => s.takeReadResp n r d
  | .atomicResp _ r => s.takeAtomicResp n r
  | .flushResp _ r => s.takeFlushResp n r
  | _ => s

/-! ### Order (R286, R289) -/

/-- A request to a chamber that an open hold locks waits until the hold ends, and those behind it with it (R100, R286). -/
def State.stalled (s : State) (i : Instr) : Bool :=
  let on (a : W64) : Bool := decide (ySpace a = 3) && decide (yPkg a = selfPkg) && (s.lockOwner (yChamber a)).isSome
  match i with
  | .readReq _ r => on r.addr
  | .atomicAdd _ r => on r.addr
  | .cas _ r => on r.addr
  | .fabricChAdd _ r => on r.addr
  | _ => false

/-- A first packet of a WRITE with NOTIFY meets a full receive queue (R293). -/
def State.noRoom (s : State) (n : Nat) (i : Instr) : Bool :=
  match i with
  | .write h r _ => h.first && r.notify && (s.conn n).rqFull
  | _ => false

/-- Arrivals that are next in order taken, until a gap or a stall; one without room is refused with TARGET_BUSY and forgotten. -/
def State.drainIn (s : State) (n : Nat) : Nat → State
  | 0 => s
  | k + 1 =>
    let c := s.conn n
    match alGet c.reorder c.rxPsn with
    | none => s
    | some i =>
      if s.stalled i then s
      else if s.noRoom n i then (s.setConn n { c with reorder := alDel c.reorder c.rxPsn }).sendNak n stTargetBusy c.rxPsn
      else ((s.setConn n { c with reorder := alDel c.reorder c.rxPsn, rxPsn := (c.rxPsn + 1) % 2 ^ 32 }).deliver n i).drainIn n k

/-- The acknowledgement an arrival asks for: at once, after 16 packets, or when its timer ends. -/
def State.ackAfter (s : State) (n : Nat) (now : Bool) : State :=
  let c := s.conn n
  if now || decide (16 ≤ c.ackCount + 1) then s.sendAckPkt n
  else s.setConn n { c with ackCount := c.ackCount + 1, ackDue := some (c.ackDue.getD (s.now + 2147)) }

/-- One-way delay of a packet, saturating in 32 bits. -/
def State.delayOf (s : State) (h : Pkt) : Nat := min (2 ^ 32 - 1) (s.now - h.txtime)

/-- A packet with a sequence number: a duplicate is acknowledged and discarded; a new one is taken, or waits for the gap. -/
def State.sequenced (s : State) (n : Nat) (h : Pkt) (i : Instr) : State :=
  let c := s.conn n
  let d := psnAhead c.rxPsn h.psn
  if 2 ^ 31 ≤ d ∨ (alGet c.reorder h.psn).isSome then (s.drainIn n (c.reorder.length + 1)).sendAckPkt n
  else if 4096 ≤ d then s
  else if vcOf i = 0 ∧ requestPool < s.poolFill + (payloadOf i).length then s.sendNak n stTargetBusy h.psn
  else if d = 0 ∧ s.noRoom n i then s.sendNak n stTargetBusy h.psn
  else
    let s1 := s.setConn n { c with reorder := alPut c.reorder h.psn i, owd := s.delayOf h, ece := c.ece || h.marked }
    (s1.drainIn n (c.reorder.length + 1)).ackAfter n h.ackReq

/-! ### Acknowledgements (R287, R289, R302) -/

/-- An ACK: packets freed; TARGET_BUSY puts the message off for 16 µs; any other status rules on the message of SPSN, an OK one
only when that message has been received. -/
def State.takeAck (s : State) (n : Nat) (h : Pkt) (a : AckExt) : State :=
  let s1 := s.ackIn n h.apsn a.sack a.owd h.ece
  if a.status = stTargetBusy then
    let c := s1.conn n
    let first := match c.busy with
      | some (p, t, _) => if p = a.spsn then t else s1.now
      | none => s1.now
    s1.setConn n { c with busy := some (a.spsn, first, s1.now + ticksUs 16) }
  else if a.status = stOk ∧ !psnBefore a.spsn h.apsn then s1
  else s1.ruled n a.spsn a.status

/-! ### The port's checks (R297, R313 to R315) -/

/-- Steps 1 to 3: the frame, its layers, the header. None where the packet goes on. -/
def State.headerBad (s : State) (h : Pkt) (i : Instr) : Option State :=
  if 4352 < h.frameLen then some (s.bump (rEng rPrtEngStat h.engine) 48 16 1)
  else if !h.macsecOk then some (if s.fld rPrtCtl 0 1 = 1 then s.bump (rEng rPrtEngMacsec h.engine) 0 32 1 else s)
  else if !h.encapOk ∨ h.ver ≠ 1 ∨ h.vc ≠ vcOf i ∨ 4096 < h.len ∨ h.len ≠ (payloadOf i).length then some s
  else none

/-- A packet of a tenant whose key slot is not ACTIVE: counted, and answered with TENANT_RETIRED unless it is control traffic (log). -/
def State.retiredPkt (s : State) (n : Nat) (h : Pkt) (i : Instr) : State :=
  let s1 := s.bump rTrnErr 16 16 1
  let s2 : State := match s1.sec.removal with
    | some r => if r.tenant = (s.conn n).tenant then { s1 with sec := { s1.sec with removal := some { r with dropped := r.dropped + 1 } } } else s1
    | none => s1
  if vcOf i = 3 then s2 else s2.sendNak n stTenantRetired h.psn

/-- The meter's treatment of a request packet of a TENANT connection: the state, and whether the packet goes on. -/
def State.metered (s : State) (n : Nat) (h : Pkt) : State × Bool :=
  let t := (s.conn n).tenant
  let r := s.meterPacket t h.frameLen
  let m := r.1.meter t
  match r.2 with
  | .green => (r.1.setMeter t { m with green := satAdd 32 m.green 1 }, true)
  | .yellow =>
    if s.fld rTrfCtl 24 8 * requestPool ≤ 100 * s.poolFill then (r.1.setMeter t { m with red := satAdd 16 m.red 1 }, false)
    else
      let s1 := r.1.setMeter t { m with yellow := satAdd 16 m.yellow 1 }
      (s1.setConn n { s1.conn n with ece := true }, true)
  | .red => (r.1.setMeter t { m with red := satAdd 16 m.red 1 }, false)

/-- Steps 4 to 8, for a packet whose connection's context is live. -/
def State.livePkt (s0 : State) (n : Nat) (h : Pkt) (i : Instr) : State :=
  let c := s0.conn n
  if c.kind = 0 ∧ !s0.active c.tenant then s0.retiredPkt n h i
  else if !h.tagOk then s0.bump rTrnErr 0 16 1
  else
    let s := s0.touch n
    let m := if c.kind = 0 ∧ vcOf i = 0 then s.metered n h else (s, true)
    if !m.2 then m.1
    else match i with
      | .ack _ a => (m.1.takeAck n h a).renew n
      | _ =>
        let s1 := (m.1.takeAcks n h.apsn 0).1
        (((s1.flushTx n).settleWrites n).sequenced n h i).renew n

/-- A packet's arrival; one for a connection whose context is not cached waits while it is loaded (R291). -/
def State.packetIn (s : State) (i : Instr) : State :=
  match pktOf i with
  | none => s
  | some h =>
    match s.headerBad h i with
    | some t => t
    | none =>
      let n := h.dconn
      let c := s.conn n
      if c.st ≠ .established ∨ !s.hears c.peerPkg ∨ s.boot.inReset then s
      else if c.live then s.livePkt n h i
      else { s with net := { s.net with waiting := s.net.waiting ++ [(n, i)] } : State }.touch n

/-! ### The commands: one packet each -/

def execReadReq (h : Pkt) (r : RmaExt) (s : State) : Host.Outcome State Fault Refusal := .next (s.packetIn (.readReq h r))
def execReadResp (h : Pkt) (r : RespExt) (data : List Byte) (s : State) : Host.Outcome State Fault Refusal := .next (s.packetIn (.readResp h r data))
def execWrite (h : Pkt) (r : RmaExt) (data : List Byte) (s : State) : Host.Outcome State Fault Refusal := .next (s.packetIn (.write h r data))
def execAtomicAdd (h : Pkt) (r : RmaExt) (s : State) : Host.Outcome State Fault Refusal := .next (s.packetIn (.atomicAdd h r))
def execCas (h : Pkt) (r : RmaExt) (s : State) : Host.Outcome State Fault Refusal := .next (s.packetIn (.cas h r))
def execAtomicResp (h : Pkt) (r : RespExt) (s : State) : Host.Outcome State Fault Refusal := .next (s.packetIn (.atomicResp h r))
def execFabricChAdd (h : Pkt) (r : RmaExt) (s : State) : Host.Outcome State Fault Refusal := .next (s.packetIn (.fabricChAdd h r))
def execFlush (h : Pkt) (r : RmaExt) (durable : Bool) (s : State) : Host.Outcome State Fault Refusal := .next (s.packetIn (.flush h r durable))
def execFlushResp (h : Pkt) (r : RespExt) (s : State) : Host.Outcome State Fault Refusal := .next (s.packetIn (.flushResp h r))
def execEnable (h : Pkt) (r : RmaExt) (tag : BitVec 32) (s : State) : Host.Outcome State Fault Refusal := .next (s.packetIn (.enable h r tag))
def execAck (h : Pkt) (a : AckExt) (s : State) : Host.Outcome State Fault Refusal := .next (s.packetIn (.ack h a))

/-- `CONTEXT_LOAD_DONE` (R291): the context takes a place, and what waited for it goes on; while no place can be freed it waits. -/
def execContextLoadDone (conn : BitVec 24) (s : State) : Host.Outcome State Fault Refusal :=
  let n := conn.toNat
  let c := s.conn n
  if c.st = .closed || c.live || !c.loading then .next s
  else
    let s1 := s.makeLive n
    if !(s1.conn n).live then .next s1
    else
      let ps := (s1.net.waiting.filter (fun w => decide (w.1 = n))).map (·.2)
      let s2 : State := { s1 with net := { s1.net with waiting := s1.net.waiting.filter (fun w => decide (w.1 ≠ n)) } }
      .next (ps.foldl State.packetIn s2)

/-- Arrivals that waited for a hold's end go on. -/
def State.resumeAll (s : State) : State :=
  s.net.conns.foldl (fun (s : State) (x : Nat × Conn) =>
    if (alGet x.2.reorder x.2.rxPsn).isSome then s.drainIn x.1 (x.2.reorder.length + 1) else s) s

/-- What passes while no command waits: one cycle of the timebase (R245), in which arrivals held up by a hold go on; nothing in
reset. -/
def State.tick (s : State) : State := if s.boot.inReset then s else s.cycle.resumeAll

/-! ### Starting work requests (R27, R282, R287, R292, R294, R295) -/

/-- Outstanding requests that hold a response place. -/
def State.places (s : State) : Nat :=
  (s.net.conns.map (fun c => (c.2.liveWr.filter (fun l => decide (l.wr.op ≠ 3) && decide (l.wr.op ≠ 7) && decide (l.wr.op ≠ 10))).length)).sum

/-- Why a work request is refused before it starts. -/
def State.wrRefuse (s : State) (n : Nat) (w : WR) : Nat :=
  let c := s.conn n
  let rw := decide (w.op = 1) || decide (w.op = 3)
  let at_ := decide (w.op = 4) || decide (w.op = 5)
  if !rw && !at_ && decide (w.op ≠ 7) && decide (w.op ≠ 8) && decide (w.op ≠ 10) then stInvalidField
  else if w.notify ∧ (w.en ∨ w.op ≠ 3) then stInvalidField
  else if (rw && (decide (w.len = 0) || decide (2 ^ 24 < w.len))) || (at_ && decide (w.len ≠ 8)) || (!rw && !at_ && decide (w.len ≠ 0)) then
    stInvalidField
  else if (rw || at_ || decide (w.op = 7)) && !yNamed w.raddr then stInvalidField
  else if rw && w.core.isNone && !s.inHost c.basin w.laddr w.len && !s.inMoor c.basin w.laddr w.len then stAccessDenied
  else stOk

/-- The bytes a WRITE sends. -/
def State.wrBytes (s : State) (w : WR) : List Byte := if w.core.isSome then w.bytes else memReadN s.dram w.laddr w.len

/-- A request whose address names this part, served inside it under the rules a target keeps (R27, R283). -/
def State.serveSelf (s : State) (n id : Nat) (w : WR) : State :=
  let fail (e : Nat) : State := s.wrDone n id w e 0 []
  if w.op = 1 ∨ w.op = 3 then
    let e := s.rwRule n w.op w.raddr w.mkey w.mgen w.len false
    if e ≠ stOk then fail e
    else if w.op = 3 then (s.yWrite w.raddr (s.wrBytes w)).wrDone n id w stOk (BitVec.ofNat 64 w.len) []
    else
      let x := s.yRead w.raddr w.len
      let s1 := if w.core.isSome then x.1 else x.1.setDram (memWriteL x.1.dram w.laddr x.2)
      s1.wrDone n id w stOk (BitVec.ofNat 64 w.len) x.2
  else if w.op = 7 then
    let e := s.addRule n w.raddr w.opnd0
    if e ≠ stOk then fail e else (s.chRemote (yChamber w.raddr) (.add (BitVec.ofNat 32 w.opnd0.toNat))).wrDone n id w stOk 0 []
  else
    let isCas := decide (w.op = 5)
    let e := s.atRule n w.raddr w.mkey w.mgen (w.opnd0.toNat / 2 ^ 32 + (if isCas then w.opnd1.toNat / 2 ^ 32 else 0))
    if e ≠ stOk then fail e
    else
      let x := s.yAtomic w.raddr w.opnd0 (if isCas then some w.opnd1 else none)
      x.1.wrDone n id w stOk x.2 []

/-- A request sent to the peer: its packets are numbered and go out as the window admits. -/
def State.sendWr (s : State) (n id : Nat) (w : WR) : State :=
  let c := s.conn n
  let s1 := s.setConn n { c with liveWr := c.liveWr ++ [{ id := id, wr := w, psn := c.txPsn }] }
  (s1.queueMsg n { op := w.op, vc := 0, addr := w.raddr, mkey := w.mkey, mgen := w.mgen, opnd0 := w.opnd0, opnd1 := w.opnd1, msgLen := w.len,
                   notify := w.notify, durable := w.durable, en := w.en, tag := w.tag,
                   data := if w.op = 3 then s.wrBytes w else [], wr := some id }).settleWrites n

/-- A wait that `WR_START` finds at the head: refused, over, or registered in the pool (R263, R294). -/
def State.wrWait (s : State) (n : Nat) (w : WR) : State :=
  let c := s.conn n
  match s.chRefuse c.basin w.wch with
  | some e => s.failFirst n e
  | none =>
    let k := s.chamber w.wch
    let v := BitVec.ofNat 32 w.wcount
    if reached k.counter v then s.wake (.wr n) true
    else if c.waitUntil.isSome then s
    else if 65536 ≤ s.poolWaiters then (s.setFld rChStat 33 1 1).failFirst n stChWaitersFull
    else (s.setChamber w.wch { k with waiters := k.waiters ++ [{ src := .wr n, v := v, until_ := s.chDeadline }] }).setConn n
      { c with waitUntil := some s.chDeadline }

/-- The head of a send queue, once it is free to start. -/
def State.wrGo (s : State) (n : Nat) (w : WR) : State :=
  let e := s.wrRefuse n w
  if e ≠ stOk then s.failFirst n e
  else if decide (w.op ≠ 3) && decide (w.op ≠ 7) && decide (w.op ≠ 10) && decide (65536 ≤ s.places) then s
  else match s.popWr n with
    | none => s
    | some (id, w, t) =>
      if w.op ≠ 8 ∧ w.op ≠ 10 ∧ yPkg w.raddr = selfPkg then t.serveSelf n id w else (t.sendWr n id w).renew n

/-- Whether a connection may start requests: established, its tenant not fenced by a removal (R380), not put off by TARGET_BUSY. -/
def State.mayStart (s : State) (c : Conn) : Bool :=
  decide (c.st = .established) && c.busy.isNone && !s.expelled && s.hears c.peerPkg && (decide (c.kind ≠ 0) || s.active c.tenant) &&
    (match s.sec.removal with
     | some r => decide (c.kind ≠ 0) || decide (r.tenant ≠ c.tenant) || decide (r.step < 2)
     | none => true)

/-- `WR_START`: a DISABLED request waits for its tag, held in the latch or to come; then a chamber wait must have ended; then the
request starts. Requests of a connection that is down complete CONN_DOWN (R305). -/
def execWrStart (conn : BitVec 24) (s : State) : Host.Outcome State Fault Refusal :=
  let n := conn.toNat
  let c := s.conn n
  match c.queue with
  | [] => .next s
  | w :: ws =>
    if c.down then .next (s.failFirst n stConnDown)
    else if !s.mayStart c then .next s
    else if !c.live then .next (s.touch n)
    else if w.disabled then
      if c.latch.contains w.tag then
        .next (s.setConn n { c with latch := c.latch.erase w.tag, queue := { w with disabled := false } :: ws })
      else .next s
    else if w.chWait then .next (s.wrWait n w)
    else .next (s.wrGo n w)

end Sys2Proof.Machine
end

