-- ==== Sys2Proof/Machine/Towpath.lean ====
section
/-! DEFINITION. The towpath target: common command codes, command frames, in-band interrupts, sensors (R437 to R442). -/

namespace Sys2Proof.Machine

/-! ### Common command codes (R437) -/

def State.setTow (s : State) (t : Towpath) : State := { s with towpath := t }

/-- Whether the target takes I3C commands: not in reset (R438), not with I2C_ONLY set (R444). -/
def State.i3cOn (s : State) : Bool := !s.boot.inReset && decide (s.fld rTwpCtl 0 1 = 0)

/-- The static address. -/
def State.staticAddr (s : State) : Nat := 0x60 + s.aon.straps.toNat / 8

/-- A command code taken: the transfer was I3C. One addressed to the target needs a dynamic address. -/
def ccc (direct : Bool) (f : State → State) (s : State) : State :=
  if !s.i3cOn || (direct && decide (s.towpath.dyn = 0)) then s else f (s.setTow { s.towpath with i3c := true })

/-- A dynamic address taken. -/
def State.setDyn (s : State) (a : Nat) : State := (s.setTow { s.towpath with dyn := a }).ibiFlush

/-- Provisional ID: [47:33] 0x0A5F, [31:16] 0x4096, [15:12] TWP_ADDR; sent highest byte first (PRESUMED, log). -/
def State.provisionalId (s : State) : List Byte :=
  (leBytes 6 (0x0A5F * 2 ^ 33 + 0x4096 * 2 ^ 16 + s.aon.straps.toNat / 8 * 2 ^ 12)).reverse
def twpBcr : Byte := 0x06
def twpDcr : Byte := 0x00

/-- `ENTDAA`: a target without a dynamic address shows its identity and takes the address given. -/
def execEntdaa (addr : BitVec 7) (s : State) : Host.Outcome State Fault Refusal :=
  .next (if s.towpath.dyn ≠ 0 then s
    else ccc false (fun s => (s.send (.i3c (s.provisionalId ++ [twpBcr, twpDcr]))).setDyn addr.toNat) s)

/-- `SETDASA`. -/
def execSetdasa (s : State) : Host.Outcome State Fault Refusal :=
  .next (if s.towpath.dyn ≠ 0 then s else ccc false (fun s => s.setDyn s.staticAddr) s)

/-- `SETNEWDA`. -/
def execSetnewda (addr : BitVec 7) (s : State) : Host.Outcome State Fault Refusal := .next (ccc true (fun s => s.setDyn addr.toNat) s)

/-- `RSTDAA`. -/
def execRstdaa (s : State) : Host.Outcome State Fault Refusal := .next (ccc false (fun s => s.setTow { s.towpath with dyn := 0 }) s)

/-- `ENEC`. -/
def execEnec (s : State) : Host.Outcome State Fault Refusal := .next (ccc false (fun s => (s.setTow { s.towpath with ibi := true }).ibiFlush) s)

/-- `DISEC`. -/
def execDisec (s : State) : Host.Outcome State Fault Refusal := .next (ccc false (fun s => s.setTow { s.towpath with ibi := false }) s)

def execGetpid (s : State) : Host.Outcome State Fault Refusal := .next (ccc true (fun s => s.send (.i3c s.provisionalId)) s)
def execGetbcr (s : State) : Host.Outcome State Fault Refusal := .next (ccc true (fun s => s.send (.i3c [twpBcr])) s)
def execGetdcr (s : State) : Host.Outcome State Fault Refusal := .next (ccc true (fun s => s.send (.i3c [twpDcr])) s)

/-- `GETSTATUS`: two bytes the spec does not give. -/
def execGetstatus (s : State) : Host.Outcome State Fault Refusal := .next (ccc true (fun s => s.drawn.send (.i3c (leBytes 2 (s.free.toNat % 2 ^ 16)))) s)

/-- `GETMWL`, `GETMRL`: the lengths, high byte first (PRESUMED, log). -/
def execGetmwl (s : State) : Host.Outcome State Fault Refusal := .next (ccc true (fun s => s.send (.i3c (leBytes 2 s.towpath.mwl).reverse)) s)
def execGetmrl (s : State) : Host.Outcome State Fault Refusal := .next (ccc true (fun s => s.send (.i3c (leBytes 2 s.towpath.mrl).reverse)) s)

/-- `SETMWL`, `SETMRL`: at most 256 B. -/
def execSetmwl (len : BitVec 16) (s : State) : Host.Outcome State Fault Refusal :=
  .next (ccc false (fun s => s.setTow { s.towpath with mwl := min 256 len.toNat }) s)
def execSetmrl (len : BitVec 16) (s : State) : Host.Outcome State Fault Refusal :=
  .next (ccc false (fun s => s.setTow { s.towpath with mrl := min 256 len.toNat }) s)

/-! ### Command frames (R439) -/

/-- The SMBus CRC-8 of a byte string from a value: polynomial x^8 + x^2 + x + 1. -/
def crc8bits : Nat → Nat → Nat
  | 0, c => c
  | n + 1, c => crc8bits n (if c < 128 then 2 * c else (2 * c % 256) ^^^ 0x07)
def crc8 (c : Nat) (b : List Byte) : Nat := b.foldl (fun c x => crc8bits 8 (c ^^^ x.toNat)) c

/-- The bytes of a frame as written, PEC apart. -/
def twpBytes (f : TwpFrame) : List Byte := [f.addrW, f.cmd] ++ leBytes 3 f.addr.toNat ++ [f.len] ++ f.data

/-- Whether the frame is addressed to the target: by I²C to its static address, by I3C to its dynamic address. -/
def State.addressed (s : State) (f : TwpFrame) : Bool :=
  !s.boot.inReset && (if f.i3c then decide (s.fld rTwpCtl 0 1 = 0) && decide (s.towpath.dyn ≠ 0) && decide (f.addrW.toNat = 2 * s.towpath.dyn)
    else decide (f.addrW.toNat = 2 * s.staticAddr))

/-- A frame that reached the target: the path it came by, and its PEC, a wrong one counted. -/
def State.frameIn (s : State) (f : TwpFrame) : State × Bool :=
  let s1 := s.setTow { s.towpath with i3c := f.i3c }
  if crc8 0 (twpBytes f) = f.pec.toNat then (s1, true) else (s1.setTow { s1.towpath with pecErr := satAdd 8 s1.towpath.pecErr 1 }, false)

/-- What a read frame answers: STATUS, data, PEC over the whole transfer, the PEC of its first part and the second address byte
included (log). -/
def State.frameOut (s : State) (f : TwpFrame) (status : Nat) (data : List Byte) : State :=
  let body := [BitVec.ofNat 8 status] ++ data
  let pec := crc8 0 ((twpBytes f) ++ [f.pec, f.addrW ||| 1] ++ body)
  s.send (.i3c (body ++ [BitVec.ofNat 8 pec]))

/-- Bytes the spec does not give. -/
def freeBytes (k n : Nat) : List Byte := (List.range n).map (fun i => BitVec.ofNat 8 (Config.freeValue (k + i)).toNat)
def State.frameFail (s : State) (f : TwpFrame) (status : Nat) : State :=
  { s with fresh := s.fresh + f.len.toNat }.frameOut f status (freeBytes s.fresh f.len.toNat)

/-- Words a register frame names, when its address and length keep the rule. -/
def twpWords (f : TwpFrame) : Option (List Nat) :=
  let n := f.len.toNat
  let a := f.addr.toNat
  if a % 8 = 0 ∧ n % 8 = 0 ∧ 1 ≤ n ∧ n ≤ 240 then some ((List.range (n / 8)).map (fun i => a + 8 * i)) else none

/-- `REG_READ`: words with their side effects. -/
def execRegRead (f : TwpFrame) (s : State) : Host.Outcome State Fault Refusal :=
  if !s.addressed f then .next s
  else
    let r := s.frameIn f
    if !r.2 then .next (r.1.frameFail f 1)
    else match twpWords f with
      | none => .next (r.1.frameFail f 2)
      | some ws =>
        if !ws.all towReads then .next (r.1.frameFail f 2)
        else
          let x := ws.foldl (fun (a : State × List Byte) off =>
            let v := a.1.readVia .towpath off
            (v.1, a.2 ++ leBytes 8 v.2.toNat)) (r.1, [])
          .next (x.1.frameOut f 0 x.2)

/-- The STATUS a write frame ends with, kept for STATUS. -/
def State.writeStatus (s : State) (n : Nat) : State := s.setTow { s.towpath with status := n }

/-- `REG_WRITE`. -/
def execRegWrite (f : TwpFrame) (s : State) : Host.Outcome State Fault Refusal :=
  if !s.addressed f then .next s
  else
    let r := s.frameIn f
    if !r.2 then .next (r.1.writeStatus 1)
    else match twpWords f with
      | none => .next (r.1.writeStatus 2)
      | some ws =>
        if !ws.all towWrites || decide (f.data.length ≠ f.len.toNat) then .next (r.1.writeStatus 2)
        else
          let x := ws.zipIdx.foldl (fun (s : State) (w : Nat × Nat) =>
            s.writeVia .towpath w.1 (BitVec.ofNat 64 (leNat (bytesAt f.data (8 * w.2) 8)))) r.1
          .next (x.writeStatus 0)

/-- `IMG_WRITE`: bytes of the image, while the sequencer waits for one. Whether the last chunk is placed within its 375 µs is free. -/
def execImgWrite (f : TwpFrame) (s : State) : Host.Outcome State Fault Refusal :=
  if !s.addressed f then .next s
  else
    let r := s.frameIn f
    let n := f.len.toNat
    if !r.2 then .next (r.1.writeStatus 1)
    else if n = 0 ∨ 240 < n ∨ f.data.length ≠ n ∨ 0x800000 < f.addr.toNat + n then .next (r.1.writeStatus 2)
    else if s.bootStage ≠ 1 then .next (r.1.writeStatus 3)
    else if !s.passed s.towpath.placeUntil ∧ s.free.getLsbD 0 then .next (r.1.drawn.writeStatus 4)
    else
      let t := (if s.passed s.towpath.placeUntil then r.1 else r.1.drawn)
      let u := t.setDram (memWriteL t.dram (imageAt + f.addr.toNat) f.data)
      .next ((u.setTow { u.towpath with placeUntil := s.now + ticksUs 375 }).writeStatus 0)

/-- `STATUS`: the STATUS of the last write frame in its STATUS byte; data bytes asked for are free (log). -/
def execStatusRead (f : TwpFrame) (s : State) : Host.Outcome State Fault Refusal :=
  if !s.addressed f then .next s
  else
    let r := s.frameIn f
    .next (r.1.frameFail f (if !r.2 then 1 else if f.addr.toNat ≠ 0 then 2 else s.towpath.status))

/-! ### Sensors (R441, R442, R386) -/

/-- One sensor updated; temperatures are signed, in 1/8 °C: the alarm is raised at 105 °C and cleared below 100 °C. -/
def State.sensor (s : State) (i v : Nat) : State :=
  let old := ((alGet s.towpath.sensors i).map (·.2)).getD false
  let t := sext 16 v
  let alarm := decide (i ≤ 16) && (decide (840 ≤ t) || (old && decide (800 ≤ t)))
  let s1 := s.setTow { s.towpath with sensors := alPut s.towpath.sensors i (v, alarm) }
  if alarm && !old then s1.ibi 0x03 else s1

/-- A supply in range: 10.8 to 13.2 V. -/
def vinOk (mv : Nat) : Bool := decide (10800 ≤ mv) && decide (mv ≤ 13200)

/-- `SENSOR_UPDATE`: sensors 0 to 19 as measured, sensor 20 from the pace monitor; the supplies are what sensors 17 and 18 show. -/
def execSensorUpdate (vals : List (BitVec 16)) (s : State) : Host.Outcome State Fault Refusal :=
  if s.boot.inReset ∨ vals.length < 20 then .next s
  else
    let s1 := (List.range 20).foldl (fun (s : State) i => s.sensor i (nthD 0 vals i).toNat) s
    let s2 := s1.sensor 20 (s.fld rHubPaceStat 0 16)
    .next (State.toBackup { s2 with aon := { s2.aon with mainOk := vinOk (nthD 0 vals 17).toNat, bkpOk := vinOk (nthD 0 vals 18).toNat } })

end Sys2Proof.Machine
end

