-- ==== Sys2Proof/Machine/Dispatch.lean ====
section
/-! DEFINITION. One arm per command: a direct call of its meaning. -/

namespace Sys2Proof.Machine

open Sys2Proof

def exec (i : Instr) (s : State) : Host.Outcome State Fault Refusal :=
  match i with
  | .registerWrite path off val => Sys2Proof.Machine.execRegisterWrite path off val s
  | .paceWindowEnd counts => Sys2Proof.Machine.execPaceWindowEnd counts s
  | .sweep basin ring => Sys2Proof.Machine.execSweep basin ring s
  | .mergeSlotReserve gsid => Sys2Proof.Machine.execMergeSlotReserve gsid s
  | .arm m => Sys2Proof.Machine.execArm m s
  | .armAck m => Sys2Proof.Machine.execArmAck m s
  | .staleMap gsid seq member ref => Sys2Proof.Machine.execStaleMap gsid seq member ref s
  | .sluiceRelease which => Sys2Proof.Machine.execSluiceRelease which s
  | .graceExpiry gsid seq twin => Sys2Proof.Machine.execGraceExpiry gsid seq twin s
  | .memberCutoff gsid seq twin => Sys2Proof.Machine.execMemberCutoff gsid seq twin s
  | .memberRecordsSend gsid seq twin => Sys2Proof.Machine.execMemberRecordsSend gsid seq twin s
  | .regionPartialMerge gsid seq twin region group => Sys2Proof.Machine.execRegionPartialMerge gsid seq twin region group s
  | .backupPoint gsid seq => Sys2Proof.Machine.execBackupPoint gsid seq s
  | .backup m => Sys2Proof.Machine.execBackup m s
  | .cancelMsg gsid seq => Sys2Proof.Machine.execCancelMsg gsid seq s
  | .part m => Sys2Proof.Machine.execPart m s
  | .mergeDeadline gsid seq => Sys2Proof.Machine.execMergeDeadline gsid seq s
  | .mergeLostTimeout gsid => Sys2Proof.Machine.execMergeLostTimeout gsid s
  | .runStart core gsid seq twin group kind => Sys2Proof.Machine.execRunStart core gsid seq twin group kind s
  | .runOverdue core => Sys2Proof.Machine.execRunOverdue core s
  | .br core => Sys2Proof.Machine.execBr core s
  | .brR core => Sys2Proof.Machine.execBrR core s
  | .loopI core => Sys2Proof.Machine.execLoopI core s
  | .call core => Sys2Proof.Machine.execCall core s
  | .ret core => Sys2Proof.Machine.execRet core s
  | .halt core => Sys2Proof.Machine.execHalt core s
  | .nop core => Sys2Proof.Machine.execNop core s
  | .add core => Sys2Proof.Machine.execAdd core s
  | .addI core => Sys2Proof.Machine.execAddI core s
  | .sub core => Sys2Proof.Machine.execSub core s
  | .subI core => Sys2Proof.Machine.execSubI core s
  | .andR core => Sys2Proof.Machine.execAndR core s
  | .andI core => Sys2Proof.Machine.execAndI core s
  | .orR core => Sys2Proof.Machine.execOrR core s
  | .orI core => Sys2Proof.Machine.execOrI core s
  | .xorR core => Sys2Proof.Machine.execXorR core s
  | .xorI core => Sys2Proof.Machine.execXorI core s
  | .shl core => Sys2Proof.Machine.execShl core s
  | .shlI core => Sys2Proof.Machine.execShlI core s
  | .shr core => Sys2Proof.Machine.execShr core s
  | .shrI core => Sys2Proof.Machine.execShrI core s
  | .sra core => Sys2Proof.Machine.execSra core s
  | .sraI core => Sys2Proof.Machine.execSraI core s
  | .mul core => Sys2Proof.Machine.execMul core s
  | .mulI core => Sys2Proof.Machine.execMulI core s
  | .mov core => Sys2Proof.Machine.execMov core s
  | .movh core => Sys2Proof.Machine.execMovh core s
  | .cmpEq core => Sys2Proof.Machine.execCmpEq core s
  | .cmpEqI core => Sys2Proof.Machine.execCmpEqI core s
  | .cmpNe core => Sys2Proof.Machine.execCmpNe core s
  | .cmpNeI core => Sys2Proof.Machine.execCmpNeI core s
  | .cmpLt core => Sys2Proof.Machine.execCmpLt core s
  | .cmpLtI core => Sys2Proof.Machine.execCmpLtI core s
  | .cmpLtu core => Sys2Proof.Machine.execCmpLtu core s
  | .cmpLtuI core => Sys2Proof.Machine.execCmpLtuI core s
  | .ext core => Sys2Proof.Machine.execExt core s
  | .plog core => Sys2Proof.Machine.execPlog core s
  | .ldD core memErr => Sys2Proof.Machine.execLdD core memErr s
  | .ldW core memErr => Sys2Proof.Machine.execLdW core memErr s
  | .ldH core memErr => Sys2Proof.Machine.execLdH core memErr s
  | .ldB core memErr => Sys2Proof.Machine.execLdB core memErr s
  | .stD core => Sys2Proof.Machine.execStD core s
  | .stW core => Sys2Proof.Machine.execStW core s
  | .stH core => Sys2Proof.Machine.execStH core s
  | .stB core => Sys2Proof.Machine.execStB core s
  | .vld core memErr => Sys2Proof.Machine.execVld core memErr s
  | .vst core => Sys2Proof.Machine.execVst core s
  | .tldK core => Sys2Proof.Machine.execTldK core s
  | .tldV core => Sys2Proof.Machine.execTldV core s
  | .tldMan core => Sys2Proof.Machine.execTldMan core s
  | .tldManNext core => Sys2Proof.Machine.execTldManNext core s
  | .tldManRequeue core newCore => Sys2Proof.Machine.execTldManRequeue core newCore s
  | .tstLd core memErr => Sys2Proof.Machine.execTstLd core memErr s
  | .tstSt core => Sys2Proof.Machine.execTstSt core s
  | .dotQk core => Sys2Proof.Machine.execDotQk core s
  | .accPv core => Sys2Proof.Machine.execAccPv core s
  | .scaleS core => Sys2Proof.Machine.execScaleS core s
  | .scaleO core => Sys2Proof.Machine.execScaleO core s
  | .rope core => Sys2Proof.Machine.execRope core s
  | .mskCausal core => Sys2Proof.Machine.execMskCausal core s
  | .mskWin core => Sys2Proof.Machine.execMskWin core s
  | .mskTree core => Sys2Proof.Machine.execMskTree core s
  | .smxUpd core => Sys2Proof.Machine.execSmxUpd core s
  | .smxUpdMan core => Sys2Proof.Machine.execSmxUpdMan core s
  | .smxUpdSkip core => Sys2Proof.Machine.execSmxUpdSkip core s
  | .smxExp core => Sys2Proof.Machine.execSmxExp core s
  | .abftAcc core => Sys2Proof.Machine.execAbftAcc core s
  | .abftChk core upset memErr => Sys2Proof.Machine.execAbftChk core upset memErr s
  | .mergePart core => Sys2Proof.Machine.execMergePart core s
  | .mergePartDrop core => Sys2Proof.Machine.execMergePartDrop core s
  | .mergePartR core => Sys2Proof.Machine.execMergePartR core s
  | .emitPart core => Sys2Proof.Machine.execEmitPart core s
  | .chAdd core => Sys2Proof.Machine.execChAdd core s
  | .chSet core => Sys2Proof.Machine.execChSet core s
  | .chSetThr core => Sys2Proof.Machine.execChSetThr core s
  | .chWait core => Sys2Proof.Machine.execChWait core s
  | .atGate core => Sys2Proof.Machine.execAtGate core s
  | .untilTime core => Sys2Proof.Machine.execUntilTime core s
  | .flightArm core => Sys2Proof.Machine.execFlightArm core s
  | .flightArmCancel core => Sys2Proof.Machine.execFlightArmCancel core s
  | .fxPut core => Sys2Proof.Machine.execFxPut core s
  | .fxGet core => Sys2Proof.Machine.execFxGet core s
  | .fxAdd core => Sys2Proof.Machine.execFxAdd core s
  | .fxCas core => Sys2Proof.Machine.execFxCas core s
  | .fxFlush core => Sys2Proof.Machine.execFxFlush core s
  | .sndScan core => Sys2Proof.Machine.execSndScan core s
  | .sndTop core => Sys2Proof.Machine.execSndTop core s
  | .holdBegin core => Sys2Proof.Machine.execHoldBegin core s
  | .holdEnd core => Sys2Proof.Machine.execHoldEnd core s
  | .brk core => Sys2Proof.Machine.execBrk core s
  | .chamberWaitTimeout => Sys2Proof.Machine.execChamberWaitTimeout s
  | .pageWalk core berth => Sys2Proof.Machine.execPageWalk core berth s
  | .leafReadDone k leaf => Sys2Proof.Machine.execLeafReadDone k leaf s
  | .stageComplete cluster bay ups => Sys2Proof.Machine.execStageComplete cluster bay ups s
  | .flashReadDone k payload ups => Sys2Proof.Machine.execFlashReadDone k payload ups s
  | .stagingCopyExpiry k => Sys2Proof.Machine.execStagingCopyExpiry k s
  | .baseBerthExpiry cluster bay => Sys2Proof.Machine.execBaseBerthExpiry cluster bay s
  | .localBargeStart k => Sys2Proof.Machine.execLocalBargeStart k s
  | .bargeSwitch k => Sys2Proof.Machine.execBargeSwitch k s
  | .plbInvalAcked => Sys2Proof.Machine.execPlbInvalAcked s
  | .sourceDrainFree slot => Sys2Proof.Machine.execSourceDrainFree slot s
  | .flashBlockEraseDone channel block => Sys2Proof.Machine.execFlashBlockEraseDone channel block s
  | .flashProgramFail k => Sys2Proof.Machine.execFlashProgramFail k s
  | .bargeReserve src epoch k tier => Sys2Proof.Machine.execBargeReserve src epoch k tier s
  | .bargeGrant src k status => Sys2Proof.Machine.execBargeGrant src k status s
  | .bargeData src k phase slot => Sys2Proof.Machine.execBargeData src k phase slot s
  | .bargeReady src k => Sys2Proof.Machine.execBargeReady src k s
  | .bargeCommitAfterCutoff k => Sys2Proof.Machine.execBargeCommitAfterCutoff k s
  | .bargeCommit src k => Sys2Proof.Machine.execBargeCommit src k s
  | .tombstoneExpiry k => Sys2Proof.Machine.execTombstoneExpiry k s
  | .evictionScan k => Sys2Proof.Machine.execEvictionScan k s
  | .prefetchLeadUpdate p99 => Sys2Proof.Machine.execPrefetchLeadUpdate p99 s
  | .berthWrite k => Sys2Proof.Machine.execBerthWrite k s
  | .ledgerCursorLookup cur key mask => Sys2Proof.Machine.execLedgerCursorLookup cur key mask s
  | .ledgerCursorNext cur => Sys2Proof.Machine.execLedgerCursorNext cur s
  | .ledgerCursorClose cur => Sys2Proof.Machine.execLedgerCursorClose cur s
  | .ldgRetireLogRead => Sys2Proof.Machine.execLdgRetireLogRead s
  | .homeInsertRetry => Sys2Proof.Machine.execHomeInsertRetry s
  | .dredgeVisit ups => Sys2Proof.Machine.execDredgeVisit ups s
  | .rebuildDone => Sys2Proof.Machine.execRebuildDone s
  | .homeNote src epoch k block homed gain => Sys2Proof.Machine.execHomeNote src epoch k block homed gain s
  | .homeQuery src tenant => Sys2Proof.Machine.execHomeQuery src tenant s
  | .homeReply src blocks => Sys2Proof.Machine.execHomeReply src blocks s
  | .soundingRoomGrant => Sys2Proof.Machine.execSoundingRoomGrant s
  | .engineEstimate gsid seq twin berth => Sys2Proof.Machine.execEngineEstimate gsid seq twin berth s
  | .selectionFixed gsid seq => Sys2Proof.Machine.execSelectionFixed gsid seq s
  | .graphInsert k => Sys2Proof.Machine.execGraphInsert k s
  | .strandFrame bits spacing => Sys2Proof.Machine.execStrandFrame bits spacing s
  | .strandNoSignal => Sys2Proof.Machine.execStrandNoSignal s
  | .ptpSync m => Sys2Proof.Machine.execPtpSync m s
  | .ptpFollowUp seqId origin corr => Sys2Proof.Machine.execPtpFollowUp seqId origin corr s
  | .ptpDelayResp seqId rx corr => Sys2Proof.Machine.execPtpDelayResp seqId rx corr s
  | .ptpPdelayResp seqId t2 t3 t4 => Sys2Proof.Machine.execPtpPdelayResp seqId t2 t3 t4 s
  | .ptpAnnounce m => Sys2Proof.Machine.execPtpAnnounce m s
  | .sourceLoss => Sys2Proof.Machine.execSourceLoss s
  | .holdoverExpiry => Sys2Proof.Machine.execHoldoverExpiry s
  | .tbSet val => Sys2Proof.Machine.execTbSet val s
  | .chAllocate basin blocks => Sys2Proof.Machine.execChAllocate basin blocks s
  | .chFree basin blocks base => Sys2Proof.Machine.execChFree basin blocks base s
  | .chCfgWrite val => Sys2Proof.Machine.execChCfgWrite val s
  | .portDown port => Sys2Proof.Machine.execPortDown port s
  | .portUp port => Sys2Proof.Machine.execPortUp port s
  | .portHoldExpiry port => Sys2Proof.Machine.execPortHoldExpiry port s
  | .laneRemap engine lane => Sys2Proof.Machine.execLaneRemap engine lane s
  | .prtEngCtlWrite engine val => Sys2Proof.Machine.execPrtEngCtlWrite engine val s
  | .sakRekey port => Sys2Proof.Machine.execSakRekey port s
  | .mkaFrame port ckn sak => Sys2Proof.Machine.execMkaFrame port ckn sak s
  | .lldpFrame port frame prot => Sys2Proof.Machine.execLldpFrame port frame prot s
  | .readReq h r => Sys2Proof.Machine.execReadReq h r s
  | .readResp h r data => Sys2Proof.Machine.execReadResp h r data s
  | .write h r data => Sys2Proof.Machine.execWrite h r data s
  | .atomicAdd h r => Sys2Proof.Machine.execAtomicAdd h r s
  | .cas h r => Sys2Proof.Machine.execCas h r s
  | .atomicResp h r => Sys2Proof.Machine.execAtomicResp h r s
  | .fabricChAdd h r => Sys2Proof.Machine.execFabricChAdd h r s
  | .flush h r durable => Sys2Proof.Machine.execFlush h r durable s
  | .flushResp h r => Sys2Proof.Machine.execFlushResp h r s
  | .enable h r tag => Sys2Proof.Machine.execEnable h r tag s
  | .ack h a => Sys2Proof.Machine.execAck h a s
  | .ackTimer conn => Sys2Proof.Machine.execAckTimer conn s
  | .retransmitTimeout conn => Sys2Proof.Machine.execRetransmitTimeout conn s
  | .connLossExpiry conn => Sys2Proof.Machine.execConnLossExpiry conn s
  | .targetBusyRetry conn => Sys2Proof.Machine.execTargetBusyRetry conn s
  | .connReq m => Sys2Proof.Machine.execConnReq m s
  | .connAcc m => Sys2Proof.Machine.execConnAcc m s
  | .connReqRetry conn => Sys2Proof.Machine.execConnReqRetry conn s
  | .connCloseMsg conn => Sys2Proof.Machine.execConnCloseMsg conn s
  | .contextLoadDone conn => Sys2Proof.Machine.execContextLoadDone conn s
  | .connDbSend basin conn index => Sys2Proof.Machine.execConnDbSend basin conn index s
  | .connDbRecv basin conn index => Sys2Proof.Machine.execConnDbRecv basin conn index s
  | .connDbCompletion basin conn index => Sys2Proof.Machine.execConnDbCompletion basin conn index s
  | .wrStart conn => Sys2Proof.Machine.execWrStart conn s
  | .portFrameSelect port => Sys2Proof.Machine.execPortFrameSelect port s
  | .trfCtlWrite val => Sys2Proof.Machine.execTrfCtlWrite val s
  | .trfMrateWrite val => Sys2Proof.Machine.execTrfMrateWrite val s
  | .pcieHotReset => Sys2Proof.Machine.execPcieHotReset s
  | .serviceEntry => Sys2Proof.Machine.execServiceEntry s
  | .sqTail basin ring val => Sys2Proof.Machine.execSqTail basin ring val s
  | .cqHead basin ring val => Sys2Proof.Machine.execCqHead basin ring val s
  | .evtHead basin val => Sys2Proof.Machine.execEvtHead basin val s
  | .excHead basin val => Sys2Proof.Machine.execExcHead basin val s
  | .release basin val => Sys2Proof.Machine.execRelease basin val s
  | .coalTimer basin ring => Sys2Proof.Machine.execCoalTimer basin ring s
  | .cancel basin ring => Sys2Proof.Machine.execCancel basin ring s
  | .createObject basin ring => Sys2Proof.Machine.execCreateObject basin ring s
  | .updateObject basin ring => Sys2Proof.Machine.execUpdateObject basin ring s
  | .destroyObject basin ring => Sys2Proof.Machine.execDestroyObject basin ring s
  | .append basin ring ups => Sys2Proof.Machine.execAppend basin ring ups s
  | .truncate basin ring ups => Sys2Proof.Machine.execTruncate basin ring ups s
  | .loadProgram basin ring => Sys2Proof.Machine.execLoadProgram basin ring s
  | .retiringImageFree basin entry => Sys2Proof.Machine.execRetiringImageFree basin entry s
  | .ringConfig basin ring => Sys2Proof.Machine.execRingConfig basin ring s
  | .moorReg basin ring => Sys2Proof.Machine.execMoorReg basin ring s
  | .moorRevoke basin ring => Sys2Proof.Machine.execMoorRevoke basin ring s
  | .moorDereg basin ring => Sys2Proof.Machine.execMoorDereg basin ring s
  | .flightArmDesc basin ring => Sys2Proof.Machine.execFlightArmDesc basin ring s
  | .flightCancel basin ring => Sys2Proof.Machine.execFlightCancel basin ring s
  | .connOpen basin ring => Sys2Proof.Machine.execConnOpen basin ring s
  | .connClose basin ring => Sys2Proof.Machine.execConnClose basin ring s
  | .compose src => Sys2Proof.Machine.execCompose src s
  | .clusterPass cluster => Sys2Proof.Machine.execClusterPass cluster s
  | .resize src => Sys2Proof.Machine.execResize src s
  | .decompose src => Sys2Proof.Machine.execDecompose src s
  | .basinTenant src => Sys2Proof.Machine.execBasinTenant src s
  | .mapEpoch src => Sys2Proof.Machine.execMapEpoch src s
  | .bsnEpochWrite val => Sys2Proof.Machine.execBsnEpochWrite val s
  | .bsnCmdGo val => Sys2Proof.Machine.execBsnCmdGo val s
  | .moveObject basin ring => Sys2Proof.Machine.execMoveObject basin ring s
  | .moveLedgerSwitch tenant object => Sys2Proof.Machine.execMoveLedgerSwitch tenant object s
  | .backgroundPull k => Sys2Proof.Machine.execBackgroundPull k s
  | .tenantReserve src => Sys2Proof.Machine.execTenantReserve src s
  | .tenantRemove src => Sys2Proof.Machine.execTenantRemove src s
  | .removalFence => Sys2Proof.Machine.execRemovalFence s
  | .removalCancel => Sys2Proof.Machine.execRemovalCancel s
  | .removalScrub => Sys2Proof.Machine.execRemovalScrub s
  | .removalReport => Sys2Proof.Machine.execRemovalReport s
  | .bind basin ring => Sys2Proof.Machine.execBind basin ring s
  | .unbind basin ring => Sys2Proof.Machine.execUnbind basin ring s
  | .keyExchange sess reqCert => Sys2Proof.Machine.execKeyExchange sess reqCert s
  | .finish sess mutAuth => Sys2Proof.Machine.execFinish sess mutAuth s
  | .getMeasurements index => Sys2Proof.Machine.execGetMeasurements index s
  | .getCertificate slot => Sys2Proof.Machine.execGetCertificate slot s
  | .challenge slot nonce => Sys2Proof.Machine.execChallenge slot nonce s
  | .keyUpdate sess => Sys2Proof.Machine.execKeyUpdate sess s
  | .heartbeat sess => Sys2Proof.Machine.execHeartbeat sess s
  | .endSession sess => Sys2Proof.Machine.execEndSession sess s
  | .getSlot sess tenant => Sys2Proof.Machine.execGetSlot sess tenant s
  | .keyLoad sess tenant mem conn => Sys2Proof.Machine.execKeyLoad sess tenant mem conn s
  | .keyConn sess tenant conn => Sys2Proof.Machine.execKeyConn sess tenant conn s
  | .ownerClaim sess => Sys2Proof.Machine.execOwnerClaim sess s
  | .ownerTransfer sess hash => Sys2Proof.Machine.execOwnerTransfer sess hash s
  | .sysKey sess kind peer port ckn key => Sys2Proof.Machine.execSysKey sess kind peer port ckn key s
  | .debugUnlock sess basins => Sys2Proof.Machine.execDebugUnlock sess basins s
  | .tenant0Key sess mem conn => Sys2Proof.Machine.execTenant0Key sess mem conn s
  | .lockInterface => Sys2Proof.Machine.execLockInterface s
  | .startInterface => Sys2Proof.Machine.execStartInterface s
  | .stopInterface => Sys2Proof.Machine.execStopInterface s
  | .ideKm sess stream key => Sys2Proof.Machine.execIdeKm sess stream key s
  | .ideIntegrityFail => Sys2Proof.Machine.execIdeIntegrityFail s
  | .ideKeyExpiry => Sys2Proof.Machine.execIdeKeyExpiry s
  | .powerOn straps mainOk bkpOk => Sys2Proof.Machine.execPowerOn straps mainOk bkpOk s
  | .pinReset widthNs => Sys2Proof.Machine.execPinReset widthNs s
  | .resetStretchEnd => Sys2Proof.Machine.execResetStretchEnd s
  | .aonPowerLoss => Sys2Proof.Machine.execAonPowerLoss s
  | .vinMainLoss => Sys2Proof.Machine.execVinMainLoss s
  | .vinMainStable => Sys2Proof.Machine.execVinMainStable s
  | .brownOut => Sys2Proof.Machine.execBrownOut s
  | .thermalTrip => Sys2Proof.Machine.execThermalTrip s
  | .thermalClear => Sys2Proof.Machine.execThermalClear s
  | .swrst val => Sys2Proof.Machine.execSwrst val s
  | .rstCauseRead => Sys2Proof.Machine.execRstCauseRead s
  | .forceLw val => Sys2Proof.Machine.execForceLw val s
  | .bootLoad => Sys2Proof.Machine.execBootLoad s
  | .imageVerifyDone => Sys2Proof.Machine.execImageVerifyDone s
  | .keepersRunning => Sys2Proof.Machine.execKeepersRunning s
  | .bootCountClear => Sys2Proof.Machine.execBootCountClear s
  | .attemptClear val => Sys2Proof.Machine.execAttemptClear val s
  | .diagDramTest => Sys2Proof.Machine.execDiagDramTest s
  | .diagFlashScan => Sys2Proof.Machine.execDiagFlashScan s
  | .diagOpticalLoopback => Sys2Proof.Machine.execDiagOpticalLoopback s
  | .diagDone pass detail => Sys2Proof.Machine.execDiagDone pass detail s
  | .keeperWatchdogExpiry keeper pc => Sys2Proof.Machine.execKeeperWatchdogExpiry keeper pc s
  | .updStage => Sys2Proof.Machine.execUpdStage s
  | .updateStaged => Sys2Proof.Machine.execUpdateStaged s
  | .updSwitch => Sys2Proof.Machine.execUpdSwitch s
  | .keeperSwitchNext => Sys2Proof.Machine.execKeeperSwitchNext s
  | .settingsSave force => Sys2Proof.Machine.execSettingsSave force s
  | .settingsSaveDone => Sys2Proof.Machine.execSettingsSaveDone s
  | .twnCfgWrite path val => Sys2Proof.Machine.execTwnCfgWrite path val s
  | .journalRecords tenant recs => Sys2Proof.Machine.execJournalRecords tenant recs s
  | .journalFetch k first last => Sys2Proof.Machine.execJournalFetch k first last s
  | .journalIndex tenant => Sys2Proof.Machine.execJournalIndex tenant s
  | .journalAck m => Sys2Proof.Machine.execJournalAck m s
  | .journalAckTimeout => Sys2Proof.Machine.execJournalAckTimeout s
  | .journalFlushTimer tenant => Sys2Proof.Machine.execJournalFlushTimer tenant s
  | .workingCopyIdle k => Sys2Proof.Machine.execWorkingCopyIdle k s
  | .qset cert => Sys2Proof.Machine.execQset cert s
  | .expel cert => Sys2Proof.Machine.execExpel cert s
  | .takeover cert => Sys2Proof.Machine.execTakeover cert s
  | .rejoin cert => Sys2Proof.Machine.execRejoin cert s
  | .request cert => Sys2Proof.Machine.execRequest cert s
  | .requestTimer => Sys2Proof.Machine.execRequestTimer s
  | .selfTestStart cluster => Sys2Proof.Machine.execSelfTestStart cluster s
  | .selfTestDone cluster pass => Sys2Proof.Machine.execSelfTestDone cluster pass s
  | .regionBypass region => Sys2Proof.Machine.execRegionBypass region s
  | .regionReturn region => Sys2Proof.Machine.execRegionReturn region s
  | .regionTest region failed => Sys2Proof.Machine.execRegionTest region failed s
  | .flashDrain channel => Sys2Proof.Machine.execFlashDrain channel s
  | .flashIsolate channel => Sys2Proof.Machine.execFlashIsolate channel s
  | .flashReturn channel => Sys2Proof.Machine.execFlashReturn channel s
  | .hbmRetire channel => Sys2Proof.Machine.execHbmRetire channel s
  | .releaseHeld tenant => Sys2Proof.Machine.execReleaseHeld tenant s
  | .regionFaultBypass region => Sys2Proof.Machine.execRegionFaultBypass region s
  | .bypassRunTimeout core => Sys2Proof.Machine.execBypassRunTimeout core s
  | .flashChannelFailure channel => Sys2Proof.Machine.execFlashChannelFailure channel s
  | .plbInvBasin val => Sys2Proof.Machine.execPlbInvBasin val s
  | .plbInvAll val => Sys2Proof.Machine.execPlbInvAll val s
  | .entdaa addr => Sys2Proof.Machine.execEntdaa addr s
  | .setdasa => Sys2Proof.Machine.execSetdasa s
  | .setnewda addr => Sys2Proof.Machine.execSetnewda addr s
  | .rstdaa => Sys2Proof.Machine.execRstdaa s
  | .enec => Sys2Proof.Machine.execEnec s
  | .disec => Sys2Proof.Machine.execDisec s
  | .getpid => Sys2Proof.Machine.execGetpid s
  | .getbcr => Sys2Proof.Machine.execGetbcr s
  | .getdcr => Sys2Proof.Machine.execGetdcr s
  | .getstatus => Sys2Proof.Machine.execGetstatus s
  | .getmwl => Sys2Proof.Machine.execGetmwl s
  | .getmrl => Sys2Proof.Machine.execGetmrl s
  | .setmwl len => Sys2Proof.Machine.execSetmwl len s
  | .setmrl len => Sys2Proof.Machine.execSetmrl len s
  | .regRead f => Sys2Proof.Machine.execRegRead f s
  | .regWrite f => Sys2Proof.Machine.execRegWrite f s
  | .imgWrite f => Sys2Proof.Machine.execImgWrite f s
  | .statusRead f => Sys2Proof.Machine.execStatusRead f s
  | .sensorUpdate vals => Sys2Proof.Machine.execSensorUpdate vals s
  | .regulatorPoll => Sys2Proof.Machine.execRegulatorPoll s
  | .lbsXfer val => Sys2Proof.Machine.execLbsXfer val s
  | .lbsTransferDone ack data => Sys2Proof.Machine.execLbsTransferDone ack data s
  | .lbsTimeout => Sys2Proof.Machine.execLbsTimeout s
  | .lbsClear sda sclHigh => Sys2Proof.Machine.execLbsClear sda sclHigh s
  | .lbsClearRetry sda sclHigh => Sys2Proof.Machine.execLbsClearRetry sda sclHigh s
  | .extest => Sys2Proof.Machine.execExtest s
  | .samplePreload pins preload => Sys2Proof.Machine.execSamplePreload pins preload s
  | .idcode => Sys2Proof.Machine.execIdcode s
  | .clamp => Sys2Proof.Machine.execClamp s
  | .highz => Sys2Proof.Machine.execHighz s
  | .dbgSel scan => Sys2Proof.Machine.execDbgSel scan s
  | .bypass => Sys2Proof.Machine.execBypass s
  | .dbgHalt => Sys2Proof.Machine.execDbgHalt s
  | .haltDeferLimit core => Sys2Proof.Machine.execHaltDeferLimit core s
  | .forceHalt => Sys2Proof.Machine.execForceHalt s
  | .resume => Sys2Proof.Machine.execResume s
  | .stepOne => Sys2Proof.Machine.execStepOne s
  | .rdreg => Sys2Proof.Machine.execRdreg s
  | .wrreg => Sys2Proof.Machine.execWrreg s
  | .rdmem => Sys2Proof.Machine.execRdmem s
  | .wrmem => Sys2Proof.Machine.execWrmem s
  | .breakSet => Sys2Proof.Machine.execBreakSet s
  | .qread => Sys2Proof.Machine.execQread s
  | .strandTransitionsReturn => Sys2Proof.Machine.execStrandTransitionsReturn s
  | .journalPageProgrammed tenant => Sys2Proof.Machine.execJournalPageProgrammed tenant s
  | .publicationArrival m => Sys2Proof.Machine.execPublicationArrival m s
  | .frozenConfigChange => Sys2Proof.Machine.execFrozenConfigChange s
  | .registerRead path off => Sys2Proof.Machine.execRegisterRead path off s
  | .bar2Write off data ide => Sys2Proof.Machine.execBar2Write off data ide s
  | .dramReady => Sys2Proof.Machine.execDramReady s
  | .getVersion => Sys2Proof.Machine.execGetVersion s
  | .getCapabilities => Sys2Proof.Machine.execGetCapabilities s
  | .negotiateAlgorithms => Sys2Proof.Machine.execNegotiateAlgorithms s
  | .getDigests => Sys2Proof.Machine.execGetDigests s
  | .ptpDelayReqTimer => Sys2Proof.Machine.execPtpDelayReqTimer s

end Sys2Proof.Machine
end

