-- ==== Sys2Proof/Safety.lean ====
section
/-! DEFINITION. What counts as a safe state and a safe run of the part, in the terms statements use. -/

namespace Sys2Proof.Machine

/-- The memories of the part are in canonical form: stacked DRAM as the host sees it, every core's store and scratch window, and the
copies an open hold restarts from (R99, R155). -/
def Run.memOk (r : Run) : Bool :=
  match r.hold with
  | some h => Memory.wf h.ls && Memory.wf h.scratch
  | none => true
def Core.memOk (x : Core) : Bool :=
  Memory.wf x.ls && Memory.wf x.scratch && (match x.run with
    | some r => r.memOk
    | none => true)
def State.memOk (s : State) : Bool := Memory.wf s.dram && s.fab.cores.all (fun p => p.2.memOk)

/-- The small state machines of the part stand in a state their rules name: TDISP (R369), the pair (R408), fabric time (R256), the
strand receiver (R251), the dredge within the ledger (R228). -/
def State.modesOk (s : State) : Bool :=
  decide (s.sec.tdisp ≤ 3) && decide (s.twin.pair ≤ 3) && decide (s.tb.state ≤ 4) && decide (s.tb.src ≤ 2) && decide (s.tb.strand.st ≤ 3) &&
    decide (s.ledger.next < 262144)

/-- A safe state. -/
def State.safe (s : State) : Bool := s.memOk && s.modesOk

/-- A step that answers a next state. -/
def steps (s t : State) : Prop := step s = .next t

/-- States a run can reach from a state. -/
inductive Reaches : State → State → Prop where
  | here (s : State) : Reaches s s
  | more {s t u : State} : Reaches s t → steps t u → Reaches s u

/-- The run of a core may issue the word at its instruction position as `o`: nothing halts it or holds it back, the word's fields are
what `o` allows, no gate or hold refuses it, and no register it names awaits an outstanding instruction (R81, R99, R103, R114, R118,
R143). What the predicate says is left to `Issues`. -/
structure MayIssue (s : State) (c : Nat) (x : Core) (r : Run) (o : CoreOp) (w : W64) : Prop where
  core : s.core c = x
  run : x.run = some r
  notHalted : x.halt ≠ .halted
  notForced : x.halt ≠ .forced
  noWait : r.wait = none
  word : r.image[r.ip]? = some w
  op : coreOp w = some o
  noBreak : s.breakAt c = false
  legal : legalWord o w r.iflags = true
  gate : r.gate = none ∨ o.gateable = true
  hold : r.hold = none ∨ o.inHold = true
  ready : x.blocked r o w = false

/-- Such a word whose predicate allows it to act (R81). -/
structure Issues (s : State) (c : Nat) (x : Core) (r : Run) (o : CoreOp) (w : W64) : Prop extends MayIssue s c x r o w where
  pred : x.pGet (predF w % 8) ≠ decide (8 ≤ predF w)

/-- A core once an instruction that leaves it as `x`, with run `r`, has issued: the run stands at `ip`, its step is counted, an open
hold counts the instruction, and a halt asked for or a single step takes effect where no hold is open (R98, R99, R451, R453). -/
def issued (x : Core) (r : Run) (ip : Nat) : Core :=
  let y : Core :=
    { x with
      pass := false
      run := some { r with ip := ip, steps := r.steps + 1, hold := r.hold.map (fun h => { h with count := h.count + 1 }) } }
  if r.hold.isNone ∧ (x.halt = .requested ∨ x.stepOnce = true) then { y with halt := .halted, stepOnce := false } else y

/-- The command that issues an instruction on a core, with what the command says besides: whether its access meets an uncorrectable word, the
core that takes a berth handed back, a faulty accumulator element. -/
def coreCommand (o : CoreOp) (c : BitVec 12) (e : Bool) (n : BitVec 12) (u : Option AccUpset) : Instr :=
  match o with
  | .br => .br c
  | .brR => .brR c
  | .loopI => .loopI c
  | .call => .call c
  | .ret => .ret c
  | .halt => .halt c
  | .nop => .nop c
  | .add => .add c
  | .addI => .addI c
  | .sub => .sub c
  | .subI => .subI c
  | .andR => .andR c
  | .andI => .andI c
  | .orR => .orR c
  | .orI => .orI c
  | .xorR => .xorR c
  | .xorI => .xorI c
  | .shl => .shl c
  | .shlI => .shlI c
  | .shr => .shr c
  | .shrI => .shrI c
  | .sra => .sra c
  | .sraI => .sraI c
  | .mul => .mul c
  | .mulI => .mulI c
  | .mov => .mov c
  | .movh => .movh c
  | .cmpEq => .cmpEq c
  | .cmpEqI => .cmpEqI c
  | .cmpNe => .cmpNe c
  | .cmpNeI => .cmpNeI c
  | .cmpLt => .cmpLt c
  | .cmpLtI => .cmpLtI c
  | .cmpLtu => .cmpLtu c
  | .cmpLtuI => .cmpLtuI c
  | .ext => .ext c
  | .plog => .plog c
  | .ldD => .ldD c e
  | .ldW => .ldW c e
  | .ldH => .ldH c e
  | .ldB => .ldB c e
  | .stD => .stD c
  | .stW => .stW c
  | .stH => .stH c
  | .stB => .stB c
  | .vld => .vld c e
  | .vst => .vst c
  | .tldK => .tldK c
  | .tldV => .tldV c
  | .tldMan => .tldMan c
  | .tldManNext => .tldManNext c
  | .tldManRequeue => .tldManRequeue c n
  | .tstLd => .tstLd c e
  | .tstSt => .tstSt c
  | .dotQk => .dotQk c
  | .accPv => .accPv c
  | .scaleS => .scaleS c
  | .scaleO => .scaleO c
  | .rope => .rope c
  | .mskCausal => .mskCausal c
  | .mskWin => .mskWin c
  | .mskTree => .mskTree c
  | .smxUpd => .smxUpd c
  | .smxUpdMan => .smxUpdMan c
  | .smxUpdSkip => .smxUpdSkip c
  | .smxExp => .smxExp c
  | .abftAcc => .abftAcc c
  | .abftChk => .abftChk c u e
  | .mergePart => .mergePart c
  | .mergePartDrop => .mergePartDrop c
  | .mergePartR => .mergePartR c
  | .emitPart => .emitPart c
  | .chAdd => .chAdd c
  | .chSet => .chSet c
  | .chSetThr => .chSetThr c
  | .chWait => .chWait c
  | .atGate => .atGate c
  | .untilTime => .untilTime c
  | .flightArm => .flightArm c
  | .flightArmCancel => .flightArmCancel c
  | .fxPut => .fxPut c
  | .fxGet => .fxGet c
  | .fxAdd => .fxAdd c
  | .fxCas => .fxCas c
  | .fxFlush => .fxFlush c
  | .sndScan => .sndScan c
  | .sndTop => .sndTop c
  | .holdBegin => .holdBegin c
  | .holdEnd => .holdEnd c
  | .brk => .brk c

/-! ### The core's instruction word, written from its tables (R113, R115) -/

/-- OPC of an instruction, how many forms its low IMM bits tell apart, and which of them it is. -/
def CoreOp.code : CoreOp → Nat × Nat × Nat
  | .br => (0x01, 1, 0)
  | .brR => (0x02, 1, 0)
  | .loopI => (0x03, 1, 0)
  | .call => (0x04, 1, 0)
  | .ret => (0x05, 1, 0)
  | .halt => (0x06, 1, 0)
  | .nop => (0x07, 1, 0)
  | .add => (0x10, 1, 0)
  | .addI => (0x11, 1, 0)
  | .sub => (0x12, 1, 0)
  | .subI => (0x13, 1, 0)
  | .andR => (0x14, 1, 0)
  | .andI => (0x15, 1, 0)
  | .orR => (0x16, 1, 0)
  | .orI => (0x17, 1, 0)
  | .xorR => (0x18, 1, 0)
  | .xorI => (0x19, 1, 0)
  | .shl => (0x1A, 1, 0)
  | .shlI => (0x1B, 1, 0)
  | .shr => (0x1C, 1, 0)
  | .shrI => (0x1D, 1, 0)
  | .sra => (0x1E, 1, 0)
  | .sraI => (0x1F, 1, 0)
  | .mul => (0x20, 1, 0)
  | .mulI => (0x21, 1, 0)
  | .mov => (0x22, 1, 0)
  | .movh => (0x23, 1, 0)
  | .cmpEq => (0x24, 1, 0)
  | .cmpEqI => (0x25, 1, 0)
  | .cmpNe => (0x26, 1, 0)
  | .cmpNeI => (0x27, 1, 0)
  | .cmpLt => (0x28, 1, 0)
  | .cmpLtI => (0x29, 1, 0)
  | .cmpLtu => (0x2A, 1, 0)
  | .cmpLtuI => (0x2B, 1, 0)
  | .ext => (0x2C, 1, 0)
  | .plog => (0x2D, 1, 0)
  | .ldD => (0x30, 1, 0)
  | .ldW => (0x31, 1, 0)
  | .ldH => (0x32, 1, 0)
  | .ldB => (0x33, 1, 0)
  | .stD => (0x34, 1, 0)
  | .stW => (0x35, 1, 0)
  | .stH => (0x36, 1, 0)
  | .stB => (0x37, 1, 0)
  | .vld => (0x38, 1, 0)
  | .vst => (0x39, 1, 0)
  | .tldK => (0x40, 1, 0)
  | .tldV => (0x41, 1, 0)
  | .tldMan => (0x42, 4, 0)
  | .tldManNext => (0x42, 4, 1)
  | .tldManRequeue => (0x42, 4, 2)
  | .tstLd => (0x43, 2, 0)
  | .tstSt => (0x43, 2, 1)
  | .dotQk => (0x48, 1, 0)
  | .accPv => (0x49, 1, 0)
  | .scaleS => (0x4A, 2, 0)
  | .scaleO => (0x4A, 2, 1)
  | .rope => (0x4B, 1, 0)
  | .mskCausal => (0x50, 1, 0)
  | .mskWin => (0x51, 1, 0)
  | .mskTree => (0x52, 1, 0)
  | .smxUpd => (0x54, 4, 0)
  | .smxUpdMan => (0x54, 4, 1)
  | .smxUpdSkip => (0x54, 4, 2)
  | .smxExp => (0x55, 1, 0)
  | .abftAcc => (0x58, 1, 0)
  | .abftChk => (0x59, 1, 0)
  | .mergePart => (0x5C, 4, 0)
  | .mergePartDrop => (0x5C, 4, 1)
  | .mergePartR => (0x5C, 4, 2)
  | .emitPart => (0x5D, 1, 0)
  | .chAdd => (0x60, 1, 0)
  | .chSet => (0x61, 2, 0)
  | .chSetThr => (0x61, 2, 1)
  | .chWait => (0x62, 1, 0)
  | .atGate => (0x64, 1, 0)
  | .untilTime => (0x65, 1, 0)
  | .flightArm => (0x66, 2, 0)
  | .flightArmCancel => (0x66, 2, 1)
  | .fxPut => (0x68, 1, 0)
  | .fxGet => (0x69, 1, 0)
  | .fxAdd => (0x6A, 1, 0)
  | .fxCas => (0x6B, 1, 0)
  | .fxFlush => (0x6C, 1, 0)
  | .sndScan => (0x70, 1, 0)
  | .sndTop => (0x71, 1, 0)
  | .holdBegin => (0x78, 1, 0)
  | .holdEnd => (0x79, 1, 0)
  | .brk => (0x7F, 1, 0)

/-- Whether IMM names the instruction's own form; a `tst` load of FMT 3 is reserved. -/
def CoreOp.formOk (o : CoreOp) (im : Nat) : Bool :=
  decide (im % o.code.2.1 = o.code.2.2) && (match o with
    | .tstLd => decide (im / 2 % 4 ≠ 3)
    | _ => true)

/-- The word of six fields. -/
def coreWord (op pred dst a b im : Nat) : W64 :=
  BitVec.ofNat 64 (op * 2 ^ 56 + pred * 2 ^ 52 + dst * 2 ^ 46 + a * 2 ^ 40 + b * 2 ^ 34 + im)

/-- A packet that the port takes (R297, R313 to R315): its frame, layers and header are right, its connection is established to a package the part
hears, its context is live, its tenant's key is ACTIVE, its tag is right and its meter lets it by. -/
structure Arrives (s : State) (h : Pkt) (i : Instr) : Prop where
  packet : pktOf i = some h
  header : s.headerBad h i = none
  est : (s.conn h.dconn).st = .established
  hears : s.hears (s.conn h.dconn).peerPkg = true
  running : s.boot.inReset = false
  live : (s.conn h.dconn).live = true
  tenant : (s.conn h.dconn).kind = 0 → s.active (s.conn h.dconn).tenant = true
  tag : h.tagOk = true
  meter : (s.conn h.dconn).kind = 0 → vcOf i = 0 → ((s.touch h.dconn).metered h.dconn h).2 = true

/-- The state once such a packet is metered (R315). -/
def State.admitted (s : State) (h : Pkt) (i : Instr) : State :=
  if (s.conn h.dconn).kind = 0 ∧ vcOf i = 0 then ((s.touch h.dconn).metered h.dconn h).1 else s.touch h.dconn

/-- The state once the sequence number it acknowledges is taken in (R287, R289). -/
def State.acksTaken (s : State) (h : Pkt) (i : Instr) : State :=
  ((((s.admitted h i).takeAcks h.dconn h.apsn 0).1.flushTx h.dconn).settleWrites h.dconn)

/-- A descriptor at the head of ring `r` of basin `b`, of operation `op`, that its tenant may submit (R330, R331, R333). -/
structure Submits (s : State) (b r op : Nat) (d : Dsc) : Prop where
  front : s.front b r = some d
  names : d.op = op
  tenant : (s.takeEntry b r).tenantRefuse d.basin d.tenant = none

/-- A composition descriptor at the head of basin 0's ring 0, of operation `op`, that may be submitted, with no composition in progress or
waiting (R349). BASIN_TENANT, TENANT_RESERVE and TENANT_REMOVE name a tenant that need not be one of the basin's. -/
structure Composes (s : State) (op : Nat) (d : Dsc) : Prop where
  front : s.front 0 0 = some d
  names : d.op = op
  tenant : op = 0x23 ∨ op = 0x28 ∨ op = 0x29 ∨ (s.takeEntry 0 0).tenantRefuse 0 d.tenant = none
  idle : s.host.composing = none
  queue : s.host.composeQ = []

end Sys2Proof.Machine
end

