-- ==== Sys2Proof/Certificates/Slice0/Obligations.lean ====
section
/-! DEFINITION. The statements for the provers. -/

open Sys2Proof Sys2Proof.Machine

/-- The order of work: a step carries out the command at the front of the queue on the state with the rest of the queue, and on an empty queue passes
a cycle of the timebase (log entry 10). -/
def Obligations.StepRunsFrontCommand : Prop :=
  (∀ (c : Instr) (rest : List Instr) (s : State), s.pending = c :: rest → step s = exec c { s with pending := rest }) ∧
  (∀ s : State, s.pending = [] → step s = .next s.tick)

/-- R17, R256, R356, R369, R390, R393, R407, R408, R437, R448: what reset leaves. PORST_N is low, time stands at 0 in FREE, no sweep, connection,
session or key slot is held, EPOCH is 0 and UNSET, TDISP is CONFIG_UNLOCKED, no pair, no dynamic address, IDCODE selected, and every register reads
the reset value of its table; the state is safe (the values the spec does not give are log entry 18's). -/
def Obligations.ResetState : Prop :=
  let s := State.reset
  s.safe = true ∧ s.pending = [] ∧ s.now = 0 ∧ s.boot.inReset = true ∧ s.tb.state = 0 ∧ s.sweeps.accepted = [] ∧ s.net.conns = [] ∧ s.sec.sessions = [] ∧
    s.fld rBsnEpoch 0 16 = 0 ∧ s.fld rBsnEpoch 18 1 = 1 ∧ s.sec.tdisp = 0 ∧ s.twin.pair = 0 ∧ s.towpath.dyn = 0 ∧ s.jtag.ir = 0x02 ∧ s.aon.attempt = 0 ∧
    (∀ off, s.reg off = regReset off) ∧ (∀ a, memRead s.dram a = 0) ∧ (∀ c, (s.core c).run = none) ∧ (∀ ch, (s.chamber ch).counter = 0)

/-- R7, R98: no command stops the part. Every command, in every state, has a next state, and the queue behind it is what it was. -/
def Obligations.EveryCommandCompletes : Prop :=
  ∀ (c : Instr) (s : State), ∃ t, exec c s = .next t

/-- R26, R155, R424 and the memory form of the model (log entry 8): from any state whose stacked DRAM is in canonical form, a step leaves it in
canonical form. -/
def Obligations.MemoryStaysCanonical : Prop :=
  ∀ s t : State, Memory.wf s.dram = true → step s = .next t → Memory.wf t.dram = true

/-- R113, R115: the core's instruction word. For every instruction, every predicate, register fields and IMM of its form, the word written from the
tables reads back as that instruction with every field as it was; and a word that names an instruction is the word of its own fields. -/
def Obligations.CoreWordRoundTrip : Prop :=
  (∀ (o : CoreOp) (pred dst a b im : Nat), pred < 16 → dst < 64 → a < 64 → b < 64 → im < 2 ^ 34 → o.formOk im = true →
    let w := coreWord o.code.1 pred dst a b im
    coreOp w = some o ∧ predF w = pred ∧ dstF w = dst ∧ srcA w = a ∧ srcB w = b ∧ imm w = im) ∧
  (∀ (o : CoreOp) (w : W64), coreOp w = some o → o.formOk (imm w) = true ∧ w = coreWord o.code.1 (predF w) (dstF w) (srcA w) (srcB w) (imm w))

/-- R79: s0 reads as 0 and p0 as 1, both discard writes; every other scalar or predicate holds what was last written, and a write changes no other. -/
def Obligations.HardwiredRegisters : Prop :=
  ∀ (x : Core) (n m : Nat) (v : W64) (b : Bool),
    (x.sPut n v).sGet 0 = 0 ∧ (x.pPut n b).pGet 0 = true ∧ x.sPut 0 v = x ∧ x.pPut 0 b = x ∧
    (x.sPut n v).sGet m = (if n = m ∧ n ≠ 0 then v else x.sGet m) ∧
    (x.pPut n b).pGet m = (if n = m ∧ n ≠ 0 then b else x.pGet m)

/-- R124: the scalar instructions of two registers write their result to the destination, take one step, and change nothing else of the part. R124:
the scalar instructions with an immediate (sign-extended from 34 bits), `mov`, `movh` and `ext`. R124: the compares, signed and unsigned, of two
registers and of a register and the immediate, and `plog`, write a predicate. -/
def Obligations.ScalarAndPredicateForms : Prop :=
  (∀ (s : State) (c : BitVec 12) (x : Core) (r : Run) (w : W64),
    ∀ e ∈ ([(.add c, .add, fun a b => a + b), (.sub c, .sub, fun a b => a - b), (.andR c, .andR, fun a b => a &&& b),
        (.orR c, .orR, fun a b => a ||| b), (.xorR c, .xorR, fun a b => a ^^^ b),
        (.shl c, .shl, fun a b => a <<< (b.toNat % 64)), (.shr c, .shr, fun a b => a >>> (b.toNat % 64)),
        (.sra c, .sra, fun a b => a.sshiftRight (b.toNat % 64)), (.mul c, .mul, fun a b => a * b)] :
        List (Instr × CoreOp × (W64 → W64 → W64))),
      Issues s c.toNat x r e.2.1 w →
        exec e.1 s = .next (s.setCore c.toNat
          (issued (x.sPut (dstF w) (e.2.2 (x.sGet (srcA w)) (x.sGet (srcB w)))) r (r.ip + 1)))) ∧
  (∀ (s : State) (c : BitVec 12) (x : Core) (r : Run) (w : W64),
    ∀ e ∈ ([(.addI c, .addI, fun a => a + simm w), (.subI c, .subI, fun a => a - simm w), (.andI c, .andI, fun a => a &&& simm w),
        (.orI c, .orI, fun a => a ||| simm w), (.xorI c, .xorI, fun a => a ^^^ simm w),
        (.shlI c, .shlI, fun a => a <<< ((simm w).toNat % 64)), (.shrI c, .shrI, fun a => a >>> ((simm w).toNat % 64)),
        (.sraI c, .sraI, fun a => a.sshiftRight ((simm w).toNat % 64)), (.mulI c, .mulI, fun a => a * simm w),
        (.mov c, .mov, fun _ => simm w),
        (.movh c, .movh, fun a => BitVec.ofNat 64 (imm w % 2 ^ 30 * 2 ^ 34 + a.toNat % 2 ^ 34)),
        (.ext c, .ext, fun a => BitVec.ofNat 64 (a.toNat / 2 ^ (imm w % 64) % 2 ^ (imm w / 64 % 64 + 1)))] :
        List (Instr × CoreOp × (W64 → W64))),
      Issues s c.toNat x r e.2.1 w →
        exec e.1 s = .next (s.setCore c.toNat (issued (x.sPut (dstF w) (e.2.2 (x.sGet (srcA w)))) r (r.ip + 1)))) ∧
  (∀ (s : State) (c : BitVec 12) (x : Core) (r : Run) (w : W64),
    (∀ e ∈ ([(.cmpEq c, .cmpEq, fun a b => a = b), (.cmpNe c, .cmpNe, fun a b => a ≠ b), (.cmpLt c, .cmpLt, fun a b => a.toInt < b.toInt),
        (.cmpLtu c, .cmpLtu, fun a b => a.toNat < b.toNat)] : List (Instr × CoreOp × (W64 → W64 → Prop))),
      Issues s c.toNat x r e.2.1 w →
        ∃ b : Bool, (b = true ↔ e.2.2 (x.sGet (srcA w)) (x.sGet (srcB w))) ∧
          exec e.1 s = .next (s.setCore c.toNat (issued (x.pPut (dstF w) b) r (r.ip + 1)))) ∧
    (∀ e ∈ ([(.cmpEqI c, .cmpEqI, fun a b => a = b), (.cmpNeI c, .cmpNeI, fun a b => a ≠ b), (.cmpLtI c, .cmpLtI, fun a b => a.toInt < b.toInt),
        (.cmpLtuI c, .cmpLtuI, fun a b => a.toNat < b.toNat)] : List (Instr × CoreOp × (W64 → W64 → Prop))),
      Issues s c.toNat x r e.2.1 w →
        ∃ b : Bool, (b = true ↔ e.2.2 (x.sGet (srcA w)) (simm w)) ∧
          exec e.1 s = .next (s.setCore c.toNat (issued (x.pPut (dstF w) b) r (r.ip + 1)))) ∧
    (Issues s c.toNat x r .plog w →
      exec (.plog c) s = .next (s.setCore c.toNat (issued (x.pPut (dstF w) ((imm w).testBit
        ((if x.pGet (srcA w) then 2 else 0) + (if x.pGet (srcB w) then 1 else 0)))) r (r.ip + 1)))))

/-- R81: an instruction whose predicate forbids it takes its step and changes nothing else, whichever instruction it is. R103, R115: an opcode or form
that the table does not give raises ILLEGAL_INSTR with the word as detail, and an instruction position past the image raises IFETCH_RANGE with that
position, whatever core command comes. -/
def Obligations.PredicationAndFetch : Prop :=
  (∀ (s : State) (c n : BitVec 12) (e : Bool) (u : Option AccUpset) (x : Core) (r : Run) (o : CoreOp) (w : W64), MayIssue s c.toNat x r o w → r.gate = none →
    x.pGet (predF w % 8) = decide (8 ≤ predF w) →
      exec (coreCommand o c e n u) s = .next (s.setCore c.toNat (issued x r (r.ip + 1)))) ∧
  (∀ (s : State) (c n : BitVec 12) (e : Bool) (u : Option AccUpset) (r : Run) (o : CoreOp), (s.core c.toNat).run = some r → (s.core c.toNat).halt = .running → r.wait = none →
    (r.image.length ≤ r.ip → exec (coreCommand o c e n u) s = .next (s.raise c.toNat exIfetch (BitVec.ofNat 64 r.ip))) ∧
    (∀ w, r.image[r.ip]? = some w → coreOp w = none → exec (coreCommand o c e n u) s = .next (s.raise c.toNat exIllegal w)))

/-- R104, R105: an exception ends its run, and a record of it stands at the tail of the basin's exception log, which advances; where the log is full
the record is counted in LOST instead. -/
def Obligations.ExceptionTaken : Prop :=
  ∀ (s : State) (c code : Nat) (d : W64) (r : Run) (b : Nat), (s.core c).run = some r → s.basinOf c = some b →
    let att := if r.kind = .replacement then 2 else 1
    let bs := s.basin b
    ((s.raise c code d).core c).run = none ∧
    ((bs.exc.tail + 1) % 1024 ≠ bs.exc.head →
      ((s.raise c code d).basin b).exc.tail = (bs.exc.tail + 1) % 1024 ∧
      (Memory.wf s.dram = true → r.hold = none → code ≠ exMemUncorr → memReadN (s.raise c code d).dram (bs.hostBase * 0x14000 + 0x18000 + 32 * bs.exc.tail) 32 =
        excRec code c r.gsid r.group r.prog att r.ip s.now d)) ∧
    ((bs.exc.tail + 1) % 1024 = bs.exc.head →
      ((s.raise c code d).basin b).exc.tail = bs.exc.tail ∧ ((s.raise c code d).basin b).exc.lost = satAdd 16 bs.exc.lost 1)

/-- R82, R86, R117, R124: a load inside the local range at a multiple of its size writes the zero-extended bytes, least significant first; `vld`
writes 32 lanes, lane 0 lowest. R82, R86, R117, R124: a store at or above 0x7500, inside the local range, at a multiple of its size writes the low
bytes of its source, and every other byte a program can read at a local address stays. R82, R86, R103, R422: outside the local range, or a store below
0x7500, a load or store raises STORE_RANGE; off a multiple of its size MISALIGNED; a load that meets an uncorrectable word MEM_UNCORR; each with the
address as detail. -/
def Obligations.LocalAccess : Prop :=
  (∀ (s : State) (c : BitVec 12) (x : Core) (r : Run) (w : W64),
    (∀ e ∈ ([(.ldD c false, .ldD, 8), (.ldW c false, .ldW, 4), (.ldH c false, .ldH, 2), (.ldB c false, .ldB, 1)] : List (Instr × CoreOp × Nat)),
      Issues s c.toNat x r e.2.1 w → localOk (localAddr x w) e.2.2 = true → localAddr x w % e.2.2 = 0 →
        exec e.1 s = .next (s.setCore c.toNat
          (issued (x.sPut (dstF w) (BitVec.ofNat 64 (leNat (x.readLocal (localAddr x w) e.2.2)))) r (r.ip + 1)))) ∧
    (Issues s c.toNat x r .vld w → localOk (localAddr x w) 128 = true → localAddr x w % 128 = 0 →
        exec (.vld c false) s = .next (s.setCore c.toNat (issued (x.vPut (dstF w)
          ((List.range 32).map (fun i => BitVec.ofNat 32 (leNat (x.readLocal (localAddr x w + 4 * i) 4))))) r (r.ip + 1))))) ∧
  (∀ (s : State) (c : BitVec 12) (x : Core) (r : Run) (w : W64), x.memOk = true →
    (∀ e ∈ ([(.stD c, .stD, 8), (.stW c, .stW, 4), (.stH c, .stH, 2), (.stB c, .stB, 1)] : List (Instr × CoreOp × Nat)),
      Issues s c.toNat x r e.2.1 w → storeOk (localAddr x w) e.2.2 = true → localAddr x w % e.2.2 = 0 →
        ∃ y : Core, exec e.1 s = .next (s.setCore c.toNat (issued y r (r.ip + 1))) ∧
          y = { x with ls := y.ls, scratch := y.scratch } ∧
          (∀ i < e.2.2, y.byteAt (localAddr x w + i) = BitVec.ofNat 8 ((x.sGet (srcB w)).toNat / 256 ^ i)) ∧
          (∀ a, a < localAddr x w ∨ localAddr x w + e.2.2 ≤ a → y.byteAt a = x.byteAt a)) ∧
    (Issues s c.toNat x r .vst w → storeOk (localAddr x w) 128 = true → localAddr x w % 128 = 0 →
        ∃ y : Core, exec (.vst c) s = .next (s.setCore c.toNat (issued y r (r.ip + 1))) ∧
          y = { x with ls := y.ls, scratch := y.scratch } ∧
          (∀ i < 128, y.byteAt (localAddr x w + i) = BitVec.ofNat 8 ((nthD 0 (x.vGet (srcB w)) (i / 4)).toNat / 256 ^ (i % 4))) ∧
          (∀ a, a < localAddr x w ∨ localAddr x w + 128 ≤ a → y.byteAt a = x.byteAt a))) ∧
  (∀ (s : State) (c : BitVec 12) (x : Core) (r : Run) (w : W64) (e : Bool),
    (∀ i ∈ ([(.ldD c e, .ldD, 8), (.ldW c e, .ldW, 4), (.ldH c e, .ldH, 2), (.ldB c e, .ldB, 1), (.vld c e, .vld, 128)] :
        List (Instr × CoreOp × Nat)), Issues s c.toNat x r i.2.1 w →
      (localOk (localAddr x w) i.2.2 = false → exec i.1 s = .next (s.raise c.toNat exStore (BitVec.ofNat 64 (localAddr x w)))) ∧
      (localOk (localAddr x w) i.2.2 = true → localAddr x w % i.2.2 ≠ 0 →
        exec i.1 s = .next (s.raise c.toNat exMisaligned (BitVec.ofNat 64 (localAddr x w)))) ∧
      (localOk (localAddr x w) i.2.2 = true → localAddr x w % i.2.2 = 0 → e = true →
        exec i.1 s = .next (s.raise c.toNat exMemUncorr (BitVec.ofNat 64 (localAddr x w))))) ∧
    (∀ i ∈ ([(.stD c, .stD, 8), (.stW c, .stW, 4), (.stH c, .stH, 2), (.stB c, .stB, 1), (.vst c, .vst, 128)] :
        List (Instr × CoreOp × Nat)), Issues s c.toNat x r i.2.1 w →
      (storeOk (localAddr x w) i.2.2 = false → exec i.1 s = .next (s.raise c.toNat exStore (BitVec.ofNat 64 (localAddr x w)))) ∧
      (storeOk (localAddr x w) i.2.2 = true → localAddr x w % i.2.2 ≠ 0 →
        exec i.1 s = .next (s.raise c.toNat exMisaligned (BitVec.ofNat 64 (localAddr x w))))))

/-- R123: the control instructions. A branch inside the image goes to its target; `loop` counts its scalar down and branches while it is not 0; `call`
stacks the return position, up to 16; `ret` takes it back; `nop` and a `brk` with the debug TAP locked take a step. R123: `halt` with END taken and
the partials emitted ends the run: the core has no run, and with no flight armed, no gated work and no fabric instruction outstanding nothing is
waited for; an armed flight is cancelled first; a run that has not taken END or not emitted raises RUN_INCOMPLETE. -/
def Obligations.ControlAndHalt : Prop :=
  (∀ (s : State) (c : BitVec 12) (x : Core) (r : Run) (w : W64),
    (Issues s c.toNat x r .br w → imm w % 2 ^ 11 < r.image.length →
      exec (.br c) s = .next (s.setCore c.toNat (issued x r (imm w % 2 ^ 11)))) ∧
    (Issues s c.toNat x r .brR w → ∀ t, t = (x.sGet (srcA w) + simm w).toNat → t < r.image.length → t ∉ holdMarks r.image 0 false →
      exec (.brR c) s = .next (s.setCore c.toNat (issued x r t))) ∧
    (Issues s c.toNat x r .loopI w → imm w % 2 ^ 11 < r.image.length → ∀ v, v = x.sGet (dstF w) - 1 →
      exec (.loopI c) s = .next (s.setCore c.toNat
        (issued (x.sPut (dstF w) v) r (if v = 0 then r.ip + 1 else imm w % 2 ^ 11)))) ∧
    (Issues s c.toNat x r .call w → imm w % 2 ^ 11 < r.image.length → r.stack.length ≠ 16 →
      exec (.call c) s = .next (s.setCore c.toNat (issued x { r with stack := (r.ip + 1) :: r.stack } (imm w % 2 ^ 11)))) ∧
    (Issues s c.toNat x r .ret w → ∀ t rest, r.stack = t :: rest → t < r.image.length →
      exec (.ret c) s = .next (s.setCore c.toNat (issued x { r with stack := rest } t))) ∧
    (Issues s c.toNat x r .nop w → exec (.nop c) s = .next (s.setCore c.toNat (issued x r (r.ip + 1)))) ∧
    (Issues s c.toNat x r .brk w → ∀ b, s.basinOf c.toNat = some b → s.sec.dbgMask.getLsbD b = false →
      exec (.brk c) s = .next (s.setCore c.toNat (issued x r (r.ip + 1)))) ∧
    (Issues s c.toNat x r .brk w → ∀ b, s.basinOf c.toNat = some b → s.sec.dbgMask.getLsbD b = true →
      exec (.brk c) s = .next (s.setCore c.toNat
        (issued { x with halt := .requested, brkHit := true, brkCode := imm w % 2 ^ 16 } r (r.ip + 1))))) ∧
  (∀ (s : State) (c : BitVec 12) (x : Core) (r : Run) (w : W64), Issues s c.toNat x r .halt w →
    (r.endTaken = true → r.emitted = true → x.flights = [] → x.sluice = [] → r.fx = [] →
      ∃ t, exec (.halt c) s = .next t ∧ (t.core c.toNat).run = none ∧ t.dram = s.dram ∧ t.regs = s.regs) ∧
    (r.endTaken = true → r.emitted = true → x.flights ≠ [] →
      exec (.halt c) s = .next (s.setCore c.toNat (issued { x with flights := [] } r r.ip))) ∧
    (r.endTaken = false ∨ r.emitted = false → exec (.halt c) s = .next (s.raise c.toNat exIncomplete (BitVec.ofNat 64 r.ip))))

/-- R99, R100, R147: `hold.begin` opens a hold that keeps what a restart brings back; `hold.end` closes it and makes its chamber operation visible; a
second `hold.begin`, or `hold.end` without a hold, raises HOLD_VIOLATION. -/
def Obligations.HoldSequence : Prop :=
  ∀ (s : State) (c : BitVec 12) (x : Core) (r : Run) (w : W64),
    (Issues s c.toNat x r .holdBegin w → r.hold = none →
      exec (.holdBegin c) s = .next (({ s with fab := { s.fab with holdAge := s.fab.holdAge + 1 } } : State).setCore c.toNat
        (issued x { r with hold := some { age := s.fab.holdAge, ip := r.ip, s := x.s, p := x.p, ls := x.ls, scratch := x.scratch } }
          (r.ip + 1)))) ∧
    (Issues s c.toNat x r .holdBegin w → r.hold ≠ none → exec (.holdBegin c) s = .next (s.raise c.toNat exHold w)) ∧
    (Issues s c.toNat x r .holdEnd w → r.hold = none → exec (.holdEnd c) s = .next (s.raise c.toNat exHold w)) ∧
    (Issues s c.toNat x r .holdEnd w → ∀ h, r.hold = some h → h.ops = [] → h.locks = [] →
      exec (.holdEnd c) s = .next (s.setCore c.toNat (issued x { r with hold := none } (r.ip + 1)))) ∧
    (Issues s c.toNat x r .holdEnd w → ∀ h ch op, r.hold = some h → h.ops = [(ch, op)] → h.locks = [ch] →
      (s.chamber ch).waiters = [] → (s.chamber ch).deferred = [] →
      ∃ t, exec (.holdEnd c) s = .next t ∧ t.chamber ch = (s.chamber ch).apply op ∧
        t.core c.toNat = issued x { r with hold := none } (r.ip + 1))

/-- R87 to R89, R128: `tld.man.next` takes the first ticket of the queue, its COUNT captured from the page table at that moment, as a held ticket and
writes its word; with no berth left to come it writes END; with two tickets held it raises TICKET_LIMIT. R127: `tld.man` loads the manifest latch:
from the bay of an EXACT ticket, from the planned berth for MANIFEST tickets, empty for SKIP, and no latch for END. R91, R128: before C an EXACT
ticket not yet handed back goes back by `tld.man.requeue`: its predicate is 1, the run no longer holds it, and where the command names another run of
the group in the cluster, that run's queue ends with it; after C, or for another ticket, the predicate is 0 and nothing else changes. -/
def Obligations.BerthTickets : Prop :=
  (∀ (s : State) (c : BitVec 12) (x : Core) (r : Run) (w : W64) (m : MSweep), Issues s c.toNat x r .tldManNext w → s.memberOf r = some m →
    (∀ t rest p, r.queue = t :: rest → r.held.length < 2 → r.twin = false → s.pte (m.key t.berth) = some p →
      ∃ s1, exec (.tldManNext c) s = .next s1 ∧
        s1.core c.toNat = issued (x.sPut (dstF w) (ticketWord { t with count := p.count }))
          { r with queue := rest, held := r.held ++ [{ t with count := p.count }] } (r.ip + 1) ∧
        s1.dram = s.dram ∧ s1.regs = s.regs ∧ s1.tiers = s.tiers) ∧
    (∀ t rest, r.queue = t :: rest → 2 ≤ r.held.length → exec (.tldManNext c) s = .next (s.raise c.toNat exTicket (ticketWord t))) ∧
    (r.queue = [] → moreToCome c.toNat r m = false →
      exec (.tldManNext c) s = .next (s.setCore c.toNat
        (issued (x.sPut (dstF w) (ticketWord { berth := 0, first := 0, mode := 5 })) { r with endTaken := true } (r.ip + 1)))) ∧
    (r.queue = [] → moreToCome c.toNat r m = true → exec (.tldManNext c) s = .next s)) ∧
  (∀ (s : State) (c : BitVec 12) (x : Core) (r : Run) (w : W64) (m : MSweep), Issues s c.toNat x r .tldMan w → s.memberOf r = some m →
    imm w / 4 % 2 = 0 →
    (fld (x.sGet (srcA w)) 41 3 = 5 →
      exec (.tldMan c) s = .next (s.setCore c.toNat (issued x { r with latch := none } (r.ip + 1)))) ∧
    (fld (x.sGet (srcA w)) 41 3 ≠ 5 → ∀ t, r.ticket (x.sGet (srcA w)) = some t →
      (∀ y, t.mode = 0 → s.bayOf c.toNat t = some y →
        exec (.tldMan c) s = .next (s.setCore c.toNat
          (issued x { r with latch := some ⟨t.berth, 0, t.first, t.count, some y.man⟩ } (r.ip + 1)))) ∧
      (t.mode ≠ 0 → t.mode ≠ 4 →
        exec (.tldMan c) s = .next (s.setCore c.toNat
          (issued x { r with latch := some ⟨t.berth, t.mode, t.first, t.count, (m.berth? t.berth).bind (·.man)⟩ } (r.ip + 1)))) ∧
      (t.mode = 4 →
        exec (.tldMan c) s = .next (s.setCore c.toNat
          (issued x { r with latch := some ⟨t.berth, t.mode, t.first, t.count, none⟩ } (r.ip + 1))))) ∧
    (fld (x.sGet (srcA w)) 41 3 ≠ 5 → r.ticket (x.sGet (srcA w)) = none →
      exec (.tldMan c) s = .next (s.raise c.toNat exStore (x.sGet (srcA w))))) ∧
  (∀ (s : State) (c n : BitVec 12) (x : Core) (r : Run) (w : W64) (m : MSweep) (t : Ticket), Issues s c.toNat x r .tldManRequeue w →
    s.memberOf r = some m → r.ticket (x.sGet (srcA w)) = some t →
    (t.mode = 0 → t.requeued = false → s.now < m.times.c → 0 < dstF w → dstF w < 8 →
      ∃ s1 r1, exec (.tldManRequeue c n) s = .next s1 ∧ (s1.core c.toNat).run = some r1 ∧ (s1.core c.toNat).pGet (dstF w) = true ∧
        (∀ h ∈ r1.held, h.berth ≠ t.berth) ∧ r1.ip = r.ip + 1 ∧
        (∀ q, s.takesBack c.toNat n.toNat r = some q →
          ∃ q1, (s1.core n.toNat).run = some q1 ∧ q1.queue = q.queue ++ [{ t with requeued := true }])) ∧
    (t.mode ≠ 0 ∨ t.requeued = true ∨ m.times.c ≤ s.now →
      exec (.tldManRequeue c n) s = .next (s.setCore c.toNat (issued (x.pPut (dstF w) false) r (r.ip + 1)))))

/-- R119, R125, R126: `tld.k` and `tld.v` of a held EXACT ticket load, from the berth's bay, one tile of 32 positions and one chunk of a head in the
berth's format, with metadata that names the berth, head, chunk, first position and the valid columns; positions past COUNT are 0. R129: `tst.ld`
reads a tile of a format from local store, without berth metadata; `tst.st` writes a tile's bytes there. -/
def Obligations.TileTransfers : Prop :=
  (∀ (s : State) (c : BitVec 12) (x : Core) (r : Run) (w : W64) (m : MSweep) (t : Ticket) (y : Bay) (val : Bool),
    let h := (x.sGet (srcB w)).toNat % 256
    let p := (x.sGet (srcB w)).toNat / 256 % 8
    let ch := imm w % 8
    Issues s c.toNat x r (if val then .tldV else .tldK) w → s.memberOf r = some m → imm w / 8 % 2 = 0 →
    r.ticket (x.sGet (srcA w)) = some t → t.mode = 0 → s.bayOf c.toNat t = some y → h < m.nkv → ch < m.d / 32 →
      ∃ (tile : Tile) (vmax : F32),
        exec (if val then .tldV c else .tldK c) s = .next (s.setCore c.toNat
          (issued (x.tPut (dstF w) tile) { r with bl := { r.bl with vmax := vmax } } (r.ip + 1))) ∧
        tile.tag = m.fmt ∧ tile.tmeta = some ⟨t.berth, h, ch, t.first + 32 * p, min 32 (t.count - 32 * p)⟩ ∧
        tile.src = (if val then .value else .key) ∧ (val = false → vmax = r.bl.vmax) ∧
        (∀ i < 32, ∀ e < 32, nthD 0 tile.elems (32 * i + e) =
          if i < min 32 (t.count - 32 * p) then (m.geo.code y.payload (m.geo.off (32 * p + i) h val) (32 * ch + e)).1 else 0)) ∧
  (∀ (s : State) (c : BitVec 12) (x : Core) (r : Run) (w : W64),
    (Issues s c.toNat x r .tstLd w → imm w / 2 ^ 16 % 32 = 0 → localOk (tstAddr x w) (tileSize (imm w / 2 % 4)) = true →
      exec (.tstLd c false) s = .next (s.setCore c.toNat
        (issued (x.tPut (dstF w) (tileOf (imm w / 2 % 4) (x.readLocal (tstAddr x w) (tileSize (imm w / 2 % 4))))) r (r.ip + 1)))) ∧
    (Issues s c.toNat x r .tstSt w → imm w / 2 ^ 16 % 32 = 0 → storeOk (tstAddr x w) (tileSize (x.tGet (srcB w)).tag) = true →
      exec (.tstSt c) s = .next (s.setCore c.toNat
        (issued (x.writeLocal (tstAddr x w) (tileBytes (x.tGet (srcB w)))) r (r.ip + 1)))) ∧
    (∀ e, Issues s c.toNat x r .tstLd w → imm w / 2 ^ 16 % 32 ≠ 0 →
      exec (.tstLd c e) s = .next (s.raise c.toNat exMisaligned (BitVec.ofNat 64 (tstAddr x w)))) ∧
    (Issues s c.toNat x r .tstSt w → imm w / 2 ^ 16 % 32 = 0 → storeOk (tstAddr x w) (tileSize (x.tGet (srcB w)).tag) = false →
      exec (.tstSt c) s = .next (s.raise c.toNat exStore (BitVec.ofNat 64 (tstAddr x w)))))

/-- R36, R130: `dot.qk` adds to each score the sum of 32 products of a query operand and a key tile of the pairing R36 allows, from 0 with Z;
`scale.s` multiplies each score row by its lane; both leave the value plane, and an operand outside the pairing raises TILE_FORMAT. R44, R130, R131: a
mask instruction puts −∞ in the score plane at each valid column of a row that its own rule hides, leaves every other score, and notes the rule in the
plane's metadata. R42, R120, R130: `rope` writes a query operand of one chunk of each query row, rotated at its position; `scale.o` multiplies the
value elements of each row by its lane. -/
def Obligations.PlaneOperations : Prop :=
  (∀ (s : State) (c : BitVec 12) (x : Core) (r : Run) (w : W64) (m : MSweep), s.memberOf r = some m →
    (Issues s c.toNat x r .dotQk w → (x.tGet (srcA w)).tag = operandTag m.fmt → (x.tGet (srcB w)).tag = m.fmt → imm w % 2 = 1 →
      ∀ mt, (x.tGet (srcB w)).tmeta = some mt →
      ∃ a : Acc, exec (.dotQk c) s = .next (s.setCore c.toNat (issued (x.aPut (dstF w) a) r (r.ip + 1))) ∧
        a.val = (x.aGet (dstF w)).val ∧ a.smeta = some { tmeta := mt } ∧
        (∀ i < 32, ∀ j < 32, plane a.score i j = fAdd .even 0
          (fSum 0 ((List.range 32).map (fun e => ((x.tGet (srcA w)).num i e).mul ((x.tGet (srcB w)).num j e)))))) ∧
    (Issues s c.toNat x r .dotQk w → (x.tGet (srcA w)).tag = operandTag m.fmt → (x.tGet (srcB w)).tag = m.fmt → imm w % 2 = 0 →
      ∀ mt q, (x.tGet (srcB w)).tmeta = some mt → (x.aGet (dstF w)).smeta = some q → q.tmeta.same mt = true → q.scaled = false →
      ∃ a : Acc, exec (.dotQk c) s = .next (s.setCore c.toNat (issued (x.aPut (dstF w) a) r (r.ip + 1))) ∧
        a.val = (x.aGet (dstF w)).val ∧ a.smeta = some q ∧
        (∀ i < 32, ∀ j < 32, plane a.score i j = fAdd .even (plane (x.aGet (dstF w)).score i j)
          (fSum 0 ((List.range 32).map (fun e => ((x.tGet (srcA w)).num i e).mul ((x.tGet (srcB w)).num j e)))))) ∧
    (Issues s c.toNat x r .dotQk w → (x.tGet (srcA w)).tag ≠ operandTag m.fmt ∨ (x.tGet (srcB w)).tag ≠ m.fmt →
      exec (.dotQk c) s = .next (s.raise c.toNat exTile w)) ∧
    (Issues s c.toNat x r .scaleS w → (∀ q, (x.aGet (dstF w)).smeta = some q → q.scaled = false) →
      ∃ a : Acc, exec (.scaleS c) s = .next (s.setCore c.toNat (issued (x.aPut (dstF w) a) r (r.ip + 1))) ∧
        a.val = (x.aGet (dstF w)).val ∧ a.smeta = (x.aGet (dstF w)).smeta ∧
        (∀ i < 32, ∀ j < 32, plane a.score i j = fMul .even (plane (x.aGet (dstF w)).score i j) (nthD 0 (x.vGet (srcA w)) i)))) ∧
  (∀ (s : State) (c : BitVec 12) (x : Core) (r : Run) (w : W64) (m : MSweep) (q : SMeta), s.memberOf r = some m →
    (x.aGet (dstF w)).smeta = some q →
    ∀ e ∈ ([(.mskCausal c, .mskCausal, fun p j => visCausal m.desc p j, { q with causal := true }),
        (.mskWin c, .mskWin, fun p j => visWindow m.desc p j, { q with win := true }),
        (.mskTree c, .mskTree, fun p j => visTree m.desc m.tree p j, { q with tree := true })] :
        List (Instr × CoreOp × (Nat → Nat → Bool) × SMeta)),
      Issues s c.toNat x r e.2.1 w →
        ∃ a : Acc, exec e.1 s = .next (s.setCore c.toNat (issued (x.aPut (dstF w) a) r (r.ip + 1))) ∧
          a.val = (x.aGet (dstF w)).val ∧ a.smeta = some e.2.2.2 ∧
          (∀ i < 32, ∀ j < 32, plane a.score i j =
            if j < q.tmeta.count ∧ (∃ row, r.rows[i]? = some row ∧ e.2.2.1 row.qpos (q.tmeta.first + j) = false) then negInf
            else plane (x.aGet (dstF w)).score i j)) ∧
  (∀ (s : State) (c : BitVec 12) (x : Core) (r : Run) (w : W64) (m : MSweep), s.memberOf r = some m →
    (Issues s c.toNat x r .rope w → imm w % 8 < m.d / 32 → r.rows.length ≤ 32 →
      ∃ (t : Tile) (r1 : Run), exec (.rope c) s = .next (s.setCore c.toNat (issued (x.tPut (dstF w) t) r1 (r.ip + 1))) ∧
        r1 = { r with bl := r1.bl } ∧ t.tag = operandTag m.fmt ∧ t.tmeta = none ∧ t.src = .query ∧
        (∀ i q, r.rows[i]? = some q → nthD 0 t.scales i =
          (toOperand m.fmt (((rotate m.rope m.adjacent m.d q.qpos (queryVals m.desc.qfmt m.d q.q)).drop (32 * (imm w % 8))).take 32)).2)) ∧
    (Issues s c.toNat x r .rope w → m.d / 32 ≤ imm w % 8 → exec (.rope c) s = .next (s.raise c.toNat exStore w)) ∧
    (Issues s c.toNat x r .scaleO w →
      ∃ a : Acc, exec (.scaleO c) s = .next (s.setCore c.toNat (issued (x.aPut (dstF w) a) r (r.ip + 1))) ∧
        a.score = (x.aGet (dstF w)).score ∧ a.smeta = (x.aGet (dstF w)).smeta ∧
        (∀ i < 32, ∀ j < 32, plane a.val i j =
          fMul .even (plane (x.aGet (dstF w)).val i j) (nthD 0 (x.vGet (srcA w)) (i % groupRows m.d)))))

/-- R120, R130: `acc.pv` adds to each value element of its chunk the sum of 32 products of a weight tile and a value tile of the same berth, head and
positions, and leaves every score plane; tiles that do not match raise TILE_FORMAT. R134: `smx.exp` on a scaled plane writes a weight operand of the
plane's positions, adds to each lane of the head's rows the sum of the converted weights, and leaves the other lanes; on an unscaled plane it raises
TILE_FORMAT. -/
def Obligations.WeightsAndValues : Prop :=
  (∀ (s : State) (c : BitVec 12) (x : Core) (r : Run) (w : W64) (m : MSweep) (ma mb : TMeta), Issues s c.toNat x r .accPv w →
    s.memberOf r = some m → (x.tGet (srcA w)).tmeta = some ma → (x.tGet (srcB w)).tmeta = some mb →
    ((x.tGet (srcA w)).src = .weight → (x.tGet (srcB w)).src = .value → ma.same mb = true → dstF w = 0x38 + mb.chunk % 4 →
      r.foreign mb.berth = false → groupRows m.d * (mb.chunk / 4 + 1) ≤ 32 →
      ∃ (y : Core) (r1 : Run), exec (.accPv c) s = .next (s.setCore c.toNat (issued y r1 (r.ip + 1))) ∧ r1 = { r with bl := r1.bl } ∧
        r1.bl.berth = some mb.berth ∧ y = { x with a := y.a, run := y.run } ∧ (∀ f, (y.aGet f).score = (x.aGet f).score) ∧
        (∀ i < groupRows m.d, ∀ e < 32,
          plane (y.aGet (dstF w)).val (i + groupRows m.d * (mb.chunk / 4)) e =
            fAdd .even (plane (x.aGet (dstF w)).val (i + groupRows m.d * (mb.chunk / 4)) e)
              (fSum 1 ((List.range 32).map (fun q => ((x.tGet (srcA w)).num i q).mul ((x.tGet (srcB w)).num q e)))))) ∧
    ((x.tGet (srcA w)).src ≠ .weight ∨ (x.tGet (srcB w)).src ≠ .value ∨ ma.same mb = false ∨ r.foreign mb.berth = true →
      exec (.accPv c) s = .next (s.raise c.toNat exTile w))) ∧
  (∀ (s : State) (c : BitVec 12) (x : Core) (r : Run) (w : W64) (m : MSweep) (q : SMeta), Issues s c.toNat x r .smxExp w →
    s.memberOf r = some m → (x.aGet (srcA w)).smeta = some q →
    (q.scaled = true →
      ∃ (t : Tile) (r1 : Run) (l : List F32),
        exec (.smxExp c) s = .next (s.setCore c.toNat (issued ((x.tPut (dstF w) t).vPut (imm w % 64) l) r1 (r.ip + 1))) ∧
        r1 = { r with bl := r1.bl } ∧ t.tag = operandTag m.fmt ∧ t.tmeta = some q.tmeta ∧ t.src = .weight ∧
        (∀ i < 32, nthD 0 l i = if i ∈ r.rowsOfHead q.tmeta.head
          then fAdd .even (nthD 0 (x.vGet (imm w % 64)) i) (fSum 2 ((List.range 32).map (t.num i)))
          else nthD 0 (x.vGet (imm w % 64)) i)) ∧
    (q.scaled = false → exec (.smxExp c) s = .next (s.raise c.toNat exTile w)))

/-- R122, R133: `smx.upd` counts, for each row of the plane's head, its visible valid columns as exact, where none was counted before, and marks the
plane scaled; on a scaled plane or one of another berth it raises TILE_FORMAT. R122, R135, R136: the manifest form counts, for every row of the group,
the latch's positions visible to it as manifest, adding to dropped or unselected by the latch's MODE; the skip form, and the manifest form with an
empty latch, counts them as skipped. -/
def Obligations.CoverageUpdates : Prop :=
  (∀ (s : State) (c : BitVec 12) (x : Core) (r : Run) (w : W64) (m : MSweep) (q : SMeta), Issues s c.toNat x r .smxUpd w →
    s.memberOf r = some m → (x.aGet (srcA w)).smeta = some q →
    (q.scaled = false → r.foreign q.tmeta.berth = false →
      (∀ i ∈ r.rowsOfHead q.tmeta.head, ∀ row, r.rows[i]? = some row → ∀ j < 32, j < q.tmeta.count →
        visible m.desc m.tree row.qpos (q.tmeta.first + j) = true → q.tmeta.first + j ∉ (r.row i).counted) →
      ∃ (y : Core) (r1 : Run), exec (.smxUpd c) s = .next (s.setCore c.toNat (issued y r1 (r.ip + 1))) ∧ r1 = { r with bl := r1.bl } ∧
        r1.bl.berth = some q.tmeta.berth ∧ (∃ q1, (y.aGet (srcA w)).smeta = some q1 ∧ q1.scaled = true ∧ q1.tmeta = q.tmeta) ∧
        (∀ i ∈ r.rowsOfHead q.tmeta.head, ∀ row, r.rows[i]? = some row →
          (r1.row i).nExact = (r.row i).nExact + ((List.range 32).filter (fun j => decide (j < q.tmeta.count) &&
            visible m.desc m.tree row.qpos (q.tmeta.first + j))).length) ∧
        (∀ i, i ∉ r.rowsOfHead q.tmeta.head → r1.row i = r.row i)) ∧
    (q.scaled = true ∨ r.foreign q.tmeta.berth = true → exec (.smxUpd c) s = .next (s.raise c.toNat exTile w))) ∧
  (∀ (s : State) (c : BitVec 12) (x : Core) (r : Run) (w : W64) (m : MSweep) (la : Latch), s.memberOf r = some m → r.latch = some la →
    x.spanOk m (srcA w) = true → r.foreign la.berth = false →
    (∀ i row, r.rows[i]? = some row → ∀ j ∈ m.vis row.qpos la.first la.count, j ∉ (r.row i).counted) →
    (Issues s c.toNat x r .smxUpdMan w → la.man ≠ none →
      ∃ (y : Core) (r1 : Run), exec (.smxUpdMan c) s = .next (s.setCore c.toNat (issued y r1 (r.ip + 1))) ∧ r1 = { r with bl := r1.bl } ∧
        (∀ i row, r.rows[i]? = some row →
          let n := (m.vis row.qpos la.first la.count).length
          (r1.row i).nMan = (r.row i).nMan + n ∧ (r1.row i).nDrop = (r.row i).nDrop + (if la.mode = 2 then n else 0) ∧
          (r1.row i).nSel = (r.row i).nSel + (if la.mode = 3 then n else 0) ∧ (r1.row i).nSkip = (r.row i).nSkip ∧
          (r1.row i).nExact = (r.row i).nExact)) ∧
    (∀ e ∈ ([(.smxUpdSkip c, .smxUpdSkip, true), (.smxUpdMan c, .smxUpdMan, decide (la.man = none))] : List (Instr × CoreOp × Bool)),
      Issues s c.toNat x r e.2.1 w → e.2.2 = true →
      ∃ (y : Core) (r1 : Run), exec e.1 s = .next (s.setCore c.toNat (issued y r1 (r.ip + 1))) ∧ r1 = { r with bl := r1.bl } ∧
        (∀ i row, r.rows[i]? = some row →
          (r1.row i).nSkip = (r.row i).nSkip + (m.vis row.qpos la.first la.count).length ∧
          (r1.row i).nMan = (r.row i).nMan ∧ (r1.row i).nExact = (r.row i).nExact)))

/-- R59, R137, R138, R422: `abft.acc` adds the weighted row sums of the latched manifest to the check accumulator of the rows of its head; `abft.chk`
marks suspect each row whose value sum and check accumulator differ by more than τ, its predicate telling whether none did, after a disturbed element
has taken its value; an uncorrectable word raises MEM_UNCORR. R93, R94, R121, R139 to R141: `merge.part` folds each row's berth-local record into its
row state, releases the ticket and resets the berth-local state; `.drop` resets it only; `.r` merges two records in local store; `emit.part` hands the
row states over once, after END. -/
def Obligations.ChecksAndFolds : Prop :=
  (∀ (s : State) (c : BitVec 12) (x : Core) (r : Run) (w : W64) (m : MSweep), s.memberOf r = some m →
    (Issues s c.toNat x r .abftAcc w → ∀ q la man, (x.tGet (srcA w)).tmeta = some q → r.latch = some la → la.man = some man →
      (x.tGet (srcA w)).src = .weight → la.berth = q.berth → r.foreign q.berth = false →
      ∃ r1 : Run, exec (.abftAcc c) s = .next (s.setCore c.toNat (issued x r1 (r.ip + 1))) ∧ r1 = { r with bl := r1.bl } ∧
        r1.bl.berth = some q.berth ∧
        (∀ i ∈ r.rowsOfHead q.head, (r1.row i).chk = fAdd .even (r.row i).chk (fSum 3 ((List.range q.count).map (fun j =>
          ((x.tGet (srcA w)).num i j).mul (m.geo.rowSum man q.head (q.first - la.first + j)))))) ∧
        (∀ i, i ∉ r.rowsOfHead q.head → r1.row i = r.row i)) ∧
    (Issues s c.toNat x r .abftAcc w → r.latch = none → exec (.abftAcc c) s = .next (s.raise c.toNat exTile w)) ∧
    (Issues s c.toNat x r .abftChk w →
      ∃ r1 : Run, exec (.abftChk c none false) s = .next (s.setCore c.toNat
          (issued (x.pPut (dstF w) ((List.range r.rows.length).all (fun i => !abftFails m x r (srcA w) i))) r1 (r.ip + 1))) ∧
        r1 = { r with bl := r1.bl } ∧
        (∀ i, (r1.row i).suspect = ((r.row i).suspect || (decide (i < r.rows.length) && abftFails m x r (srcA w) i)))) ∧
    (∀ (u : AccUpset) (y : Core), y = x.aPut (0x38 + u.plane % 4) { x.aGet (0x38 + u.plane % 4) with val := setNth (padTo 0 1024 (x.aGet (0x38 + u.plane % 4)).val) (32 * (u.row % 32) + u.col % 32) u.val } →
      Issues s c.toNat x r .abftChk w →
      ∃ r1 : Run, exec (.abftChk c (some u) false) s = .next (s.setCore c.toNat
          (issued (y.pPut (dstF w) ((List.range r.rows.length).all (fun i => !abftFails m y r (srcA w) i))) r1 (r.ip + 1))) ∧
        r1 = { r with bl := r1.bl } ∧
        (∀ i, (r1.row i).suspect = ((r.row i).suspect || (decide (i < r.rows.length) && abftFails m y r (srcA w) i)))) ∧
    (∀ u, Issues s c.toNat x r .abftChk w → exec (.abftChk c u true) s = .next (s.raise c.toNat exMemUncorr w))) ∧
  (∀ (s : State) (c : BitVec 12) (x : Core) (r : Run) (w : W64) (m : MSweep), s.memberOf r = some m →
    (Issues s c.toNat x r .mergePart w → ∀ t, r.ticket (x.sGet (srcA w)) = some t → r.foreign t.berth = false →
      ∃ (s1 : State) (r1 : Run), exec (.mergePart c) s = .next s1 ∧ (s1.core c.toNat).run = some r1 ∧ r1.bl = {} ∧ r1.ip = r.ip + 1 ∧
        r1.state = r.state.mapIdx (fun i p => foldRow x r m t (srcB w) (vlF .mergePart w) i p) ∧
        (∀ h ∈ r1.held, h.berth ≠ t.berth)) ∧
    (Issues s c.toNat x r .mergePart w → r.ticket (x.sGet (srcA w)) = none →
      exec (.mergePart c) s = .next (s.raise c.toNat exStore (x.sGet (srcA w)))) ∧
    (Issues s c.toNat x r .mergePartDrop w →
      exec (.mergePartDrop c) s = .next (s.setCore c.toNat
        (issued (x.resetLocal (srcB w) (vlF .mergePartDrop w)) { r with bl := {} } (r.ip + 1)))) ∧
    (Issues s c.toNat x r .mergePartR w → ∀ a b n, a = (x.sGet (srcA w)).toNat → b = (x.sGet (srcB w)).toNat → n = 128 + 4 * m.d →
      storeOk a n = true → localOk b n = true → a % 128 = 0 → b % 128 = 0 →
      ((recOf (x.readLocal a n) m.d).sweep % 2 ^ 24 = (recOf (x.readLocal b n) m.d).sweep % 2 ^ 24 →
        (recOf (x.readLocal a n) m.d).seq = (recOf (x.readLocal b n) m.d).seq →
        (recOf (x.readLocal a n) m.d).qid % 2 ^ 24 = (recOf (x.readLocal b n) m.d).qid % 2 ^ 24 →
        exec (.mergePartR c) s = .next (s.setCore c.toNat (issued (x.writeLocal a (recBytes
          (nanIfBad (mergeRec selfPkg (recOf (x.readLocal a n) m.d) (recOf (x.readLocal b n) m.d))))) r (r.ip + 1)))) ∧
      ((recOf (x.readLocal a n) m.d).seq ≠ (recOf (x.readLocal b n) m.d).seq →
        exec (.mergePartR c) s = .next (s.raise c.toNat exMismatch (BitVec.ofNat 64 a)))) ∧
    (Issues s c.toNat x r .emitPart w → r.endTaken = true → r.emitted = false → r.held = [] →
      exec (.emitPart c) s = .next ((s.setMember { m with runRecs := m.runRecs ++
        [{ region := regionOf c.toNat, group := r.group, core := c.toNat, order := r.order, recs := r.state }] }).setCore c.toNat
          (issued x { r with emitted := true } (r.ip + 1)))) ∧
    (Issues s c.toNat x r .emitPart w → r.endTaken = true → r.emitted = true →
      exec (.emitPart c) s = .next (s.raise c.toNat exDupEmit (BitVec.ofNat 64 r.ip))))

/-- R142, R260 to R263: outside a hold and with no gated work, `ch.add`, `ch.set` and `ch.set.thr` on a chamber the basin owns change it and give
predicate 1, and on another chamber give 0 and change no chamber; `ch.wait` gives 1 at once where the counter has reached its value, 0 on a refused
chamber, and otherwise makes the core wait in the chamber until its timeout. R143, R144, R266: `at` gates the next chamber or fabric instruction until
its time; `until` waits and gives the time; a gated instruction enters the core's sluice of eight; `flight.arm` of a table that obeys the rules gives
a new handle, of one that does not 0; `flight.arm.cancel` drops the flight's unreleased entries and tells whether there were any. -/
def Obligations.ChamberAndTimedInstructions : Prop :=
  (∀ (s : State) (c : BitVec 12) (x : Core) (r : Run) (w : W64) (b ch : Nat), s.basinOf c.toNat = some b → ch = (x.sGet (srcA w)).toNat →
    x.sluice = [] → r.gate = none → r.hold = none → s.lockOwner ch = none →
    (∀ e ∈ ([(.chAdd c, .chAdd, .add (BitVec.ofNat 32 ((x.sGet (srcB w)).toNat + imm w % 2 ^ 32))),
        (.chSet c, .chSet, .set (BitVec.ofNat 32 (x.sGet (srcB w)).toNat)),
        (.chSetThr c, .chSetThr, .thr (BitVec.ofNat 32 (x.sGet (srcB w)).toNat))] : List (Instr × CoreOp × ChOp)),
      Issues s c.toNat x r e.2.1 w →
      (s.chRefuse b ch = none → (s.chamber ch).waiters = [] →
        ∃ t, exec e.1 s = .next t ∧ t.chamber ch = (s.chamber ch).apply e.2.2 ∧
          t.core c.toNat = issued (x.pPut (dstF w) true) r (r.ip + 1) ∧ t.dram = s.dram) ∧
      (s.chRefuse b ch ≠ none →
        exec e.1 s = .next (s.setCore c.toNat (issued (x.pPut (dstF w) false) r (r.ip + 1))))) ∧
    (Issues s c.toNat x r .chWait w → ∀ v, v = BitVec.ofNat 32 ((x.sGet (srcB w)).toNat + imm w % 2 ^ 32) →
      (s.chRefuse b ch ≠ none → exec (.chWait c) s = .next (s.setCore c.toNat (issued (x.pPut (dstF w) false) r (r.ip + 1)))) ∧
      (s.chRefuse b ch = none → ((s.chamber ch).counter - v).toNat < 2 ^ 31 →
        exec (.chWait c) s = .next (s.setCore c.toNat (issued (x.pPut (dstF w) true) r (r.ip + 1)))) ∧
      (s.chRefuse b ch = none → 2 ^ 31 ≤ ((s.chamber ch).counter - v).toNat →
        ∃ t r1, exec (.chWait c) s = .next t ∧ (t.core c.toNat).run = some r1 ∧ r1.ip = r.ip ∧
          r1.wait = some { ch := ch, v := v, until_ := s.chDeadline, pD := dstF w } ∧
          (t.chamber ch).waiters = (s.chamber ch).waiters ++ [{ src := .core c.toNat, v := v, until_ := s.chDeadline }]))) ∧
  (∀ (s : State) (c : BitVec 12) (x : Core) (r : Run) (w : W64),
    (Issues s c.toNat x r .atGate w →
      exec (.atGate c) s = .next (s.setCore c.toNat (issued x { r with gate := some (x.sGet (srcA w) + simm w).toNat } (r.ip + 1)))) ∧
    (Issues s c.toNat x r .untilTime w → (x.sGet (srcA w)).toNat ≤ s.now →
      exec (.untilTime c) s = .next (s.setCore c.toNat (issued (x.sPut (dstF w) (BitVec.ofNat 64 s.now)) r (r.ip + 1)))) ∧
    (Issues s c.toNat x r .untilTime w → s.now < (x.sGet (srcA w)).toNat → exec (.untilTime c) s = .next s) ∧
    (Issues s c.toNat x r .chAdd w → ∀ due, r.gate = some due → s.now < due → x.sluice.length < 8 → r.hold = none →
      ∃ g, exec (.chAdd c) s = .next (s.setCore c.toNat
        (issued { x with sluice := x.sluice ++ [{ time := due, op := g }] } { r with gate := none } (r.ip + 1)))) ∧
    (Issues s c.toNat x r .flightArm w → ∀ a, a = (x.sGet (srcA w)).toNat → localOk a 16 = true →
      localOk a (16 + 16 * min 16 (leNat (x.readLocal a 4))) = true →
      (∀ es, flightTable x r.iflags a (x.sGet (srcB w)).toNat = some es → x.flights.length < 4 →
        exec (.flightArm c) s = .next (({ s with fab := { s.fab with handles := s.fab.handles + 1 } } : State).setCore c.toNat
          (issued (Core.sPut { x with flights := x.flights ++ [{ handle := s.fab.handles + 1, left := es }] } (dstF w)
            (BitVec.ofNat 64 (s.fab.handles + 1))) r (r.ip + 1)))) ∧
      (flightTable x r.iflags a (x.sGet (srcB w)).toNat = none ∨ 4 ≤ x.flights.length →
        exec (.flightArm c) s = .next (s.setCore c.toNat (issued (x.sPut (dstF w) 0) r (r.ip + 1))))) ∧
    (Issues s c.toNat x r .flightArmCancel w → ∀ id, id = (x.sGet (srcA w)).toNat →
      exec (.flightArmCancel c) s = .next (s.setCore c.toNat
        (issued (Core.pPut { x with flights := x.flights.filter (fun f => decide (f.handle ≠ id)) } (dstF w)
          (x.flights.any (fun f => decide (f.handle = id) && !f.left.isEmpty))) r (r.ip + 1)))))

/-- R118, R145: a fabric instruction, outside a hold, ungated and in range, on a connection of its basin, is posted as a work request on the
connection and outstanding in the run until it completes; on a connection of another basin it completes at once with ACCESS_DENIED. R74, R146: in a
sweep with K = 0 `snd.scan` and `snd.top` write 0 at once. `snd.scan` scans at most n of the run's share, says how many, and 0 once the share is
exhausted, and waits while the member's sounding has no room yet; `snd.top` waits until the selection is fixed and then gives the number of berths
selected. -/
def Obligations.FabricAndSounding : Prop :=
  (∀ (s : State) (c : BitVec 12) (x : Core) (r : Run) (w : W64) (k : Conn),
    let a := x.sGet (srcA w)
    let b := x.sGet (srcB w)
    let conn := imm w % 2 ^ 24
    x.sluice = [] → r.gate = none → r.hold = none → alGet s.net.conns conn = some k →
    ∀ e ∈ ([(.fxPut c, .fxPut, 3), (.fxGet c, .fxGet, 1), (.fxAdd c, .fxAdd, 4), (.fxCas c, .fxCas, 5), (.fxFlush c, .fxFlush, 8)] :
        List (Instr × CoreOp × Nat)),
      Issues s c.toNat x r e.2.1 w → (e.2.2 = 3 → localOk b.toNat (8 * (imm w / 2 ^ 24 + 1)) = true ∧ b.toNat % 8 = 0) →
      (e.2.2 = 1 → storeOk b.toNat (8 * (imm w / 2 ^ 24 + 1)) = true ∧ b.toNat % 8 = 0) →
      (k.st ≠ .closed → s.basinOf c.toNat = some k.basin →
        ∃ t wr r1, exec e.1 s = .next t ∧ (t.conn conn).queue = k.queue ++ [wr] ∧ wr.op = e.2.2 ∧ (e.2.2 ≠ 8 → wr.raddr = a) ∧
          (t.core c.toNat).run = some r1 ∧ r1.ip = r.ip + 1 ∧ (∃ f ∈ r1.fx, f.dst = dstF w ∧ f.id = s.fab.handles)) ∧
      (k.st = .closed ∨ s.basinOf c.toNat ≠ some k.basin →
        ∃ t r1, exec e.1 s = .next t ∧ (t.core c.toNat).run = some r1 ∧ r1.ip = r.ip + 1 ∧ t.net = s.net ∧
          (e.2.2 = 3 ∨ e.2.2 = 1 ∨ e.2.2 = 8 → 0 < dstF w → (t.core c.toNat).sGet (dstF w) = BitVec.ofNat 64 stAccessDenied) ∧
          (e.2.2 = 4 ∨ e.2.2 = 5 → 0 < imm w / 2 ^ 24 % 8 → (t.core c.toNat).pGet (imm w / 2 ^ 24 % 8) = false))) ∧
  (∀ (s : State) (c : BitVec 12) (x : Core) (r : Run) (w : W64) (m : MSweep), s.memberOf r = some m →
    (m.desc.k = 0 → ∀ e ∈ ([(.sndScan c, .sndScan), (.sndTop c, .sndTop)] : List (Instr × CoreOp)), Issues s c.toNat x r e.2 w →
      exec e.1 s = .next (s.setCore c.toNat (issued (x.sPut (dstF w) 0) r (r.ip + 1)))) ∧
    (m.desc.k ≠ 0 → ∀ d, m.snd = some d →
      (Issues s c.toNat x r .sndScan w → x.spanOk m (srcA w) = true →
        (d.room = false → exec (.sndScan c) s = .next s) ∧
        (d.room = true → ∃ t k, exec (.sndScan c) s = .next t ∧ k ≤ imm w % 512 ∧ t.core c.toNat = issued (x.sPut (dstF w) (BitVec.ofNat 64 k)) r (r.ip + 1) ∧
          (d.coreShare.drop (alGetD d.taken r.group 0) = [] → k = 0))) ∧
      (Issues s c.toNat x r .sndScan w → x.spanOk m (srcA w) = false → exec (.sndScan c) s = .next (s.raise c.toNat exTile w)) ∧
      (Issues s c.toNat x r .sndTop w →
        (d.fixed = true → exec (.sndTop c) s = .next (s.setCore c.toNat (issued (x.sPut (dstF w) (BitVec.ofNat 64 d.selectedCount)) r (r.ip + 1)))) ∧
        (d.fixed = false → exec (.sndTop c) s = .next s))))

/-- R262: a chamber fires when an operation makes COUNTER reach THRESHOLD from a value that had not reached it, or when FIRE_EN is set while it has
and FIRED is clear; firing sets FIRED and, with FIRE_EN, raises the vector of CH_CFG; a chamber whose FIRED is set does not fire again until it is
cleared. -/
def Obligations.ChamberFires : Prop :=
  let has (c : Chamber) : Prop := (c.counter - c.threshold).toNat < 2 ^ 31
  (∀ (c : Chamber) (op : ChOp), (c.apply op).fired = true ↔ c.fired = true ∨ (¬ has c ∧ has (c.apply op))) ∧
  (∀ (s : State) (ch : Nat) (op : ChOp), (s.chamber ch).waiters = [] → let c := s.chamber ch
    (¬ has c → has (c.apply op) → c.fired = false → c.fireEn = true → s.chEffect ch op = (s.setChamber ch (c.apply op)).raiseMsix c.vector) ∧
    ((has c ∨ ¬ has (c.apply op) ∨ c.fired = true ∨ c.fireEn = false) → s.chEffect ch op = s.setChamber ch (c.apply op))) ∧
  (∀ (s : State) (v : BitVec 64), s.inService = true → ∀ (ch : Nat) (c c1 : Chamber), ch = s.fld rChSel 0 16 → c = s.chamber ch →
    c1 = { c with fireEn := decide (fld v 0 1 = 1), vector := fld v 1 6, fired := c.fired && decide (fld v 7 1 = 0) } →
    (c.fireEn = false → c1.fireEn = true → has c → c1.fired = false → exec (.chCfgWrite v) s = .next ((s.setChamber ch { c1 with fired := true }).raiseMsix c1.vector)) ∧
    ((c.fireEn = true ∨ c1.fireEn = false ∨ ¬ has c ∨ c1.fired = true) → exec (.chCfgWrite v) s = .next (s.setChamber ch c1)))

/-- R221: an entry matches a search exactly when it is not FREE and not retired and every key bit that its care mask and the search mask both take has
the value of the search key. -/
def Obligations.LedgerMatches : Prop :=
  ∀ (e : LEntry) (key mask : BitVec 128),
    e.hits key mask = true ↔ e.key.toNat % 16 ≠ 0 ∧ e.retired = false ∧ ∀ b < 128, e.care.getLsbD b = true → mask.getLsbD b = true → e.key.getLsbD b = key.getLsbD b

/-- R343: event and exception records go to EVT_TAIL and EXC_TAIL, which advance; a full ring discards the record and counts it in LOST; the host
frees entries by advancing EVT_HEAD or EXC_HEAD. -/
def Obligations.EventRings : Prop :=
  (∀ (s : State) (b : Nat) (rec : List Byte), rec.length = 32 → let bs := s.basin b
    ((bs.evt.tail + 1) % 1024 ≠ bs.evt.head →
      ((s.event b rec).basin b).evt = { bs.evt with tail := (bs.evt.tail + 1) % 1024 } ∧
      (Memory.wf s.dram = true → memReadN (s.event b rec).dram (bs.hostBase * 0x14000 + 0x10000 + 32 * bs.evt.tail) 32 = rec)) ∧
    ((bs.evt.tail + 1) % 1024 = bs.evt.head → (s.event b rec).dram = s.dram ∧ ((s.event b rec).basin b).evt = { bs.evt with lost := satAdd 16 bs.evt.lost 1 }) ∧
    ((bs.exc.tail + 1) % 1024 ≠ bs.exc.head →
      ((s.excLog b rec).basin b).exc = { bs.exc with tail := (bs.exc.tail + 1) % 1024 } ∧
      (Memory.wf s.dram = true → memReadN (s.excLog b rec).dram (bs.hostBase * 0x14000 + 0x18000 + 32 * bs.exc.tail) 32 = rec)) ∧
    ((bs.exc.tail + 1) % 1024 = bs.exc.head → (s.excLog b rec).dram = s.dram ∧ ((s.excLog b rec).basin b).exc = { bs.exc with lost := satAdd 16 bs.exc.lost 1 })) ∧
  (∀ (s : State) (b : BitVec 6) (v : BitVec 64), s.inService = true → (s.basin b.toNat).st ≠ 0 →
    (moves 10 (s.basin b.toNat).evt.head (fld v 0 10) (s.basin b.toNat).evt.tail = true → ∃ t, exec (.evtHead b v) s = .next t ∧ (t.basin b.toNat).evt.head = fld v 0 10) ∧
    (moves 10 (s.basin b.toNat).exc.head (fld v 0 10) (s.basin b.toNat).exc.tail = true → ∃ t, exec (.excHead b v) s = .next t ∧ (t.basin b.toNat).exc.head = fld v 0 10))

/-- R449: EXTEST, CLAMP and HIGHZ are accepted in RECOVERY or WAIT_IMAGE alone; elsewhere the TAP loads BYPASS and sets EXTEST_REFUSED; once one is
accepted no image is loaded until the next pin reset. -/
def Obligations.BoundaryDriving : Prop :=
  ∀ (s : State),
    let sel (code : Nat) (out : BitVec 128) (j : Jtag) : State := { s with jtag := { j with ir := code, out := out }, sent := s.sent ++ [.tap out] }
    (∀ e ∈ ([(.extest, 0x00, s.jtag.bound), (.clamp, 0x03, 0), (.highz, 0x04, 0)] : List (Instr × Nat × BitVec 128)),
      ((s.mode = 3 ∨ s.bootStage = 1) → exec e.1 s = .next (sel e.2.1 e.2.2 { s.jtag with blocked := true })) ∧
      (s.mode ≠ 3 → s.bootStage ≠ 1 → exec e.1 s = .next ((sel 0xFF 0 s.jtag).setFld rDbgStat 1 1 1))) ∧
    (s.jtag.blocked = true → s.takesWrite rBootCmd = true → exec .bootLoad s = .next s) ∧
    (s.jtag.blocked = true → (s.resetPart 3).jtag.blocked = true ∧ exec .brownOut s = .next (s.resetPart 5) ∧ (s.resetPart 5).jtag.blocked = true) ∧
    (s.boot.inReset = false → ∀ w : BitVec 32, 5000 ≤ w.toNat → ∃ t, exec (.pinReset w) s = .next t ∧ t.jtag.blocked = false)

/-- R6, R7: a host write of a register without an action of its own, where the window takes it: RW fields take the bits written, except values the
register's map marks reserved, W1C fields lose the bits written as 1, all other fields and registers stay. R6, R7, R326, R369: a register read answers
its value and clears its RC fields, and no others; outside the blocks served, or off a multiple of 8, it answers 0 and changes nothing; in ERROR it
completes with Unsupported Request and counts in NON_IDE. R22, R23, R24, R323, R369: the end of a pace window leaves each region in service its step
count, SEQ raised and VALID, and the slowest as the part's pace; a write of BAR2 inside the host area or mooring share of a composed basin stores its
bytes, and outside them is counted and discarded; a frozen configuration change takes the interface to ERROR. -/
def Obligations.RegisterAccess : Prop :=
  (∀ (s : State) (val : W64), ∀ off ∈ [rHubPaceCtl, rHubHostif, rTrnCtl, rTrnCc, rTrfDrr, rLdgCtl, rSndCtl, rBthCtl], s.takesWrite off = true →
    ∃ v, exec (.registerWrite .host (BitVec.ofNat 24 off) val) s = .next (s.setReg off v) ∧
      (∀ f ∈ regFields off,
        (f.acc = .RW → fld v f.lo f.w = fld val f.lo f.w ∨
          (fld v f.lo f.w = fld (s.reg off) f.lo f.w ∧ ∃ x, reservedIn off f.lo (fld val f.lo f.w) x = true)) ∧
        (f.acc = .W1C → ∀ i < f.w, (fld v f.lo f.w).testBit i = ((fld (s.reg off) f.lo f.w).testBit i && !(fld val f.lo f.w).testBit i)) ∧
        (f.acc ≠ .RW → f.acc ≠ .W1C → fld v f.lo f.w = fld (s.reg off) f.lo f.w))) ∧
  (∀ (s : State),
    (∀ off ∈ [rHubHostif, rSecErr], s.blockServed off = true → s.sec.tdisp ≠ 3 → s.fab.svc = none →
      ∃ t, exec (.registerRead .host (BitVec.ofNat 24 off)) s = .next t ∧ t.sent = s.sent ++ [.read (s.reg off)] ∧
        (∀ f ∈ regFields off, fld (t.reg off) f.lo f.w = if f.acc = .RC then 0 else fld (s.reg off) f.lo f.w) ∧
        t.dram = s.dram ∧ ∀ o, o ≠ off → t.reg o = s.reg o) ∧
    (∀ off : BitVec 24, s.sec.tdisp ≠ 3 → s.fab.svc = none → (s.blockServed off.toNat = false ∨ off.toNat % 8 ≠ 0) →
      exec (.registerRead .host off) s = .next (s.send (.read 0))) ∧
    (∀ off : BitVec 24, s.sec.tdisp = 3 → ∃ t, exec (.registerRead .host off) s = .next t ∧ t.sent = s.sent ++ [.unsupported] ∧
      t.fld rSecErr 32 32 = satAdd 32 (s.fld rSecErr 32 32) 1) ∧
    (∀ (off : BitVec 24) (val : W64), s.sec.tdisp = 3 → ∃ t, exec (.registerWrite .host off val) s = .next t ∧ t.sent = s.sent ∧
      t.fld rSecErr 32 32 = satAdd 32 (s.fld rSecErr 32 32) 1 ∧ ∀ o, o ≠ rSecErr → t.reg o = s.reg o) ∧
    (∀ (off : BitVec 24) (val : W64), s.sec.tdisp ≠ 3 → s.blockServed off.toNat = false → exec (.registerWrite .host off val) s = .next s)) ∧
  (∀ (s : State),
    (∀ counts, s.boot.inReset = false → ∃ t, exec (.paceWindowEnd counts) s = .next t ∧
      (∀ r < 32, (s.region r).out = false → (s.region r).midWindow = false → t.reg (rHubPaceReg + 8 * r) =
        pack 0 [(0, 32, nthD 0 counts r % 2 ^ 32), (32, 16, (s.fld (rHubPaceReg + 8 * r) 32 16 + 1) % 2 ^ 16), (48, 1, 1)]) ∧
      (∀ r < 32, (s.region r).out = true → t.fld (rHubPaceReg + 8 * r) 48 1 = 0) ∧
      (∀ r < 32, t.fld (rHubPaceReg + 8 * r) 48 1 = 1 →
        t.fld rHubPaceStat 0 16 ≤ t.fld (rHubPaceReg + 8 * r) 0 32 * 2 ^ 14 / (2 ^ t.fld rHubPaceCtl 0 4 * 10 ^ 6)) ∧
      t.dram = s.dram) ∧
    (∀ (off : BitVec 36) (data : List Byte) (ide : Bool), s.boot.inReset = false → s.sec.tdisp ≠ 3 → (s.sec.tdisp = 2 → ide = true) →
      (s.hostMay (imageAt + off.toNat) data.length = true →
        exec (.bar2Write off data ide) s = .next (s.setDram (memWriteL s.dram (imageAt + off.toNat) data))) ∧
      (s.hostMay (imageAt + off.toNat) data.length = false →
        exec (.bar2Write off data ide) s = .next (s.bump rHubHostif 32 16 1))) ∧
    (∀ (off : BitVec 36) (data : List Byte), s.boot.inReset = false → s.sec.tdisp = 2 → exec (.bar2Write off data false) s = .next (s.bump rSecErr 32 32 1)) ∧
    (s.sec.tdisp = 1 ∨ s.sec.tdisp = 2 → ∃ t, exec .frozenConfigChange s = .next t ∧ t.sec.tdisp = 3) ∧
    (s.sec.tdisp = 0 ∨ s.sec.tdisp = 3 → exec .frozenConfigChange s = .next s))

/-- R28, R330 to R334, R363: a SWEEP at the head of a ring is consumed where a local number is free, and not otherwise; a reserved OP, a refused
tenant, an unknown object, buffers outside the host area or a wrong field end it with the status the table gives; else a sweep with its descriptor,
its query buffer and the basin's next USE number is accepted under that number. R26, R29, R30: a merge slot reserved for a sweep of this part at its
own merge point opens its convoy and sends the arms; for a sweep of another package it opens the convoy with that package's times and answers that the
slot is reserved; with no room it waits. -/
def Obligations.SweepAcceptance : Prop :=
  (∀ (s : State) (b : BitVec 6) (r : BitVec 8),
    (s.nextSweep = none → exec (.sweep b r) s = .next s) ∧
    (∀ n, s.nextSweep = some n → s.front b.toNat r.toNat = none → exec (.sweep b r) s = .next s) ∧
    (∀ n d, s.nextSweep = some n → s.front b.toNat r.toNat = some d →
      let u := s.takeEntry b.toNat r.toNat
      let w := sweepDesc d.bytes
      (reservedOp d.op = true → exec (.sweep b r) s = .next (u.fin d stInvalidField 0)) ∧
      (d.op = 1 → ∀ e, u.tenantRefuse d.basin d.tenant = some e → exec (.sweep b r) s = .next (u.fin d e 0)) ∧
      (d.op = 1 → u.tenantRefuse d.basin d.tenant = none → u.obj d.tenant w.object = none →
        exec (.sweep b r) s = .next (u.fin d (if w.object = 0 then stInvalidField else stNotFound) 0)) ∧
      (∀ o, d.op = 1 → u.tenantRefuse d.basin d.tenant = none → u.obj d.tenant w.object = some o →
        ((u.inHost d.basin w.qbuf w.qlen = false ∨ u.inHost d.basin w.slot (max 64 w.slotLen) = false) →
          exec (.sweep b r) s = .next (u.fin d stAccessDenied 0)) ∧
        (u.inHost d.basin w.qbuf w.qlen = true → u.inHost d.basin w.slot (max 64 w.slotLen) = true →
          (sweepOk w o (u.buffer w.qbuf w.qlen) = false → exec (.sweep b r) s = .next (u.fin d stInvalidField 0)) ∧
          (sweepOk w o (u.buffer w.qbuf w.qlen) = true →
            ∃ a : ASweep, a.num = n ∧ a.basin = d.basin ∧ a.ring = d.ring ∧ a.wrid = d.wrid ∧ a.tenant = d.tenant ∧ a.desc = w ∧
              a.qbuf = u.buffer w.qbuf w.qlen ∧ a.useSeq = ((u.basin d.basin).useCount + 1) % 2 ^ 16 ∧
              exec (.sweep b r) s = .next (((u.setBasin d.basin { u.basin d.basin with useCount := a.useSeq }).showSweep a).formConvoy a)))))) ∧
  (∀ (s : State) (gsid : BitVec 24), s.hears (gsid.toNat / 2 ^ 14) = true →
    (∀ a o q rest, gsid.toNat / 2 ^ 14 = selfPkg → s.sweepNo (gsid.toNat % 2 ^ 14) = some a → a.state < 5 → a.times = none → a.members ≠ [] →
      a.mergePkg = selfPkg → s.obj a.tenant a.desc.object = some o → s.sweeps.poolQ = q :: rest → q.gsid = gsid.toNat →
      (s.sweeps.poolUsed + q.bytes ≤ poolSize → exec (.mergeSlotReserve gsid) s = .next ((s.openConvoy (convoyOf a o)).sendArms a)) ∧
      (poolSize < s.sweeps.poolUsed + q.bytes → exec (.mergeSlotReserve gsid) s = .next s)) ∧
    (∀ (r : _), gsid.toNat / 2 ^ 14 ≠ selfPkg → Config.peerRequest gsid.toNat s.fresh = some r → s.sweeps.poolQ = [] →
      s.convoy gsid.toNat = none → s.expelled = false →
      s.sweeps.poolUsed + slotBytes r.members.length r.desc.nq (r.nkv * r.gq) r.d ≤ poolSize →
      ∃ t c, exec (.mergeSlotReserve gsid) s = .next t ∧ t.convoy gsid.toNat = some c ∧ c.seq = r.seq ∧ c.desc = r.desc ∧ c.times = some r.times ∧
        t.sweeps.poolUsed = s.sweeps.poolUsed + slotBytes r.members.length r.desc.nq (r.nkv * r.gq) r.d ∧
        t.sent = s.sent ++ [.reserved (gsid.toNat / 2 ^ 14) gsid.toNat]))

/-- R26, R28, R31, R43, R68: what a convoy's messages do. An ARM is taken by an ACTIVE tenant's member once; an ARM_ACK of a forwarded member is kept
by its member, and of any other by the convoy; a BACKUP makes a twin member; a stale map makes the merge point arm the package named; a message of an
expelled package is not taken. -/
def Obligations.ConvoyMessages : Prop :=
  ∀ (s : State),
    (∀ m : ArmMsg, s.hears m.src = true → exec (.arm m) s = .next (s.armReceive m none)) ∧
    (∀ m : ArmMsg, s.hears m.src = true → (s.sawEpoch m.epoch).active m.desc.tenant = false → exec (.arm m) s = .next (s.sawEpoch m.epoch)) ∧
    (∀ (m : ArmAckMsg) (x : MSweep), s.hears m.src = true → s.member m.gsid m.seq false = some x → x.member = m.member →
      x.fwd.any (fun f => decide (f.pkg = m.src) && f.ack.isNone) = true →
      ∃ t y, exec (.armAck m) s = .next t ∧ t.member m.gsid m.seq false = some y ∧ y = { x with fwd := y.fwd } ∧
        ∀ f ∈ y.fwd, f.pkg = m.src → f.ack = some (m.count, m.kappa)) ∧
    (∀ (m : ArmAckMsg) (c : Convoy) (x : MSlot), s.hears m.src = true → s.member m.gsid m.seq false = none → s.convoy m.gsid = some c →
      c.gsid = m.gsid → c.slots[m.member]? = some x → c.seq = m.seq → c.finished = false → s.sweepOfGsid m.gsid = none →
      exec (.armAck m) s = .next (s.setConvoy
        { c with slots := setNth c.slots m.member { x with pkg := m.src, ack := some (m.count, m.kappa) } })) ∧
    (∀ (gsid : BitVec 24) (seq : BitVec 32) (m : BitVec 10) (ref : BitVec 64) (a : ASweep) (o : Obj), s.hears selfPkg = true →
      s.sweepOfGsid gsid.toNat = some a → a.seq = seq.toNat → a.state < 5 → m.toNat < a.members.length → s.obj a.tenant a.desc.object = some o →
      s.convoy gsid.toNat = none →
      (ref.toNat < 1024 → exec (.staleMap gsid seq m ref) s =
        .next ((s.rehome ⟨a.tenant, a.desc.object, a.desc.layer⟩ (nthD 0 a.members m.toNat) ref.toNat (a.desc.lo / o.p) (a.desc.hi / o.p)).rearm
          a m.toNat ref.toNat)) ∧
      (1024 ≤ ref.toNat → a.lost.contains m.toNat = false → ∃ t, exec (.staleMap gsid seq m ref) s = .next t ∧
        t.sweepNo a.num = some { a with lost := a.lost ++ [m.toNat] })) ∧
    (∀ (m : BackupMsg) (attrs : _) (img : _), s.hears m.arm.src = true → m.arm.epoch = s.epoch →
      alGet (s.jsrc m.arm.desc.tenant).objects m.arm.desc.object = some attrs → s.active m.arm.desc.tenant = true →
      s.member m.arm.gsid m.arm.seq true = none → s.now < m.arm.times.t →
      (∀ b, s.bindProg b m.arm.desc.prog (objOf b attrs).d m.arm.desc.k = some img) →
      ∃ t x, exec (.backup m) s = .next t ∧ t.member m.arm.gsid m.arm.seq true = some x ∧ x.desc = m.arm.desc ∧ x.stage = 0) ∧
    (∀ (m : ArmMsg), s.hears m.src = false → exec (.arm m) s = .next s) ∧
    (∀ (m : ArmAckMsg), s.hears m.src = false → exec (.armAck m) s = .next s) ∧
    (∀ (m : BackupMsg), s.hears m.arm.src = false → exec (.backup m) s = .next s) ∧
    (∀ (m : PartMsg), s.hears m.src = false → exec (.part m) s = .next s)

/-- R55, R56, R60, R65, R87: a launched member passes its points. At T + grace an undecided berth with no payload in a bay takes MANIFEST or stays; at
C the member is cut; when its regions are in it sends its records to the merge point and is done; a region's partial is the merge of its runs' records
of the group. R64 to R69: at the merge point. A slot whose records have not come by B is backed up by the twin of its member; at D the convoy is
finished with a SKIP record, of the positions the ledger counts, in every slot still empty, and gives its bytes back; a record of a slot is kept, in
order, until the slot is whole; a record of a convoy already finished is counted and discarded. -/
def Obligations.MemberAndMergePoint : Prop :=
  (∀ (s : State) (gsid : BitVec 24) (seq : BitVec 32) (twin : Bool) (m : MSweep), s.member gsid.toNat seq.toNat twin = some m →
    (m.stage = 1 → m.graceDone = false → m.times.t + m.grace ≤ s.now →
      ∃ t y, exec (.graceExpiry gsid seq twin) s = .next t ∧ t.member gsid.toNat seq.toNat twin = some y ∧
        y = { m with graceDone := true, plan := y.plan } ∧ y.plan.length = m.plan.length ∧
        ∀ (i : Nat) (p q : PBerth), m.plan[i]? = some p → y.plan[i]? = some q → q = p ∨ (p.mode = none ∧ q = { p with mode := some 1 })) ∧
    (m.stage = 1 → s.now < m.times.t + m.grace → exec (.graceExpiry gsid seq twin) s = .next s) ∧
    (m.stage = 1 → m.times.c ≤ s.now → m.live = [] → s.obj m.tenant m.desc.object = none →
      exec (.memberCutoff gsid seq twin) s = .next (s.setMember { m with stage := 2 })) ∧
    (m.stage = 1 → m.times.c ≤ s.now → twin = true → exec (.memberCutoff gsid seq twin) s =
      .next (m.live.foldl State.cutRun (s.setMember { m with stage := 2 }))) ∧
    (m.stage = 1 → s.now < m.times.c → exec (.memberCutoff gsid seq twin) s = .next s) ∧
    (m.stage = 1 ∨ m.stage = 2 → m.overdue = false → m.regionsIn = true → m.fwd = [] → m.incs = [] → m.snd = none → twin = false →
      m.mergeTo ≠ selfPkg → s.expelled = false →
      ∃ t, exec (.memberRecordsSend gsid seq twin) s = .next t ∧
        t.member gsid.toNat seq.toNat twin = some { m with stage := 3 } ∧
        t.sent = s.sent ++ m.ownRecs.zipIdx.map (fun p => OutMsg.part m.mergeTo
          { gsid := m.gsid, seq := m.seq, member := m.member, src := selfPkg, twin := false, row := p.2,
            body := { p.1 with part := if p.1.merged then p.1.part else selfPkg, member := if p.1.merged then p.1.member else m.member } })) ∧
    (m.stage = 1 ∨ m.stage = 2 → m.regionsIn = false → exec (.memberRecordsSend gsid seq twin) s = .next s) ∧
    (∀ (region : BitVec 5) (group : BitVec 16),
      let mine := (m.runRecs.filter (fun r => decide (r.region = region.toNat) && decide (r.group = group.toNat))).foldr runInsert []
      m.stage = 1 ∨ m.stage = 2 → mine ≠ [] → alGet m.regionRecs (region.toNat, group.toNat) = none → m.groupHanded group.toNat = true →
      s.groupRuns m group.toNat (some region.toNat) = [] → group.toNat < m.groups →
      ∃ t y, exec (.regionPartialMerge gsid seq twin region group) s = .next t ∧ t.member gsid.toNat seq.toNat twin = some y ∧
        alGet y.regionRecs (region.toNat, group.toNat) = some (mergeRows selfPkg (mine.map (·.recs)))) ∧
    (m.stage < 3 → twin = true → s.hears selfPkg = true → exec (.cancelMsg gsid seq) s = .next (s.stopMember m)) ∧
    (m.stage < 3 → m.live = [] → m.snd = none → twin = true → s.hears selfPkg = true →
      exec (.cancelMsg gsid seq) s = .next (s.setMember { m with stage := 4, live := [] })) ∧
    (3 ≤ m.stage → twin = false → s.member gsid.toNat seq.toNat true = none → exec (.cancelMsg gsid seq) s = .next s)) ∧
  (∀ (s : State) (gsid : BitVec 24) (seq : BitVec 32) (c : Convoy), s.convoy gsid.toNat = some c → c.gsid = gsid.toNat → c.seq = seq.toNat →
    (∀ t x tw b, c.times = some t → t.b = some b → b ≤ s.now → c.finished = false → c.slots = [x] → x.st = 0 → x.backup = false →
      Config.twinOf s.epoch x.pkg = some tw → s.expelled = false →
      ∃ u, exec (.backupPoint gsid seq) s = .next u ∧ u.convoy gsid.toNat = some { c with slots := [{ x with backup := true }] } ∧
        u.sent = s.sent ++ [.backup tw ⟨⟨c.gsid, c.seq, 0, c.origin, selfPkg, s.epoch, false, c.late, c.desc, c.qbuf, t⟩, x.ack⟩]) ∧
    (∀ t x b, c.times = some t → t.b = some b → b ≤ s.now → c.finished = false → c.slots = [x] → x.st = 0 → x.backup = false →
      Config.twinOf s.epoch x.pkg = none →
      exec (.backupPoint gsid seq) s = .next (s.setConvoy { c with slots := [{ x with noTwin := true }] })) ∧
    (∀ t b, c.times = some t → t.b = some b → s.now < b → exec (.backupPoint gsid seq) s = .next s) ∧
    (∀ t, c.times = some t → t.d ≤ s.now → c.finished = false →
      exec (.mergeDeadline gsid seq) s = .next (s.finish c (c.slots.map (fun x => s.ledgerCount c x.pkg)))) ∧
    (∀ t, c.times = some t → t.d ≤ s.now → c.finished = false → c.origin ≠ selfPkg → c.desc.mergePoint ≠ 0x7FF →
      ∃ u, exec (.mergeDeadline gsid seq) s = .next u ∧ (∃ c', u.convoy gsid.toNat = some c' ∧ c'.finished = true) ∧
        u.sweeps.poolUsed = s.sweeps.poolUsed - c.bytes) ∧
    (∀ t, c.times = some t → s.now < t.d → exec (.mergeDeadline gsid seq) s = .next s) ∧
    (c.finished = true → exec (.mergeDeadline gsid seq) s = .next s) ∧
    (∀ (m : PartMsg), s.hears m.src = true → s.member m.gsid m.seq false = none → m.gsid = gsid.toNat → ∀ t x, c.times = some t → c.slots[m.member]? = some x →
      (c.finished = true → exec (.part m) s = .next (s.setConvoy { c with discard := c.discard + 1 })) ∧
      (c.finished = false → m.seq = c.seq → m.body.sweep = c.gsid → m.body.seq = c.seq → x.pkg = m.src → m.twin = false → m.row < c.rows.length →
        s.now < t.d → (alPut (alGetD x.landing (m.src, false) []) m.row m.body).length < c.rows.length →
        exec (.part m) s = .next (s.setConvoy { c with slots := setNth c.slots m.member { x with
          landing := alPut x.landing (m.src, false) (alPut (alGetD x.landing (m.src, false) []) m.row m.body) } }))))

/-- R63, R67, R339, R340: at the origin. A publication of the sweep writes its records in the half of the slot that is not current, flips HALF, raises
PUB and counts the members in FILLED; a last one makes the sweep FINAL; a merge point lost for 2^24 ticks past D ends the sweep as failed with
MERGE_LOST. -/
def Obligations.OriginEvents : Prop :=
  ∀ (s : State) (a : ASweep), s.sweepNo a.num = some a → a.num < 2 ^ 14 → selfPkg < 1024 →
    (∀ m : PubMsg, s.hears selfPkg = true → m.gsid = gsidOf selfPkg a.num → a.seq = m.seq →
      exec (.publicationArrival m) s = .next (s.writePub a m.recs m.filled m.final) ∧
      (a.state < 4 → m.final = false → m.filled < a.members.length → m.recs ≠ a.lastRecs →
        ∃ u a', exec (.publicationArrival m) s = .next u ∧ u.sweepNo a.num = some a' ∧ a'.state = 4 ∧ a'.filled = m.filled ∧ a'.half = !a.half ∧
          a'.pub = (a.pub + 1) % 256 ∧
          u.dram = memWriteL (memWriteL s.dram (a.desc.slot + 0x40 + (if a.half then 0 else a.rBytes)) (m.recs.flatMap recBytes)) a.desc.slot a'.header)) ∧
    (∀ m : PubMsg, s.hears selfPkg = true → m.gsid = gsidOf selfPkg a.num → a.seq = m.seq → 5 ≤ a.state → exec (.publicationArrival m) s = .next s) ∧
    (∀ (gsid : BitVec 24) (t : Times), gsid.toNat = gsidOf selfPkg a.num → a.times = some t → a.state < 5 → a.desc.mergePoint ≠ 0x7FF →
      a.desc.mergePoint ≠ selfPkg →
      (t.d + 2 ^ 24 ≤ s.now → ∃ u, exec (.mergeLostTimeout gsid) s = .next u ∧ u.sweepNo a.num = some { a with state := 6, code := stMergeLost }) ∧
      (s.now < t.d + 2 ^ 24 → exec (.mergeLostTimeout gsid) s = .next s))

/-- R74 to R82, R90, R98, R101, R106: a run started on a free core of the member's basin has its header and the image's data in the store, registers
at zero, and stands at the entry point; past D a run is overdue and raises OVERDUE. R268, R269, R274, R275: the sluice lets a gated operation go when
local fabric time has passed its time, and not before: a sweep's launch, the head of a core's sluice, the next entry of a core's flight and of a host
flight. -/
def Obligations.RunsAndReleases : Prop :=
  (∀ (s : State) (c : BitVec 12),
    (∀ (gsid : BitVec 24) (seq : BitVec 32) (twin : Bool) (g : BitVec 16) (m : MSweep), s.member gsid.toNat seq.toNat twin = some m →
      m.stage = 1 ∨ m.stage = 2 → g.toNat < m.groups → s.coreFree c.toNat m.basin = true → m.overdue = false → s.now < m.times.d →
      ∃ t r, exec (.runStart c gsid seq twin g .first) s = .next t ∧
        t.core c.toNat = { hdr := runHeader m g.toNat (m.rows g.toNat) .first, ls := s.runStore m, run := some r, breaks := (s.core c.toNat).breaks } ∧
        r.ip = m.entry ∧ r.image = m.image ∧ r.steps = 0 ∧ r.hold = none ∧ r.held = [] ∧ r.queue = [] ∧ r.group = g.toNat ∧ r.gsid = m.gsid ∧ r.seq = m.seq ∧
        r.rows = m.rows g.toNat ∧ r.state = (m.rows g.toNat).map m.blank ∧
        t.member gsid.toNat seq.toNat twin = some { m with nextOrder := m.nextOrder + 1, live := m.live ++ [c.toNat] } ∧
        t.dram = s.dram ∧ t.regs = s.regs ∧ ∀ k, k ≠ c.toNat → t.core k = s.core k) ∧
    (∀ (gsid : BitVec 24) (seq : BitVec 32) (twin : Bool) (g : BitVec 16) (kind : RunKind) (m : MSweep), s.member gsid.toNat seq.toNat twin = some m →
      m.stage = 1 ∨ m.stage = 2 → (m.groups ≤ g.toNat ∨ s.coreFree c.toNat m.basin = false ∨ m.times.d ≤ s.now) →
      exec (.runStart c gsid seq twin g kind) s = .next s) ∧
    (∀ r m, (s.core c.toNat).run = some r → s.memberOf r = some m →
      (m.times.d ≤ s.now → exec (.runOverdue c) s = .next (s.raise c.toNat exOverdue 0)) ∧
      (s.now < m.times.d → exec (.runOverdue c) s = .next s))) ∧
  (∀ (s : State),
    (∀ gsid seq m, s.member gsid seq true = some m → m.stage = 0 → m.desc.k = 0 → (s.planOf m).any (fun p => p.flash && decide (p.mode ≠ some 2)) = false →
      (m.times.t ≤ s.now → exec (.sluiceRelease (.convoy gsid seq true)) s = .next (s.setMember { m with stage := 1, plan := s.planOf m })) ∧
      (s.now < m.times.t → exec (.sluiceRelease (.convoy gsid seq true)) s = .next s)) ∧
    (∀ c g gs, (s.core c).sluice = g :: gs →
      (g.time ≤ s.now → exec (.sluiceRelease (.core c)) s = .next ((s.setCore c { s.core c with sluice := gs }).gateEffect c g)) ∧
      (s.now < g.time → exec (.sluiceRelease (.core c)) s = .next s)) ∧
    (∀ c g gs p ch op, (s.core c).sluice = g :: gs → g.time ≤ s.now → g.op = .chamber p ch op → g.results = false → s.lockOwner ch = none →
      (s.chRefuse ((s.basinOf c).getD 64) ch = none → exec (.sluiceRelease (.core c)) s =
        .next ((s.setCore c { s.core c with sluice := gs }).chEffect ch op)) ∧
      (∀ e, s.chRefuse ((s.basinOf c).getD 64) ch = some e → exec (.sluiceRelease (.core c)) s =
        .next (s.setCore c { s.core c with sluice := gs }))) ∧
    (∀ c h f g, (s.core c).flights = [f] → f.handle = h → f.left = [g] →
      (g.time ≤ s.now → exec (.sluiceRelease (.coreFlight c h)) s = .next ((s.setCore c { s.core c with flights := [] }).gateEffect c g)) ∧
      (s.now < g.time → exec (.sluiceRelease (.coreFlight c h)) s = .next s)) ∧
    (∀ h f e rest, s.sweeps.flights = [f] → f.handle = h → f.left = e :: rest →
      (s.now < e.time → exec (.sluiceRelease (.hostFlight h)) s = .next s) ∧
      (e.time ≤ s.now → e.kind = 2 → s.lockOwner e.ch = none → s.chRefuse f.basin e.ch = none →
        exec (.sluiceRelease (.hostFlight h)) s = .next
          (({ s with sweeps := { s.sweeps with flights := [{ f with left := rest, released := f.released + 1 }] } } : State).chEffect e.ch (.add e.value)))))

/-- R87, R88, R154, R158, R161, R165: a page walk for a berth of a run's share hands it as the order of tickets and the decision of R87 say: dropped
from the plan, left for later, posted as a SKIP ticket, or staged from DRAM or flash; a berth already handed is left; a berth of another basin raises
BASIN. R160, R163, R167, R195, R197: completions of the tiers. A spilled leaf read back is a leaf in DRAM again, and its slot is freed with its last
leaf; an invalidation that has reached every PLB is taken from them; a stage whose reads have ended lands in its bay; a copy and a base berth are
dropped once unused for their times, and not before; a flash read for a manifest gives the berth its manifest. -/
def Obligations.WalksAndTiers : Prop :=
  (∀ (s : State) (core : BitVec 12) (berth : BitVec 25) (r : Run) (m : MSweep) (p : PBerth),
    let c := core.toNat
    let b := berth.toNat
    let basin := (s.basinOf c).getD 0
    let u := if m.twin then s else (s.adoptBasin (m.key b) basin).walked (clusterOf c) basin (m.key b)
    (s.core c).run = some r → s.memberOf r = some m → r.want.contains b = false → m.berth? b = some p →
    (p.handed.contains r.group = true → exec (.pageWalk core berth) s = .next u) ∧
    (p.handed.contains r.group = false → r.endTaken = false → alGet p.requeued r.group = none →
      (∀ e, m.twin = false → u.pte (m.key b) = some e → e.basin ≠ basin →
        exec (.pageWalk core berth) s = .next (u.raise c exBasin (BitVec.ofNat 64 b))) ∧
      ((m.twin = true ∨ ∀ e, u.pte (m.key b) = some e → e.basin = basin) →
        (u.inOrder m r.group p (u.choose m p) = false → exec (.pageWalk core berth) s = .next u) ∧
        (u.inOrder m r.group p (u.choose m p) = true →
          (u.choose m p = .gone → exec (.pageWalk core berth) s = .next (u.setMember { m with plan := m.plan.filter (fun q => decide (q.berth ≠ b)) })) ∧
          (u.choose m p = .wait → exec (.pageWalk core berth) s = .next u) ∧
          (u.choose m p = .skip → exec (.pageWalk core berth) s = .next (u.postMode c m r p 4 false)) ∧
          (u.choose m p = .dram ∨ u.choose m p = .copy → exec (.pageWalk core berth) s = .next (u.stage c m r b false false false)) ∧
          (u.choose m p = .flash → exec (.pageWalk core berth) s = .next (u.stage c m r b true false false)))))) ∧
  (∀ (s : State),
    (∀ (k : LayerKey) (leaf : BitVec 18) (l : Layer) (slot : Nat) (x : _), s.layer k = some l → alGet l.spilled leaf.toNat = some (slot, x) → s.ptFree ≠ 0 →
      ∃ t l', exec (.leafReadDone k leaf) s = .next t ∧ t.layer k = some l' ∧ l' = { l with spilled := alDel l.spilled leaf.toNat, lastWalk := l'.lastWalk } ∧
        alGet l'.lastWalk leaf.toNat = some s.now ∧
        (t.tiers.layers.any (fun p => p.2.spilled.any (fun q => decide (q.2.1 = slot))) = false →
          if isFlash slot then (t.fslot (flashNo slot)).st = .stale else alGet t.tiers.slots slot = none)) ∧
    (∀ (k : LayerKey) (leaf : BitVec 18) (l : Layer) (slot : Nat) (x : _), s.layer k = some l → alGet l.spilled leaf.toNat = some (slot, x) → s.ptFree = 0 →
      exec (.leafReadDone k leaf) s = .next s) ∧
    (∀ ks rest, s.tiers.invals = ks :: rest → ∃ t, exec .plbInvalAcked s = .next t ∧ t.tiers.invals = rest ∧
      (∀ c, ∀ e ∈ (t.cluster c).plb, e.key ∉ ks) ∧ (∀ c, ∀ e ∈ (s.cluster c).plb, e.key ∉ ks → e ∈ (t.cluster c).plb)) ∧
    (s.tiers.invals = [] → exec .plbInvalAcked s = .next s) ∧
    (∀ (cl : BitVec 9) (bay : BitVec 4) (ups : List Upset),
      (s.tiers.reads.any (fun r => decide (r.cluster = some (cl.toNat, bay.toNat))) = true → exec (.stageComplete cl bay ups) s = .next s) ∧
      (s.tiers.reads.any (fun r => decide (r.cluster = some (cl.toNat, bay.toNat))) = false →
        exec (.stageComplete cl bay ups) s = .next (s.finishBay cl.toNat bay.toNat ups))) ∧
    (∀ (cl : BitVec 9) (bay : BitVec 4) (ups : List Upset) (y : Bay),
      s.tiers.reads.any (fun r => decide (r.cluster = some (cl.toNat, bay.toNat))) = false → alGet (s.cluster cl.toNat).bays bay.toNat = some y →
      y.ready = false → y.base = false → (s.core y.core).run = none → exec (.stageComplete cl bay ups) s = .next (s.delBay cl.toNat bay.toNat)) ∧
    (∀ (k : BerthKey) (y : StCopy), alGet s.tiers.copies k = some y →
      (y.landed + 53687091 ≤ s.now → ∃ t, exec (.stagingCopyExpiry k) s = .next t ∧ alGet t.tiers.copies k = none ∧
        t = { s with tiers := { s.tiers with copies := t.tiers.copies } }) ∧
      (s.now < y.landed + 53687091 → exec (.stagingCopyExpiry k) s = .next s)) ∧
    (∀ (cl : BitVec 9) (bay : BitVec 4) (y : Bay), alGet (s.cluster cl.toNat).bays bay.toNat = some y → y.base = true →
      (y.lastUse + 1073742 ≤ s.now → ∃ t, exec (.baseBerthExpiry cl bay) s = .next t ∧ alGet (t.cluster cl.toNat).bays bay.toNat = none ∧
        ∀ i, i ≠ bay.toNat → alGet (t.cluster cl.toNat).bays i = alGet (s.cluster cl.toNat).bays i) ∧
      (s.now < y.lastUse + 1073742 → exec (.baseBerthExpiry cl bay) s = .next s)) ∧
    (∀ (k : BerthKey) (payload : Bool) (ups : List Upset) (rd : FlashRead), s.tiers.reads = [rd] → rd.key = k → rd.payload = payload →
      (∀ cl i, rd.cluster = some (cl, i) → exec (.flashReadDone k payload ups) s =
        .next (({ s with tiers := { s.tiers with reads := [] } } : State).finishBay cl i ups)) ∧
      (rd.cluster = none → payload = false → rd.sweep = none → exec (.flashReadDone k payload ups) s =
        .next { s with tiers := { s.tiers with reads := [] } })) ∧
    (∀ (k : BerthKey) (payload : Bool) (ups : List Upset), s.tiers.reads = [] → exec (.flashReadDone k payload ups) s = .next s))

/-- R170, R176, R178, R187: a local barge. A queued one starts when it may, its destination reserved and its berth BARGING; the switch and its abort
are those of R176 and R178; a source that drains is freed once no read holds it and no invalidation waits; an erased block's stale slots are erased
and its wear counts; a failed program retires the slot. R177, R178, R179, R358, R380: a barge between parts. At the destination it is granted with a
slot reserved and the berth LANDING, or refused with the status of its reason; the manifest, lines and label land in order; READY at the source
commits unless a convoy covers the berth, and then when none does. -/
def Obligations.Barges : Prop :=
  (∀ (s : State) (k : BerthKey),
    (∀ q p s2 n, s.tiers.bargeQ.find? (fun q => decide (q.key = k)) = some q → s.pte k = some p → p.home = true → p.state ≠ 5 → p.prot = false →
      s.keyLive k = true → s.nextBarge q = true → s.tiers.barges.length < s.fld rBthCtl 8 16 → q.peer = none → q.toFlash = false →
      (s.unqueue k).bargeDest q p = .ok (s2, n) →
      exec (.localBargeStart k) s = .next ((s2.setBarge k { why := q.why, peer := none, toFlash := false, dest := n, gen0 := p.gen, count0 := p.count }).setPte k
        { p with state := 2 })) ∧
    (∀ q p pkg, s.tiers.bargeQ.find? (fun q => decide (q.key = k)) = some q → s.pte k = some p → p.home = true → p.state ≠ 5 → p.prot = false →
      s.keyLive k = true → s.nextBarge q = true → s.tiers.barges.length < s.fld rBthCtl 8 16 → q.peer = some pkg → s.expelled = false →
      ∃ t b, exec (.localBargeStart k) s = .next t ∧ alGet t.tiers.barges k = some b ∧ b.peer = some pkg ∧ b.phase = 0 ∧
        t.pte k = some { p with state := 2 } ∧ t.sent = s.sent ++ [.bargeReserve pkg k q.toFlash]) ∧
    (∀ q p, s.tiers.bargeQ.find? (fun q => decide (q.key = k)) = some q → s.pte k = some p → (p.home = false ∨ p.state = 5) →
      exec (.localBargeStart k) s = .next (s.unqueue k)) ∧
    (∀ b, alGet s.tiers.barges k = some b → b.incoming = false → b.peer = none →
      (s.keyLive k = true → exec (.bargeSwitch k) s = .next (s.switchBarge k b).composeOn) ∧
      (s.keyLive k = false → exec (.bargeSwitch k) s = .next (s.abortBarge k))) ∧
    (∀ slot : BitVec 32, isFlash slot.toNat = false → (s.slot slot.toNat).st = .draining → (s.slot slot.toNat).key = some k → s.readsOf slot.toNat = 0 →
      (s.invalPending k = true → exec (.sourceDrainFree slot) s = .next s) ∧
      (s.invalPending k = false → exec (.sourceDrainFree slot) s =
        .next (State.svcOn (State.composeOn { s with tiers := { s.tiers with slots := alDel s.tiers.slots slot.toNat } })))) ∧
    (∀ slot : BitVec 32, isFlash slot.toNat = false → (s.slot slot.toNat).st ≠ .draining → exec (.sourceDrainFree slot) s = .next s) ∧
    (∀ (ch : BitVec 5) (ix : Nat) (rest : List Nat), ix ∈ usableIx ch.toNat →
      (∀ j ∈ usableIx ch.toNat, Config.blockOf ch.toNat j = Config.blockOf ch.toNat ix →
        (s.fslot (ch.toNat + 32 * j)).st = .erased ∨ (s.fslot (ch.toNat + 32 * j)).st = .stale ∨ (s.fslot (ch.toNat + 32 * j)).st = .retired) →
      ∃ t, exec (.flashBlockEraseDone ch (ix :: rest)) s = .next t ∧
        alGetD t.nv.blockWear (ch.toNat, Config.blockOf ch.toNat ix) 0 = alGetD s.nv.blockWear (ch.toNat, Config.blockOf ch.toNat ix) 0 + 1 ∧
        (∀ j ∈ usableIx ch.toNat, Config.blockOf ch.toNat j = Config.blockOf ch.toNat ix → (t.fslot (ch.toNat + 32 * j)).st ≠ .stale)) ∧
    (∀ b, alGet s.tiers.barges k = some b → isFlash b.dest = true → ∃ t, exec (.flashProgramFail k) s = .next t ∧
      (t.fslot (flashNo b.dest)).st = .retired ∧ alGet t.tiers.barges k = none) ∧
    (alGet s.tiers.barges k = none → exec (.flashProgramFail k) s = .next s ∧ exec (.bargeSwitch k) s = .next s)) ∧
  (∀ (s : State) (src : BitVec 10) (k : BerthKey), s.hears src.toNat = true → s.expelled = false →
    (∀ (epoch : BitVec 16) (tier : Bool), epoch.toNat = s.epoch → s.epochUnset = false →
      (s.active k.tenant = false → s.sec.removal = none → exec (.bargeReserve src epoch k tier) s = .next (s.send (.bargeGrant src.toNat k stTenantRetired))) ∧
      (∀ o e, s.active k.tenant = true → s.obj k.tenant k.object = some o → s.pte k = some e → e.state = 2 →
        exec (.bargeReserve src epoch k tier) s = .next (s.send (.bargeGrant src.toNat k stBargeBusy))) ∧
      (∀ o u n, tier = false → s.active k.tenant = true → s.obj k.tenant k.object = some o → s.pte k = none → (s.layer k.lk).isSome = true → s.tableRoom k = true →
        2 ≤ s.tierFree tier → s.takeDram k .reserved = .ok (u, n) →
        exec (.bargeReserve src epoch k tier) s = .next (State.pressure (State.send (State.setBarge
          { (u.setPte k { slot := n, state := 3, basin := o.basin, epoch := s.epoch, arrived := s.arrivedNow }) with
            tiers := { (u.setPte k { slot := n, state := 3, basin := o.basin, epoch := s.epoch, arrived := s.arrivedNow }).tiers with
              tombs := alDel u.tiers.tombs k } } k
          { why := .move, peer := some src.toNat, toFlash := false, dest := n, gen0 := 0, count0 := 0, incoming := true })
          (.bargeGrant src.toNat k stOk)) k.tenant))) ∧
    (∀ b, alGet s.tiers.barges k = some b → b.peer = some src.toNat →
      (b.incoming = false → b.phase = 0 → s.keyLive k = true → ∀ t img, s.cargo src.toNat k = some (t, img) → exec (.bargeGrant src k 0) s =
        .next ((t.setBarge k { b with phase := 1 }).sends [.bargeData src.toNat k .manifest img, .bargeData src.toNat k .payload img, .bargeData src.toNat k .label img])) ∧
      (b.incoming = true → ∀ img, b.phase = 1 → exec (.bargeData src k .payload img) s =
        .next ((s.setImage b.dest ⟨img.lines, (b.img.map (·.man)).getD img.man, ⟨0, 0, 0, 0, 0, 0⟩⟩).setBarge k
          { b with phase := 2, img := some ⟨img.lines, (b.img.map (·.man)).getD img.man, ⟨0, 0, 0, 0, 0, 0⟩⟩ })) ∧
      (b.incoming = true → ∀ img im, b.phase = 2 → b.img = some im → s.twinServes = false → exec (.bargeData src k .label img) s =
        .next (((s.setImage b.dest { im with label := img.label }).setBarge k { b with phase := 4, img := some { im with label := img.label } }).send (.bargeReady src.toNat k))) ∧
      (b.incoming = false → b.phase = 1 → (s.covered k = true → exec (.bargeReady src k) s = .next (s.setBarge k { b with phase := 2 })) ∧
        (s.covered k = false → exec (.bargeReady src k) s = .next (s.tryCommit k b src.toNat))) ∧
      (b.incoming = false → b.phase = 2 → (s.covered k = true → exec (.bargeCommitAfterCutoff k) s = .next s) ∧
        (s.covered k = false → exec (.bargeCommitAfterCutoff k) s = .next (s.tryCommit k b src.toNat))) ∧
      (b.incoming = true → b.phase = 4 → ∀ img, b.img = some img → exec (.bargeCommit src k) s =
        .next ((((s.arrive k b img).homeLess k src.toNat).pressure k.tenant).composeOn))))

/-- R169, R180, R183, R186, R188, R191, R206, R230: a tombstone stands until its time and is then taken away and counted; a scan of a layer refreshes
its protection and its ceiling; the lead of an object launched since moves with the read latency reported; a berth operation that is ready is carried
out. -/
def Obligations.TierUpkeep : Prop :=
  ∀ (s : State),
    (∀ (k : BerthKey) (t : Nat), alGet s.tiers.tombs k = some t →
      (s.now < t → exec (.tombstoneExpiry k) s = .next s) ∧
      (t ≤ s.now → ∃ u, exec (.tombstoneExpiry k) s = .next u ∧ alGet u.tiers.tombs k = none) ∧
      (∀ e, t ≤ s.now → s.pte k = some e → e.state = 4 → ∃ u, exec (.tombstoneExpiry k) s = .next u ∧ u.pte k = none ∧
        u.fld rBsnTomb 24 24 = satAdd 24 (s.fld rBsnTomb 24 24) 1)) ∧
    (∀ (k : LayerKey) (l : Layer) (o : Obj), s.layer k = some l → s.obj k.tenant k.object = some o → o.isBase = true → exec (.evictionScan k) s = .next s) ∧
    (∀ (k : LayerKey) (l : Layer) (o : Obj), s.layer k = some l → s.obj k.tenant k.object = some o → o.isBase = false → l.ptes = [] →
      ∃ t, exec (.evictionScan k) s = .next t ∧ t = State.pressure (State.spill (State.graphTrim (match (s.protectLayer k).layer k with
        | some l1 => (s.protectLayer k).setLayer k { l1 with kappa := (s.protectLayer k).layerKappa k o.geo }
        | none => s.protectLayer k) k) 32768) k.tenant) ∧
    (∀ (p : BitVec 32), ∃ t, exec (.prefetchLeadUpdate p) s = .next t ∧ t = { s with tiers := { s.tiers with objects := t.tiers.objects } } ∧
      t.tiers.objects.length = s.tiers.objects.length ∧
      ∀ (i : Nat) (x y : _), s.tiers.objects[i]? = some x → t.tiers.objects[i]? = some y → y.1 = x.1 ∧
        y.2 = if x.2.launched then { x.2 with lead := stepLead x.2 p.toNat, launched := false } else x.2) ∧
    (∀ (k : BerthKey) (op : BerthOp), s.tiers.writes.find? (fun o => decide (o.key = k)) = some op →
      (s.opReady op = false → exec (.berthWrite k) s = .next s) ∧
      (s.opReady op = true → exec (.berthWrite k) s = .next ((if op.truncate then (s.opFetch op).runTruncate op else (s.opFetch op).runAppend op).runWrites
        (s.opFetch op).tiers.writes.length)))

/-- R219 to R223, R226: a cursor of the ledger. LOOKUP of sound entries answers the one of least index among those that match, with COUNT, or END;
NEXT answers the next in order above the one last given, or END; CLOSE empties the cursor; a cursor that is busy takes no command. R224 to R230: the
dredge visits one entry, retires it where its parity or both its locators are wrong, and counts a pass at the last; an entry retired is logged and the
log's oldest record is read off it; a rebuild that is done gives back what it found. -/
def Obligations.LedgerCommands : Prop :=
  (∀ (s : State) (cur : BitVec 6), s.inService = true ∨ 4 ≤ cur.toNat →
    (∀ key mask, (s.cursor cur.toNat).busy = false → s.ldgHeld key mask = false → (∀ i ∈ s.ldgHits key mask, (s.ldgEntry i).sound = true) →
      let c0 : Cursor := { key := key, mask := mask, isOpen := true, count := (s.ldgHits key mask).length }
      (s.ldgHits key mask = [] → exec (.ledgerCursorLookup cur key mask) s = .next (s.setCursor cur.toNat { c0 with isEnd := true })) ∧
      (∀ i, i ∈ s.ldgHits key mask → (∀ j ∈ s.ldgHits key mask, i ≤ j) →
        exec (.ledgerCursorLookup cur key mask) s = .next (s.setCursor cur.toNat (c0.give i (s.ldgEntry i))))) ∧
    (∀ key mask, (s.cursor cur.toNat).busy = false → s.ldgHeld key mask = true →
      ∃ t, exec (.ledgerCursorLookup cur key mask) s = .next t ∧ (t.cursor cur.toNat).busy = true ∧
        t.ledger.heldLookups = s.ledger.heldLookups ++ [(cur.toNat, key, mask)]) ∧
    (let c := s.cursor cur.toNat
     c.busy = false → c.isOpen = true → s.ldgHeld c.key c.mask = false → (∀ i ∈ s.ldgHits c.key c.mask, (s.ldgEntry i).sound = true) → ∀ a, c.at_ = some a →
      ((∀ j ∈ s.ldgHits c.key c.mask, j ≤ a) →
        exec (.ledgerCursorNext cur) s = .next (s.setCursor cur.toNat { c with valid := false, isEnd := true, busy := false })) ∧
      (∀ i ∈ s.ldgHits c.key c.mask, a < i → (∀ j ∈ s.ldgHits c.key c.mask, a < j → i ≤ j) →
        exec (.ledgerCursorNext cur) s = .next (s.setCursor cur.toNat (c.give i (s.ldgEntry i))))) ∧
    ((s.cursor cur.toNat).busy = false → exec (.ledgerCursorClose cur) s = .next (s.setCursor cur.toNat {})) ∧
    ((s.cursor cur.toNat).busy = true → ∀ key mask, exec (.ledgerCursorLookup cur key mask) s = .next s ∧ exec (.ledgerCursorNext cur) s = .next s ∧
      exec (.ledgerCursorClose cur) s = .next s)) ∧
  (∀ (s : State),
    (s.fld rLdgCtl 0 16 ≠ 0 → s.ledger.dredgeDue ≤ s.now → (s.ldgEntry s.ledger.next).sound = true → (s.ldgEntry s.ledger.next).locator.isSome = true →
      exec (.dredgeVisit []) s = .next (s.setLedger { s.ledger with
        next := if s.ledger.next = 262143 then 0 else s.ledger.next + 1
        passes := if s.ledger.next = 262143 then (s.ledger.passes + 1) % 2 ^ 16 else s.ledger.passes
        dredgeDue := s.now + s.dredgeStep })) ∧
    (s.fld rLdgCtl 0 16 ≠ 0 → s.ledger.dredgeDue ≤ s.now → (s.ldgEntry s.ledger.next).sound = false → (s.ldgEntry s.ledger.next).retired = false →
      ∃ t, exec (.dredgeVisit []) s = .next t ∧ (t.ldgEntry s.ledger.next).retired = true ∧ t.ledger.retiredCount = s.ledger.retiredCount + 1 ∧
        (∀ i, i ≠ s.ledger.next → t.ldgEntry i = s.ldgEntry i)) ∧
    (s.fld rLdgCtl 0 16 = 0 → exec (.dredgeVisit []) s = .next s) ∧
    (∀ u : LedgerUpset, s.fld rLdgCtl 0 16 = 0 → u.index < 262144 →
      exec (.dredgeVisit [u]) s = .next (s.ldgPut u.index ((s.ldgEntry u.index).flip u.bit))) ∧
    (s.sec.tdisp ≠ 3 → s.mode = 2 → ∃ t, exec .ldgRetireLogRead s = .next t ∧ t.sent = s.sent ++ [.read s.retireLogWord] ∧ t.ledger.log = s.ledger.log.drop 1) ∧
    (∀ i k n rest, s.ledger.log = (i, k, n) :: rest → i < 2 ^ 18 → k < 16 → n < 2 ^ 12 →
      fld s.retireLogWord 0 18 = i ∧ fld s.retireLogWord 18 4 = k ∧ fld s.retireLogWord 22 12 = n ∧ fld s.retireLogWord 63 1 = 1) ∧
    (s.ledger.log = [] → s.retireLogWord = 0) ∧
    (s.ledger.rebuilds = [] → exec .rebuildDone s = .next s) ∧
    (∀ r rest, s.ledger.rebuilds = r :: rest → s.ledger.heldLookups = [] → s.ledger.heldArms = [] → s.ledger.cursors = [] → s.sweeps.accepted = [] →
      (s.rebuilt r = [] → exec .rebuildDone s = .next (s.setLedger { s.ledger with rebuilds := rest })) ∧
      (∀ e i, s.rebuilt r = [e] → kfld e.1 0 4 ≠ 2 → s.ldgSame e.1 e.2.1 e.2.2 = none → ldgFree s.ledger.entries (s.ledger.entries.length + 1) 0 = some i →
        exec .rebuildDone s = .next ((s.setLedger { s.ledger with rebuilds := rest }).ldgPut i (LEntry.make e.1 e.2.1 e.2.2)))) ∧
    ((∀ q ∈ s.ledger.retries, s.now < q.due) → exec .homeInsertRetry s = .next s) ∧
    (∀ q t, s.ledger.retries = [q] → q.due ≤ s.now → s.active (kfld q.key 4 12) = true →
      (s.setLedger { s.ledger with retries := [] }).ldgInsert q.key q.care q.val = .ok t → exec .homeInsertRetry s = .next t) ∧
    (∀ q e, s.ledger.retries = [q] → q.due ≤ s.now → s.active (kfld q.key 4 12) = true →
      (s.setLedger { s.ledger with retries := [] }).ldgInsert q.key q.care q.val = .error e →
      exec .homeInsertRetry s = .next (s.setLedger { s.ledger with retries := [{ q with due := s.now + 107374182 }] })))

/-- R227 to R229, R361: HOME messages. A note that a package holds or has lost a block sets or removes its entry unless the entry is of a later epoch;
a query for a tenant with an ACTIVE key is answered with this part's blocks; a reply's blocks are entered where no rebuild waits for them. R232 to
R242: sounding. The collector's room goes to the first sweep that waits, once it is there; an engine's estimate of a berth is counted once; the
selection is fixed when every berth of the share is estimated: the protected berths, and of the others the first K less those in rank order; a berth
newly homed is put in the graph and counted. -/
def Obligations.HomesAndSounding : Prop :=
  (∀ (s : State) (src : BitVec 10), s.hears src.toNat = true → s.epochUnset = false →
    (∀ (k : LayerKey) (block homed : BitVec 25) (gain : Bool) (epoch : BitVec 16), epoch.toNat = s.epoch →
      (∀ e ∈ s.homeHits k (some block.toNat), vfld e.2.val 0 10 = src.toNat → e.2.care = homeCare s.homeBlk) →
      let key := homeKey k block.toNat
      let care := homeCare s.homeBlk
      let v := homeVal src.toNat epoch.toNat homed.toNat
      (∀ i, s.ldgSame key care v = some i → epochNewer (vfld (s.ldgEntry i).val 16 16) epoch.toNat = false → s.active k.tenant = true →
        (gain = true ∨ homed ≠ 0 → exec (.homeNote src epoch k block homed gain) s = .next (s.ldgPut i (LEntry.make key care v))) ∧
        (gain = false → homed = 0 → exec (.homeNote src epoch k block homed gain) s = .next (s.ldgDel i))) ∧
      (s.ldgSame key care v = none → gain = true → exec (.homeNote src epoch k block homed gain) s = .next (s.homeInsert key care v)) ∧
      (s.ldgSame key care v = none → gain = false → homed = 0 → exec (.homeNote src epoch k block homed gain) s = .next s)) ∧
    (∀ tenant : BitVec 12, (s.active tenant.toNat = true → exec (.homeQuery src tenant) s = .next (s.send (.homeReply src.toNat (s.homeBlocks tenant.toNat)))) ∧
      (s.active tenant.toNat = false → exec (.homeQuery src tenant) s = .next s)) ∧
    (∀ b : HomeBlock, s.ledger.rebuilds = [] → s.sweeps.accepted = [] →
      ∃ t, exec (.homeReply src [b]) s = .next t ∧
        t.ledger.entries = (s.homeInsert (homeKey ⟨b.tenant, b.object, b.layer⟩ b.block) (homeCare s.homeBlk) (homeVal src.toNat b.epoch b.homed)).ledger.entries) ∧
    (∀ (b : HomeBlock) (r : Rebuild), s.ledger.rebuilds = [r] → r.kind = none → s.sweeps.accepted = [] →
      ∃ t, exec (.homeReply src [b]) s = .next t ∧ t.ledger.entries = s.ledger.entries ∧
        t.ledger.rebuilds = [{ r with blocks := r.blocks ++ [{ b with homed := b.homed % 2 ^ 25 + src.toNat * 2 ^ 25 }] }])) ∧
  (∀ (s : State),
    (s.sweeps.sndQ = [] → exec .soundingRoomGrant s = .next s) ∧
    (∀ g q tw rest m d, s.sweeps.sndQ = (g, q, tw) :: rest → s.member g q tw = some m → m.snd = some d →
      (d.asked ≤ s.sweeps.collFree → ∃ t, exec .soundingRoomGrant s = .next t ∧ t.sweeps.sndQ = rest ∧ t.sweeps.collFree = s.sweeps.collFree - d.asked ∧
        t.member g q tw = some { m with snd := some { d with room := true } }) ∧
      (s.sweeps.collFree < d.asked → exec .soundingRoomGrant s = .next s)) ∧
    (∀ (gsid : BitVec 24) (seq : BitVec 32) (tw : Bool) (berth : BitVec 25) (m : MSweep) (d : Sounding), s.member gsid.toNat seq.toNat tw = some m → m.snd = some d →
      d.fixed = false → d.room = true → berth.toNat ∈ d.engineLeft →
      let m1 := { m with snd := some { d with engineLeft := d.engineLeft.filter (fun b => decide (b ≠ berth.toNat)) } }
      exec (.engineEstimate gsid seq tw berth) s =
        .next ((s.setMember m1).soundOne m1 berth.toNat (engineRows m.desc m.qbuf m.geo m.gq m.rope m.adjacent)).1) ∧
    (∀ (gsid : BitVec 24) (seq : BitVec 32) (tw : Bool) (berth : BitVec 25) (m : MSweep) (d : Sounding), s.member gsid.toNat seq.toNat tw = some m → m.snd = some d →
      (d.fixed = true ∨ d.room = false ∨ berth.toNat ∉ d.engineLeft) → exec (.engineEstimate gsid seq tw berth) s = .next s) ∧
    (∀ (gsid : BitVec 24) (seq : BitVec 32) (m : MSweep) (d : Sounding), s.member gsid.toNat seq.toNat false = some m → s.member gsid.toNat seq.toNat true = none →
      m.snd = some d → m.desc.k ≠ 0 → d.fixed = false →
      (m.soundDone d = false → exec (.selectionFixed gsid seq) s = .next s) ∧
      (m.soundDone d = true → ∃ t y, exec (.selectionFixed gsid seq) s = .next t ∧ t.member gsid.toNat seq.toNat false = some y ∧
        (∃ e, y.snd = some e ∧ e.fixed = true) ∧
        (let first := (rankAll (m.plan.filterMap (fun q => if q.prot || q.filtered || q.noMan then none else q.est.map (fun u => (q.berth, u))))).take
          (m.desc.k - (m.plan.filter (·.prot)).length)
         y.plan = m.plan.map (fun p => if p.prot then p else { p with selected := some (first.any (fun c => decide (c.1 = p.berth))) })))) ∧
    (∀ k : BerthKey, s.tiers.graphQ.contains k = false → exec (.graphInsert k) s = .next s) ∧
    (∀ (k : BerthKey) (l : Layer) (o : Obj) (e : Pte), s.tiers.graphQ.contains k = true → s.layer k.lk = some l → s.obj k.tenant k.object = some o → s.pte k = some e →
      (s.fld rSndCtl 0 1 = 0 → exec (.graphInsert k) s =
        .next { s with tiers := { s.tiers with graphQ := s.tiers.graphQ.filter (fun q => decide (q ≠ k)) } }) ∧
      (s.fld rSndCtl 0 1 = 1 → e.home = true → s.fld rSndCtl 16 24 ≤ l.homed → s.active k.tenant = true → (s.graphSlot k).isSome = true → (s.peekMan k).isSome = true →
        ∃ t, exec (.graphInsert k) s = .next t ∧ t.fld rSndGraph 32 32 = satAdd 32 (s.fld rSndGraph 32 32) 1 ∧
          t.tiers.graphQ = s.tiers.graphQ.filter (fun q => decide (q ≠ k)))))

/-- R249 to R252: the time strand. SEARCH takes a frame with the pattern and a good CRC as a candidate; the fourth good frame in CANDIDATE locks; a
good frame in LOCKED corrects local time toward the source, a bad one is counted, and the third bad one of 32 drops the lock; no signal loses it,
transitions search again. R246, R256, R271: fabric time. A source lost is held over for HOLD_MAX times 2^20 ticks, or not at all where that is 0;
holdover ends in FREE; TB_SET sets the count where the source is 3 and nothing armed would see it go back, and else raises its error flag. -/
def Obligations.StrandAndFabricTime : Prop :=
  (∀ (s : State) (f : BitVec 512) (sp : BitVec 32),
    let r := s.tb.strand
    let x := strandFields f
    (r.st = 0 → exec (.strandFrame f sp) s = .next s) ∧
    (r.st = 1 → bauds f 0 16 = 0xE7A4 → crcGood f = true → exec (.strandFrame f sp) s = .next (s.setStrand
      { r with st := 2, n := 1, seq := x.seq, time := x.time, hops := x.hops, source := x.source, since := 0, hist := [] })) ∧
    (r.st = 1 → (bauds f 0 16 ≠ 0xE7A4 ∨ crcGood f = false) → exec (.strandFrame f sp) s = .next (s.setStrand { r with st := 1, n := 0 })) ∧
    (r.st = 2 → r.passes f sp.toNat 1 = true → r.n ≠ 3 → exec (.strandFrame f sp) s = .next (s.setStrand
      { r with seq := x.seq, time := x.time, hops := x.hops, source := x.source, since := 0, n := r.n + 1 })) ∧
    (r.st = 2 → r.passes f sp.toNat 1 = true → r.n = 3 → ∃ t, exec (.strandFrame f sp) s = .next t ∧ t.tb.strand.st = 3 ∧ t.tb.strand.source = x.source) ∧
    (r.st = 3 → r.passes f sp.toNat (r.since + 1) = true → s.fld rTbCtl 2 1 = 0 →
      let s1 := s.setStrand { r with seq := x.seq, time := x.time, hops := x.hops, source := x.source, since := 0, hist := (false :: r.hist).take 32 }
      exec (.strandFrame f sp) s = .next (s1.drawn.correct 1 (s1.strandTime x - s1.edge))) ∧
    (r.st = 3 → r.passes f sp.toNat (r.since + 1) = false → s.fld rTbCtl 2 1 = 0 → ((r.hist.take 31).filter id).length < 2 →
      exec (.strandFrame f sp) s = .next ((s.setStrand { r with since := r.since + 1, hist := (true :: r.hist).take 32 }).bump rTbStat 32 16 1)) ∧
    (r.st = 3 → r.passes f sp.toNat (r.since + 1) = false → 2 ≤ ((r.hist.take 31).filter id).length →
      ∃ t, exec (.strandFrame f sp) s = .next t ∧ t.tb.strand.st = 1 ∧ t.fld rTbStat 48 1 = 1) ∧
    (∃ t, exec .strandNoSignal s = .next t ∧ t.tb.strand.st = 0 ∧ (s.tb.src = 1 → t.tb.src = 0) ∧ (s.tb.src ≠ 1 → t.tb.src = s.tb.src)) ∧
    (r.st = 0 → exec .strandTransitionsReturn s = .next (s.setStrand { r with st := 1, n := 0 })) ∧
    (r.st ≠ 0 → exec .strandTransitionsReturn s = .next s)) ∧
  (∀ (s : State),
    (s.tb.src ≠ 0 → s.fld rTbCtl 8 20 ≠ 0 → ∃ t, exec .sourceLoss s = .next t ∧ t.tb.state = 4 ∧ t.tb.holdUntil = some (s.now + s.fld rTbCtl 8 20 * 2 ^ 20) ∧
      t.tb.src = 0 ∧ t.tb.err = 0 ∧ t.tb.freq = s.tb.freq ∧ t.tb.ticks = s.tb.ticks) ∧
    (s.tb.src ≠ 0 → s.fld rTbCtl 8 20 = 0 → ∃ t, exec .sourceLoss s = .next t ∧ t.tb.state = 0 ∧ t.tb.holdUntil = none ∧ t.tb.src = 0) ∧
    (s.tb.src = 0 → exec .sourceLoss s = .next s) ∧
    (∀ u, s.tb.state = 4 → s.tb.holdUntil = some u →
      (u ≤ s.now → ∃ t, exec .holdoverExpiry s = .next t ∧ t.tb = { s.tb with state := 0, holdUntil := none }) ∧ (s.now < u → exec .holdoverExpiry s = .next s)) ∧
    (∀ v : BitVec 64, s.inService = true →
      (s.fld rTbCtl 0 2 = 3 → (s.tb.ticks.toNat ≤ v.toNat ∨ s.armedAny = false) → ∃ t, exec (.tbSet v) s = .next t ∧ t.tb = { s.tb with ticks := v, frac := 0 } ∧ t.now = v.toNat) ∧
      ((s.fld rTbCtl 0 2 ≠ 3 ∨ (v.toNat < s.tb.ticks.toNat ∧ s.armedAny = true)) → exec (.tbSet v) s = .next (s.setFld rTbStat 51 1 1))))

/-- R254, R271: the PTP slave takes messages of its domain: a Sync is counted and measured, or waits for its Follow_Up where it is a two-step one; the
delay is half the round trip less corrections; the best master is the one of lowest rank; a request goes out with the next sequence number. -/
def Obligations.PtpSlave : Prop :=
  ∀ (s : State),
    (∀ m : PtpSyncMsg, s.ptpIn m.domain = true →
      (s.tb.ptp.best = none → exec (.ptpSync m) s = .next (s.bump rTbPtpStat 48 16 1)) ∧
      (∀ b, s.tb.ptp.best = some b → m.twoStep = true → exec (.ptpSync m) s =
        .next ((s.bump rTbPtpStat 48 16 1).setPtp { s.tb.ptp with wait := some m })) ∧
      (∀ b, s.tb.ptp.best = some b → m.twoStep = false → exec (.ptpSync m) s = .next ((s.bump rTbPtpStat 48 16 1).ptpOffset m.origin.toNat m.rx.toNat m.corr))) ∧
    (∀ m : PtpSyncMsg, s.ptpIn m.domain = false → exec (.ptpSync m) s = .next s) ∧
    (∀ (m : PtpSyncMsg) (q : BitVec 16) (o : BitVec 64) (c : Int), s.tb.ptp.wait = some m → s.ptpOn = true → m.seqId = q.toNat →
      exec (.ptpFollowUp q o c) s = .next (s.ptpOffset o.toNat m.rx.toNat (m.corr + c))) ∧
    (∀ (q : BitVec 16) (o : BitVec 64) (c : Int), s.tb.ptp.wait = none → exec (.ptpFollowUp q o c) s = .next s) ∧
    (∀ (q : BitVec 16) (rx : BitVec 64) (c t1 t2 c0 t3 : Int), s.tb.ptp.dreq = some (q.toNat, t3) → s.tb.ptp.last = some (t1, t2, c0) → s.ptpOn = true → s.fld rTbPtpCtl 9 1 = 0 →
      ∃ t, exec (.ptpDelayResp q rx c) s = .next t ∧ t.tb.ptp.path = (16 * (t2 - t1) - c0 + 16 * ((rx.toNat : Int) - t3) - c) / 2 ∧ t.tb.ptp.dreq = none) ∧
    (∀ (q : BitVec 16) (t2 t3 t4 : BitVec 64) (t1 : Int), s.tb.ptp.dreq = some (q.toNat, t1) → s.ptpOn = true → s.fld rTbPtpCtl 9 1 = 1 →
      ∃ t, exec (.ptpPdelayResp q t2 t3 t4) s = .next t ∧ t.tb.ptp.path = 16 * (((t4.toNat : Int) - t1) - ((t3.toNat : Int) - t2.toNat)) / 2 ∧ t.tb.ptp.dreq = none) ∧
    (∀ m : PtpAnnounce, s.ptpIn m.domain = true → s.tb.ptp.best = none → exec (.ptpAnnounce m) s = .next (s.setPtp { s.tb.ptp with best := some m })) ∧
    (∀ m b : PtpAnnounce, s.ptpIn m.domain = true → s.tb.ptp.best = some b → b.identity ≠ m.identity →
      (lexLt (announceRank m) (announceRank b) = true → ∃ t, exec (.ptpAnnounce m) s = .next t ∧ t.tb.ptp.best = some m ∧ t.tb.ptp.last = none) ∧
      (lexLt (announceRank m) (announceRank b) = false → exec (.ptpAnnounce m) s = .next s)) ∧
    (s.ptpOn = true → (s.fld rTbPtpCtl 9 1 = 1 ∨ (s.tb.ptp.best.isSome = true ∧ s.tb.ptp.last.isSome = true)) → s.expelled = false →
      ∃ t, exec .ptpDelayReqTimer s = .next t ∧ t.tb.ptp.seqId = (s.tb.ptp.seqId + 1) % 2 ^ 16 ∧ t.tb.ptp.dreq = some (t.tb.ptp.seqId, (s.now : Int)) ∧
        t.sent = s.sent ++ [.ptpReq (s.fld rTbPtpCtl 9 1) t.tb.ptp.seqId]) ∧
    (s.ptpOn = false → exec .ptpDelayReqTimer s = .next s)

/-- R257, R258, R261, R262, R264, R272: chambers are allocated to a composed basin in whole blocks, at 0 and unfired, from the first run that is free;
freed by their owner; CH_CFG sets the selected chamber's fire configuration and fires it where its count is already reached; a wait past its limit
ends with p cleared. -/
def Obligations.ChamberHostCommands : Prop :=
  ∀ (s : State), s.inService = true →
    (∀ (b : BitVec 6) (n : BitVec 12) (r : Nat), n ≠ 0 → n.toNat ≤ 4080 → (s.basin b.toNat).st ≠ 0 → s.chamberRun b.toNat n.toNat = some r →
      ∃ t, exec (.chAllocate b n) s = .next t ∧ t.fld rChAllocRes 0 16 = 16 * r % 2 ^ 16 ∧ t.fld rChAllocRes 16 4 = 0 ∧
        (∀ i < 16 * n.toNat, t.chamber (16 * r + i) = { alloc := true, owner := b.toNat, out := (s.chamber (16 * r + i)).out }) ∧
        (∀ c, (c < 16 * r ∨ 16 * r + 16 * n.toNat ≤ c) → t.chamber c = s.chamber c)) ∧
    (∀ (b : BitVec 6) (n : BitVec 12), (n = 0 ∨ 4080 < n.toNat ∨ (s.basin b.toNat).st = 0) → exec (.chAllocate b n) s = .next (s.chResult 0 2)) ∧
    (∀ (b : BitVec 6) (n : BitVec 12), n ≠ 0 → n.toNat ≤ 4080 → (s.basin b.toNat).st ≠ 0 → s.chamberRun b.toNat n.toNat = none →
      ∃ t, exec (.chAllocate b n) s = .next t ∧ t.fld rChAllocRes 16 4 = 1 ∧ t.fld rChStat 32 1 = 1 ∧ ∀ c, t.chamber c = s.chamber c) ∧
    (∀ (b : BitVec 6) (n : BitVec 12) (base : BitVec 16), n ≠ 0 → n.toNat ≤ 4080 → base.toNat % 16 = 0 → 256 ≤ base.toNat → base.toNat + 16 * n.toNat ≤ 65536 →
      ((∀ i < n.toNat, (s.chamber (base.toNat + 16 * i)).alloc = true ∧ (s.chamber (base.toNat + 16 * i)).owner = b.toNat) →
        exec (.chFree b n base) s = .next ((s.freeBlocks (base.toNat / 16) n.toNat).chResult base.toNat 0) ∧
        ((∀ i < 16 * n.toNat, (s.chamber (base.toNat + i)).waiters = []) → ∃ t, exec (.chFree b n base) s = .next t ∧ t.fld rChAllocRes 16 4 = 0 ∧
          ∀ i < 16 * n.toNat, t.chamber (base.toNat + i) = { out := (s.chamber (base.toNat + i)).out })) ∧
      ((∃ i < n.toNat, (s.chamber (base.toNat + 16 * i)).alloc = false ∨ (s.chamber (base.toNat + 16 * i)).owner ≠ b.toNat) →
        exec (.chFree b n base) s = .next (s.chResult 0 3))) ∧
    (∀ (v : BitVec 64), let ch := s.fld rChSel 0 16
      let c := s.chamber ch
      ((fld v 0 1 = 0 ∨ c.fireEn = true ∨ reached c.counter c.threshold = false ∨ (c.fired = true ∧ fld v 7 1 = 0)) → exec (.chCfgWrite v) s = .next (s.setChamber ch
        { c with fireEn := decide (fld v 0 1 = 1), vector := fld v 1 6, fired := c.fired && decide (fld v 7 1 = 0) })) ∧
      (fld v 0 1 = 1 → c.fireEn = false → reached c.counter c.threshold = true → (c.fired = false ∨ fld v 7 1 = 1) → exec (.chCfgWrite v) s =
        .next ((s.setChamber ch { c with fireEn := true, vector := fld v 1 6, fired := true }).raiseMsix (fld v 1 6)))) ∧
    (∀ ch c w k r q, s.fab.chambers = [(ch, c)] → c.waiters = [w] → w.src = .core k → (s.core k).run = some r → r.wait = some q →
      (w.until_ ≤ s.now → ∃ t, exec .chamberWaitTimeout s = .next t ∧ (t.chamber ch).waiters = [] ∧
        t.core k = { (s.core k).pPut q.pD false with run := some { r with wait := none, ip := r.ip + 1 } } ∧ t.fld rChStat 48 16 = satAdd 16 (s.fld rChStat 48 16) 1) ∧
      (s.now < w.until_ → exec .chamberWaitTimeout s = .next s))

/-- R277, R278, R281, R298 to R301, R308: ports. A port lost holds its traffic for the hold time and its connections after it; one that is back before
that shifts its connections' timers; a lane that fails takes the spare where remapping is on; a control write sets mode, remap and spare except
reserved values; a new SAK starts at packet number 0; a frame is kept as the neighbour. R310 to R318, R320: traffic. A port sends a held frame that
may go first, then class 7, then class 6, then the round of the others, and the round where its guard has run out; a change of TRF_CTL's modes fills
meters and empties credits and deficits; a meter whose EN rises starts full, and a PIR below CIR is kept as it was. -/
def Obligations.PortsAndTraffic : Prop :=
  (∀ (s : State) (port : BitVec 3),
    let p := port.toNat
    let x := s.port p
    (x.up = true → s.fld rTrnCtl 0 16 ≠ 0 → ∃ t, exec (.portDown port) s = .next t ∧ (t.port p).up = false ∧
      (t.port p).holdUntil = some (s.now + ticksUs (s.fld rTrnCtl 0 16)) ∧ (t.port p).downAt = s.now ∧
      (t.port p).frames = x.frames.map (fun f => { f with held := true }) ∧ t.fld (rEng rPrtEngStat (p / 2)) 15 1 = 1) ∧
    (x.up = false → exec (.portDown port) s = .next s) ∧
    (x.up = false → s.portFit p = true → x.holdUntil = none → exec (.portUp port) s = .next (s.setPort p { x with up := true, holdUntil := none })) ∧
    (x.up = false → s.portFit p = true → x.holdUntil.isSome = true → ∃ t, exec (.portUp port) s = .next t ∧ (t.port p).up = true ∧ (t.port p).holdUntil = none ∧
      t.net.conns = alMap s.net.conns (fun _ c => if c.port = p then
        { c with rtoAt := c.rtoAt.map (· + (s.now - x.downAt)), progressAt := c.progressAt.map (· + (s.now - x.downAt)) } else c)) ∧
    ((x.up = true ∨ s.portFit p = false) → exec (.portUp port) s = .next s) ∧
    (∀ u, x.holdUntil = some u → (u ≤ s.now → exec (.portHoldExpiry port) s = .next (s.holdOver p)) ∧ (s.now < u → exec (.portHoldExpiry port) s = .next s)) ∧
    (∀ u, x.holdUntil = some u → u ≤ s.now → s.net.conns = [] → x.frames = [] →
      exec (.portHoldExpiry port) s = .next (s.setPort p { x with frames := [], guard := none, holdUntil := none })) ∧
    (∀ (e : BitVec 2) (l : BitVec 3), s.engMode e.toNat ≠ 2 → s.fld (rEng rPrtEngCtl e.toNat) 2 1 = 1 → (s.engine e.toNat).remapped = false →
      ∃ t, exec (.laneRemap e l) s = .next t ∧ t.fld (rEng rPrtEngStat e.toNat) 10 4 = l.toNat ∧ t.fld (rEng rPrtEngStat e.toNat) 14 1 = 1 ∧
        (t.engine e.toNat).remapped = true ∧ (t.engine e.toNat).failed.contains l.toNat = true) ∧
    (∀ (e : BitVec 2) (l : BitVec 3), s.engMode e.toNat = 2 → exec (.laneRemap e l) s = .next s) ∧
    (∀ (e : BitVec 2) (v : BitVec 64), s.inService = true → ∃ t, exec (.prtEngCtlWrite e v) s = .next t ∧
      t.fld (rEng rPrtEngCtl e.toNat) 0 2 = (if fld v 0 2 = 3 then s.engMode e.toNat else fld v 0 2) ∧ t.fld (rEng rPrtEngCtl e.toNat) 2 1 = fld v 2 1 ∧
      t.fld (rEng rPrtEngCtl e.toNat) 8 4 = if 8 ≤ fld v 8 4 ∧ fld v 8 4 ≠ 15 then s.fld (rEng rPrtEngCtl e.toNat) 8 4 else fld v 8 4) ∧
    (s.fld rPrtCtl 0 1 = 1 → x.cak.isSome = true → x.sak.isSome = true → (2 ^ 62 ≤ x.pn ∨ x.sakAt + 86400 * 2 ^ 30 ≤ s.now) →
      ∃ t, exec (.sakRekey port) s = .next t ∧ (t.port p).pn = 0 ∧ (t.port p).sakAt = s.now ∧ (t.port p).sak.isSome = true ∧ t.fresh = s.fresh + 4 ∧
        t.fld (rEng rPrtEngMacsec (p / 2)) 32 16 = satAdd 16 (s.fld (rEng rPrtEngMacsec (p / 2)) 32 16) 1) ∧
    (x.pn < 2 ^ 62 → s.now < x.sakAt + 86400 * 2 ^ 30 → exec (.sakRekey port) s = .next s) ∧
    (∀ name key sak k, x.cak = some (name, key) → Config.unwrapKey key sak = some k →
      exec (.mkaFrame port name sak) s = .next (s.installSak p (leBytes 32 k.toNat))) ∧
    (∀ name other key sak, x.cak = some (name, key) → (other ≠ name ∨ Config.unwrapKey key sak = none) → exec (.mkaFrame port other sak) s = .next s) ∧
    (∀ frame prot, x.up = true → s.frameRefused (p / 2) frame.length prot = none → exec (.lldpFrame port frame prot) s = .next (s.setPort p { x with neighbour := frame })) ∧
    (∀ frame prot t, x.up = true → s.frameRefused (p / 2) frame.length prot = some t → exec (.lldpFrame port frame prot) s = .next t)) ∧
  (∀ (s : State) (port : BitVec 3) (v : BitVec 64),
    let p := port.toNat
    let u := s.countHeld p
    ((s.port p).up = false → exec (.portFrameSelect port) s = .next s) ∧
    (∀ f, (s.port p).up = true → (u.port p).frames.find? (fun f => f.held && u.eligible f) = some f → exec (.portFrameSelect port) s = .next (u.startFrame p f)) ∧
    ((s.port p).up = true → (u.port p).frames.find? (fun f => f.held && u.eligible f) = none → (List.range 6).any (fun tc => (u.nextIn p tc).isSome) = false →
      let w := u.setPort p { u.port p with guard := none }
      (∀ f, w.nextIn p 7 = some f → exec (.portFrameSelect port) s = .next (w.startFrame p f)) ∧
      (∀ f, w.nextIn p 7 = none → w.nextIn p 6 = some f → exec (.portFrameSelect port) s = .next (w.startFrame p f))) ∧
    (s.inService = true → fld v 24 8 ≤ 100 → ∃ t, exec (.trfCtlWrite v) s = .next t ∧ t.fld rTrfCtl 0 7 = fld v 0 7 ∧ t.fld rTrfCtl 8 8 = fld v 8 8 ∧ t.fld rTrfCtl 24 8 = fld v 24 8 ∧
      (fld v 0 7 = s.fld rTrfCtl 0 7 → t.net = s.net ∧ t.host = s.host) ∧
      (fld v 0 7 ≠ s.fld rTrfCtl 0 7 → (∀ q, (t.port q).deficit = []) ∧ ∀ b, (t.basin b).credit = 0)) ∧
    (s.inService = true → 100 < fld v 24 8 → ∃ t, exec (.trfCtlWrite v) s = .next t ∧ t.fld rTrfCtl 24 8 = s.fld rTrfCtl 24 8) ∧
    (s.inService = true → let k := s.fld rTrfMsel 0 12
      let m := s.meter k
      let pir := if fld v 0 24 ≤ fld v 24 24 then fld v 24 24 else m.pir
      let m1 : Meter := { m with rate := BitVec.ofNat 64 (fld v 0 24 + pir * 2 ^ 24 + fld v 48 1 * 2 ^ 48) }
      exec (.trfMrateWrite v) s = .next (s.setMeter k (if fld v 48 1 = 1 ∧ m.en = false then s.meterFull m1 else m1))))

/-- R286 to R291, R299, R302, R303: connections. The timers act when their times have passed and not before: an acknowledgement owed goes out, packets
unacknowledged are sent again with a longer timeout, a connection without progress is lost, a message put off by TARGET_BUSY is sent again; setup
messages that verify and fit establish, close, or retry. R279, R283, R292 to R295, R328, R329: doorbells of a connection. An index in range that moves
no further than the ring allows is taken, SEND queueing the work requests between, and anything else counts as a bad doorbell; the first request of an
established connection starts, waits for its chamber or tag, or fails. -/
def Obligations.ConnectionTimersAndDoorbells : Prop :=
  (∀ (s : State) (conn : BitVec 24),
    let n := conn.toNat
    let c := s.conn n
    (∀ u, c.ackDue = some u → (u ≤ s.now → exec (.ackTimer conn) s = .next ((s.sendAckPkt n).renew n)) ∧ (s.now < u → exec (.ackTimer conn) s = .next s)) ∧
    (c.ackDue = none → exec (.ackTimer conn) s = .next s) ∧
    (∀ u, c.rtoAt = some u → u ≤ s.now → s.held c = false → c.sent ≠ [] →
      let rto := max c.rto (min (2 * c.rto) (ticksMs 1))
      exec (.retransmitTimeout conn) s =
        .next ((c.sent.foldl (fun s p => s.resend n p p.again) (s.setConn n { c with rto := rto, rtoAt := some (s.now + rto) })).renew n)) ∧
    (∀ u, c.rtoAt = some u → (s.now < u ∨ s.held c = true ∨ c.sent = []) → exec (.retransmitTimeout conn) s = .next s) ∧
    (∀ u, c.st = .established → c.progressAt = some u → s.held c = false → c.sent ≠ [] →
      (u + s.connLoss ≤ s.now → exec (.connLossExpiry conn) s = .next (s.loseConn n)) ∧ (s.now < u + s.connLoss → exec (.connLossExpiry conn) s = .next s)) ∧
    (c.st = .reopening → c.down = false → (c.lostAt + s.connLoss ≤ s.now → exec (.connLossExpiry conn) s = .next (s.connDown n)) ∧
      (s.now < c.lostAt + s.connLoss → exec (.connLossExpiry conn) s = .next s)) ∧
    (∀ q first due, c.busy = some (q, first, due) → (s.now < due → exec (.targetBusyRetry conn) s = .next s) ∧
      (due ≤ s.now → exec (.targetBusyRetry conn) s = .next ((c.sent.filter (fun x => !psnBefore x.psn q)).foldl (fun s x => s.resend n x true)
        (s.setConn n { c with busy := some (q, first, s.now + 2 ^ 63) })))) ∧
    (∀ m key, m.peerConn = n → s.keySource m.kind m.tenant m.pkg = some key → m.verifies = true → c.fits m = true → s.hears m.pkg = true →
      (c.st = .opening ∨ c.st = .reopening → exec (.connAcc m) s = .next (s.establish n c.na m.nonce key)) ∧
      (c.st = .established → exec (.connAcc m) s = .next s) ∧
      (c.st ≠ .established → exec (.connReq m) s =
        .next (((({ s with fresh := s.fresh + 2 } : State).setConn n c.clear).establish n m.nonce s.nonce key).send (.connAcc m.pkg (c.setup n s.nonce))))) ∧
    (∀ m, m.peerConn = n → (m.verifies = false ∨ c.fits m = false) → exec (.connReq m) s = .next s ∧ exec (.connAcc m) s = .next s) ∧
    (c.askedAt + ticksUs 100 ≤ s.now →
      (c.st = .opening → c.retries < 3 → exec (.connReqRetry conn) s = .next ((s.setConn n { c with retries := c.retries + 1 }).askConn n)) ∧
      (c.st = .opening → 3 ≤ c.retries → exec (.connReqRetry conn) s = .next (s.closeConn n stConnDown)) ∧
      (c.st = .reopening → exec (.connReqRetry conn) s = .next (s.askConn n))) ∧
    (s.now < c.askedAt + ticksUs 100 → exec (.connReqRetry conn) s = .next s) ∧
    (c.st ≠ .closed → s.hears c.peerPkg = true → exec (.connCloseMsg conn) s = .next (s.closeConn n stWrCancelled)) ∧
    (c.st ≠ .closed → s.hears c.peerPkg = true → ∃ t, exec (.connCloseMsg conn) s = .next t ∧ (t.conn n).st = .closed) ∧
    (c.st = .closed → exec (.connCloseMsg conn) s = .next s) ∧
    (c.st ≠ .closed → c.live = false → c.loading = true → s.liveCount < 4096 → s.net.waiting = [] →
      exec (.contextLoadDone conn) s = .next (s.setConn n { c with live := true, loading := false, used := s.now }))) ∧
  (∀ (s : State) (b : BitVec 6) (conn : BitVec 24) (index : BitVec 16),
    let n := conn.toNat
    let i := index.toNat
    (s.inService = false → exec (.connDbSend b conn index) s = .next s.turnedAway ∧ exec (.connDbRecv b conn index) s = .next s.turnedAway ∧
      exec (.connDbCompletion b conn index) s = .next s.turnedAway) ∧
    (s.inService = true → s.ownConn b.toNat n = none → exec (.connDbSend b conn index) s = .next s.badDb ∧ exec (.connDbRecv b conn index) s = .next s.badDb ∧
      exec (.connDbCompletion b conn index) s = .next s.badDb) ∧
    (∀ c, s.inService = true → s.ownConn b.toNat n = some c →
      (i < 2 ^ c.log2s → moves c.log2s c.sqTail i ((c.sqHead + 2 ^ c.log2s - 1) % 2 ^ c.log2s) = true → exec (.connDbSend b conn index) s =
        .next ((s.setConn n { c with sqTail := i, queue := c.queue ++ (List.range ((i + 2 ^ c.log2s - c.sqTail) % 2 ^ c.log2s)).map (fun k =>
          wrOf (memReadN s.dram (c.sq + 64 * ((c.sqTail + k) % 2 ^ c.log2s)) 64)) }).touch n)) ∧
      ((2 ^ c.log2s ≤ i ∨ moves c.log2s c.sqTail i ((c.sqHead + 2 ^ c.log2s - 1) % 2 ^ c.log2s) = false) → exec (.connDbSend b conn index) s = .next s.badDb) ∧
      (i < 2 ^ c.log2r → moves c.log2r c.rqHead i c.rqTail = true → exec (.connDbRecv b conn index) s = .next (s.setConn n { c with rqHead := i })) ∧
      ((2 ^ c.log2r ≤ i ∨ moves c.log2r c.rqHead i c.rqTail = false) → exec (.connDbRecv b conn index) s = .next s.badDb) ∧
      (i < 2 ^ c.log2r → moves c.log2r c.cqHead i c.cqTail = true → exec (.connDbCompletion b conn index) s =
        .next ((s.setConn n { c with cqHead := i }).connDrain n c.cqBack.length)) ∧
      ((2 ^ c.log2r ≤ i ∨ moves c.log2r c.cqHead i c.cqTail = false) → exec (.connDbCompletion b conn index) s = .next s.badDb)) ∧
    (∀ w ws, (s.conn n).queue = w :: ws →
      ((s.conn n).down = true → exec (.wrStart conn) s = .next (s.failFirst n stConnDown)) ∧
      ((s.conn n).down = false → s.mayStart (s.conn n) = false → exec (.wrStart conn) s = .next s) ∧
      ((s.conn n).down = false → s.mayStart (s.conn n) = true → (s.conn n).live = true →
        (w.disabled = true → (s.conn n).latch.contains w.tag = false → exec (.wrStart conn) s = .next s) ∧
        (w.disabled = true → (s.conn n).latch.contains w.tag = true → exec (.wrStart conn) s =
          .next (s.setConn n { s.conn n with latch := (s.conn n).latch.erase w.tag, queue := { w with disabled := false } :: ws })) ∧
        (w.disabled = false → w.chWait = true → ∀ e, s.chRefuse (s.conn n).basin w.wch = some e → exec (.wrStart conn) s = .next (s.failFirst n e)) ∧
        (w.disabled = false → w.chWait = true → s.chRefuse (s.conn n).basin w.wch = none →
          reached (s.chamber w.wch).counter (BitVec.ofNat 32 w.wcount) = true → exec (.wrStart conn) s = .next (s.wake (.wr n) true)) ∧
        (w.disabled = false → w.chWait = false → s.wrRefuse n w ≠ stOk → exec (.wrStart conn) s = .next (s.failFirst n (s.wrRefuse n w))) ∧
        (w.disabled = false → w.chWait = false → s.wrRefuse n w = stOk → s.places < 65536 → yPkg w.raddr ≠ selfPkg →
          ∃ id t, s.popWr n = some (id, w, t) ∧ exec (.wrStart conn) s = .next ((t.sendWr n id w).renew n)))))

/-- R281, R286, R289, R291, R297, R302, R315, R380: packets READ_REQ, READ_RESP, WRITE, ATOMIC_ADD, CAS, ATOMIC_RESP, CH_ADD, FLUSH, FLUSH_RESP,
ENABLE and ACK. One that the port takes and that is next in order takes effect and is acknowledged; an old one is acknowledged again; one past the
window, with a bad header, for no established connection is dropped; one whose context is not live waits for it; a bad tag is counted. -/
def Obligations.PacketsTaken : Prop :=
  ∀ (s : State) (i : Instr) (h : Pkt),
    let n := h.dconn
    let u := s.acksTaken h i
    let c := u.conn n
    (Arrives s h i → vcOf i ≠ 3 → h.psn = c.rxPsn → h.psn < 2 ^ 32 → c.reorder = [] → (vcOf i = 0 → u.poolFill + (payloadOf i).length ≤ requestPool) →
      u.noRoom n i = false → u.stalled i = false →
      exec i s = .next ((((u.setConn n { c with owd := u.delayOf h, ece := c.ece || h.marked, rxPsn := (c.rxPsn + 1) % 2 ^ 32 }).deliver n i).ackAfter n h.ackReq).renew n)) ∧
    (Arrives s h i → vcOf i ≠ 3 → c.reorder = [] → 2 ^ 31 ≤ psnAhead c.rxPsn h.psn → exec i s = .next ((u.sendAckPkt n).renew n)) ∧
    (Arrives s h i → vcOf i ≠ 3 → alGet c.reorder h.psn = none → 4096 ≤ psnAhead c.rxPsn h.psn → psnAhead c.rxPsn h.psn < 2 ^ 31 → exec i s = .next (u.renew n)) ∧
    (∀ a, i = .ack h a → Arrives s h i → exec i s = .next (((s.admitted h i).takeAck n h a).renew n)) ∧
    (∀ t, pktOf i = some h → s.headerBad h i = some t → exec i s = .next t) ∧
    (pktOf i = some h → s.headerBad h i = none → (s.conn n).st ≠ .established → exec i s = .next s) ∧
    (pktOf i = some h → s.headerBad h i = none → (s.conn n).st = .established → s.hears (s.conn n).peerPkg = true → s.boot.inReset = false → (s.conn n).live = false →
      ∃ t, exec i s = .next t ∧ t.net.waiting = s.net.waiting ++ [(n, i)] ∧ (t.conn n).loading = true) ∧
    (pktOf i = some h → s.headerBad h i = none → (s.conn n).st = .established → s.hears (s.conn n).peerPkg = true → s.boot.inReset = false → (s.conn n).live = true →
      ((s.conn n).kind = 0 → s.active (s.conn n).tenant = false → exec i s = .next (s.retiredPkt n h i)) ∧
      ((s.conn n).kind ≠ 0 → h.tagOk = false → exec i s = .next (s.bump rTrnErr 0 16 1)))

/-- R283 to R288, R293, R295, R302: what each request does at its target, once in order. A WRITE stores its bytes where its mooring allows it; a READ
answers the bytes; ATOMIC_ADD and CAS change eight bytes or a chamber and answer the old value; CH_ADD adds to a chamber; FLUSH answers the first
refusal since the last; ENABLE lets a request go or is kept; a request that its address, mooring or rights forbid is refused with the status. R283,
R284, R287, R288: what each answer does at the requester. Data is placed where the read asked for it and the read ends with its last byte; an atomic
ends with the old value; a FLUSH ends with the first failure before it. -/
def Obligations.PacketEffects : Prop :=
  (∀ (s : State) (n : Nat) (h : Pkt) (r : RmaExt),
    (s.rwRule n 1 r.addr r.mkey r.mgen r.msgLen false = stOk → ySpace r.addr = 0 → s.deliver n (.readReq h r) =
      ((s.rule n h.psn stOk).respond n 2 h.psn stOk 0 (memReadN s.dram (yOff r.addr) r.msgLen)).tagged n h) ∧
    (s.rwRule n 1 r.addr r.mkey r.mgen r.msgLen false ≠ stOk → s.deliver n (.readReq h r) = s.refuseAs n h.psn (s.rwRule n 1 r.addr r.mkey r.mgen r.msgLen false)) ∧
    (∀ d, h.first = true → h.last = true → h.en = false → r.notify = false → s.rwRule n 3 r.addr r.mkey r.mgen r.msgLen false = stOk → ySpace r.addr = 0 →
      d.length ≤ r.msgLen → (s.deliver n (.write h r d)).dram = memWriteL s.dram (yOff r.addr) d) ∧
    (∀ d, h.first = true → h.last = true → s.rwRule n 3 r.addr r.mkey r.mgen r.msgLen r.notify ≠ stOk → (s.deliver n (.write h r d)).dram = s.dram) ∧
    (s.atRule n r.addr r.mkey r.mgen (r.opnd0.toNat / 2 ^ 32) = stOk → ySpace r.addr = 0 →
      let old := BitVec.ofNat 64 (memNat s.dram (yOff r.addr) 8)
      s.deliver n (.atomicAdd h r) = (((s.setDram (memWriteL s.dram (yOff r.addr) (leBytes 8 (old + r.opnd0).toNat))).rule n h.psn stOk).respond n 6 h.psn stOk old []).tagged n h) ∧
    (s.atRule n r.addr r.mkey r.mgen (r.opnd0.toNat / 2 ^ 32 + r.opnd1.toNat / 2 ^ 32) = stOk → ySpace r.addr = 0 →
      let old := BitVec.ofNat 64 (memNat s.dram (yOff r.addr) 8)
      s.deliver n (.cas h r) = (((s.setDram (memWriteL s.dram (yOff r.addr) (leBytes 8 (if old = r.opnd0 then r.opnd1 else old).toNat))).rule n h.psn stOk).respond n 6 h.psn stOk old
        []).tagged n h) ∧
    (s.addRule n r.addr r.opnd0 = stOk → s.deliver n (.fabricChAdd h r) =
      ((s.chEffect (yChamber r.addr) (.add (BitVec.ofNat 32 r.opnd0.toNat))).rule n h.psn stOk).tagged n h) ∧
    (s.addRule n r.addr r.opnd0 ≠ stOk → s.deliver n (.fabricChAdd h r) = s.refuseAs n h.psn (s.addRule n r.addr r.opnd0)) ∧
    (h.en = false → s.deliver n (.flush h r false) = (s.setConn n { s.conn n with rxFailed := 0 }).respond n 9 h.psn (s.conn n).rxFailed 0 []) ∧
    (h.en = false → s.twin.pair ≠ 2 → s.deliver n (.flush h r true) = (s.setConn n { s.conn n with rxFailed := 0 }).respond n 9 h.psn stNoTwin 0 []) ∧
    (∀ tag : BitVec 32, enableIn tag.toNat (s.conn n).queue = none → (s.conn n).latch.length < 8 →
      s.deliver n (.enable h r tag) = (s.setConn n { s.conn n with latch := (s.conn n).latch ++ [tag.toNat] }).rule n h.psn stOk) ∧
    (∀ (tag : BitVec 32) q, enableIn tag.toNat (s.conn n).queue = some q → s.deliver n (.enable h r tag) = (s.setConn n { s.conn n with queue := q }).rule n h.psn stOk)) ∧
  (∀ (s : State) (n : Nat) (h : Pkt) (r : RespExt) (l : LiveWR),
    (∀ d, (s.conn n).answered r.rpsn 1 = some l → r.status = stOk → l.wr.core = none → l.got + d.length < l.wr.len →
      ∃ t, s.deliver n (.readResp h r d) = t ∧ t.dram = memWriteL s.dram (l.wr.laddr + l.got) d ∧
        (∀ m ∈ (t.conn n).liveWr, m.id = l.id → m.got = l.got + d.length)) ∧
    (∀ d, (s.conn n).answered r.rpsn 1 = some l → r.status ≠ stOk → s.deliver n (.readResp h r d) = s.liveDone n l.id r.status 0 []) ∧
    (∀ d, (s.conn n).answered r.rpsn 1 = none → s.deliver n (.readResp h r d) = s) ∧
    ((s.conn n).answered r.rpsn 4 = some l → s.deliver n (.atomicResp h r) = s.liveDone n l.id r.status r.result []) ∧
    ((s.conn n).answered r.rpsn 8 = some l → s.deliver n (.flushResp h r) =
      (s.setConn n { s.conn n with failed := (s.conn n).failed.filter (fun f => decide (l.id < f.1)) }).liveDone n l.id ((s.conn n).flushStatus l.id r.status) 0 []))

/-- R328, R329, R336, R343, R344: doorbells of a basin's rings. In SERVICE, for a composed basin and a ring that exists, an index in range that moves
no further than the ring allows becomes the ring's index and nothing else of that ring changes; anything else counts as a bad doorbell; entries held
back are written as room appears. R341, R344: a RELEASE of a sweep of the basin that has ended empties its status word with the basin's next USE
number and frees its number for the sweeps that wait; of any other it counts as a bad doorbell. A completion ring's coalescing time raises its vector
once entries have waited that long. R322, R325, R369: the handover to SERVICE zeroes the rings and raises vector 0; a PCIe reset clears the MSI-X
structures and the IDE streams and is a fault of a locked interface. -/
def Obligations.HostDoorbells : Prop :=
  (∀ (s : State) (b : BitVec 6) (r : BitVec 8) (v : BitVec 64),
    let bs := s.basin b.toNat
    (s.inService = false → exec (.sqTail b r v) s = .next s.turnedAway ∧ exec (.cqHead b r v) s = .next s.turnedAway ∧ exec (.evtHead b v) s = .next s.turnedAway ∧
      exec (.excHead b v) s = .next s.turnedAway ∧ exec (.release b v) s = .next s.turnedAway) ∧
    (s.inService = true → bs.st = 0 → exec (.sqTail b r v) s = .next s.badDb ∧ exec (.cqHead b r v) s = .next s.badDb ∧ exec (.evtHead b v) s = .next s.badDb ∧
      exec (.excHead b v) s = .next s.badDb) ∧
    (s.inService = true → bs.st ≠ 0 →
      (∀ q, alGet bs.sqs r.toNat = some q →
        (fld v 0 12 < 2 ^ q.log2 → moves q.log2 q.tail (fld v 0 12) ((q.head + 2 ^ q.log2 - 1) % 2 ^ q.log2) = true → exec (.sqTail b r v) s =
          .next (s.setBasin b.toNat { bs with sqs := alPut bs.sqs r.toNat { q with tail := fld v 0 12 } })) ∧
        ((2 ^ q.log2 ≤ fld v 0 12 ∨ moves q.log2 q.tail (fld v 0 12) ((q.head + 2 ^ q.log2 - 1) % 2 ^ q.log2) = false) → exec (.sqTail b r v) s = .next s.badDb)) ∧
      (alGet bs.sqs r.toNat = none → exec (.sqTail b r v) s = .next s.badDb) ∧
      (∀ q, alGet bs.cqs r.toNat = some q →
        (fld v 0 14 < 2 ^ q.log2 → moves q.log2 q.head (fld v 0 14) q.tail = true → q.back = [] → exec (.cqHead b r v) s =
          .next (s.setBasin b.toNat { bs with cqs := alPut bs.cqs r.toNat { q with head := fld v 0 14 } })) ∧
        (fld v 0 14 < 2 ^ q.log2 → moves q.log2 q.head (fld v 0 14) q.tail = true → exec (.cqHead b r v) s =
          .next ((s.setBasin b.toNat { bs with cqs := alPut bs.cqs r.toNat { q with head := fld v 0 14 } }).drainBack b.toNat r.toNat q.back.length)) ∧
        ((2 ^ q.log2 ≤ fld v 0 14 ∨ moves q.log2 q.head (fld v 0 14) q.tail = false) → exec (.cqHead b r v) s = .next s.badDb)) ∧
      (moves 10 bs.evt.head (fld v 0 10) bs.evt.tail = true → exec (.evtHead b v) s = .next (s.setBasin b.toNat { bs with evt := { bs.evt with head := fld v 0 10 } })) ∧
      (moves 10 bs.evt.head (fld v 0 10) bs.evt.tail = false → exec (.evtHead b v) s = .next s.badDb) ∧
      (moves 10 bs.exc.head (fld v 0 10) bs.exc.tail = true → exec (.excHead b v) s = .next (s.setBasin b.toNat { bs with exc := { bs.exc with head := fld v 0 10 } })) ∧
      (moves 10 bs.exc.head (fld v 0 10) bs.exc.tail = false → exec (.excHead b v) s = .next s.badDb))) ∧
  (∀ (s : State),
    (∀ (b : BitVec 6) (v : BitVec 64) (a : ASweep), s.inService = true → s.sweepOfGsid (fld v 0 24) = some a → a.num = fld v 0 14 →
      (a.basin = b.toNat → 5 ≤ a.state → s.sweeps.handed = [] → ∃ t, exec (.release b v) s = .next t ∧ t.sweepNo a.num = none ∧
        (t.basin b.toNat).useCount = ((s.basin b.toNat).useCount + 1) % 2 ^ 16 ∧
        t.dram = memWriteL s.dram a.desc.slot (leBytes 8 (statusWord 0 false false false false 0 (t.basin b.toNat).useCount 0 0).toNat)) ∧
      ((a.basin ≠ b.toNat ∨ a.state < 5) → exec (.release b v) s = .next s.badDb)) ∧
    (∀ (b : BitVec 6) (r : BitVec 8) (q : CQ), alGet (s.basin b.toNat).cqs r.toNat = some q →
      (q.ien = true → 0 < q.fresh → q.firstAt + ticksUs q.coalUs ≤ s.now → exec (.coalTimer b r) s =
        .next ((s.setBasin b.toNat { s.basin b.toNat with cqs := alPut (s.basin b.toNat).cqs r.toNat { q with fresh := 0 } }).raiseMsix q.vector)) ∧
      ((q.ien = false ∨ q.fresh = 0 ∨ s.now < q.firstAt + ticksUs q.coalUs) → exec (.coalTimer b r) s = .next s)) ∧
    (s.mode ≠ 1 → exec .serviceEntry s = .next s) ∧
    (s.mode = 1 → ∃ t, exec .serviceEntry s = .next t ∧ t.mode = 2 ∧ t.fld rHubHostif 2 1 = 1 ∧ t.boot.serviceAt = s.now ∧ t.boot.reports = []) ∧
    (∃ t, exec .pcieHotReset s = .next t ∧ t.sec.ide = [] ∧ (∀ off, 0xFE ≤ blockOf off → t.reg off = regReset off) ∧
      (s.sec.tdisp = 1 ∨ s.sec.tdisp = 2 → t.sec.tdisp = 3) ∧ (s.sec.tdisp = 0 ∨ s.sec.tdisp = 3 → t.sec.tdisp = s.sec.tdisp) ∧ t.dram = s.dram ∧
      (∀ off, blockOf off < 0xFE → t.reg off = s.reg off)))

/-- R330, R331, R333, R363: the descriptors of a ring. With nothing at its head, or another operation's descriptor, a command of one operation does
nothing; a reserved OP is completed with INVALID_FIELD, and the descriptor of a tenant that may not submit with the status of its reason, with no
other effect. R329, R335, R336: a completion. With room and none held back, its 32 bytes stand at the tail of the completion ring that the submission
ring reports to, with PHASE and that ring's head, the tail advances and PHASE turns at the end; without room it is held back, not lost; a completion
of BSN_CMD goes to BSN_CMD_RES; success without CQ posts none. -/
def Obligations.RingService : Prop :=
  (∀ (s : State) (b : BitVec 6) (r : BitVec 8),
    ∀ e ∈ ([(.cancel b r, 0x02), (.createObject b r, 0x03), (.updateObject b r, 0x04), (.destroyObject b r, 0x05), (.append b r [], 0x06), (.truncate b r [], 0x07),
        (.loadProgram b r, 0x08), (.ringConfig b r, 0x09), (.moorReg b r, 0x0A), (.moorRevoke b r, 0x0B), (.moorDereg b r, 0x0C), (.flightArmDesc b r, 0x0D),
        (.flightCancel b r, 0x0E), (.connOpen b r, 0x0F), (.connClose b r, 0x10), (.moveObject b r, 0x25), (.bind b r, 0x2A), (.unbind b r, 0x2B)] : List (Instr × Nat)),
      (s.front b.toNat r.toNat = none → exec e.1 s = .next s) ∧
      (∀ d, s.front b.toNat r.toNat = some d →
        (reservedOp d.op = true → exec e.1 s = .next ((s.takeEntry b.toNat r.toNat).fin d stInvalidField 0)) ∧
        (reservedOp d.op = false → d.op ≠ e.2 → exec e.1 s = .next s) ∧
        (d.op = e.2 → ∀ st, (s.takeEntry b.toNat r.toNat).tenantRefuse d.basin d.tenant = some st →
          exec e.1 s = .next ((s.takeEntry b.toNat r.toNat).fin d st 0)))) ∧
  (∀ (s : State) (d : Dsc) (st res : Nat) (sq : SQ) (q : CQ), d.ring < 256 → alGet (s.basin d.basin).sqs d.ring = some sq → alGet (s.basin d.basin).cqs sq.cq = some q →
    (d.cq = true ∨ st ≠ 0) →
    (q.full = false → q.back = [] → ∃ q1,
      (s.fin d st res).dram = memWriteL s.dram (q.base + 32 * q.tail) (leBytes 8 d.wrid ++ leBytes 2 st ++ leBytes 1 d.op ++ [if q.phase then 1 else 0] ++ leBytes 4 0 ++
        leBytes 8 res ++ leBytes 1 d.ring ++ [0] ++ leBytes 2 sq.head ++ leBytes 4 0) ∧
      alGet ((s.fin d st res).basin d.basin).cqs sq.cq = some q1 ∧ q1.tail = (q.tail + 1) % 2 ^ q.log2 ∧ q1.head = q.head ∧
      q1.phase = (if q.tail + 1 = 2 ^ q.log2 then !q.phase else q.phase)) ∧
    ((q.full = true ∨ q.back ≠ []) → (s.fin d st res).dram = s.dram ∧
      ∃ q1, alGet ((s.fin d st res).basin d.basin).cqs sq.cq = some q1 ∧ q1 = { q with back := q.back ++ [cqEntry d.wrid st d.op 0 res d.ring] }))

/-- R151, R163, R206 to R209, R212, R345 to R348: objects. CREATE_OBJECT enters the object its attributes and lists describe, journalled;
UPDATE_OBJECT changes the attributes its mask names; DESTROY_OBJECT frees its berths and takes it away; APPEND and TRUNCATE queue their work for the
berths named; each refuses, with the status of the first reason that holds. -/
def Obligations.ObjectCommands : Prop :=
  ∀ (s : State) (b : BitVec 6) (r : BitVec 8) (d : Dsc),
    let u := s.takeEntry b.toNat r.toNat
    let object := d.f 0x10 4
    (Submits s b.toNat r.toNat 0x03 d → let a0 := bytesAt d.bytes 0x10 0x50
      let zm := d.f 0x58 8
      (u.withLists d.basin a0 true true true [] = none → exec (.createObject b r) s = .next (u.fin d stAccessDenied 0)) ∧
      (∀ full0, u.withLists d.basin a0 true true true [] = some full0 → let full := resolveAttrs (full0.take 0x50) zm ++ full0.drop 0x50
        ((geoOk a0 = false ∨ attrsOk full zm true = false ∨ 2 ^ 10 ≤ zm) → exec (.createObject b r) s = .next (u.fin d stInvalidField 0)) ∧
        (geoOk a0 = true → attrsOk full zm true = true → zm < 2 ^ 10 →
          ((u.obj d.tenant object).isSome = true → exec (.createObject b r) s = .next (u.fin d stObjectExists 0)) ∧
          (u.obj d.tenant object = none → fitsGeo (attrGeo full) = true → attrN full 0x1A 2 ≠ 0 →
            (∀ e, u.baseRefuse d.basin full = some e → exec (.createObject b r) s = .next (u.fin d e 0)) ∧
            (u.baseRefuse d.basin full = none → exec (.createObject b r) s =
              .next ((((u.setObj d.tenant object (objOf d.basin full)).journalObj d.tenant object (objOf d.basin full) false).rejoinGo).fin d stOk 0)))))) ∧
    (Submits s b.toNat r.toNat 0x04 d →
      (u.obj d.tenant object = none → exec (.updateObject b r) s = .next (u.fin d stNotFound 0)) ∧
      (∀ o full, u.obj d.tenant object = some o → o.basin = d.basin → o.isBase = false → d.f 0x58 8 < 2 ^ 10 →
        u.withLists d.basin (attrSet (attrSet (updateAttrs (o.attrBytes.take 0x50) (bytesAt d.bytes 0x10 0x50) (d.f 0x58 8)) 0x40 8 (attrN (bytesAt d.bytes 0x10 0x50) 0x40 8)) 0x50 8
          (attrN (bytesAt d.bytes 0x10 0x50) 0x50 8)) false ((d.f 0x58 8).testBit 2) ((d.f 0x58 8).testBit 1) o.attrBytes = some full →
        (attrsOk full (d.f 0x58 8) true = false → exec (.updateObject b r) s = .next (u.fin d stInvalidField 0)) ∧
        (attrsOk full (d.f 0x58 8) true = true → ∃ o1, exec (.updateObject b r) s = .next (((u.setObj d.tenant object o1).journalObj d.tenant object o1 false).fin d stOk 0) ∧
          o1.attrBytes = (objOf o.basin full).attrBytes ∧ o1.basin = o.basin ∧ o1.lead = min o1.leadMax (max o1.leadMin o.lead)))) ∧
    (Submits s b.toNat r.toNat 0x05 d →
      (∀ o, u.obj d.tenant object = some o → o.basin = d.basin → ∃ t, exec (.destroyObject b r) s = .next t ∧
        t = (u.destroyObj d.tenant object o).fin d stOk (u.homesOf d.tenant object).length ∧ t.obj d.tenant object = none) ∧
      (u.obj d.tenant object = none → exec (.destroyObject b r) s = .next (u.fin d stNotFound 0))) ∧
    (∀ ups, Submits s b.toNat r.toNat 0x06 d → ∀ o, u.obj d.tenant object = some o → o.basin = d.basin → let first := d.f 0x18 4
      let count := d.f 0x1C 4
      ((count = 0 ∨ 65536 < count ∨ 2 ^ 25 * o.p < first + count) → exec (.append b r ups) s = .next (u.fin d stInvalidField 0)) ∧
      (count ≠ 0 → count ≤ 65536 → first + count ≤ 2 ^ 25 * o.p →
        (u.inHost d.basin (d.f 0x20 8) (count * o.geo.rp) = false → exec (.append b r ups) s = .next (u.fin d stAccessDenied 0)) ∧
        (u.inHost d.basin (d.f 0x20 8) (count * o.geo.rp) = true → ∃ k : BerthKey, k = ⟨d.tenant, object, d.f 0x14 2, first / o.p⟩ ∧ exec (.append b r ups) s =
          .next (((u.upsetBerth k ups).writeJob d).queueOp ⟨k, d.basin, first, count, ((u.upsetBerth k ups).writeJob d).buffer (d.f 0x20 8) (count * o.geo.rp), false, u.host.nextJob⟩)))) ∧
    (∀ ups, Submits s b.toNat r.toNat 0x07 d → ∀ o, u.obj d.tenant object = some o → o.basin = d.basin →
      (∀ pkg, o.movedTo = some pkg → exec (.truncate b r ups) s = .next (u.fin d stStaleMap pkg)) ∧
      (o.movedTo = none → ∃ k : BerthKey, k = ⟨d.tenant, object, d.f 0x14 2, d.f 0x18 4 / o.p⟩ ∧ exec (.truncate b r ups) s =
        .next (((u.upsetBerth k ups).writeJob d).queueOp ⟨k, d.basin, d.f 0x18 4, 0, [], true, u.host.nextJob⟩)))

/-- R106 to R109, R329, R332, R375: programs and rings. A signed image that its checks pass stands ready in its entry, the image before it retiring
while a sweep uses it; a retiring image not used any more is freed and the next one waiting takes its place; RING_CONFIG creates or deletes a ring
other than ring 0. -/
def Obligations.ProgramAndRingCommands : Prop :=
  ∀ (s : State) (b : BitVec 6) (r : BitVec 8) (d : Dsc),
    let u := s.takeEntry b.toNat r.toNat
    (Submits s b.toNat r.toNat 0x08 d → let e := d.f 0x10 1
      let n := d.f 0x20 4
      let img := u.buffer (d.f 0x18 8) n
      ((e = 0 ∨ 15 < e) → exec (.loadProgram b r) s = .next (u.fin d stInvalidField 0)) ∧
      (1 ≤ e → e ≤ 15 →
        (u.inHost d.basin (d.f 0x18 8) n = false → exec (.loadProgram b r) s = .next (u.fin d stAccessDenied 0)) ∧
        (u.inHost d.basin (d.f 0x18 8) n = true →
          ((u.basin d.basin).pkey = none → exec (.loadProgram b r) s = .next (u.fin d stNoKey 0)) ∧
          (∀ key, (u.basin d.basin).pkey = some key →
            ((n < sigLen ∨ Config.mldsaVerify key (img.take (n - sigLen)) (img.drop (n - sigLen)) = false) → exec (.loadProgram b r) s = .next (u.fin d stBadSignature 0)) ∧
            (sigLen ≤ n → Config.mldsaVerify key (img.take (n - sigLen)) (img.drop (n - sigLen)) = true →
              ((u.imageOk img = false ∨ ((u.basin d.basin).projOf e = true ∧ 31488 < dsc img 0xC 4)) → exec (.loadProgram b r) s = .next (u.fin d stBadImage 0)) ∧
              (u.imageOk img = true → ((u.basin d.basin).projOf e = false ∨ dsc img 0xC 4 ≤ 31488) → (u.progEntry d.basin e).retiring = none →
                ∃ t, exec (.loadProgram b r) s = .next t ∧ t = (u.installImage d.basin e (imageOf img)).fin d stOk 0 ∧ (t.progEntry d.basin e).ready = some (imageOf img))))))) ∧
    (∀ (e : BitVec 4) i, (s.progEntry b.toNat e.toNat).retiring = some i →
      (s.imageUsed b.toNat e.toNat i = true → exec (.retiringImageFree b e) s = .next s) ∧
      (s.imageUsed b.toNat e.toNat i = false → (s.progEntry b.toNat e.toNat).waiting = [] → exec (.retiringImageFree b e) s =
        .next (s.setProg b.toNat e.toNat { s.progEntry b.toNat e.toNat with retiring := none })) ∧
      (∀ img job rest, s.imageUsed b.toNat e.toNat i = false → (s.progEntry b.toNat e.toNat).waiting = (img, job) :: rest →
        ∃ t, exec (.retiringImageFree b e) s = .next t ∧ t = (s.setProg b.toNat e.toNat { s.progEntry b.toNat e.toNat with retiring := none }).loadWaiting
          b.toNat e.toNat (rest.length + 1))) ∧
    (∀ e : BitVec 4, (s.progEntry b.toNat e.toNat).retiring = none → exec (.retiringImageFree b e) s = .next s) ∧
    (Submits s b.toNat r.toNat 0x09 d → let n := d.f 0x11 1
      let k := d.f 0x12 1
      let bs := u.basin d.basin
      (1 < d.f 0x10 1 → exec (.ringConfig b r) s = .next (u.fin d stInvalidField 0)) ∧
      (d.f 0x10 1 ≤ 1 → n = 0 → exec (.ringConfig b r) s = .next (u.fin d stRingInUse 0)) ∧
      (d.f 0x10 1 = 0 → n ≠ 0 → (∀ q, alGet bs.sqs n = some q → q.head = q.tail) →
        (k = 0 → ∃ t, exec (.ringConfig b r) s = .next t ∧ t = (u.setBasin d.basin { bs with sqs := alDel bs.sqs n }).fin d stOk 0) ∧
        (4 ≤ k → k ≤ 12 → (alGet bs.cqs (d.f 0x13 1)).isSome = true → d.f 0x20 8 % (128 * 2 ^ k) = 0 → u.inHost d.basin (d.f 0x20 8) (128 * 2 ^ k) = true →
          exec (.ringConfig b r) s = .next ((u.setBasin d.basin { bs with sqs := alPut bs.sqs n { base := d.f 0x20 8, log2 := k, cq := d.f 0x13 1 } }).fin d stOk 0))) ∧
      (∀ q, d.f 0x10 1 = 0 → n ≠ 0 → alGet bs.sqs n = some q → q.head ≠ q.tail → exec (.ringConfig b r) s = .next (u.fin d stRingInUse 0)) ∧
      (d.f 0x10 1 = 1 → n ≠ 0 → alGet bs.cqs n = none → 4 ≤ k → k ≤ 14 → d.f 0x14 1 ≤ 63 → d.f 0x15 1 ≤ 1 → d.f 0x20 8 % (32 * 2 ^ k) = 0 →
        u.inHost d.basin (d.f 0x20 8) (32 * 2 ^ k) = true → ∃ q t, exec (.ringConfig b r) s = .next t ∧
          t = ((u.setBasin d.basin { bs with cqs := alPut bs.cqs n q }).setDram (memZero u.dram (d.f 0x20 8) (32 * 2 ^ k))).fin d stOk 0 ∧
          q = { base := d.f 0x20 8, log2 := k, vector := d.f 0x14 1, ien := decide (d.f 0x15 1 = 1), coalN := d.f 0x16 2, coalUs := d.f 0x18 2 }))

/-- R267, R275, R290, R301 to R303, R345: moorings, host flights, connections, CANCEL. A registered mooring has a fresh key and the next generation of
its slot; revoked, it ends when no write is under way in it; deregistered, its slot is free. A flight is armed with its entries in order and disarmed
with what it has released; a connection opens with a request to its peer and closes with a message; CANCEL abandons a sweep that has not ended. -/
def Obligations.ConnectionDescriptors : Prop :=
  ∀ (s : State) (b : BitVec 6) (r : BitVec 8) (d : Dsc),
    let u := s.takeEntry b.toNat r.toNat
    (Submits s b.toNat r.toNat 0x02 d → let g := d.f 0x10 4 % 2 ^ 24
      (u.sweepOfGsid g = none → exec (.cancel b r) s = .next (u.postCq d.basin d.ring (cqEntry d.wrid stNotFound d.op g 0 d.ring))) ∧
      (∀ a, u.sweepOfGsid g = some a → a.basin = d.basin → a.state < 5 → d.cq = true → exec (.cancel b r) s =
        .next ((u.abandon a 0).postCq d.basin d.ring (cqEntry d.wrid stOk d.op g a.word.toNat d.ring))) ∧
      (∀ a, u.sweepOfGsid g = some a → a.basin = d.basin → 5 ≤ a.state → exec (.cancel b r) s =
        .next (u.postCq d.basin d.ring (cqEntry d.wrid stAlreadyFinal d.op g a.word.toNat d.ring)))) ∧
    (Submits s b.toNat r.toNat 0x0A d → let conn := d.f 0x10 4 % 2 ^ 24
      ((32 ≤ d.f 0x14 1 ∨ d.f 0x20 8 = 0) → exec (.moorReg b r) s = .next (u.fin d stInvalidField 0)) ∧
      (d.f 0x14 1 < 32 → d.f 0x20 8 ≠ 0 → u.inMoor d.basin (d.f 0x18 8) (d.f 0x20 8) = false → exec (.moorReg b r) s = .next (u.fin d stAccessDenied 0)) ∧
      (d.f 0x14 1 < 32 → d.f 0x20 8 ≠ 0 → u.inMoor d.basin (d.f 0x18 8) (d.f 0x20 8) = true → (u.conn conn).st ≠ .closed → (u.conn conn).kind = 0 → (u.conn conn).basin = d.basin →
        (u.freeMooring 65536 0 = none → exec (.moorReg b r) s = .next (u.fin d stMooringFull 0)) ∧
        (∀ i t, u.freeMooring 65536 0 = some i → let key := i + u.free.toNat % 65536 * 65536
          let gen := ((u.mooring i).gen + 1) % 65536
          u.drawn.ldgAdd (moorKeyOf d.tenant d.basin key) moorCare (BitVec.ofNat 64 (conn + gen * 2 ^ 24)) = .ok t →
          ∃ v, exec (.moorReg b r) s = .next v ∧ v = (t.setMooring i (v.mooring i)).fin d stOk (key + gen * 2 ^ 32) ∧ (v.mooring i).key = key ∧ (v.mooring i).gen = gen ∧
            (v.mooring i).st = 1 ∧ (v.mooring i).mfl = d.f 0x14 1 ∧ (v.mooring i).base = d.f 0x18 8 ∧ (v.mooring i).len = d.f 0x20 8 ∧ (v.mooring i).conn = conn))) ∧
    (Submits s b.toNat r.toNat 0x0B d →
      (d.mooring u = none → exec (.moorRevoke b r) s = .next (u.fin d stNotFound 0)) ∧
      (∀ i, d.mooring u = some i → (u.mooring i).st = 3 → exec (.moorRevoke b r) s = .next (u.fin d stOk 0)) ∧
      (∀ i, d.mooring u = some i → (u.mooring i).st = 1 → 0 < (u.mooring i).inflight → ∃ t, exec (.moorRevoke b r) s = .next t ∧ (t.mooring i).st = 2 ∧
        (t.mooring i).jobs = (u.mooring i).jobs ++ [u.host.nextJob]) ∧
      (∀ i, d.mooring u = some i → (u.mooring i).st = 1 → (u.mooring i).inflight = 0 → ∃ t, exec (.moorRevoke b r) s = .next t ∧ (t.mooring i).st = 3)) ∧
    (Submits s b.toNat r.toNat 0x0C d →
      (∀ i, d.mooring u = some i → (u.mooring i).st = 3 → exec (.moorDereg b r) s = .next ((u.setMooring i { gen := (u.mooring i).gen }).fin d stOk 0)) ∧
      (∀ i, d.mooring u = some i → (u.mooring i).st ≠ 3 → exec (.moorDereg b r) s = .next (u.fin d stInvalidField 0))) ∧
    (Submits s b.toNat r.toNat 0x0D d → let n := d.f 0x1C 2
      let es := u.flightEntries (d.f 0x10 8) (if d.f 0x18 4 = 0 then 10737 else d.f 0x18 4) n (d.f 0x20 8) (d.f 0x28 8)
      ((n = 0 ∨ 256 < n) → exec (.flightArmDesc b r) s = .next (u.fin d stInvalidField 0)) ∧
      (1 ≤ n → n ≤ 256 → u.inHost d.basin (d.f 0x20 8) (16 * n) = false → exec (.flightArmDesc b r) s = .next (u.fin d stAccessDenied 0)) ∧
      (1 ≤ n → n ≤ 256 → u.inHost d.basin (d.f 0x20 8) (16 * n) = true → (∀ e ∈ es, e.kind = 2 ∨ e.kind = 3) →
        (es.zip (es.drop 1)).all (fun p => decide (p.1.time ≤ p.2.time)) = true →
        ((u.sweeps.flights.filter (fun f => !f.left.isEmpty)).length < 1024 → exec (.flightArmDesc b r) s = .next (State.fin { u with
            fab := { u.fab with handles := u.fab.handles + 1 }
            sweeps := { u.sweeps with flights := u.sweeps.flights ++ [{ handle := u.fab.handles + 1, basin := d.basin, ring := d.ring, left := es }] } } d stOk (u.fab.handles + 1))) ∧
        (1024 ≤ (u.sweeps.flights.filter (fun f => !f.left.isEmpty)).length → exec (.flightArmDesc b r) s = .next (u.fin d stFlightFull 0)))) ∧
    (Submits s b.toNat r.toNat 0x0E d →
      (∀ f, u.sweeps.flights.find? (fun f => decide (f.handle = d.f 0x10 8) && decide (f.basin = d.basin)) = some f → exec (.flightCancel b r) s = .next (State.fin { u with
        sweeps := { u.sweeps with flights := u.sweeps.flights.map (fun g => if g.handle = f.handle then { g with left := [] } else g) } } d stOk
          (f.released + f.left.length * 2 ^ 32))) ∧
      (u.sweeps.flights.find? (fun f => decide (f.handle = d.f 0x10 8) && decide (f.basin = d.basin)) = none → exec (.flightCancel b r) s = .next (u.fin d stNotFound 0))) ∧
    (Submits s b.toNat r.toNat 0x0F d → let n := d.f 0x10 4
      let cfg := d.f 0x16 1
      let ls := d.f 0x1E 1 % 16
      let lr := d.f 0x1E 1 / 16
      ((u.conn n).st ≠ .closed → exec (.connOpen b r) s = .next (u.fin d stInvalidField 0)) ∧
      ((2 ^ 20 ≤ n ∨ 2 ^ 20 ≤ d.f 0x18 4 ∨ 1024 ≤ d.f 0x14 2 ∨ cfg % 4 = 3 ∨ 4 < cfg / 8 % 8 ∨ 64 ≤ cfg ∨ ls < 4 ∨ 12 < ls ∨ lr < 4 ∨ 12 < lr) →
        exec (.connOpen b r) s = .next (u.fin d stInvalidField 0)) ∧
      (n < 2 ^ 20 → d.f 0x18 4 < 2 ^ 20 → d.f 0x14 2 < 1024 → cfg % 4 ≠ 3 → cfg / 8 % 8 ≤ 4 → cfg < 64 → 4 ≤ ls → ls ≤ 12 → 4 ≤ lr → lr ≤ 12 → (u.conn n).st = .closed →
        u.inHost d.basin (d.f 0x20 8) (64 * 2 ^ ls) = true → u.inHost d.basin (d.f 0x28 8) (16 * 2 ^ lr) = true → u.inHost d.basin (d.f 0x30 8) (16 * 2 ^ lr) = true →
        s.expelled = false → ∃ t c, exec (.connOpen b r) s = .next t ∧ t.conn n = c ∧ c.st = .opening ∧ c.kind = cfg % 4 ∧ c.basin = d.basin ∧ c.peerPkg = d.f 0x14 2 ∧
          c.peerConn = d.f 0x18 4 ∧ c.log2s = ls ∧ c.log2r = lr ∧ c.sq = d.f 0x20 8 ∧ c.rq = d.f 0x28 8 ∧ c.cq = d.f 0x30 8 ∧ c.na = u.nonce ∧ t.fresh = u.fresh + 2 ∧
          t.sent = s.sent ++ [.connReq c.peerPkg (c.setup n c.na)])) ∧
    (Submits s b.toNat r.toNat 0x10 d →
      (u.ownConn d.basin (d.f 0x10 4) = none → exec (.connClose b r) s = .next (u.fin d stAccessDenied 0)) ∧
      (∀ c, u.ownConn d.basin (d.f 0x10 4) = some c → ∃ t, exec (.connClose b r) s = .next t ∧
        t = ((u.send (.connClose (d.f 0x10 4))).closeConn (d.f 0x10 4) stWrCancelled).fin d stOk 0 ∧ (t.conn (d.f 0x10 4)).st = .closed))

/-- R347 to R353: composition. A descriptor from ring 0 of basin 0 or from BSN_CMD starts: COMPOSE takes the lowest run of slots that is free and,
once empty, begins to pass the clusters of its mask; RESIZE and DECOMPOSE begin the passes theirs need, or end at once where none is; a cluster passes
once its cores run nothing; of another basin or ring it is refused. -/
def Obligations.Composition : Prop :=
  ∀ (s : State) (d : Dsc),
    let u := s.takeEntry 0 0
    let b := d.f 0x10 1
    (∀ e ∈ ([(fun src => .compose src, 0x20), (fun src => .resize src, 0x21), (fun src => .decompose src, 0x22), (fun src => .basinTenant src, 0x23), (fun src => .mapEpoch src, 0x24),
        (fun src => .tenantReserve src, 0x28), (fun src => .tenantRemove src, 0x29)] : List ((ComposeSrc → Instr) × Nat)),
      (s.inService = false → exec (e.1 .cmd) s = .next s.turnedAway) ∧
      (s.inService = true → s.cmdBusy = true → exec (e.1 .cmd) s = .next s) ∧
      (s.inService = true → s.cmdBusy = false → (dscOf 0 cmdRing s.cmdBuf).op = e.2 → exec (e.1 .cmd) s = .next (doCompose (dscOf 0 cmdRing s.cmdBuf) (s.setFld rBsnCmdRes 16 1 1))) ∧
      (∀ (x : BitVec 6) (r : BitVec 8), s.front x.toNat r.toNat = none → exec (e.1 (.ring x r)) s = .next s) ∧
      (∀ (x : BitVec 6) (r : BitVec 8) d, s.front x.toNat r.toNat = some d → d.op = e.2 → (x ≠ 0 ∨ r ≠ 0) → exec (e.1 (.ring x r)) s =
        .next ((s.takeEntry x.toNat r.toNat).fin d stAccessDenied 0))) ∧
    (Composes s 0x20 d → ∀ n base, u.composeBasin d = .ok n → d.shareOk = true → u.pkeyOk d = true → u.maskRefuse n d.mask = none →
      lowestRun u.hostRuns 4194304 4980736 (d.f 0x18 4) = some base → u.usedIn base (d.f 0x18 4) = [] →
      let v := u.setBasin n { st := 1, hostBase := base, hostSlots := d.f 0x18 4 }
      (∀ m, d.f 0x20 2 ≠ 0 → lowestRun v.moorRuns 0 512 (d.f 0x20 2) = some m → d.f 0x12 2 = 0 →
        ∃ t o, exec (.compose (.ring 0 0)) s = .next t ∧ (t.basin n).st = 1 ∧ (t.basin n).hostBase = base ∧ (t.basin n).hostSlots = d.f 0x18 4 ∧ (t.basin n).moorBase = m ∧
          (t.basin n).moorLen = d.f 0x20 2 ∧ (∀ c ∈ d.mask, (t.cluster c).passing = some n) ∧ (∀ c, c ∉ d.mask → t.cluster c = s.cluster c) ∧ t.host.composing = some o ∧ o.step = 2 ∧
          o.clusters = d.mask) ∧
      (∀ r, d.f 0x20 2 = 0 → d.f 0x12 2 ≠ 0 → v.chamberRun n (d.f 0x12 2) = some r →
        ∃ t, exec (.compose (.ring 0 0)) s = .next t ∧ (t.basin n).st = 1 ∧ (∀ i < 16 * d.f 0x12 2, (t.chamber (16 * r + i)).owner = n ∧ (t.chamber (16 * r + i)).alloc = true) ∧
          (∀ c ∈ d.mask, (t.cluster c).passing = some n))) ∧
    (Composes s 0x21 d → 1 ≤ b → b ≤ 63 → (u.basin b).st = 2 → d.shareOk = true → d.f 0x18 4 = (u.basin b).hostSlots → d.f 0x20 2 = (u.basin b).moorLen → u.pkeyOk d = true →
      u.maskRefuse b d.mask = none → d.f 0x12 2 = 0 →
      let more := d.mask.filter (fun c => decide ((u.cluster c).owner ≠ some b))
      let less := (u.upOf b).filter (fun c => !d.mask.contains c)
      (more ++ less = [] → ∃ t, exec (.resize (.ring 0 0)) s = .next t ∧ (t.basin b).dramW = d.f 0x1C 1 ∧ (t.basin b).flash = BitVec.ofNat 32 (d.f 0x14 4) ∧
        (t.basin b).rate = d.f 0x24 4 % 2 ^ 24 ∧ (t.basin b).st = 2 ∧ t.host.composing = none) ∧
      (more ++ less ≠ [] → ∃ t, exec (.resize (.ring 0 0)) s = .next t ∧ (∀ c ∈ more, (t.cluster c).passing = some b) ∧ (∀ c ∈ less, (t.cluster c).passing = some 0) ∧
        t.host.composing.isSome = true)) ∧
    (Composes s 0x22 d → 1 ≤ b → b ≤ 63 →
      ((u.basin b).st ≠ 2 → ∃ t, exec (.decompose (.ring 0 0)) s = .next t ∧ (t.basin b).st = (u.basin b).st ∧ t.host.composing = none ∧ t.fab = s.fab) ∧
      ((u.basin b).st = 2 → u.notEmpty b = false → u.clustersOf b ≠ [] → ∃ t, exec (.decompose (.ring 0 0)) s = .next t ∧ (t.basin b).st = 3 ∧
        (∀ c ∈ u.clustersOf b, (t.cluster c).passing = some 0) ∧ t.host.composing.isSome = true)) ∧
    (∀ (cl : BitVec 9) n, (s.cluster cl.toNat).passing = some n →
      ((∃ i < 8, (s.core (8 * cl.toNat + i)).run.isSome = true) → exec (.clusterPass cl) s = .next s) ∧
      ((∀ i < 8, (s.core (8 * cl.toNat + i)).run = none) → s.host.composing = none → s.host.composeQ = [] → ∃ t, exec (.clusterPass cl) s = .next t ∧
        (t.cluster cl.toNat).owner = some n ∧ (t.cluster cl.toNat).passing = none ∧ (t.cluster cl.toNat).plb = [] ∧ (t.cluster cl.toNat).bays = [] ∧
        (∀ i < 8, (t.core (8 * cl.toNat + i)).ls = [] ∧ (t.core (8 * cl.toNat + i)).scratch = []))) ∧
    (∀ cl : BitVec 9, (s.cluster cl.toNat).passing = none → exec (.clusterPass cl) s = .next s)

/-- R353, R356, R370, R379, R380: tenants of a basin, the map epoch, a tenant's slot. BASIN_TENANT adds a tenant to a composed basin and takes one
away that holds nothing in it; MAP_EPOCH and a write of BSN_EPOCH set a newer epoch, or the first, and refuse any other; TENANT_RESERVE reserves an
EMPTY slot for its owner; TENANT_REMOVE begins the removal of an ACTIVE one. R194, R197, R376, R377: BIND of a package that its checks pass binds it
and completes with its object or program, and is refused, counted in SEC_ERR, where its memory, its checks or its tag fail; UNBIND takes a binding
away unless a base object is still in use. -/
def Obligations.TenancyAndBinding : Prop :=
  (∀ (s : State) (d : Dsc),
    let u := s.takeEntry 0 0
    let b := d.f 0x10 1
    (Composes s 0x23 d → b ≤ 63 → (u.basin b).st = 2 → d.f 0x11 1 = 1 → ∀ v, u.tenantBit d.tenant b true = .ok v →
      ∃ t, exec (.basinTenant (.ring 0 0)) s = .next t ∧ (t.basin b).tenants.contains d.tenant = true ∧ t.ledger.entries = v.ledger.entries ∧ t.host.composing = none) ∧
    (Composes s 0x23 d → b ≤ 63 → (u.basin b).st = 2 → d.f 0x11 1 = 2 → s.tiers.objects = [] → s.net.conns = [] → s.net.moorings = [] →
      ∃ t, exec (.basinTenant (.ring 0 0)) s = .next t ∧ (t.basin b).tenants.contains d.tenant = false ∧ t.host.composing = none) ∧
    (Composes s 0x24 d →
      ((s.epochUnset = true ∨ epochNewer (d.f 0x10 2) s.epoch = true) → ∃ t, exec (.mapEpoch (.ring 0 0)) s = .next t ∧ t.epoch = d.f 0x10 2 ∧ t.epochUnset = false) ∧
      (s.epochUnset = false → epochNewer (d.f 0x10 2) s.epoch = false → ∃ t, exec (.mapEpoch (.ring 0 0)) s = .next t ∧ t.epoch = s.epoch ∧ t.epochUnset = false)) ∧
    (∀ v : BitVec 64, s.inService = true →
      ((s.epochUnset = true ∨ epochNewer (fld v 0 16) s.epoch = true) → ∃ t, exec (.bsnEpochWrite v) s = .next t ∧ t.epoch = fld v 0 16 ∧ t.epochUnset = false) ∧
      (s.epochUnset = false → epochNewer (fld v 0 16) s.epoch = false → ∃ t, exec (.bsnEpochWrite v) s = .next t ∧ t.epoch = s.epoch ∧ t.fld rBsnEpoch 16 1 = 1)) ∧
    (∀ v : BitVec 64, s.inService = true → s.cmdBusy = false → fld v 0 1 = 1 → exec (.bsnCmdGo v) s = .next ((s.setFld rBsnCmdRes 16 1 1).cmdRun (dscOf 0 cmdRing s.cmdBuf))) ∧
    (∀ v : BitVec 64, s.inService = true → (s.cmdBusy = true ∨ fld v 0 1 = 0) → exec (.bsnCmdGo v) s = .next s) ∧
    (∀ v : BitVec 64, s.inService = true → s.cmdBusy = false → fld v 0 1 = 1 → reservedOp (dscOf 0 cmdRing s.cmdBuf).op = true →
      ∃ t, exec (.bsnCmdGo v) s = .next t ∧ t.fld rBsnCmdRes 0 16 = stInvalidField ∧ t.fld rBsnCmdRes 16 1 = 0) ∧
    (Composes s 0x28 d →
      (d.tenant ≠ 0 → (s.keySlot d.tenant).st = 0 → ∃ t, exec (.tenantReserve (.ring 0 0)) s = .next t ∧ t.keySlot d.tenant = { st := 1, owner := BitVec.ofNat 384 (d.f 0x10 48) } ∧
        ∀ x, x ≠ d.tenant → t.keySlot x = s.keySlot x) ∧
      ((d.tenant = 0 ∨ (s.keySlot d.tenant).st ≠ 0) → ∃ t, exec (.tenantReserve (.ring 0 0)) s = .next t ∧ ∀ x, t.keySlot x = s.keySlot x)) ∧
    (Composes s 0x29 d → d.tenant ≠ 0 → u.inHost 0 (d.f 0x10 8) 64 = true →
      ((s.keySlot d.tenant).st = 2 → ∃ t, exec (.tenantRemove (.ring 0 0)) s = .next t ∧ (t.keySlot d.tenant).st = 3 ∧
        t.sec.removal = some { tenant := d.tenant, report := d.f 0x10 8, start := s.now } ∧ (∀ o ∈ t.tiers.writes, o.key.tenant ≠ d.tenant) ∧ (∀ q ∈ t.tiers.bargeQ, q.key.tenant ≠ d.tenant)) ∧
      ((s.keySlot d.tenant).st = 1 → ∃ t, exec (.tenantRemove (.ring 0 0)) s = .next t ∧ (t.keySlot d.tenant).st = 0 ∧ t.sec.removal = none ∧ t.host.composing = none))) ∧
  (∀ (s : State) (b : BitVec 6) (r : BitVec 8) (d : Dsc),
    let u := s.takeEntry b.toNat r.toNat
    (Submits s b.toNat r.toNat 0x2A d → let p := u.buffer (d.f 0x10 8) (d.f 0x18 8)
      (u.inHost d.basin (d.f 0x10 8) (d.f 0x18 8) = false → exec (.bind b r) s = .next ((u.bump rSecErr 16 16 1).fin d stAccessDenied 0)) ∧
      (u.inHost d.basin (d.f 0x10 8) (d.f 0x18 8) = true →
        (∀ t, u.bindPackage d.basin p = .ok t → exec (.bind b r) s = .next (t.fin d stOk (dsc p 8 4))) ∧
        (u.bindPackage d.basin p = .error stAuthFail → exec (.bind b r) s = .next ((u.bump rSecErr 0 16 1).fin d stAuthFail 0)) ∧
        (∀ e, u.bindPackage d.basin p = .error e → e ≠ stAuthFail → exec (.bind b r) s = .next ((u.bump rSecErr 16 16 1).fin d e 0)))) ∧
    (Submits s b.toNat r.toNat 0x2B d → let kind := d.f 0x10 1
      let mine (x : Binding) : Bool := decide (x.kind = kind) && decide (x.object = d.f 0x14 4) && (decide (kind = 1) || decide (x.entry = d.f 0x11 1))
      ((kind = 0 ∨ 2 < kind) → exec (.unbind b r) s = .next (u.fin d stInvalidField 0)) ∧
      (kind = 1 ∨ kind = 2 → (u.basin d.basin).binds.any mine = false → exec (.unbind b r) s = .next (u.fin d stNotFound 0)) ∧
      (kind = 1 → (u.basin d.basin).binds.any mine = true → u.tiers.objects.any (fun o => decide (o.2.basin = d.basin) && decide (o.2.base = d.f 0x14 4)) = true →
        exec (.unbind b r) s = .next (u.fin d stBaseInUse 0)) ∧
      (kind = 2 → (u.basin d.basin).binds.any mine = true → exec (.unbind b r) s =
        .next ((u.setBasin d.basin { u.basin d.basin with binds := (u.basin d.basin).binds.filter (fun x => !mine x) }).fin d stOk 0))))

/-- R347, R354, R355: an object's move to another basin of the part takes effect at once, or once the convoys armed before have passed; to another
part, it asks for its berths to be barged; a pull in the background takes the best berth not yet moved, where the rate allows one. R380 to R382: the
steps of a tenant's removal. The fence marks the tenant's entries and revokes its moorings; its sweeps, members and barges are ended; its key slot is
zeroed and its slots, connections, moorings, objects and entries are freed; the report is written, and the slot is EMPTY. -/
def Obligations.ObjectMovesAndRemoval : Prop :=
  (∀ (s : State) (b : BitVec 6) (r : BitVec 8) (d : Dsc),
    let u := s.takeEntry b.toNat r.toNat
    let object := d.f 0x10 4
    (Submits s b.toNat r.toNat 0x25 d → ∀ o, u.obj d.tenant object = some o → o.basin = d.basin → o.isBase = false → o.moving = none → o.moveBasin = none →
      (d.f 0x16 2 = 0xFFFF → d.f 0x14 1 ≤ 63 → (u.basin (d.f 0x14 1)).st = 2 → (u.basin (d.f 0x14 1)).tenants.contains d.tenant = true → d.f 0x14 1 ≠ o.basin →
        let v := u.setObj d.tenant object { o with moveBasin := some (d.f 0x14 1) }
        (v.armedBefore d.tenant object o.basin = true → exec (.moveObject b r) s = .next (v.fin d stOk (u.homesOf d.tenant object).length)) ∧
        (v.armedBefore d.tenant object o.basin = false → exec (.moveObject b r) s =
          .next ((v.switchBasin d.tenant object o (d.f 0x14 1)).fin d stOk (u.homesOf d.tenant object).length))) ∧
      (d.f 0x16 2 = 0xFFFF → (63 < d.f 0x14 1 ∨ (u.basin (d.f 0x14 1)).st ≠ 2) → exec (.moveObject b r) s = .next (u.fin d stInvalidField 0)) ∧
      (d.f 0x16 2 ≠ 0xFFFF → (1023 < d.f 0x16 2 ∨ d.f 0x16 2 = selfPkg) → exec (.moveObject b r) s = .next (u.fin d stInvalidField 0)) ∧
      (d.f 0x16 2 ≤ 1023 → d.f 0x16 2 ≠ selfPkg → o.pset.contains (d.f 0x16 2) = true → Config.peerObject (d.f 0x16 2) d.tenant object u.fresh = true →
        let v := u.drawn.setObj d.tenant object { o with moving := some (d.f 0x16 2), touched := [] }
        exec (.moveObject b r) s = .next (((v.moveOn d.tenant object).moveDone d.tenant object).fin d stOk (u.homesOf d.tenant object).length))) ∧
    (∀ (tn : BitVec 12) (ob : BitVec 32) (o : Obj) n, s.obj tn.toNat ob.toNat = some o → o.moveBasin = some n →
      (s.armedBefore tn.toNat ob.toNat o.basin = true → exec (.moveLedgerSwitch tn ob) s = .next s) ∧
      (s.armedBefore tn.toNat ob.toNat o.basin = false → exec (.moveLedgerSwitch tn ob) s = .next (s.switchBasin tn.toNat ob.toNat o n))) ∧
    (∀ (tn : BitVec 12) (ob : BitVec 32) (o : Obj), s.obj tn.toNat ob.toNat = some o → o.moveBasin = none → exec (.moveLedgerSwitch tn ob) s = .next s) ∧
    (∀ (k : BerthKey) (o : Obj) (pkg : Nat), s.obj k.tenant k.object = some o → o.movedTo = some pkg →
      (s.fld rBsnCtl 16 16 ≠ 0 → k ∈ s.pullable o k.tenant k.object →
        (∀ x ∈ s.pullable o k.tenant k.object, bfLt (((s.pte k).map (·.score)).getD 0) (((s.pte x).map (·.score)).getD 0) = false) →
        ∃ t q, exec (.backgroundPull k) s = .next t ∧ t.tiers.bargeQ = s.tiers.bargeQ ++ [q] ∧ q.key = k ∧ q.peer = some pkg) ∧
      ((s.fld rBsnCtl 16 16 = 0 ∨ k ∉ s.pullable o k.tenant k.object) → exec (.backgroundPull k) s = .next s))) ∧
  (∀ (s : State) (rm : Removal), s.sec.removal = some rm →
    (rm.step = 1 → ∃ t q, exec .removalFence s = .next t ∧ t.sec.removal = some q ∧ q.step = 2 ∧ q.tenant = rm.tenant ∧ q.report = rm.report ∧ q.start = rm.start) ∧
    (rm.step = 1 → s.net.moorings = [] → s.net.conns = [] → ∃ t, exec .removalFence s = .next t ∧ ∃ n, t.sec.removal = some { rm with step := 2, fenced := n }) ∧
    (rm.step ≠ 1 → exec .removalFence s = .next s) ∧
    (rm.step = 2 → s.sweeps.accepted = [] → s.sweeps.members = [] → s.tiers.barges = [] →
      exec .removalCancel s = .next (s.setRemoval { rm with step := 3, sweeps := 0, barges := rm.barges })) ∧
    (∀ a, rm.step = 2 → s.sweeps.accepted = [(a.num, a)] → a.tenant = rm.tenant → a.state < 5 → s.sweeps.members = [] → s.tiers.barges = [] →
      exec .removalCancel s = .next (((s.zeroHalves a).abandon a stTenantRetired).setRemoval { rm with step := 3, sweeps := 1, barges := rm.barges })) ∧
    (rm.step ≠ 2 → exec .removalCancel s = .next s) ∧
    (rm.step = 3 → rm.tenant ≠ 0 → ∃ t q, exec .removalScrub s = .next t ∧ t.sec.removal = some q ∧ q.step = 4 ∧ t.keySlot rm.tenant = { st := 4, owner := (s.keySlot rm.tenant).owner } ∧
      (∀ l ∈ t.tiers.layers, l.1.tenant ≠ rm.tenant) ∧ (∀ o ∈ t.tiers.objects, o.1.1 ≠ rm.tenant) ∧ (∀ c ∈ t.tiers.copies, c.1.tenant ≠ rm.tenant)) ∧
    (rm.step ≠ 3 → exec .removalScrub s = .next s) ∧
    (∀ o, rm.step = 4 → s.host.composing = some o → s.host.composeQ = [] → ∃ t, exec .removalReport s = .next t ∧ t.sec.removal = none ∧ t.keySlot rm.tenant = {} ∧ t.host.composing = none) ∧
    (rm.step ≠ 4 → exec .removalReport s = .next s))

/-- R365 to R368, R398: SPDM. Version, capabilities, algorithms, chains, challenges and measurements are answered from the part's identity and state,
which they leave as it is; slots above 1 and absent blocks are answered with an error; in RECOVERY and in reset nothing is answered. R367: sessions.
Up to eight open, each established by its FINISH, updated, kept alive and ended; a command in none, or in one not yet established, is a session error.
-/
def Obligations.SpdmResponses : Prop :=
  (∀ (s : State),
    (s.spdmOff = true → ∀ c ∈ ([.getVersion, .getCapabilities, .negotiateAlgorithms, .getDigests, .getCertificate 0, .challenge 0 [], .getMeasurements 0, .keyExchange 1 [],
      .finish 1 true, .keyUpdate 1, .heartbeat 1, .endSession 1, .lockInterface, .startInterface, .stopInterface] : List Instr), exec c s = .next s) ∧
    (s.spdmOff = false →
      exec .getVersion s = .next (s.send (.spdm 0x04 ([2] ++ leBytes 2 0x1200 ++ leBytes 2 0x1300))) ∧
      (∃ body, exec .getCapabilities s = .next (s.send (.spdm 0x61 body)) ∧ body.length = 4) ∧
      (∃ body, exec .negotiateAlgorithms s = .next (s.send (.spdm 0x63 body)) ∧ body.length = 12) ∧
      exec .getDigests s = .next (s.send (.spdm 0x01 ([3] ++ digestBytes (Config.sha384 (s.chain 0)) ++ digestBytes (Config.sha384 (s.chain 1))))) ∧
      (∀ slot : BitVec 4, slot.toNat ≤ 1 → exec (.getCertificate slot) s = .next (s.send (.spdm 0x02 (s.chain slot.toNat)))) ∧
      (∀ (slot : BitVec 4) nonce, slot.toNat ≤ 1 → exec (.challenge slot nonce) s =
        .next (s.send (.spdm 0x03 (s.signed (digestBytes (Config.sha384 (s.chain slot.toNat)) ++ nonce))))) ∧
      (∀ (slot : BitVec 4) nonce, 1 < slot.toNat → exec (.getCertificate slot) s = .next (s.spdmError errInvalid) ∧ exec (.challenge slot nonce) s = .next (s.spdmError errInvalid)) ∧
      exec (.getMeasurements 0) s = .next (s.send (.spdm 0x60 (s.signed (leBytes 1 s.report.length)))) ∧
      exec (.getMeasurements 0xFF) s = .next (s.send (.spdm 0x60 (s.signed (s.report.flatMap (fun b => leBytes 1 b.1 ++ leBytes 2 b.2.length ++ b.2))))) ∧
      (∀ (i : BitVec 8) m, i ≠ 0 → i ≠ 0xFF → s.measureBlock i.toNat = some m → exec (.getMeasurements i) s =
        .next (s.send (.spdm 0x60 (s.signed (leBytes 1 i.toNat ++ leBytes 2 m.length ++ m))))) ∧
      (∀ (i : BitVec 8), i ≠ 0 → i ≠ 0xFF → s.measureBlock i.toNat = none → exec (.getMeasurements i) s = .next (s.spdmError errInvalid)))) ∧
  (∀ (s : State) (n : BitVec 32), s.spdmOff = false →
    (∀ cert, s.sec.sessions.length < 8 → s.session n.toNat = none → ∃ t, exec (.keyExchange n cert) s = .next t ∧ t.session n.toNat = some { id := n.toNat, leaf := Config.leafHash cert } ∧
      t.sec.sessions.length = s.sec.sessions.length + 1) ∧
    (∀ cert, 8 ≤ s.sec.sessions.length → exec (.keyExchange n cert) s = .next (s.spdmError errBusy)) ∧
    (∀ x a, s.session n.toNat = some x → x.done = false → ∃ t, exec (.finish n a) s = .next t ∧ t.session n.toNat = some { x with done := true, mutAuth := a }) ∧
    (∀ x, s.session n.toNat = some x → x.done = true → (∃ t, exec (.keyUpdate n) s = .next t ∧ t.session n.toNat = some { x with updates := x.updates + 1 }) ∧
      exec (.heartbeat n) s = .next (s.send (.spdm 0x68 []))) ∧
    (∀ x, s.session n.toNat = some x → ∃ t, exec (.endSession n) s = .next t ∧ t.session n.toNat = none ∧ ∀ m, m ≠ n.toNat → t.session m = s.session m) ∧
    (s.session n.toNat = none → ∀ (a : Bool) (tn : BitVec 16) (k : BitVec 256) (h : BitVec 384) (kind port : BitVec 8) (ckn : BitVec 128) (m : BitVec 64) (st : BitVec 2),
      ∀ c ∈ ([.finish n a, .keyUpdate n, .heartbeat n, .endSession n, .getSlot n tn, .keyLoad n tn k k, .keyConn n tn k, .ownerClaim n, .ownerTransfer n h,
        .sysKey n kind tn port ckn k, .debugUnlock n m, .tenant0Key n k k, .ideKm n st k] : List Instr), exec c s = .next (s.spdmError errSession)))

/-- R366, R370, R371, R378: vendor commands. In an established session of the kind each asks for: a slot is read; KEY_LOAD makes a RESERVED slot
ACTIVE and KEY_CONN replaces a connection key; OWNER_CLAIM and OWNER_TRANSFER add an owner; SYS_KEY sets a key; DEBUG_UNLOCK widens the mask and
counts; TENANT0_KEY replaces tenant 0's keys. In one of another kind: AUTH_FAIL, counted. -/
def Obligations.VendorCommands : Prop :=
  ∀ (s : State) (n : BitVec 32) (x : Session), s.spdmOff = false → s.session n.toNat = some x → x.done = true →
    (∀ tn : BitVec 16, tn.toNat < 4096 → exec (.getSlot n tn) s =
      .next (s.vendor 0x0001 stOk (leBytes 1 (s.keySlot tn.toNat).st ++ digestBytes (s.keySlot tn.toNat).owner ++ leBytes 8 (s.tenantMask tn.toNat)))) ∧
    (∀ tn : BitVec 16, 4096 ≤ tn.toNat → exec (.getSlot n tn) s = .next (s.vendor 0x0001 stInvalidField [])) ∧
    (∀ (tn : BitVec 16) (mem conn : BitVec 256), s.sessOk x (.tenant tn.toNat) = true →
      ((s.keySlot tn.toNat).st = 1 → ∃ t, exec (.keyLoad n tn mem conn) s = .next t ∧ t.keySlot tn.toNat = { s.keySlot tn.toNat with st := 2, mem := mem, conn := conn } ∧
        ∀ y, y ≠ tn.toNat → t.keySlot y = s.keySlot y) ∧
      ((s.keySlot tn.toNat).st ≠ 1 → exec (.keyLoad n tn mem conn) s = .next (s.vendor 0x0002 stSlotState [])) ∧
      ((s.keySlot tn.toNat).st = 2 → exec (.keyConn n tn conn) s = .next ((s.setKeySlot tn.toNat
        { s.keySlot tn.toNat with conn := conn, loads := ((s.keySlot tn.toNat).loads + 1) % 2 ^ 16 }).vendor 0x0003 stOk [])) ∧
      ((s.keySlot tn.toNat).st ≠ 2 → exec (.keyConn n tn conn) s = .next (s.vendor 0x0003 stSlotState []))) ∧
    (∀ (tn : BitVec 16) (mem conn : BitVec 256), s.sessOk x (.tenant tn.toNat) = false →
      exec (.keyLoad n tn mem conn) s = .next ((s.bump rSecErr 0 16 1).vendor 0x0002 stAuthFail []) ∧ exec (.keyConn n tn conn) s = .next ((s.bump rSecErr 0 16 1).vendor 0x0003 stAuthFail [])) ∧
    (x.mutAuth = true → s.nv.owners = [] → ∃ t, exec (.ownerClaim n) s = .next t ∧ t.nv.owners = [x.leaf]) ∧
    (x.mutAuth = true → s.nv.owners ≠ [] → exec (.ownerClaim n) s = .next (s.vendor 0x0010 stSlotState [])) ∧
    (x.mutAuth = false → exec (.ownerClaim n) s = .next ((s.bump rSecErr 0 16 1).vendor 0x0010 stAuthFail [])) ∧
    (s.sessOk x .owner = true → ∀ (h : BitVec 384) (k conn : BitVec 256) (m : BitVec 64) (kind port : BitVec 8) (peer : BitVec 16) (ckn : BitVec 128),
      (s.nv.owners.length < 8 → ∃ t, exec (.ownerTransfer n h) s = .next t ∧ t.nv.owners = s.nv.owners ++ [h]) ∧
      (8 ≤ s.nv.owners.length → exec (.ownerTransfer n h) s = .next (s.vendor 0x0011 stSlotState [])) ∧
      (kind = 1 → ∃ t, exec (.sysKey n kind peer port ckn k) s = .next t ∧ t.sec.mgrKey = some k) ∧
      (kind = 2 → peer.toNat < 1024 → ∃ t, exec (.sysKey n kind peer port ckn k) s = .next t ∧ alGet t.sec.sysKeys peer.toNat = some k) ∧
      (kind = 3 → port.toNat < 8 → ∃ t, exec (.sysKey n kind peer port ckn k) s = .next t ∧ (t.port port.toNat).cak = some (leBytes 16 ckn.toNat, k)) ∧
      (kind = 0 ∨ 3 < kind.toNat → exec (.sysKey n kind peer port ckn k) s = .next (s.vendor 0x0012 stInvalidField [])) ∧
      (∃ t, exec (.debugUnlock n m) s = .next t ∧ t.sec.dbgMask = s.sec.dbgMask ||| m ∧ t.sec.dbgCount = (s.sec.dbgCount + 1) % 2 ^ 32 ∧ t.sec.dbgOwner = s.ownerHash) ∧
      (s.tenant0Busy = false → ∃ t, exec (.tenant0Key n k conn) s = .next t ∧ (t.keySlot 0).mem = k ∧ (t.keySlot 0).conn = conn) ∧
      (s.tenant0Busy = true → exec (.tenant0Key n k conn) s = .next (s.vendor 0x0014 stSlotState []))) ∧
    (s.sessOk x .owner = false → ∀ (h : BitVec 384) (k conn : BitVec 256) (m : BitVec 64), exec (.ownerTransfer n h) s = .next ((s.bump rSecErr 0 16 1).vendor 0x0011 stAuthFail []) ∧
      exec (.debugUnlock n m) s = .next ((s.bump rSecErr 0 16 1).vendor 0x0013 stAuthFail []) ∧ exec (.tenant0Key n k conn) s = .next ((s.bump rSecErr 0 16 1).vendor 0x0014 stAuthFail []))

/-- R369: the interface. LOCK takes it from CONFIG_UNLOCKED to CONFIG_LOCKED, START from there to RUN, STOP back to CONFIG_UNLOCKED with every sweep
ended and every host area zeroed; a failure of IDE integrity, keys not renewed or a new stream take a locked one to ERROR. -/
def Obligations.TdispInterface : Prop :=
  ∀ (s : State),
    (s.spdmOff = false → s.sec.tdisp = 0 → ∃ t, exec .lockInterface s = .next t ∧ t.sec = { s.sec with tdisp := 1 }) ∧
    (s.spdmOff = false → s.sec.tdisp ≠ 0 → exec .lockInterface s = .next (s.spdmError errInvalid)) ∧
    (s.spdmOff = false → s.sec.tdisp = 1 → ∃ t, exec .startInterface s = .next t ∧ t.sec = { s.sec with tdisp := 2 }) ∧
    (s.spdmOff = false → s.sec.tdisp ≠ 1 → exec .startInterface s = .next (s.spdmError errInvalid)) ∧
    (s.spdmOff = false → s.sweeps.accepted = [] → ∃ t, exec .stopInterface s = .next t ∧ t.sec = { s.sec with tdisp := 0 } ∧
      (∀ p ∈ s.host.basins, p.2.st ≠ 0 → ∀ a, p.2.hostLo ≤ a → a < p.2.hostHi → memRead t.dram a = 0) ∧
      (∀ a, (∀ p ∈ s.host.basins, p.2.st ≠ 0 → a < p.2.hostLo ∨ p.2.hostHi ≤ a) → memRead t.dram a = memRead s.dram a)) ∧
    (∀ (n : BitVec 32) (st : BitVec 2) (k : BitVec 256) x, s.spdmOff = false → s.session n.toNat = some x → x.done = true →
      (st ≠ 3 → ∃ t, exec (.ideKm n st k) s = .next t ∧ alGet t.sec.ide st.toNat = some k ∧
        (t.sec.tdisp = if (alGet s.sec.ide st.toNat).isNone ∧ (s.sec.tdisp = 1 ∨ s.sec.tdisp = 2) then 3 else s.sec.tdisp)) ∧
      (st = 3 → exec (.ideKm n st k) s = .next (s.spdmError errInvalid))) ∧
    (s.sec.tdisp = 1 ∨ s.sec.tdisp = 2 → exec .ideIntegrityFail s = .next (s.setTdisp 3)) ∧
    (s.sec.tdisp = 0 ∨ s.sec.tdisp = 3 → exec .ideIntegrityFail s = .next s) ∧
    (∃ t, exec .ideKeyExpiry s = .next t ∧ t.sec = { s.sec with ide := [], tdisp := if s.sec.tdisp = 1 ∨ s.sec.tdisp = 2 then 3 else s.sec.tdisp })

/-- R386 to R393, R407, R467: supplies and reset. A reset of the part, by power, pin, software, brown-out, thermal trip or watchdog, returns
everything to its reset value but the always-on well, with the cause logged, flash, where what was in use is held, and the strand receiver; a short
pulse of the pin is ignored; loss of the main supply draws on the backup that is there, and its return leaves it. -/
def Obligations.ResetAndSupplies : Prop :=
  ∀ (s : State),
    (∀ n, (s.resetPart n).dram = State.reset.dram ∧ (s.resetPart n).regs = State.reset.regs ∧ (s.resetPart n).fab = State.reset.fab ∧ (s.resetPart n).sweeps = State.reset.sweeps ∧
      (s.resetPart n).tiers = State.reset.tiers ∧ (s.resetPart n).ledger = State.reset.ledger ∧ (s.resetPart n).net = State.reset.net ∧ (s.resetPart n).sec = State.reset.sec ∧
      (s.resetPart n).boot = State.reset.boot ∧ (s.resetPart n).host = State.reset.host ∧ (s.resetPart n).twin = State.reset.twin ∧ (s.resetPart n).tb.ticks = 0 ∧
      (s.resetPart n).tb.strand.st = s.tb.strand.st ∧ (s.resetPart n).aon = { s.aon with causes := lastN 8 (s.aon.causes ++ [n]) } ∧ (s.resetPart n).nv.owners = s.nv.owners ∧
      (∀ f x, alGet s.nv.slots f = some x → x.st = .home → (s.resetPart n).fslot f = { x with st := .held })) ∧
    (∀ st m b, s.aon.powered = true → m = true → exec (.powerOn st m b) s =
      .next (State.resetPart { s with aon := { s.aon with mainOk := true, bkpOk := b, onBackup := false } } 1)) ∧
    (∀ st b, s.aon.powered = false → ∃ t, exec (.powerOn st true b) s = .next t ∧ t.aon.powered = true ∧ t.aon.straps = st ∧ t.aon.causes = [1] ∧ t.aon.attempt = 0 ∧ t.boot = State.reset.boot) ∧
    (∀ w : BitVec 32, s.boot.inReset = false → 5000 ≤ w.toNat → exec (.pinReset w) s = .next (s.resetPart 2)) ∧
    (∀ w : BitVec 32, w.toNat < 1000 → exec (.pinReset w) s = .next s) ∧
    (∀ w : BitVec 32, s.boot.inReset = false → 1000 ≤ w.toNat → w.toNat < 5000 → exec (.pinReset w) s = .next s.drawn ∨ exec (.pinReset w) s = .next (s.drawn.resetPart 2)) ∧
    (∃ t, exec .aonPowerLoss s = .next t ∧ t.aon = {} ∧ t.tb = {} ∧ t.boot = State.reset.boot ∧ t.dram = State.reset.dram ∧ t.nv.owners = s.nv.owners) ∧
    (exec .brownOut s = .next (s.resetPart 5)) ∧
    (s.aon.thermal = false → ∃ t, exec .thermalTrip s = .next t ∧ t.aon.thermal = true ∧ t.boot = State.reset.boot) ∧
    (s.aon.thermal = true → exec .thermalTrip s = .next s) ∧
    (exec .thermalClear s = .next { s with aon := { s.aon with thermal := false } }) ∧
    (∀ v : BitVec 64, s.takesWrite rRstCtl = true → (fld v 0 1 = 1 → exec (.swrst v) s = .next (s.resetPart 3)) ∧ (fld v 0 1 = 0 → exec (.swrst v) s = .next s)) ∧
    (∀ v : BitVec 64, s.takesWrite rRstCtl = false → exec (.swrst v) s = .next s.turnedAway) ∧
    (s.sec.tdisp ≠ 3 → s.boot.inReset = false → ∃ t v, exec .rstCauseRead s = .next t ∧ t.sent = s.sent ++ [.read v] ∧ t.aon.causes = s.aon.causes.drop 1) ∧
    (s.aon.onBackup = false → ∃ t, exec .vinMainLoss s = .next t ∧ t.aon.mainOk = false ∧
      ((s.aon.bkpOk = true ∧ ({ s with aon := { s.aon with mainOk := false } } : State).bkpThere = true) → t.aon.onBackup = true ∧ t.aon.switchEvt = true)) ∧
    (∃ t, exec .vinMainStable s = .next t ∧ t.aon.mainOk = true ∧ t.aon.onBackup = false ∧ (s.aon.onBackup = true → t.aon.switchEvt = true)) ∧
    (∀ v : BitVec 64, s.takesWrite rPwrCtl = true → ∃ t, exec (.forceLw v) s = .next t ∧ t = s.setReg rPwrCtl (t.reg rPwrCtl) ∧
      ∀ f ∈ regFields rPwrCtl, f.acc = .RW → fld (t.reg rPwrCtl) f.lo f.w = fld v f.lo f.w)

/-- R392 to R398, R403 to R407: the boot sequence. PORST_N released, in RECOVERY after three failed starts; stacked DRAM ready; the image copied from
its buffer and its source zeroed, checked in the order of R396, and the keepers started; the record applied and the part handed over; the attempts
cleared after 2^31 ticks of SERVICE or by the manager; diagnostics in RECOVERY only. -/
def Obligations.BootSequence : Prop :=
  ∀ (s : State),
    (s.boot.inReset = true → s.aon.thermal = false → s.supplied = true → ∃ t, exec .resetStretchEnd s = .next t ∧ t.boot.inReset = false ∧ t.lbs.clearing = true ∧
      (s.aon.attempt < 3 → t.mode = 0 ∧ t.aon.attempt = s.aon.attempt + 1) ∧ (3 ≤ s.aon.attempt → t.mode = 3 ∧ t.aon.attempt = s.aon.attempt)) ∧
    ((s.boot.inReset = false ∨ s.aon.thermal = true ∨ s.supplied = false) → exec .resetStretchEnd s = .next s) ∧
    (s.boot.inReset = false → s.bootStage = 0 → s.fld rBootStat 3 1 = 0 → ∃ t, exec .dramReady s = .next t ∧ t.bootStage = 1 ∧ t.fld rBootStat 3 1 = 1 ∧
      (∀ a, (s.basin 0).hostLo ≤ a → a < (s.basin 0).hostHi → memRead t.dram a = 0)) ∧
    ((s.boot.inReset = true ∨ s.bootStage ≠ 0) → exec .dramReady s = .next s) ∧
    (s.takesWrite rBootCmd = true → s.mode ≠ 2 → s.jtag.blocked = false → s.fld rBootStat 3 1 = 1 → imageLenOk (s.fld rBootImg 0 24) = true → s.bootStage = 1 →
      ∃ t, exec .bootLoad s = .next t ∧ t.bootStage = 2 ∧ t.boot.copy = some (memReadN s.dram imageAt (s.fld rBootImg 0 24)) ∧
        (∀ i < s.fld rBootImg 0 24, memRead t.dram (imageAt + i) = 0)) ∧
    (s.takesWrite rBootCmd = true → s.mode ≠ 2 → s.jtag.blocked = false → (s.fld rBootStat 3 1 = 0 ∨ imageLenOk (s.fld rBootImg 0 24) = false) → exec .bootLoad s = .next (s.bootResult 2)) ∧
    (∀ b, s.boot.copy = some b →
      (∀ e, checkImage b = .error e → ∃ t, exec .imageVerifyDone s = .next t ∧ t.bootStage = 1 ∧ t.boot.copy = none ∧ t.fld rBootStat 8 4 = e % 16) ∧
      (∀ k, checkImage b = .ok k → s.mode ≠ 3 → ∃ t, exec .imageVerifyDone s = .next t ∧ t.bootStage = 4 ∧ t.boot.image = some k ∧ t.sec.bootDigest = k.digest ∧ t.sec.bootSvn = k.svn ∧
        t.fld rBootStat 8 4 = 1) ∧
      (∀ k, checkImage b = .ok k → s.mode = 3 → ∃ t, exec .imageVerifyDone s = .next t ∧ t.bootStage = 1 ∧ t.fld rBootStat 8 4 = 1 ∧ t.boot.image = s.boot.image)) ∧
    (s.boot.copy = none → exec .imageVerifyDone s = .next s) ∧
    (∀ k u, s.boot.image = some k → s.bootStage = 4 → s.tenantBit 0 0 true = .ok u → s.nv.settings = [] → ∃ t, exec .keepersRunning s = .next t ∧ t.mode = 1 ∧ t.bootStage = 5 ∧
      t.fld rKprSet 4 1 = 1 ∧ t.fld rKprSet 16 16 = k.schemaOut % 2 ^ 16) ∧
    (∀ k u c, s.boot.image = some k → s.bootStage = 4 → s.tenantBit 0 0 true = .ok u → u.newestCopy = some c → (c.schema < k.schemaMin ∨ k.schemaMax < c.schema) →
      ∃ t, exec .keepersRunning s = .next t ∧ t.mode = 1 ∧ t.bootStage = 5 ∧ t.fld rKprSet 3 1 = 1) ∧
    ((s.boot.image = none ∨ s.bootStage ≠ 4) → exec .keepersRunning s = .next s) ∧
    (s.mode = 2 → s.boot.countCleared = false → (s.boot.serviceAt + 2 ^ 31 ≤ s.now → ∃ t, exec .bootCountClear s = .next t ∧ t.aon.attempt = 0 ∧ t.boot.countCleared = true) ∧
      (s.now < s.boot.serviceAt + 2 ^ 31 → exec .bootCountClear s = .next s)) ∧
    (∀ v : BitVec 64, s.takesWrite rBootAttempt = true → fld v 2 1 = 1 → exec (.attemptClear v) s = .next { s with aon := { s.aon with attempt := 0 } }) ∧
    (s.mode = 3 → s.boot.inReset = false → s.boot.diag = none →
      ∀ e ∈ ([(.diagDramTest, 0), (.diagFlashScan, 1), (.diagOpticalLoopback, 2)] : List (Instr × Nat)), ∃ t, exec e.1 s = .next t ∧ t.boot.diag = some e.2 ∧ t.fld rBootStat 12 4 = 1) ∧
    ((s.mode ≠ 3 ∨ s.boot.diag.isSome = true) → exec .diagDramTest s = .next s ∧ exec .diagFlashScan s = .next s ∧ exec .diagOpticalLoopback s = .next s) ∧
    (∀ (p : Bool) (x : BitVec 48), s.boot.diag.isSome = true → ∃ t, exec (.diagDone p x) s = .next t ∧ t.boot.diag = none ∧ t.fld rBootStat 12 4 = (if p then 2 else 3) ∧
      t.fld rBootStat 16 48 = if p then 0 else x.toNat)

/-- R399 to R403, R407, R443: keepers. A watchdog that expires is logged and counted; during an update, on the staged image, it rolls the update back;
the third of one keeper within 2^30 ticks resets the part. An update is staged from basin 0's host area, checked, and switched keeper by keeper, 2^27
ticks apart; settings are saved in both copies with the next number. -/
def Obligations.KeepersAndSettings : Prop :=
  ∀ (s : State),
    (∀ (k : BitVec 2) (pc : BitVec 28), s.mode = 1 ∨ s.mode = 2 → s.updState = 3 → k.toNat ∈ s.boot.onNew → s.now ≤ alGetD s.boot.switchAt k.toNat 0 + 2 ^ 30 →
      ∃ t, exec (.keeperWatchdogExpiry k pc) s = .next t ∧ t.updState = 5 ∧ t.fld rKprUpd 5 4 = 7 ∧ t.boot.onNew = [] ∧ t.boot.staged = none) ∧
    (∀ (k : BitVec 2) (pc : BitVec 28), s.mode = 1 ∨ s.mode = 2 → s.updState ≠ 3 → s.boot.expiries = [] →
      ∃ t, exec (.keeperWatchdogExpiry k pc) s = .next t ∧ t.boot.expiries = [(k.toNat, s.now)] ∧
        t.aon.wdt = lastN 16 (s.aon.wdt ++ [(k.toNat, false, pc.toNat, s.now / 2 ^ 20 % 2 ^ 32)]) ∧ t.fld rKprStat (4 * k.toNat) 4 = satAdd 4 (s.fld rKprStat (4 * k.toNat) 4) 1) ∧
    (∀ (k : BitVec 2) (pc : BitVec 28) a b, s.mode = 1 ∨ s.mode = 2 → s.updState ≠ 3 → s.boot.expiries = [(k.toNat, a), (k.toNat, b)] → s.now ≤ a + 2 ^ 30 → s.now ≤ b + 2 ^ 30 →
      ∃ t, exec (.keeperWatchdogExpiry k pc) s = .next t ∧ t.boot = State.reset.boot ∧ t.dram = State.reset.dram ∧ t.aon.causes = lastN 8 (s.aon.causes ++ [4])) ∧
    (∀ (k : BitVec 2) (pc : BitVec 28), s.mode ≠ 1 → s.mode ≠ 2 → exec (.keeperWatchdogExpiry k pc) s = .next s) ∧
    (s.inService = true → s.updState ≠ 1 → s.updState ≠ 3 → let a := (s.basin 0).hostLo + s.fld rKprUpdImg 0 32
      let n := s.fld rKprUpdImg 32 24
      (0x20000 ≤ s.fld rKprUpdImg 0 32 → imageLenOk n = true → s.inHost 0 a n = true → ∃ t, exec .updStage s = .next t ∧ t.boot.stagingImg = some (memReadN s.dram a n) ∧ t.updState = 1 ∧
        (∀ i < n, memRead t.dram (a + i) = 0)) ∧
      ((s.fld rKprUpdImg 0 32 < 0x20000 ∨ imageLenOk n = false ∨ s.inHost 0 a n = false) → ∃ t, exec .updStage s = .next t ∧ t.updState = 5 ∧ t.fld rKprUpd 5 4 = 2 ∧ t.boot.staged = none)) ∧
    (∀ b, s.boot.stagingImg = some b →
      (∀ e, checkImage b = .error e → ∃ t, exec .updateStaged s = .next t ∧ t.updState = 5 ∧ t.boot.stagingImg = none) ∧
      (∀ k, checkImage b = .ok k → k.schemaMin ≤ s.fld rKprSet 16 16 → s.fld rKprSet 16 16 ≤ k.schemaMax → ∃ t, exec .updateStaged s = .next t ∧ t.updState = 2 ∧ t.boot.staged = some k) ∧
      (∀ k, checkImage b = .ok k → (s.fld rKprSet 16 16 < k.schemaMin ∨ k.schemaMax < s.fld rKprSet 16 16) → ∃ t, exec .updateStaged s = .next t ∧ t.updState = 5 ∧ t.fld rKprUpd 5 4 = 6)) ∧
    (s.boot.stagingImg = none → exec .updateStaged s = .next s) ∧
    (s.inService = true → (s.updState = 2 → ∃ t, exec .updSwitch s = .next t ∧ t.updState = 3 ∧ t.boot.onNew = s.boot.onNew ++ [0] ∧ alGet t.boot.switchAt 0 = some s.now) ∧
      (s.updState ≠ 2 → exec .updSwitch s = .next s)) ∧
    (s.updState = 3 → ∀ n, s.boot.onNew.length = n + 1 → n < 4 →
      (s.now < alGetD s.boot.switchAt n 0 + 2 ^ 27 → exec .keeperSwitchNext s = .next s) ∧
      (alGetD s.boot.switchAt n 0 + 2 ^ 27 ≤ s.now → n < 2 → ∃ t, exec .keeperSwitchNext s = .next t ∧ t.boot.onNew = s.boot.onNew ++ [n + 1] ∧ alGet t.boot.switchAt (n + 1) = some s.now) ∧
      (alGetD s.boot.switchAt n 0 + 2 ^ 27 ≤ s.now → n = 2 → ∃ t, exec .keeperSwitchNext s = .next t ∧ t.boot.image = s.boot.staged ∧ t.updState = 4 ∧ t.boot.onNew = [])) ∧
    (∀ (f : Bool) k, s.inService = true → s.boot.image = some k → s.fld rKprSet 2 1 = 0 → (s.fld rKprSet 3 1 = 0 ∨ f = true) → ∃ t c, exec (.settingsSave f) s = .next t ∧ t.boot.saving = some c ∧
      t.fld rKprSet 2 1 = 1 ∧ c.schema = k.schemaOut ∧ c.seq = ((s.newestCopy).map (·.seq)).getD 0 + 1 ∧ c.sections = s.settingsNow) ∧
    (∀ k, s.inService = true → s.boot.image = some k → s.fld rKprSet 3 1 = 1 → exec (.settingsSave false) s = .next s) ∧
    (∀ c, s.boot.saving = some c → ∃ t, exec .settingsSaveDone s = .next t ∧ t.boot.saving = none ∧ t.fld rKprSet 2 1 = 0 ∧ t.fld rKprSet 32 32 = c.seq % 2 ^ 32 ∧
      (∀ ch ∈ [0, 16], (s.channel ch).inService = true → alGet t.nv.settings ch = some c)) ∧
    (s.boot.saving = none → exec .settingsSaveDone s = .next s)

/-- R408, R409, R412: the pair and the journal's timers. A write of TWN_CFG with EN clear ends the pairing, one that leaves EN and TWIN as they stand
changes the register only, one that sets EN begins SEEDING, which is over at once where nothing is homed; no JOURNAL_ACK for CONN_LOSS makes the pair
LOST; a waiting DURABLE record or an idle working copy is programmed into a journal slot; a slot programmed makes its records durable. R410 to R413:
the journal's messages. An OBJECT record in its turn is applied and acknowledged, one that finds no room is refused and its berth marked, one ahead of
a gap waits; FETCH is answered with the images of its range and INDEX with the index, both changing nothing the part holds for its twin; JOURNAL_ACK
advances what is received and durable and a refusal sets JFULL; from a part that is not heard, or for a slot not ACTIVE, nothing happens. -/
def Obligations.PairingAndJournal : Prop :=
  (∀ (s : State),
    (∀ v : BitVec 64, s.takesWrite rTwnCfg = true →
      (fld v 10 1 = 0 → ∃ t, exec (.twnCfgWrite .host v) s = .next t ∧ t.twin.pair = 0) ∧
      (fld v 10 1 = 1 → s.fld rTwnCfg 10 1 = 1 → fld v 0 10 = s.twinPkg → exec (.twnCfgWrite .host v) s = .next (s.setReg rTwnCfg (written rTwnCfg (s.reg rTwnCfg) v))) ∧
      (fld v 10 1 = 1 → s.fld rTwnCfg 10 1 = 0 → s.twin.pair = 0 → fld v 0 10 ≠ selfPkg →
        ∃ t, exec (.twnCfgWrite .host v) s = .next t ∧ (t.twin.pair = 1 ∨ t.twin.pair = 2) ∧ (s.allHomes = [] → t.twin.pair = 2))) ∧
    (∀ a, s.twin.ackAt = some a → s.journalling = true →
      (s.outstanding = true → a + s.connLoss ≤ s.now → ∃ t, exec .journalAckTimeout s = .next t ∧ t.twin.pair = 3 ∧ t.twin.lostAt = s.now) ∧
      ((s.outstanding = false ∨ s.now < a + s.connLoss) → exec .journalAckTimeout s = .next s)) ∧
    (s.twin.ackAt = none → exec .journalAckTimeout s = .next s) ∧
    (∀ n : BitVec 12, let j := s.jsrc n.toNat
      (j.pageAt = none → exec (.journalFlushTimer n) s = .next s) ∧
      (∀ a, j.pageAt = some a → s.now < a + ticksUs (s.fld rTwnCfg 16 16) → exec (.journalFlushTimer n) s = .next s) ∧
      (∀ a r f, j.pageAt = some a → a + ticksUs (s.fld rTwnCfg 16 16) ≤ s.now → j.page.getLast? = some r → s.flashPlace ⟨n.toNat, 0, 0, 0⟩ (BitVec.allOnes 32) = some f →
        ∃ t, exec (.journalFlushTimer n) s = .next t ∧ (t.jsrc n.toNat).page = [] ∧ (t.jsrc n.toNat).pageAt = none ∧ (t.fslot f).st = .journal ∧
          (t.jsrc n.toNat).prog = j.prog ++ [{ slot := f + 0x01000000, upTo := r.jseq, recs := j.page.filterMap recMark }] ∧ (∀ g, g ≠ f → t.fslot g = s.fslot g)) ∧
      (j.prog = [] → exec (.journalPageProgrammed n) s = .next s) ∧
      (∀ p rest, j.prog = p :: rest → s.expelled = false → ∃ t m, exec (.journalPageProgrammed n) s = .next t ∧ (t.jsrc n.toNat).durable = max j.durable p.upTo ∧
        t.sent = s.sent ++ [.journalAck s.twinPkg m] ∧ m.tenant = n.toNat ∧ m.durable = max j.durable p.upTo ∧ m.refused = none)) ∧
    (∀ (k : BerthKey) (e : JEntry), s.jentry k = some e →
      (∀ n img f, e.working = some n → e.img = some img → e.linesAt + 2 ^ 30 ≤ s.now → s.journalRoom = true → (∀ p ∈ (s.jsrc k.tenant).prog, p.key ≠ some k) →
        s.flashPlace k (BitVec.allOnes 32) = some f → ∃ t, exec (.workingCopyIdle k) s = .next t ∧ (t.fslot f).st = .journal ∧ (t.fslot f).key = some k ∧
          (t.jsrc k.tenant).prog = (s.jsrc k.tenant).prog ++ [{ slot := f + 0x01000000, upTo := (s.jsrc k.tenant).promised, key := some k, covers := e.last }]) ∧
      ((e.working = none ∨ s.now < e.linesAt + 2 ^ 30) → exec (.workingCopyIdle k) s = .next s)) ∧
    (∀ k : BerthKey, s.jentry k = none → exec (.workingCopyIdle k) s = .next s)) ∧
  (∀ (s : State),
    (∀ (n : BitVec 12) rs (k : LayerKey) (a b : BitVec 25), (s.hears s.twinPkg = false ∨ s.active n.toNat = false) → k.tenant = n.toNat →
      exec (.journalRecords n rs) s = .next s ∧ exec (.journalFetch k a b) s = .next s ∧ exec (.journalIndex n) s = .next s) ∧
    (∀ n : BitVec 12, s.hears s.twinPkg = true → s.active n.toNat = true → let j := s.jsrc n.toNat
      (∀ (r : JRecord) (attr : List Byte), r.key.tenant = n.toNat → r.jseq = j.recv + 1 → j.ahead = [] → j.page = [] → r.body = .object attr false → s.journalRoom = true →
        ∃ t m, exec (.journalRecords n [r]) s = .next t ∧ (t.jsrc n.toNat).recv = r.jseq ∧ alGet (t.jsrc n.toNat).objects r.key.object = some attr ∧ (t.jsrc n.toNat).page = [r] ∧
          t = { s with twin := t.twin, sent := s.sent ++ [.journalAck s.twinPkg m] } ∧ m.recv = r.jseq ∧ m.refused = none) ∧
      (∀ r : JRecord, r.key.tenant = n.toNat → r.jseq = j.recv + 1 → j.ahead = [] → j.page = [] → s.journalRoom = false →
        ∃ t e, exec (.journalRecords n [r]) s = .next t ∧ (t.jsrc n.toNat).recv = r.jseq ∧ t.jentry r.key = some e ∧ e.unjournalled = true ∧
          (∃ m ∈ t.sent, ∃ q, m = .journalAck s.twinPkg q ∧ q.refused = some r.jseq ∧ q.tenant = n.toNat) ∧ t = { s with twin := t.twin, sent := t.sent }) ∧
      (∀ r : JRecord, r.key.tenant = n.toNat → j.recv + 1 < r.jseq → j.ahead = [] →
        ∃ t, exec (.journalRecords n [r]) s = .next t ∧ (t.jsrc n.toNat).recv = j.recv ∧ (t.jsrc n.toNat).ahead = [r] ∧ (t.jsrc n.toNat).berths = j.berths ∧
          t = { s with twin := t.twin, sent := t.sent }) ∧
      (∀ (k : LayerKey) (a b : BitVec 25), k.tenant = n.toNat → ∃ t m, exec (.journalFetch k a b) s = .next t ∧ t = { s with twin := t.twin, sent := s.sent ++ [.journalAck s.twinPkg m] } ∧
        m.tenant = n.toNat ∧ m.recv = j.recv ∧ m.durable = j.durable ∧ (t.jsrc n.toNat).berths = j.berths ∧
        (∀ p ∈ j.berths, p.1.lk = k → a.toNat ≤ p.1.berth → p.1.berth ≤ b.toNat → ∀ r, imageRec p = some r → r ∈ m.images) ∧
        (∀ r ∈ m.images, r.key.lk = k ∧ a.toNat ≤ r.key.berth ∧ r.key.berth ≤ b.toNat)) ∧
      (∃ t m, exec (.journalIndex n) s = .next t ∧ t = { s with twin := t.twin, sent := s.sent ++ [.journalAck s.twinPkg m] } ∧ m.tenant = n.toNat ∧
        m.index = some (s.jIndex n.toNat) ∧ (t.jsrc n.toNat).berths = j.berths)) ∧
    (∀ m : JAckMsg, s.hears s.twinPkg = true → s.journalling = true → m.below = false → m.images = [] → m.index = none →
      (m.refused = none → ∃ t, exec (.journalAck m) s = .next t ∧ (t.jout m.tenant).recv = max (s.jout m.tenant).recv m.recv ∧
        (t.jout m.tenant).durable = max (s.jout m.tenant).durable m.durable ∧ (∀ r ∈ (t.jout m.tenant).out, (t.jout m.tenant).durable < r.jseq)) ∧
      (∀ q, m.refused = some q → ∃ t, exec (.journalAck m) s = .next t ∧ t.fld rTwnStat 2 1 = 1 ∧
        ∀ r, ((s.jout m.tenant).out ++ (s.jout m.tenant).held).find? (fun r => decide (r.jseq = q)) = some r → r.key ∈ t.twin.unjournalled)) ∧
    (∀ m : JAckMsg, s.hears s.twinPkg = false → exec (.journalAck m) s = .next s))

/-- R415 to R421: certificates. A QSET the owner signed installs its set, an invalid certificate is discarded and counted; a valid EXPEL, TAKEOVER or
REJOIN installs its epoch; an EXPEL of another part stops hearing it, of this part expels it and zeroes its tenants' keys; a TAKEOVER of the expelled
twin ends the pair and the journal held for it; a REJOIN pairs this part, or hears another again; REQUEST goes to the managers every REQ_MS. -/
def Obligations.QuorumCertificates : Prop :=
  ∀ (s : State) (b : List Byte),
    (s.expelled = true → ∀ i ∈ ([.qset b, .expel b, .takeover b, .rejoin b, .request b] : List Instr), exec i s = .next s) ∧
    (s.expelled = false →
      (∀ q, s.qsetOf b = some q → exec (.qset b) s = .next { s with twin := { s.twin with qset := some q } }) ∧
      (s.qsetOf b = none → exec (.qset b) s = .next s.certBad) ∧
      (∀ e ∈ ([(.expel b, 1), (.takeover b, 2), (.rejoin b, 3)] : List (Instr × Nat)), s.certOk e.2 b = false → exec e.1 s = .next s.certBad) ∧
      (s.certOk 1 b = true → certSubject b ≠ selfPkg → ∃ t, exec (.expel b) s = .next t ∧ certSubject b ∈ t.twin.expelled ∧ t.fld rBsnEpoch 0 16 = certField b 0xC 2) ∧
      (s.certOk 1 b = true → certSubject b = selfPkg → ∃ t, exec (.expel b) s = .next t ∧ t.expelled = true ∧ (∀ p ∈ t.sec.slots, p.1 = 0) ∧ t.host.jobs = [] ∧ t.host.composing = none) ∧
      (s.certOk 2 b = true → certTwin b ≠ selfPkg → exec (.takeover b) s = .next (s.certEpoch b)) ∧
      (s.certOk 2 b = true → certTwin b = selfPkg → (certSubject b ≠ s.twinPkg ∨ certSubject b ∉ s.twin.expelled) → exec (.takeover b) s = .next s.certBad) ∧
      (s.certOk 2 b = true → certTwin b = selfPkg → certSubject b = s.twinPkg → certSubject b ∈ s.twin.expelled →
        ∃ t, exec (.takeover b) s = .next t ∧ t.twin.src = [] ∧ t.twin.pair = 0 ∧ t.fld rBsnEpoch 0 16 = certField b 0xC 2) ∧
      (s.certOk 3 b = true → certSubject b ≠ selfPkg → ∃ t, exec (.rejoin b) s = .next t ∧ certSubject b ∉ t.twin.expelled ∧ (∀ x ∈ s.twin.expelled, x ≠ certSubject b → x ∈ t.twin.expelled) ∧
        t = { s with twin := t.twin, regs := t.regs }) ∧
      (s.certOk 3 b = true → certSubject b = selfPkg → ∃ t, exec (.rejoin b) s = .next t ∧ t.twinPkg = certTwin b ∧ t.fld rTwnCfg 10 1 = 1 ∧ t.twin.rejoined = true) ∧
      (b ≠ [] → exec (.request b) s = .next s.certBad)) ∧
    (∀ off, off ≠ rTwnStat → s.certBad.reg off = s.reg off) ∧ s.certBad.fld rTwnStat 8 8 = satAdd 8 (s.fld rTwnStat 8 8) 1 ∧
    ((s.fld rTwnCfg 32 16 = 0 ∨ s.missing = []) → exec .requestTimer s = .next s) ∧
    (s.fld rTwnCfg 32 16 ≠ 0 → s.missing ≠ [] → s.twin.reqAt = none → ∃ t, exec .requestTimer s = .next t ∧ t = { s with twin := { s.twin with reqAt := some s.now }, sent := t.sent, fresh := t.fresh } ∧
      (∀ x ∈ s.missing, ∀ p ∈ s.net.conns, p.2.kind = 2 → p.2.st = .established → s.expelled = false → ∃ c, .cert p.2.peerPkg c ∈ t.sent ∧ certField c 4 1 = 4))

/-- R423 to R425: the self-test that goes round. A cluster with a spare, due, gives its next core's number to the spare and tests the released core,
or picks the core while it still has a run; a core that passes becomes the spare and one that fails is FAILED and counted. R420, R426 to R429: the
service actions. Out of service a write of TWN_SVC is turned away and under BUSY it is counted; a region goes out or comes back, a flash channel
without live slots drains, one is isolated or returns, a stacked-DRAM channel retires, the held slots of a tenant go stale; a fault, a failed channel
and a run that outlasts the bypass act the same way; BTH_PLB_INV invalidates what it names. -/
def Obligations.SelfTestsAndService : Prop :=
  (∀ (s : State) (c : BitVec 9), let m := s.spareMap c.toNat
    (∀ p, m.spare = some p → s.mode = 2 → s.fld rTwnSt 0 1 = 1 → m.testing = none → (s.cluster c.toNat).failed = false → m.began + ticksMs (s.fld rTwnSt 8 16) ≤ s.now →
      ((s.core (8 * c.toNat + m.next)).run = none → exec (.selfTestStart c) s = .next (s.setSpareMap c.toNat
        { m with map := setNth m.map m.next p, spare := none, testing := some (nthD 0 m.map m.next), next := (m.next + 1) % 8, pick := none, began := s.now })) ∧
      ((s.core (8 * c.toNat + m.next)).run.isSome = true → exec (.selfTestStart c) s = .next (s.setSpareMap c.toNat { m with pick := some m.next }))) ∧
    ((m.spare = none ∨ s.mode ≠ 2 ∨ s.fld rTwnSt 0 1 = 0 ∨ m.testing.isSome = true ∨ (s.cluster c.toNat).failed = true) → exec (.selfTestStart c) s = .next s) ∧
    (m.testing = none → ∀ pass, exec (.selfTestDone c pass) s = .next s) ∧
    (∀ p, m.testing = some p → ∃ t, exec (.selfTestDone c true) s = .next t ∧ (t.spareMap c.toNat).spare = some p ∧ (t.spareMap c.toNat).testing = none ∧ (t.spareMap c.toNat).map = m.map ∧
      t.fld rTwnSt 24 16 = satAdd 16 (s.fld rTwnSt 24 16) 1 ∧ t = { s with fab := { s.fab with spares := t.fab.spares }, regs := t.regs }) ∧
    (∀ p, m.testing = some p → ∃ t, exec (.selfTestDone c false) s = .next t ∧ (t.spareMap c.toNat).failed = m.failed ++ [p] ∧ (t.spareMap c.toNat).testing = none ∧
      t.fld rTwnSt 40 8 = satAdd 8 (s.fld rTwnSt 40 8) 1)) ∧
  (∀ (s : State) (u : BitVec 12),
    (∀ i ∈ ([.regionBypass u, .regionReturn u, .flashDrain u, .flashIsolate u, .flashReturn u, .hbmRetire u, .releaseHeld u, .regionTest u []] : List Instr), s.fab.svc = none →
      s.inService = false → exec i s = .next s.turnedAway) ∧
    (∀ i ∈ ([.regionBypass u, .regionReturn u, .flashDrain u, .flashIsolate u, .flashReturn u, .hbmRetire u, .releaseHeld u] : List Instr), s.inService = true →
      s.svcOn.fab.svc.isSome = true → exec i s = .next (s.svcOn.bump rTwnStat 16 8 1)) ∧
    (s.inService = true → s.fab.svc = none →
      (32 ≤ u.toNat → ∀ i ∈ ([.regionBypass u, .regionReturn u, .flashDrain u, .flashIsolate u, .flashReturn u, .regionTest u []] : List Instr), exec i s = .next (s.svcEnd stInvalidField 0)) ∧
      (256 ≤ u.toNat → exec (.hbmRetire u) s = .next (s.svcEnd stInvalidField 0)) ∧
      (u.toNat < 32 →
        (∃ t, exec (.regionBypass u) s = .next t ∧ (t.region u.toNat).out = true) ∧
        (∃ t, exec (.regionTest u []) s = .next t ∧ (t.region u.toNat).out = true) ∧
        (∃ t, exec (.regionReturn u) s = .next t ∧ (t.region u.toNat).out = false ∧ t.fld rTwnSvcRes 0 16 = stOk ∧ t.fld rTwnSvcRes 16 1 = 0 ∧
          (∀ r, r ≠ u.toNat → t.region r = s.region r)) ∧
        (s.channelSlotsIn u.toNat FlashSt.live = [] → ∃ t, exec (.flashDrain u) s = .next t ∧ (t.channel u.toNat).inService = false ∧ t.fld rTwnSvcRes 0 16 = stOk ∧ t.fab.svc = none) ∧
        (∃ t, exec (.flashIsolate u) s = .next t ∧ (t.channel u.toNat).inService = false ∧ t.fab.svc = none) ∧
        (∃ t, exec (.flashReturn u) s = .next t ∧ (t.channel u.toNat).inService = true ∧ (∀ c, c ≠ u.toNat → t.channel c = s.channel c) ∧
          t.fld rTwnSvcRes 32 32 = t.usableSlots u.toNat % 2 ^ 32)) ∧
      (u.toNat < 256 → ∃ t, exec (.hbmRetire u) s = .next t ∧ u.toNat ∈ t.tiers.retiredCh) ∧
      (∃ t, exec (.releaseHeld u) s = .next t ∧ ∀ f < 0x01000000, (t.fslot f).st = .held → (t.fslot f).tenant ≠ u.toNat)) ∧
    (∀ r : BitVec 5, ∃ t, exec (.regionFaultBypass r) s = .next t ∧ (t.region r.toNat).out = true) ∧
    (∀ c : BitVec 5, ((s.channel c.toNat).inService = true → ∃ t, exec (.flashChannelFailure c) s = .next t ∧ (t.channel c.toNat).inService = false) ∧
      ((s.channel c.toNat).inService = false → exec (.flashChannelFailure c) s = .next s)) ∧
    (s.fab.svc = none →
      ((s.core u.toNat).run = none → exec (.bypassRunTimeout u) s = .next s) ∧
      (∀ r, (s.core u.toNat).run = some r → (s.region (regionOf u.toNat)).out = false → exec (.bypassRunTimeout u) s = .next s) ∧
      (∀ r d, (s.core u.toNat).run = some r → (s.region (regionOf u.toNat)).out = true → (s.region (regionOf u.toNat)).pendingUntil = some d → d ≤ s.now →
        ∃ t, exec (.bypassRunTimeout u) s = .next t ∧ (t.core u.toNat).run = none)) ∧
    (∀ v : BitVec 64, ∀ e ∈ ([(.plbInvBasin v, false), (.plbInvAll v, true)] : List (Instr × Bool)),
      (s.inService = false → exec e.1 s = .next s.turnedAway) ∧
      (s.inService = true → ∃ t ks, exec e.1 s = .next t ∧ t = { s with tiers := { s.tiers with invals := s.tiers.invals ++ [ks] } } ∧
        ∀ k, k ∈ ks ↔ ∃ c ∈ s.fab.clusters, ∃ p ∈ c.2.plb, p.key = k ∧ (e.2 = true ∨ p.basin = fld v 0 6))))

/-- R437, R438, R441, R444: common command codes. A target that takes I3C gets and loses its dynamic address, its interrupts are enabled and disabled,
its lengths set, and it answers who it is, the values it must give highest byte first (log); in reset or with I2C_ONLY set nothing happens, nor to a
code addressed to a target without a dynamic address. R439, R440: command frames. One not addressed to the target is not taken; one with a wrong PEC
is counted and a write then has STATUS 1; a register word is read with its effect or written, a frame that names none ends with STATUS 2; image bytes
land in the buffer while an image is awaited, else STATUS 3. R386, R442, R445 to R447: the board. Sensors take their measured values, the part pace
the twenty-first, and the supplies follow two of them; one transfer at a time goes over the local bus, its end is read and counted, a timeout or a
clear frees the bus or, after the repeats, leaves it STUCK; the keepers poll the regulators the EEPROM names. R448 to R450: JTAG. Each instruction is
selected and shifts out what it gives; EXTEST, CLAMP and HIGHZ are taken in RECOVERY or WAIT_IMAGE alone, and then bar image loads, elsewhere BYPASS
is loaded and EXTEST_REFUSED set; DBG_SEL reads a register without its effect, or writes it. R99, R451 to R455: debug commands. With no basin
unlocked, or the core's basin locked, a command answers LOCKED; a core halts at once, after an open hold, or by force out of it, resumes, or takes one
step; registers and local memory of a halted core are read and written, of one that runs NOT_HALTED; breakpoints are set; QREAD shows a register
without its effect. -/
def Obligations.ManagementAndDebug : Prop :=
  (∀ (s : State) (a : BitVec 7) (n : BitVec 16),
    (s.i3cOn = false → ∀ i ∈ ([.entdaa a, .setdasa, .setnewda a, .rstdaa, .enec, .disec, .getpid, .getbcr, .getdcr, .getstatus, .getmwl, .getmrl, .setmwl n, .setmrl n] : List Instr),
      exec i s = .next s) ∧
    (s.i3cOn = true → s.towpath.dyn = 0 → ∀ i ∈ ([.setnewda a, .getpid, .getbcr, .getdcr, .getstatus, .getmwl, .getmrl] : List Instr), exec i s = .next s) ∧
    (s.towpath.dyn ≠ 0 → exec (.entdaa a) s = .next s ∧ exec .setdasa s = .next s) ∧
    (s.i3cOn = true →
      (s.towpath.dyn = 0 →
        (∃ t, exec (.entdaa a) s = .next t ∧ t.towpath.dyn = a.toNat ∧ (.i3c (s.provisionalId ++ [twpBcr, twpDcr])) ∈ t.sent ∧ t.towpath.i3c = true ∧ t = { s with towpath := t.towpath, sent := t.sent }) ∧
        (∃ t, exec .setdasa s = .next t ∧ t.towpath.dyn = 0x60 + s.aon.straps.toNat / 8 ∧ t.towpath.i3c = true ∧ t = { s with towpath := t.towpath, sent := t.sent })) ∧
      (s.towpath.dyn ≠ 0 → ∃ t, exec (.setnewda a) s = .next t ∧ t.towpath.dyn = a.toNat ∧ t = { s with towpath := t.towpath, sent := t.sent }) ∧
      exec .rstdaa s = .next { s with towpath := { s.towpath with i3c := true, dyn := 0 } } ∧
      (∃ t, exec .enec s = .next t ∧ t.towpath.ibi = true ∧ (s.towpath.dyn ≠ 0 → t.towpath.waiting = [] ∧ t.sent = s.sent ++ s.towpath.waiting.map OutMsg.ibi) ∧
        t = { s with towpath := t.towpath, sent := t.sent }) ∧
      exec .disec s = .next { s with towpath := { s.towpath with i3c := true, ibi := false } } ∧
      exec (.setmwl n) s = .next { s with towpath := { s.towpath with i3c := true, mwl := min 256 n.toNat } } ∧
      exec (.setmrl n) s = .next { s with towpath := { s.towpath with i3c := true, mrl := min 256 n.toNat } } ∧
      (s.towpath.dyn ≠ 0 → ∀ e ∈ ([(.getpid, s.provisionalId), (.getbcr, [twpBcr]), (.getdcr, [twpDcr]), (.getmwl, (leBytes 2 s.towpath.mwl).reverse), (.getmrl, (leBytes 2 s.towpath.mrl).reverse)] :
        List (Instr × List Byte)), exec e.1 s = .next { s with towpath := { s.towpath with i3c := true }, sent := s.sent ++ [.i3c e.2] }) ∧
      (s.towpath.dyn ≠ 0 → ∃ b, b.length = 2 ∧ exec .getstatus s = .next { s with towpath := { s.towpath with i3c := true }, sent := s.sent ++ [.i3c b], fresh := s.fresh + 1 }))) ∧
  (∀ (s : State) (f : TwpFrame),
    let s1 : State := { s with towpath := { s.towpath with i3c := f.i3c } }
    (s.addressed f = false → ∀ i ∈ ([.regRead f, .regWrite f, .imgWrite f, .statusRead f] : List Instr), exec i s = .next s) ∧
    (s.addressed f = true → crc8 0 (twpBytes f) ≠ f.pec.toNat →
      (∀ i ∈ ([.regWrite f, .imgWrite f] : List Instr), exec i s =
        .next { s with towpath := { s.towpath with i3c := f.i3c, status := 1, pecErr := satAdd 8 s.towpath.pecErr 1 } }) ∧
      (∀ i ∈ ([.regRead f, .statusRead f] : List Instr), ∃ t body, exec i s = .next t ∧ t.sent = s.sent ++ [.i3c (1 :: body)] ∧ body.length = f.len.toNat + 1 ∧
        t.towpath = { s.towpath with i3c := f.i3c, pecErr := satAdd 8 s.towpath.pecErr 1 } ∧ t = { s with towpath := t.towpath, sent := t.sent, fresh := t.fresh })) ∧
    (s.addressed f = true → crc8 0 (twpBytes f) = f.pec.toNat →
      (f.len = 8 → f.addr.toNat % 8 = 0 → towReads f.addr.toNat = true → exec (.regRead f) s =
        .next ((s1.svcOn.regReadEffect f.addr.toNat).frameOut f 0 (leBytes 8 (s1.svcOn.regShown f.addr.toNat).toNat))) ∧
      ((f.addr.toNat % 8 ≠ 0 ∨ f.len.toNat % 8 ≠ 0 ∨ f.len = 0 ∨ 240 < f.len.toNat) →
        (∃ t body, exec (.regRead f) s = .next t ∧ t.sent = s.sent ++ [.i3c (2 :: body)] ∧ body.length = f.len.toNat + 1) ∧
        exec (.regWrite f) s = .next { s1 with towpath := { s1.towpath with status := 2 } }) ∧
      (f.len = 8 → f.data.length = 8 → f.addr.toNat % 8 = 0 →
        (towWrites f.addr.toNat = true → exec (.regWrite f) s = .next ((s1.writeVia .towpath f.addr.toNat (BitVec.ofNat 64 (leNat f.data))).writeStatus 0)) ∧
        (towWrites f.addr.toNat = false → exec (.regWrite f) s = .next (s1.writeStatus 2))) ∧
      (1 ≤ f.len.toNat → f.len.toNat ≤ 240 → f.data.length = f.len.toNat → f.addr.toNat + f.len.toNat ≤ 0x800000 →
        (s.bootStage ≠ 1 → exec (.imgWrite f) s = .next (s1.writeStatus 3)) ∧
        (s.bootStage = 1 → s.towpath.placeUntil ≤ s.now → Memory.wf s.dram = true → ∃ t, exec (.imgWrite f) s = .next t ∧
          (∀ i < f.len.toNat, memRead t.dram (imageAt + f.addr.toNat + i) = nthD 0 f.data i) ∧
          (∀ a, a < imageAt + f.addr.toNat ∨ imageAt + f.addr.toNat + f.len.toNat ≤ a → memRead t.dram a = memRead s.dram a) ∧
          t = { s with dram := t.dram, towpath := { s.towpath with i3c := f.i3c, status := 0, placeUntil := s.now + ticksUs 375 } })) ∧
      (f.addr = 0 → ∃ t body, exec (.statusRead f) s = .next t ∧ t.sent = s.sent ++ [.i3c (BitVec.ofNat 8 s.towpath.status :: body)] ∧ body.length = f.len.toNat + 1 ∧
        t = { s with towpath := { s.towpath with i3c := f.i3c }, sent := t.sent, fresh := t.fresh }))) ∧
  (∀ (s : State),
    (∀ vs : List (BitVec 16), s.boot.inReset = false → vs.length = 20 → ∃ t, exec (.sensorUpdate vs) s = .next t ∧
      (∀ i < 20, (alGet t.towpath.sensors i).map (·.1) = some (nthD 0 vs i).toNat) ∧ (alGet t.towpath.sensors 20).map (·.1) = some (s.fld rHubPaceStat 0 16) ∧
      (∀ i < 17, 840 ≤ (nthD 0 vs i).toInt → (alGet t.towpath.sensors i).map (·.2) = some true) ∧
      (∀ i < 17, (nthD 0 vs i).toInt < 800 → (alGet t.towpath.sensors i).map (·.2) = some false) ∧
      (t.aon.mainOk = true ↔ 10800 ≤ (nthD 0 vs 17).toNat ∧ (nthD 0 vs 17).toNat ≤ 13200) ∧ t = { s with towpath := t.towpath, aon := t.aon, sent := t.sent }) ∧
    (∀ vs : List (BitVec 16), s.boot.inReset = true → exec (.sensorUpdate vs) s = .next s) ∧
    (∀ v : BitVec 64, (s.inService = false → exec (.lbsXfer v) s = .next s.turnedAway) ∧
      (s.inService = true → (fld v 16 1 = 0 ∨ s.fld rLbsStat 1 1 = 1 ∨ 8 < fld v 8 4 ∨ 8 < fld v 12 4) → exec (.lbsXfer v) s = .next s) ∧
      (s.inService = true → fld v 16 1 = 1 → s.fld rLbsStat 1 1 = 0 → fld v 8 4 ≤ 8 → fld v 12 4 ≤ 8 →
        (s.fld rLbsStat 0 1 = 1 → exec (.lbsXfer v) s = .next ((s.setFld rLbsStat 2 2 3).setFld rLbsStat 1 1 0)) ∧
        (s.fld rLbsStat 0 1 = 0 → s.lbs = {} → ∃ t op, exec (.lbsXfer v) s = .next t ∧ t.lbs.cur = some op ∧ op.host = true ∧ op.addr = fld v 0 7 ∧ op.wlen = fld v 8 4 ∧ op.rlen = fld v 12 4 ∧
          op.wdata = s.reg rLbsWdata ∧ t.sent = s.sent ++ [.lbs op] ∧ t.fld rLbsStat 1 1 = 1 ∧ t = { s with lbs := t.lbs, sent := t.sent, regs := t.regs }))) ∧
    (∀ (ack : Bool) (d : BitVec 64) op, s.lbs.cur = some op → s.lbs.queue = [] → ∃ t, exec (.lbsTransferDone ack d) s = .next t ∧ t.lbs.cur = none ∧
      (op.host = true → ack = true → t.reg rLbsRdata = BitVec.ofNat 64 (d.toNat % 2 ^ (8 * op.rlen)) ∧ t.fld rLbsStat 2 2 = 0 ∧ t.fld rLbsStat 1 1 = 0) ∧
      (op.host = true → ack = false → t.reg rLbsRdata = s.reg rLbsRdata ∧ t.fld rLbsStat 2 2 = 1 ∧ t.fld rLbsStat 1 1 = 0) ∧
      (ack = false → t.fld rLbsStat 16 16 = satAdd 16 (s.fld rLbsStat 16 16) 1) ∧ t = { s with lbs := t.lbs, regs := t.regs }) ∧
    (s.lbs.cur = none → exec .lbsTimeout s = .next s ∧ ∀ ack d, exec (.lbsTransferDone ack d) s = .next s) ∧
    (∀ op, s.lbs.cur = some op → ∃ t, exec .lbsTimeout s = .next t ∧ t.lbs = { s.lbs with cur := none, clearing := true, repeats := 0 } ∧ (op.host = true → t.fld rLbsStat 2 2 = 2 ∧ t.fld rLbsStat 1 1 = 0) ∧
      t = { s with lbs := t.lbs, regs := t.regs }) ∧
    (∀ (sda : List Bool) (scl : Bool), s.boot.inReset = false → s.lbs.cur = none → s.lbs.repeats = 0 → ∃ t, exec (.lbsClear sda scl) s = .next t ∧ t.fld rLbsStat 8 8 = satAdd 8 (s.fld rLbsStat 8 8) 1 ∧
      .lbsClear ∈ t.sent ∧ (scl = true → true ∈ sda.take 9 → t.lbs.clearing = false ∧ t.fld rLbsStat 0 1 = 0) ∧
      ((scl = false ∨ true ∉ sda.take 9) → t.lbs = { s.lbs with clearing := true, repeats := 1 })) ∧
    (∀ (sda : List Bool) (scl : Bool), s.lbs.clearing = true → 0 < s.lbs.repeats →
      (scl = true → true ∈ sda.take 9 → ∃ t, exec (.lbsClearRetry sda scl) s = .next t ∧ t.lbs.clearing = false ∧ t.fld rLbsStat 0 1 = 0) ∧
      (scl = false → s.lbs.repeats < 3 → ∃ t, exec (.lbsClearRetry sda scl) s = .next t ∧ t.lbs = { s.lbs with repeats := s.lbs.repeats + 1 }) ∧
      (scl = false → 3 ≤ s.lbs.repeats → ∃ t, exec (.lbsClearRetry sda scl) s = .next t ∧ t.fld rLbsStat 0 1 = 1 ∧ t.lbs.queue = [] ∧ t.lbs.known = false)) ∧
    ((s.lbs.clearing = false ∨ s.lbs.repeats = 0) → ∀ sda scl, exec (.lbsClearRetry sda scl) s = .next s) ∧
    (s.fld rLbsCtl 3 1 = 1 → s.fld rLbsStat 0 1 = 0 → s.lbs.known = true → s.lbs.cur.isSome = true → ∃ t op, exec .regulatorPoll s = .next t ∧ t.lbs = { s.lbs with queue := s.lbs.queue ++ [op] } ∧
      op.host = false ∧ op.pec = true ∧ t = { s with lbs := t.lbs, fresh := s.fresh + 1 }) ∧
    ((s.fld rLbsCtl 3 1 = 0 ∨ s.fld rLbsStat 0 1 = 1 ∨ s.lbs.known = false) → exec .regulatorPoll s = .next s)) ∧
  (∀ (s : State),
    let sel (code : Nat) (out : BitVec 128) (j : Jtag) : State := { s with jtag := { j with ir := code, out := out }, sent := s.sent ++ [.tap out] }
    exec .idcode s = .next (sel 0x02 0x1409656B s.jtag) ∧ exec .bypass s = .next (sel 0xFF 0 s.jtag) ∧
    (∀ pins pre : BitVec 128, exec (.samplePreload pins pre) s = .next (sel 0x01 pins { s.jtag with bound := pre })) ∧
    (∀ e ∈ ([(.extest, 0x00, s.jtag.bound), (.clamp, 0x03, 0), (.highz, 0x04, 0)] : List (Instr × Nat × BitVec 128)),
      ((s.mode = 3 ∨ s.bootStage = 1) → exec e.1 s = .next (sel e.2.1 e.2.2 { s.jtag with blocked := true })) ∧
      (s.mode ≠ 3 → s.bootStage ≠ 1 → exec e.1 s = .next ((sel 0xFF 0 s.jtag).setFld rDbgStat 1 1 1))) ∧
    (∀ scan : BitVec 96, ∀ off, off = rDbgStat + 8 * (scan.toNat % 16) →
      (scan.getLsbD 4 = false → regFields off ≠ [] → exec (.dbgSel scan) s = .next (sel 0x20 (BitVec.ofNat 128 (s.regValue off).toNat) s.jtag)) ∧
      (scan.getLsbD 4 = false → regFields off = [] → exec (.dbgSel scan) s = .next (sel 0x20 0 s.jtag)) ∧
      (scan.getLsbD 4 = true → off = rDbgCmd → exec (.dbgSel scan) s = .next ((s.dbgCmd (scan.toNat / 32 % 16)).tap 0x20 0)) ∧
      (scan.getLsbD 4 = true → off ≠ rDbgCmd → exec (.dbgSel scan) s = .next ((s.regPut off (BitVec.ofNat 64 (scan.toNat / 32))).tap 0x20 0)))) ∧
  (∀ (s : State),
    let c := s.dbgCore
    let x := s.core c
    let a := s.dbgAddr
    (s.sec.dbgMask = 0 → ∀ i ∈ ([.dbgHalt, .forceHalt, .resume, .stepOne, .rdreg, .wrreg, .rdmem, .wrmem, .breakSet, .qread] : List Instr), exec i s = .next (s.dbgRes 1 false)) ∧
    (s.dbgCoreOpen = false → ∀ i ∈ ([.dbgHalt, .forceHalt, .resume, .stepOne, .rdreg, .wrreg, .rdmem, .wrmem, .breakSet] : List Instr), exec i s = .next (s.dbgRes 1 false)) ∧
    (s.sec.dbgMask ≠ 0 → exec .qread s = .next ((s.setReg rDbgData (s.regShown (fld a 0 24))).dbgRes 0 (readEffect (fld a 0 24)))) ∧
    (s.dbgCoreOpen = true →
      (x.halt = .running → exec .dbgHalt s = .next ((s.setCore c { x with halt := if (x.run.any (fun r => r.hold.isSome)) then .requested else .halted }).dbgRes 0 false)) ∧
      (x.halt ≠ .running → exec .dbgHalt s = .next (s.dbgRes 0 false)) ∧
      (∀ r h, x.run = some r → r.hold = some h → h.locks = [] → exec .forceHalt s = .next ((s.setCore c
        { x with s := h.s, p := h.p, ls := h.ls, scratch := h.scratch, run := some { r with hold := none, ip := h.ip }, halt := .forced }).dbgRes 0 false)) ∧
      (∀ r, x.run = some r → r.hold = none → x.halt = .running → exec .forceHalt s = .next ((s.setCore c { x with halt := .halted }).dbgRes 0 false)) ∧
      (x.halt = .halted → exec .resume s = .next ((s.setCore c { x with halt := .running, stepOnce := false }).dbgRes 0 false)) ∧
      (x.halt = .forced → ∀ i ∈ ([.resume, .stepOne] : List Instr), exec i s = .next (((s.setCore c { x with halt := .running }).raise c exHaltHold 0).dbgRes 0 false)) ∧
      (x.halt ≠ .forced → exec .stepOne s = .next ((s.setCore c { x with halt := .running, stepOnce := true }).dbgRes 0 false)) ∧
      (x.halt = .running ∨ x.halt = .requested → ∀ i ∈ ([.rdreg, .wrreg, .rdmem, .wrmem] : List Instr), exec i s = .next (s.dbgRes 3 false)) ∧
      (x.halt = .halted ∨ x.halt = .forced →
        (0x3C ≤ fld a 0 6 → exec .rdreg s = .next (s.dbgRes 4 false) ∧ exec .wrreg s = .next (s.dbgRes 4 false)) ∧
        (fld a 0 6 < 0x20 → exec .rdreg s = .next ((s.setReg rDbgData (x.sGet (fld a 0 6))).dbgRes 0 false) ∧
          exec .wrreg s = .next ((s.setCore c (x.sPut (fld a 0 6) (s.reg rDbgData))).dbgRes 0 false)) ∧
        (0x20 ≤ fld a 0 6 → fld a 0 6 < 0x30 → fld a 8 8 < 32 →
          exec .rdreg s = .next ((s.setReg rDbgData (BitVec.ofNat 64 (nthD 0 (x.vGet (fld a 0 6)) (fld a 8 8)).toNat)).dbgRes 0 false) ∧
          exec .wrreg s = .next ((s.setCore c (x.vPut (fld a 0 6) (setNth (x.vGet (fld a 0 6)) (fld a 8 8) (BitVec.ofNat 32 (s.reg rDbgData).toNat)))).dbgRes 0 false)) ∧
        (localOk a.toNat 8 = true → exec .rdmem s = .next ((s.setReg rDbgData (BitVec.ofNat 64 (leNat (x.readLocal a.toNat 8)))).dbgRes 0 false)) ∧
        (localOk a.toNat 8 = false → exec .rdmem s = .next (s.dbgRes 2 false)) ∧
        (storeOk a.toNat 8 = true → exec .wrmem s = .next ((s.setCore c (x.writeLocal a.toNat (leBytes 8 (s.reg rDbgData).toNat))).dbgRes 0 false)) ∧
        (storeOk a.toNat 8 = false → exec .wrmem s = .next (s.dbgRes 2 false))) ∧
      (fld a 11 5 = 0 → fld a 18 2 = 0 → fld a 21 43 = 0 → fld a 20 1 = 0 → exec .breakSet s = .next ((s.setCore c { x with breaks := alPut x.breaks (fld a 16 2) (fld a 0 11) }).dbgRes 0 false)) ∧
      (fld a 11 5 = 0 → fld a 18 2 = 0 → fld a 21 43 = 0 → fld a 20 1 = 1 → exec .breakSet s = .next ((s.setCore c { x with breaks := alDel x.breaks (fld a 16 2) }).dbgRes 0 false))) ∧
    (∀ k : BitVec 12, ((s.core k.toNat).halt = .requested → ∀ r h, (s.core k.toNat).run = some r → r.hold = some h → h.locks = [] → exec (.haltDeferLimit k) s = .next (s.setCore k.toNat
        { s.core k.toNat with s := h.s, p := h.p, ls := h.ls, scratch := h.scratch, run := some { r with hold := none, ip := h.ip }, halt := .forced })) ∧
      ((s.core k.toNat).halt ≠ .requested → exec (.haltDeferLimit k) s = .next s)))
end

