-- ==== Sys2Proof/Laws/Exec.lean ====
section
/-! SUPPORT. What `exec` does with each command: the one meaning its arm calls. -/

namespace Sys2Proof.Machine

@[simp] theorem exec_registerWrite (path : Path) (off : BitVec 24) (val : BitVec 64) (s : State) :
    exec (.registerWrite path off val) s = execRegisterWrite path off val s := rfl
@[simp] theorem exec_paceWindowEnd (counts : List Nat) (s : State) :
    exec (.paceWindowEnd counts) s = execPaceWindowEnd counts s := rfl
@[simp] theorem exec_sweep (basin : BitVec 6) (ring : BitVec 8) (s : State) :
    exec (.sweep basin ring) s = execSweep basin ring s := rfl
@[simp] theorem exec_mergeSlotReserve (gsid : BitVec 24) (s : State) :
    exec (.mergeSlotReserve gsid) s = execMergeSlotReserve gsid s := rfl
@[simp] theorem exec_arm (m : ArmMsg) (s : State) :
    exec (.arm m) s = execArm m s := rfl
@[simp] theorem exec_armAck (m : ArmAckMsg) (s : State) :
    exec (.armAck m) s = execArmAck m s := rfl
@[simp] theorem exec_staleMap (gsid : BitVec 24) (seq : BitVec 32) (member : BitVec 10) (ref : BitVec 64) (s : State) :
    exec (.staleMap gsid seq member ref) s = execStaleMap gsid seq member ref s := rfl
@[simp] theorem exec_sluiceRelease (which : SluiceRef) (s : State) :
    exec (.sluiceRelease which) s = execSluiceRelease which s := rfl
@[simp] theorem exec_graceExpiry (gsid : BitVec 24) (seq : BitVec 32) (twin : Bool) (s : State) :
    exec (.graceExpiry gsid seq twin) s = execGraceExpiry gsid seq twin s := rfl
@[simp] theorem exec_memberCutoff (gsid : BitVec 24) (seq : BitVec 32) (twin : Bool) (s : State) :
    exec (.memberCutoff gsid seq twin) s = execMemberCutoff gsid seq twin s := rfl
@[simp] theorem exec_memberRecordsSend (gsid : BitVec 24) (seq : BitVec 32) (twin : Bool) (s : State) :
    exec (.memberRecordsSend gsid seq twin) s = execMemberRecordsSend gsid seq twin s := rfl
@[simp] theorem exec_regionPartialMerge (gsid : BitVec 24) (seq : BitVec 32) (twin : Bool) (region : BitVec 5) (group : BitVec 16) (s : State) :
    exec (.regionPartialMerge gsid seq twin region group) s = execRegionPartialMerge gsid seq twin region group s := rfl
@[simp] theorem exec_backupPoint (gsid : BitVec 24) (seq : BitVec 32) (s : State) :
    exec (.backupPoint gsid seq) s = execBackupPoint gsid seq s := rfl
@[simp] theorem exec_backup (m : BackupMsg) (s : State) :
    exec (.backup m) s = execBackup m s := rfl
@[simp] theorem exec_cancelMsg (gsid : BitVec 24) (seq : BitVec 32) (s : State) :
    exec (.cancelMsg gsid seq) s = execCancelMsg gsid seq s := rfl
@[simp] theorem exec_part (m : PartMsg) (s : State) :
    exec (.part m) s = execPart m s := rfl
@[simp] theorem exec_mergeDeadline (gsid : BitVec 24) (seq : BitVec 32) (s : State) :
    exec (.mergeDeadline gsid seq) s = execMergeDeadline gsid seq s := rfl
@[simp] theorem exec_mergeLostTimeout (gsid : BitVec 24) (s : State) :
    exec (.mergeLostTimeout gsid) s = execMergeLostTimeout gsid s := rfl
@[simp] theorem exec_runStart (core : BitVec 12) (gsid : BitVec 24) (seq : BitVec 32) (twin : Bool) (group : BitVec 16) (kind : RunKind) (s : State) :
    exec (.runStart core gsid seq twin group kind) s = execRunStart core gsid seq twin group kind s := rfl
@[simp] theorem exec_runOverdue (core : BitVec 12) (s : State) :
    exec (.runOverdue core) s = execRunOverdue core s := rfl
@[simp] theorem exec_br (core : BitVec 12) (s : State) :
    exec (.br core) s = execBr core s := rfl
@[simp] theorem exec_brR (core : BitVec 12) (s : State) :
    exec (.brR core) s = execBrR core s := rfl
@[simp] theorem exec_loopI (core : BitVec 12) (s : State) :
    exec (.loopI core) s = execLoopI core s := rfl
@[simp] theorem exec_call (core : BitVec 12) (s : State) :
    exec (.call core) s = execCall core s := rfl
@[simp] theorem exec_ret (core : BitVec 12) (s : State) :
    exec (.ret core) s = execRet core s := rfl
@[simp] theorem exec_halt (core : BitVec 12) (s : State) :
    exec (.halt core) s = execHalt core s := rfl
@[simp] theorem exec_nop (core : BitVec 12) (s : State) :
    exec (.nop core) s = execNop core s := rfl
@[simp] theorem exec_add (core : BitVec 12) (s : State) :
    exec (.add core) s = execAdd core s := rfl
@[simp] theorem exec_addI (core : BitVec 12) (s : State) :
    exec (.addI core) s = execAddI core s := rfl
@[simp] theorem exec_sub (core : BitVec 12) (s : State) :
    exec (.sub core) s = execSub core s := rfl
@[simp] theorem exec_subI (core : BitVec 12) (s : State) :
    exec (.subI core) s = execSubI core s := rfl
@[simp] theorem exec_andR (core : BitVec 12) (s : State) :
    exec (.andR core) s = execAndR core s := rfl
@[simp] theorem exec_andI (core : BitVec 12) (s : State) :
    exec (.andI core) s = execAndI core s := rfl
@[simp] theorem exec_orR (core : BitVec 12) (s : State) :
    exec (.orR core) s = execOrR core s := rfl
@[simp] theorem exec_orI (core : BitVec 12) (s : State) :
    exec (.orI core) s = execOrI core s := rfl
@[simp] theorem exec_xorR (core : BitVec 12) (s : State) :
    exec (.xorR core) s = execXorR core s := rfl
@[simp] theorem exec_xorI (core : BitVec 12) (s : State) :
    exec (.xorI core) s = execXorI core s := rfl
@[simp] theorem exec_shl (core : BitVec 12) (s : State) :
    exec (.shl core) s = execShl core s := rfl
@[simp] theorem exec_shlI (core : BitVec 12) (s : State) :
    exec (.shlI core) s = execShlI core s := rfl
@[simp] theorem exec_shr (core : BitVec 12) (s : State) :
    exec (.shr core) s = execShr core s := rfl
@[simp] theorem exec_shrI (core : BitVec 12) (s : State) :
    exec (.shrI core) s = execShrI core s := rfl
@[simp] theorem exec_sra (core : BitVec 12) (s : State) :
    exec (.sra core) s = execSra core s := rfl
@[simp] theorem exec_sraI (core : BitVec 12) (s : State) :
    exec (.sraI core) s = execSraI core s := rfl
@[simp] theorem exec_mul (core : BitVec 12) (s : State) :
    exec (.mul core) s = execMul core s := rfl
@[simp] theorem exec_mulI (core : BitVec 12) (s : State) :
    exec (.mulI core) s = execMulI core s := rfl
@[simp] theorem exec_mov (core : BitVec 12) (s : State) :
    exec (.mov core) s = execMov core s := rfl
@[simp] theorem exec_movh (core : BitVec 12) (s : State) :
    exec (.movh core) s = execMovh core s := rfl
@[simp] theorem exec_cmpEq (core : BitVec 12) (s : State) :
    exec (.cmpEq core) s = execCmpEq core s := rfl
@[simp] theorem exec_cmpEqI (core : BitVec 12) (s : State) :
    exec (.cmpEqI core) s = execCmpEqI core s := rfl
@[simp] theorem exec_cmpNe (core : BitVec 12) (s : State) :
    exec (.cmpNe core) s = execCmpNe core s := rfl
@[simp] theorem exec_cmpNeI (core : BitVec 12) (s : State) :
    exec (.cmpNeI core) s = execCmpNeI core s := rfl
@[simp] theorem exec_cmpLt (core : BitVec 12) (s : State) :
    exec (.cmpLt core) s = execCmpLt core s := rfl
@[simp] theorem exec_cmpLtI (core : BitVec 12) (s : State) :
    exec (.cmpLtI core) s = execCmpLtI core s := rfl
@[simp] theorem exec_cmpLtu (core : BitVec 12) (s : State) :
    exec (.cmpLtu core) s = execCmpLtu core s := rfl
@[simp] theorem exec_cmpLtuI (core : BitVec 12) (s : State) :
    exec (.cmpLtuI core) s = execCmpLtuI core s := rfl
@[simp] theorem exec_ext (core : BitVec 12) (s : State) :
    exec (.ext core) s = execExt core s := rfl
@[simp] theorem exec_plog (core : BitVec 12) (s : State) :
    exec (.plog core) s = execPlog core s := rfl
@[simp] theorem exec_ldD (core : BitVec 12) (memErr : Bool) (s : State) :
    exec (.ldD core memErr) s = execLdD core memErr s := rfl
@[simp] theorem exec_ldW (core : BitVec 12) (memErr : Bool) (s : State) :
    exec (.ldW core memErr) s = execLdW core memErr s := rfl
@[simp] theorem exec_ldH (core : BitVec 12) (memErr : Bool) (s : State) :
    exec (.ldH core memErr) s = execLdH core memErr s := rfl
@[simp] theorem exec_ldB (core : BitVec 12) (memErr : Bool) (s : State) :
    exec (.ldB core memErr) s = execLdB core memErr s := rfl
@[simp] theorem exec_stD (core : BitVec 12) (s : State) :
    exec (.stD core) s = execStD core s := rfl
@[simp] theorem exec_stW (core : BitVec 12) (s : State) :
    exec (.stW core) s = execStW core s := rfl
@[simp] theorem exec_stH (core : BitVec 12) (s : State) :
    exec (.stH core) s = execStH core s := rfl
@[simp] theorem exec_stB (core : BitVec 12) (s : State) :
    exec (.stB core) s = execStB core s := rfl
@[simp] theorem exec_vld (core : BitVec 12) (memErr : Bool) (s : State) :
    exec (.vld core memErr) s = execVld core memErr s := rfl
@[simp] theorem exec_vst (core : BitVec 12) (s : State) :
    exec (.vst core) s = execVst core s := rfl
@[simp] theorem exec_tldK (core : BitVec 12) (s : State) :
    exec (.tldK core) s = execTldK core s := rfl
@[simp] theorem exec_tldV (core : BitVec 12) (s : State) :
    exec (.tldV core) s = execTldV core s := rfl
@[simp] theorem exec_tldMan (core : BitVec 12) (s : State) :
    exec (.tldMan core) s = execTldMan core s := rfl
@[simp] theorem exec_tldManNext (core : BitVec 12) (s : State) :
    exec (.tldManNext core) s = execTldManNext core s := rfl
@[simp] theorem exec_tldManRequeue (core : BitVec 12) (newCore : BitVec 12) (s : State) :
    exec (.tldManRequeue core newCore) s = execTldManRequeue core newCore s := rfl
@[simp] theorem exec_tstLd (core : BitVec 12) (memErr : Bool) (s : State) :
    exec (.tstLd core memErr) s = execTstLd core memErr s := rfl
@[simp] theorem exec_tstSt (core : BitVec 12) (s : State) :
    exec (.tstSt core) s = execTstSt core s := rfl
@[simp] theorem exec_dotQk (core : BitVec 12) (s : State) :
    exec (.dotQk core) s = execDotQk core s := rfl
@[simp] theorem exec_accPv (core : BitVec 12) (s : State) :
    exec (.accPv core) s = execAccPv core s := rfl
@[simp] theorem exec_scaleS (core : BitVec 12) (s : State) :
    exec (.scaleS core) s = execScaleS core s := rfl
@[simp] theorem exec_scaleO (core : BitVec 12) (s : State) :
    exec (.scaleO core) s = execScaleO core s := rfl
@[simp] theorem exec_rope (core : BitVec 12) (s : State) :
    exec (.rope core) s = execRope core s := rfl
@[simp] theorem exec_mskCausal (core : BitVec 12) (s : State) :
    exec (.mskCausal core) s = execMskCausal core s := rfl
@[simp] theorem exec_mskWin (core : BitVec 12) (s : State) :
    exec (.mskWin core) s = execMskWin core s := rfl
@[simp] theorem exec_mskTree (core : BitVec 12) (s : State) :
    exec (.mskTree core) s = execMskTree core s := rfl
@[simp] theorem exec_smxUpd (core : BitVec 12) (s : State) :
    exec (.smxUpd core) s = execSmxUpd core s := rfl
@[simp] theorem exec_smxUpdMan (core : BitVec 12) (s : State) :
    exec (.smxUpdMan core) s = execSmxUpdMan core s := rfl
@[simp] theorem exec_smxUpdSkip (core : BitVec 12) (s : State) :
    exec (.smxUpdSkip core) s = execSmxUpdSkip core s := rfl
@[simp] theorem exec_smxExp (core : BitVec 12) (s : State) :
    exec (.smxExp core) s = execSmxExp core s := rfl
@[simp] theorem exec_abftAcc (core : BitVec 12) (s : State) :
    exec (.abftAcc core) s = execAbftAcc core s := rfl
@[simp] theorem exec_abftChk (core : BitVec 12) (upset : Option AccUpset) (memErr : Bool) (s : State) :
    exec (.abftChk core upset memErr) s = execAbftChk core upset memErr s := rfl
@[simp] theorem exec_mergePart (core : BitVec 12) (s : State) :
    exec (.mergePart core) s = execMergePart core s := rfl
@[simp] theorem exec_mergePartDrop (core : BitVec 12) (s : State) :
    exec (.mergePartDrop core) s = execMergePartDrop core s := rfl
@[simp] theorem exec_mergePartR (core : BitVec 12) (s : State) :
    exec (.mergePartR core) s = execMergePartR core s := rfl
@[simp] theorem exec_emitPart (core : BitVec 12) (s : State) :
    exec (.emitPart core) s = execEmitPart core s := rfl
@[simp] theorem exec_chAdd (core : BitVec 12) (s : State) :
    exec (.chAdd core) s = execChAdd core s := rfl
@[simp] theorem exec_chSet (core : BitVec 12) (s : State) :
    exec (.chSet core) s = execChSet core s := rfl
@[simp] theorem exec_chSetThr (core : BitVec 12) (s : State) :
    exec (.chSetThr core) s = execChSetThr core s := rfl
@[simp] theorem exec_chWait (core : BitVec 12) (s : State) :
    exec (.chWait core) s = execChWait core s := rfl
@[simp] theorem exec_atGate (core : BitVec 12) (s : State) :
    exec (.atGate core) s = execAtGate core s := rfl
@[simp] theorem exec_untilTime (core : BitVec 12) (s : State) :
    exec (.untilTime core) s = execUntilTime core s := rfl
@[simp] theorem exec_flightArm (core : BitVec 12) (s : State) :
    exec (.flightArm core) s = execFlightArm core s := rfl
@[simp] theorem exec_flightArmCancel (core : BitVec 12) (s : State) :
    exec (.flightArmCancel core) s = execFlightArmCancel core s := rfl
@[simp] theorem exec_fxPut (core : BitVec 12) (s : State) :
    exec (.fxPut core) s = execFxPut core s := rfl
@[simp] theorem exec_fxGet (core : BitVec 12) (s : State) :
    exec (.fxGet core) s = execFxGet core s := rfl
@[simp] theorem exec_fxAdd (core : BitVec 12) (s : State) :
    exec (.fxAdd core) s = execFxAdd core s := rfl
@[simp] theorem exec_fxCas (core : BitVec 12) (s : State) :
    exec (.fxCas core) s = execFxCas core s := rfl
@[simp] theorem exec_fxFlush (core : BitVec 12) (s : State) :
    exec (.fxFlush core) s = execFxFlush core s := rfl
@[simp] theorem exec_sndScan (core : BitVec 12) (s : State) :
    exec (.sndScan core) s = execSndScan core s := rfl
@[simp] theorem exec_sndTop (core : BitVec 12) (s : State) :
    exec (.sndTop core) s = execSndTop core s := rfl
@[simp] theorem exec_holdBegin (core : BitVec 12) (s : State) :
    exec (.holdBegin core) s = execHoldBegin core s := rfl
@[simp] theorem exec_holdEnd (core : BitVec 12) (s : State) :
    exec (.holdEnd core) s = execHoldEnd core s := rfl
@[simp] theorem exec_brk (core : BitVec 12) (s : State) :
    exec (.brk core) s = execBrk core s := rfl
@[simp] theorem exec_chamberWaitTimeout (s : State) :
    exec (.chamberWaitTimeout) s = execChamberWaitTimeout s := rfl
@[simp] theorem exec_pageWalk (core : BitVec 12) (berth : BitVec 25) (s : State) :
    exec (.pageWalk core berth) s = execPageWalk core berth s := rfl
@[simp] theorem exec_leafReadDone (k : LayerKey) (leaf : BitVec 18) (s : State) :
    exec (.leafReadDone k leaf) s = execLeafReadDone k leaf s := rfl
@[simp] theorem exec_stageComplete (cluster : BitVec 9) (bay : BitVec 4) (ups : List Upset) (s : State) :
    exec (.stageComplete cluster bay ups) s = execStageComplete cluster bay ups s := rfl
@[simp] theorem exec_flashReadDone (k : BerthKey) (payload : Bool) (ups : List Upset) (s : State) :
    exec (.flashReadDone k payload ups) s = execFlashReadDone k payload ups s := rfl
@[simp] theorem exec_stagingCopyExpiry (k : BerthKey) (s : State) :
    exec (.stagingCopyExpiry k) s = execStagingCopyExpiry k s := rfl
@[simp] theorem exec_baseBerthExpiry (cluster : BitVec 9) (bay : BitVec 4) (s : State) :
    exec (.baseBerthExpiry cluster bay) s = execBaseBerthExpiry cluster bay s := rfl
@[simp] theorem exec_localBargeStart (k : BerthKey) (s : State) :
    exec (.localBargeStart k) s = execLocalBargeStart k s := rfl
@[simp] theorem exec_bargeSwitch (k : BerthKey) (s : State) :
    exec (.bargeSwitch k) s = execBargeSwitch k s := rfl
@[simp] theorem exec_plbInvalAcked (s : State) :
    exec (.plbInvalAcked) s = execPlbInvalAcked s := rfl
@[simp] theorem exec_sourceDrainFree (slot : BitVec 32) (s : State) :
    exec (.sourceDrainFree slot) s = execSourceDrainFree slot s := rfl
@[simp] theorem exec_flashBlockEraseDone (channel : BitVec 5) (block : List Nat) (s : State) :
    exec (.flashBlockEraseDone channel block) s = execFlashBlockEraseDone channel block s := rfl
@[simp] theorem exec_flashProgramFail (k : BerthKey) (s : State) :
    exec (.flashProgramFail k) s = execFlashProgramFail k s := rfl
@[simp] theorem exec_bargeReserve (src : BitVec 10) (epoch : BitVec 16) (k : BerthKey) (tier : Bool) (s : State) :
    exec (.bargeReserve src epoch k tier) s = execBargeReserve src epoch k tier s := rfl
@[simp] theorem exec_bargeGrant (src : BitVec 10) (k : BerthKey) (status : BitVec 16) (s : State) :
    exec (.bargeGrant src k status) s = execBargeGrant src k status s := rfl
@[simp] theorem exec_bargeData (src : BitVec 10) (k : BerthKey) (phase : BargePhase) (slot : SlotImage) (s : State) :
    exec (.bargeData src k phase slot) s = execBargeData src k phase slot s := rfl
@[simp] theorem exec_bargeReady (src : BitVec 10) (k : BerthKey) (s : State) :
    exec (.bargeReady src k) s = execBargeReady src k s := rfl
@[simp] theorem exec_bargeCommitAfterCutoff (k : BerthKey) (s : State) :
    exec (.bargeCommitAfterCutoff k) s = execBargeCommitAfterCutoff k s := rfl
@[simp] theorem exec_bargeCommit (src : BitVec 10) (k : BerthKey) (s : State) :
    exec (.bargeCommit src k) s = execBargeCommit src k s := rfl
@[simp] theorem exec_tombstoneExpiry (k : BerthKey) (s : State) :
    exec (.tombstoneExpiry k) s = execTombstoneExpiry k s := rfl
@[simp] theorem exec_evictionScan (k : LayerKey) (s : State) :
    exec (.evictionScan k) s = execEvictionScan k s := rfl
@[simp] theorem exec_prefetchLeadUpdate (p99 : BitVec 32) (s : State) :
    exec (.prefetchLeadUpdate p99) s = execPrefetchLeadUpdate p99 s := rfl
@[simp] theorem exec_berthWrite (k : BerthKey) (s : State) :
    exec (.berthWrite k) s = execBerthWrite k s := rfl
@[simp] theorem exec_ledgerCursorLookup (cur : BitVec 6) (key : BitVec 128) (mask : BitVec 128) (s : State) :
    exec (.ledgerCursorLookup cur key mask) s = execLedgerCursorLookup cur key mask s := rfl
@[simp] theorem exec_ledgerCursorNext (cur : BitVec 6) (s : State) :
    exec (.ledgerCursorNext cur) s = execLedgerCursorNext cur s := rfl
@[simp] theorem exec_ledgerCursorClose (cur : BitVec 6) (s : State) :
    exec (.ledgerCursorClose cur) s = execLedgerCursorClose cur s := rfl
@[simp] theorem exec_ldgRetireLogRead (s : State) :
    exec (.ldgRetireLogRead) s = execLdgRetireLogRead s := rfl
@[simp] theorem exec_homeInsertRetry (s : State) :
    exec (.homeInsertRetry) s = execHomeInsertRetry s := rfl
@[simp] theorem exec_dredgeVisit (ups : List LedgerUpset) (s : State) :
    exec (.dredgeVisit ups) s = execDredgeVisit ups s := rfl
@[simp] theorem exec_rebuildDone (s : State) :
    exec (.rebuildDone) s = execRebuildDone s := rfl
@[simp] theorem exec_homeNote (src : BitVec 10) (epoch : BitVec 16) (k : LayerKey) (block : BitVec 25) (homed : BitVec 25) (gain : Bool) (s : State) :
    exec (.homeNote src epoch k block homed gain) s = execHomeNote src epoch k block homed gain s := rfl
@[simp] theorem exec_homeQuery (src : BitVec 10) (tenant : BitVec 12) (s : State) :
    exec (.homeQuery src tenant) s = execHomeQuery src tenant s := rfl
@[simp] theorem exec_homeReply (src : BitVec 10) (blocks : List HomeBlock) (s : State) :
    exec (.homeReply src blocks) s = execHomeReply src blocks s := rfl
@[simp] theorem exec_soundingRoomGrant (s : State) :
    exec (.soundingRoomGrant) s = execSoundingRoomGrant s := rfl
@[simp] theorem exec_engineEstimate (gsid : BitVec 24) (seq : BitVec 32) (twin : Bool) (berth : BitVec 25) (s : State) :
    exec (.engineEstimate gsid seq twin berth) s = execEngineEstimate gsid seq twin berth s := rfl
@[simp] theorem exec_selectionFixed (gsid : BitVec 24) (seq : BitVec 32) (s : State) :
    exec (.selectionFixed gsid seq) s = execSelectionFixed gsid seq s := rfl
@[simp] theorem exec_graphInsert (k : BerthKey) (s : State) :
    exec (.graphInsert k) s = execGraphInsert k s := rfl
@[simp] theorem exec_strandFrame (bits : BitVec 512) (spacing : BitVec 32) (s : State) :
    exec (.strandFrame bits spacing) s = execStrandFrame bits spacing s := rfl
@[simp] theorem exec_strandNoSignal (s : State) :
    exec (.strandNoSignal) s = execStrandNoSignal s := rfl
@[simp] theorem exec_ptpSync (m : PtpSyncMsg) (s : State) :
    exec (.ptpSync m) s = execPtpSync m s := rfl
@[simp] theorem exec_ptpFollowUp (seqId : BitVec 16) (origin : BitVec 64) (corr : Int) (s : State) :
    exec (.ptpFollowUp seqId origin corr) s = execPtpFollowUp seqId origin corr s := rfl
@[simp] theorem exec_ptpDelayResp (seqId : BitVec 16) (rx : BitVec 64) (corr : Int) (s : State) :
    exec (.ptpDelayResp seqId rx corr) s = execPtpDelayResp seqId rx corr s := rfl
@[simp] theorem exec_ptpPdelayResp (seqId : BitVec 16) (t2 : BitVec 64) (t3 : BitVec 64) (t4 : BitVec 64) (s : State) :
    exec (.ptpPdelayResp seqId t2 t3 t4) s = execPtpPdelayResp seqId t2 t3 t4 s := rfl
@[simp] theorem exec_ptpAnnounce (m : PtpAnnounce) (s : State) :
    exec (.ptpAnnounce m) s = execPtpAnnounce m s := rfl
@[simp] theorem exec_sourceLoss (s : State) :
    exec (.sourceLoss) s = execSourceLoss s := rfl
@[simp] theorem exec_holdoverExpiry (s : State) :
    exec (.holdoverExpiry) s = execHoldoverExpiry s := rfl
@[simp] theorem exec_tbSet (val : BitVec 64) (s : State) :
    exec (.tbSet val) s = execTbSet val s := rfl
@[simp] theorem exec_chAllocate (basin : BitVec 6) (blocks : BitVec 12) (s : State) :
    exec (.chAllocate basin blocks) s = execChAllocate basin blocks s := rfl
@[simp] theorem exec_chFree (basin : BitVec 6) (blocks : BitVec 12) (base : BitVec 16) (s : State) :
    exec (.chFree basin blocks base) s = execChFree basin blocks base s := rfl
@[simp] theorem exec_chCfgWrite (val : BitVec 64) (s : State) :
    exec (.chCfgWrite val) s = execChCfgWrite val s := rfl
@[simp] theorem exec_portDown (port : BitVec 3) (s : State) :
    exec (.portDown port) s = execPortDown port s := rfl
@[simp] theorem exec_portUp (port : BitVec 3) (s : State) :
    exec (.portUp port) s = execPortUp port s := rfl
@[simp] theorem exec_portHoldExpiry (port : BitVec 3) (s : State) :
    exec (.portHoldExpiry port) s = execPortHoldExpiry port s := rfl
@[simp] theorem exec_laneRemap (engine : BitVec 2) (lane : BitVec 3) (s : State) :
    exec (.laneRemap engine lane) s = execLaneRemap engine lane s := rfl
@[simp] theorem exec_prtEngCtlWrite (engine : BitVec 2) (val : BitVec 64) (s : State) :
    exec (.prtEngCtlWrite engine val) s = execPrtEngCtlWrite engine val s := rfl
@[simp] theorem exec_sakRekey (port : BitVec 3) (s : State) :
    exec (.sakRekey port) s = execSakRekey port s := rfl
@[simp] theorem exec_mkaFrame (port : BitVec 3) (ckn : List Byte) (sak : List Byte) (s : State) :
    exec (.mkaFrame port ckn sak) s = execMkaFrame port ckn sak s := rfl
@[simp] theorem exec_lldpFrame (port : BitVec 3) (frame : List Byte) (prot : Bool) (s : State) :
    exec (.lldpFrame port frame prot) s = execLldpFrame port frame prot s := rfl
@[simp] theorem exec_readReq (h : Pkt) (r : RmaExt) (s : State) :
    exec (.readReq h r) s = execReadReq h r s := rfl
@[simp] theorem exec_readResp (h : Pkt) (r : RespExt) (data : List Byte) (s : State) :
    exec (.readResp h r data) s = execReadResp h r data s := rfl
@[simp] theorem exec_write (h : Pkt) (r : RmaExt) (data : List Byte) (s : State) :
    exec (.write h r data) s = execWrite h r data s := rfl
@[simp] theorem exec_atomicAdd (h : Pkt) (r : RmaExt) (s : State) :
    exec (.atomicAdd h r) s = execAtomicAdd h r s := rfl
@[simp] theorem exec_cas (h : Pkt) (r : RmaExt) (s : State) :
    exec (.cas h r) s = execCas h r s := rfl
@[simp] theorem exec_atomicResp (h : Pkt) (r : RespExt) (s : State) :
    exec (.atomicResp h r) s = execAtomicResp h r s := rfl
@[simp] theorem exec_fabricChAdd (h : Pkt) (r : RmaExt) (s : State) :
    exec (.fabricChAdd h r) s = execFabricChAdd h r s := rfl
@[simp] theorem exec_flush (h : Pkt) (r : RmaExt) (durable : Bool) (s : State) :
    exec (.flush h r durable) s = execFlush h r durable s := rfl
@[simp] theorem exec_flushResp (h : Pkt) (r : RespExt) (s : State) :
    exec (.flushResp h r) s = execFlushResp h r s := rfl
@[simp] theorem exec_enable (h : Pkt) (r : RmaExt) (tag : BitVec 32) (s : State) :
    exec (.enable h r tag) s = execEnable h r tag s := rfl
@[simp] theorem exec_ack (h : Pkt) (a : AckExt) (s : State) :
    exec (.ack h a) s = execAck h a s := rfl
@[simp] theorem exec_ackTimer (conn : BitVec 24) (s : State) :
    exec (.ackTimer conn) s = execAckTimer conn s := rfl
@[simp] theorem exec_retransmitTimeout (conn : BitVec 24) (s : State) :
    exec (.retransmitTimeout conn) s = execRetransmitTimeout conn s := rfl
@[simp] theorem exec_connLossExpiry (conn : BitVec 24) (s : State) :
    exec (.connLossExpiry conn) s = execConnLossExpiry conn s := rfl
@[simp] theorem exec_targetBusyRetry (conn : BitVec 24) (s : State) :
    exec (.targetBusyRetry conn) s = execTargetBusyRetry conn s := rfl
@[simp] theorem exec_connReq (m : ConnSetup) (s : State) :
    exec (.connReq m) s = execConnReq m s := rfl
@[simp] theorem exec_connAcc (m : ConnSetup) (s : State) :
    exec (.connAcc m) s = execConnAcc m s := rfl
@[simp] theorem exec_connReqRetry (conn : BitVec 24) (s : State) :
    exec (.connReqRetry conn) s = execConnReqRetry conn s := rfl
@[simp] theorem exec_connCloseMsg (conn : BitVec 24) (s : State) :
    exec (.connCloseMsg conn) s = execConnCloseMsg conn s := rfl
@[simp] theorem exec_contextLoadDone (conn : BitVec 24) (s : State) :
    exec (.contextLoadDone conn) s = execContextLoadDone conn s := rfl
@[simp] theorem exec_connDbSend (basin : BitVec 6) (conn : BitVec 24) (index : BitVec 16) (s : State) :
    exec (.connDbSend basin conn index) s = execConnDbSend basin conn index s := rfl
@[simp] theorem exec_connDbRecv (basin : BitVec 6) (conn : BitVec 24) (index : BitVec 16) (s : State) :
    exec (.connDbRecv basin conn index) s = execConnDbRecv basin conn index s := rfl
@[simp] theorem exec_connDbCompletion (basin : BitVec 6) (conn : BitVec 24) (index : BitVec 16) (s : State) :
    exec (.connDbCompletion basin conn index) s = execConnDbCompletion basin conn index s := rfl
@[simp] theorem exec_wrStart (conn : BitVec 24) (s : State) :
    exec (.wrStart conn) s = execWrStart conn s := rfl
@[simp] theorem exec_portFrameSelect (port : BitVec 3) (s : State) :
    exec (.portFrameSelect port) s = execPortFrameSelect port s := rfl
@[simp] theorem exec_trfCtlWrite (val : BitVec 64) (s : State) :
    exec (.trfCtlWrite val) s = execTrfCtlWrite val s := rfl
@[simp] theorem exec_trfMrateWrite (val : BitVec 64) (s : State) :
    exec (.trfMrateWrite val) s = execTrfMrateWrite val s := rfl
@[simp] theorem exec_pcieHotReset (s : State) :
    exec (.pcieHotReset) s = execPcieHotReset s := rfl
@[simp] theorem exec_serviceEntry (s : State) :
    exec (.serviceEntry) s = execServiceEntry s := rfl
@[simp] theorem exec_sqTail (basin : BitVec 6) (ring : BitVec 8) (val : BitVec 64) (s : State) :
    exec (.sqTail basin ring val) s = execSqTail basin ring val s := rfl
@[simp] theorem exec_cqHead (basin : BitVec 6) (ring : BitVec 8) (val : BitVec 64) (s : State) :
    exec (.cqHead basin ring val) s = execCqHead basin ring val s := rfl
@[simp] theorem exec_evtHead (basin : BitVec 6) (val : BitVec 64) (s : State) :
    exec (.evtHead basin val) s = execEvtHead basin val s := rfl
@[simp] theorem exec_excHead (basin : BitVec 6) (val : BitVec 64) (s : State) :
    exec (.excHead basin val) s = execExcHead basin val s := rfl
@[simp] theorem exec_release (basin : BitVec 6) (val : BitVec 64) (s : State) :
    exec (.release basin val) s = execRelease basin val s := rfl
@[simp] theorem exec_coalTimer (basin : BitVec 6) (ring : BitVec 8) (s : State) :
    exec (.coalTimer basin ring) s = execCoalTimer basin ring s := rfl
@[simp] theorem exec_cancel (basin : BitVec 6) (ring : BitVec 8) (s : State) :
    exec (.cancel basin ring) s = execCancel basin ring s := rfl
@[simp] theorem exec_createObject (basin : BitVec 6) (ring : BitVec 8) (s : State) :
    exec (.createObject basin ring) s = execCreateObject basin ring s := rfl
@[simp] theorem exec_updateObject (basin : BitVec 6) (ring : BitVec 8) (s : State) :
    exec (.updateObject basin ring) s = execUpdateObject basin ring s := rfl
@[simp] theorem exec_destroyObject (basin : BitVec 6) (ring : BitVec 8) (s : State) :
    exec (.destroyObject basin ring) s = execDestroyObject basin ring s := rfl
@[simp] theorem exec_append (basin : BitVec 6) (ring : BitVec 8) (ups : List Upset) (s : State) :
    exec (.append basin ring ups) s = execAppend basin ring ups s := rfl
@[simp] theorem exec_truncate (basin : BitVec 6) (ring : BitVec 8) (ups : List Upset) (s : State) :
    exec (.truncate basin ring ups) s = execTruncate basin ring ups s := rfl
@[simp] theorem exec_loadProgram (basin : BitVec 6) (ring : BitVec 8) (s : State) :
    exec (.loadProgram basin ring) s = execLoadProgram basin ring s := rfl
@[simp] theorem exec_retiringImageFree (basin : BitVec 6) (entry : BitVec 4) (s : State) :
    exec (.retiringImageFree basin entry) s = execRetiringImageFree basin entry s := rfl
@[simp] theorem exec_ringConfig (basin : BitVec 6) (ring : BitVec 8) (s : State) :
    exec (.ringConfig basin ring) s = execRingConfig basin ring s := rfl
@[simp] theorem exec_moorReg (basin : BitVec 6) (ring : BitVec 8) (s : State) :
    exec (.moorReg basin ring) s = execMoorReg basin ring s := rfl
@[simp] theorem exec_moorRevoke (basin : BitVec 6) (ring : BitVec 8) (s : State) :
    exec (.moorRevoke basin ring) s = execMoorRevoke basin ring s := rfl
@[simp] theorem exec_moorDereg (basin : BitVec 6) (ring : BitVec 8) (s : State) :
    exec (.moorDereg basin ring) s = execMoorDereg basin ring s := rfl
@[simp] theorem exec_flightArmDesc (basin : BitVec 6) (ring : BitVec 8) (s : State) :
    exec (.flightArmDesc basin ring) s = execFlightArmDesc basin ring s := rfl
@[simp] theorem exec_flightCancel (basin : BitVec 6) (ring : BitVec 8) (s : State) :
    exec (.flightCancel basin ring) s = execFlightCancel basin ring s := rfl
@[simp] theorem exec_connOpen (basin : BitVec 6) (ring : BitVec 8) (s : State) :
    exec (.connOpen basin ring) s = execConnOpen basin ring s := rfl
@[simp] theorem exec_connClose (basin : BitVec 6) (ring : BitVec 8) (s : State) :
    exec (.connClose basin ring) s = execConnClose basin ring s := rfl
@[simp] theorem exec_compose (src : ComposeSrc) (s : State) :
    exec (.compose src) s = execCompose src s := rfl
@[simp] theorem exec_clusterPass (cluster : BitVec 9) (s : State) :
    exec (.clusterPass cluster) s = execClusterPass cluster s := rfl
@[simp] theorem exec_resize (src : ComposeSrc) (s : State) :
    exec (.resize src) s = execResize src s := rfl
@[simp] theorem exec_decompose (src : ComposeSrc) (s : State) :
    exec (.decompose src) s = execDecompose src s := rfl
@[simp] theorem exec_basinTenant (src : ComposeSrc) (s : State) :
    exec (.basinTenant src) s = execBasinTenant src s := rfl
@[simp] theorem exec_mapEpoch (src : ComposeSrc) (s : State) :
    exec (.mapEpoch src) s = execMapEpoch src s := rfl
@[simp] theorem exec_bsnEpochWrite (val : BitVec 64) (s : State) :
    exec (.bsnEpochWrite val) s = execBsnEpochWrite val s := rfl
@[simp] theorem exec_bsnCmdGo (val : BitVec 64) (s : State) :
    exec (.bsnCmdGo val) s = execBsnCmdGo val s := rfl
@[simp] theorem exec_moveObject (basin : BitVec 6) (ring : BitVec 8) (s : State) :
    exec (.moveObject basin ring) s = execMoveObject basin ring s := rfl
@[simp] theorem exec_moveLedgerSwitch (tenant : BitVec 12) (object : BitVec 32) (s : State) :
    exec (.moveLedgerSwitch tenant object) s = execMoveLedgerSwitch tenant object s := rfl
@[simp] theorem exec_backgroundPull (k : BerthKey) (s : State) :
    exec (.backgroundPull k) s = execBackgroundPull k s := rfl
@[simp] theorem exec_tenantReserve (src : ComposeSrc) (s : State) :
    exec (.tenantReserve src) s = execTenantReserve src s := rfl
@[simp] theorem exec_tenantRemove (src : ComposeSrc) (s : State) :
    exec (.tenantRemove src) s = execTenantRemove src s := rfl
@[simp] theorem exec_removalFence (s : State) :
    exec (.removalFence) s = execRemovalFence s := rfl
@[simp] theorem exec_removalCancel (s : State) :
    exec (.removalCancel) s = execRemovalCancel s := rfl
@[simp] theorem exec_removalScrub (s : State) :
    exec (.removalScrub) s = execRemovalScrub s := rfl
@[simp] theorem exec_removalReport (s : State) :
    exec (.removalReport) s = execRemovalReport s := rfl
@[simp] theorem exec_bind (basin : BitVec 6) (ring : BitVec 8) (s : State) :
    exec (.bind basin ring) s = execBind basin ring s := rfl
@[simp] theorem exec_unbind (basin : BitVec 6) (ring : BitVec 8) (s : State) :
    exec (.unbind basin ring) s = execUnbind basin ring s := rfl
@[simp] theorem exec_keyExchange (sess : BitVec 32) (reqCert : List Byte) (s : State) :
    exec (.keyExchange sess reqCert) s = execKeyExchange sess reqCert s := rfl
@[simp] theorem exec_finish (sess : BitVec 32) (mutAuth : Bool) (s : State) :
    exec (.finish sess mutAuth) s = execFinish sess mutAuth s := rfl
@[simp] theorem exec_getMeasurements (index : BitVec 8) (s : State) :
    exec (.getMeasurements index) s = execGetMeasurements index s := rfl
@[simp] theorem exec_getCertificate (slot : BitVec 4) (s : State) :
    exec (.getCertificate slot) s = execGetCertificate slot s := rfl
@[simp] theorem exec_challenge (slot : BitVec 4) (nonce : List Byte) (s : State) :
    exec (.challenge slot nonce) s = execChallenge slot nonce s := rfl
@[simp] theorem exec_keyUpdate (sess : BitVec 32) (s : State) :
    exec (.keyUpdate sess) s = execKeyUpdate sess s := rfl
@[simp] theorem exec_heartbeat (sess : BitVec 32) (s : State) :
    exec (.heartbeat sess) s = execHeartbeat sess s := rfl
@[simp] theorem exec_endSession (sess : BitVec 32) (s : State) :
    exec (.endSession sess) s = execEndSession sess s := rfl
@[simp] theorem exec_getSlot (sess : BitVec 32) (tenant : BitVec 16) (s : State) :
    exec (.getSlot sess tenant) s = execGetSlot sess tenant s := rfl
@[simp] theorem exec_keyLoad (sess : BitVec 32) (tenant : BitVec 16) (mem : BitVec 256) (conn : BitVec 256) (s : State) :
    exec (.keyLoad sess tenant mem conn) s = execKeyLoad sess tenant mem conn s := rfl
@[simp] theorem exec_keyConn (sess : BitVec 32) (tenant : BitVec 16) (conn : BitVec 256) (s : State) :
    exec (.keyConn sess tenant conn) s = execKeyConn sess tenant conn s := rfl
@[simp] theorem exec_ownerClaim (sess : BitVec 32) (s : State) :
    exec (.ownerClaim sess) s = execOwnerClaim sess s := rfl
@[simp] theorem exec_ownerTransfer (sess : BitVec 32) (hash : BitVec 384) (s : State) :
    exec (.ownerTransfer sess hash) s = execOwnerTransfer sess hash s := rfl
@[simp] theorem exec_sysKey (sess : BitVec 32) (kind : BitVec 8) (peer : BitVec 16) (port : BitVec 8) (ckn : BitVec 128) (key : BitVec 256) (s : State) :
    exec (.sysKey sess kind peer port ckn key) s = execSysKey sess kind peer port ckn key s := rfl
@[simp] theorem exec_debugUnlock (sess : BitVec 32) (basins : BitVec 64) (s : State) :
    exec (.debugUnlock sess basins) s = execDebugUnlock sess basins s := rfl
@[simp] theorem exec_tenant0Key (sess : BitVec 32) (mem : BitVec 256) (conn : BitVec 256) (s : State) :
    exec (.tenant0Key sess mem conn) s = execTenant0Key sess mem conn s := rfl
@[simp] theorem exec_lockInterface (s : State) :
    exec (.lockInterface) s = execLockInterface s := rfl
@[simp] theorem exec_startInterface (s : State) :
    exec (.startInterface) s = execStartInterface s := rfl
@[simp] theorem exec_stopInterface (s : State) :
    exec (.stopInterface) s = execStopInterface s := rfl
@[simp] theorem exec_ideKm (sess : BitVec 32) (stream : BitVec 2) (key : BitVec 256) (s : State) :
    exec (.ideKm sess stream key) s = execIdeKm sess stream key s := rfl
@[simp] theorem exec_ideIntegrityFail (s : State) :
    exec (.ideIntegrityFail) s = execIdeIntegrityFail s := rfl
@[simp] theorem exec_ideKeyExpiry (s : State) :
    exec (.ideKeyExpiry) s = execIdeKeyExpiry s := rfl
@[simp] theorem exec_powerOn (straps : BitVec 6) (mainOk : Bool) (bkpOk : Bool) (s : State) :
    exec (.powerOn straps mainOk bkpOk) s = execPowerOn straps mainOk bkpOk s := rfl
@[simp] theorem exec_pinReset (widthNs : BitVec 32) (s : State) :
    exec (.pinReset widthNs) s = execPinReset widthNs s := rfl
@[simp] theorem exec_resetStretchEnd (s : State) :
    exec (.resetStretchEnd) s = execResetStretchEnd s := rfl
@[simp] theorem exec_aonPowerLoss (s : State) :
    exec (.aonPowerLoss) s = execAonPowerLoss s := rfl
@[simp] theorem exec_vinMainLoss (s : State) :
    exec (.vinMainLoss) s = execVinMainLoss s := rfl
@[simp] theorem exec_vinMainStable (s : State) :
    exec (.vinMainStable) s = execVinMainStable s := rfl
@[simp] theorem exec_brownOut (s : State) :
    exec (.brownOut) s = execBrownOut s := rfl
@[simp] theorem exec_thermalTrip (s : State) :
    exec (.thermalTrip) s = execThermalTrip s := rfl
@[simp] theorem exec_thermalClear (s : State) :
    exec (.thermalClear) s = execThermalClear s := rfl
@[simp] theorem exec_swrst (val : BitVec 64) (s : State) :
    exec (.swrst val) s = execSwrst val s := rfl
@[simp] theorem exec_rstCauseRead (s : State) :
    exec (.rstCauseRead) s = execRstCauseRead s := rfl
@[simp] theorem exec_forceLw (val : BitVec 64) (s : State) :
    exec (.forceLw val) s = execForceLw val s := rfl
@[simp] theorem exec_bootLoad (s : State) :
    exec (.bootLoad) s = execBootLoad s := rfl
@[simp] theorem exec_imageVerifyDone (s : State) :
    exec (.imageVerifyDone) s = execImageVerifyDone s := rfl
@[simp] theorem exec_keepersRunning (s : State) :
    exec (.keepersRunning) s = execKeepersRunning s := rfl
@[simp] theorem exec_bootCountClear (s : State) :
    exec (.bootCountClear) s = execBootCountClear s := rfl
@[simp] theorem exec_attemptClear (val : BitVec 64) (s : State) :
    exec (.attemptClear val) s = execAttemptClear val s := rfl
@[simp] theorem exec_diagDramTest (s : State) :
    exec (.diagDramTest) s = execDiagDramTest s := rfl
@[simp] theorem exec_diagFlashScan (s : State) :
    exec (.diagFlashScan) s = execDiagFlashScan s := rfl
@[simp] theorem exec_diagOpticalLoopback (s : State) :
    exec (.diagOpticalLoopback) s = execDiagOpticalLoopback s := rfl
@[simp] theorem exec_diagDone (pass : Bool) (detail : BitVec 48) (s : State) :
    exec (.diagDone pass detail) s = execDiagDone pass detail s := rfl
@[simp] theorem exec_keeperWatchdogExpiry (keeper : BitVec 2) (pc : BitVec 28) (s : State) :
    exec (.keeperWatchdogExpiry keeper pc) s = execKeeperWatchdogExpiry keeper pc s := rfl
@[simp] theorem exec_updStage (s : State) :
    exec (.updStage) s = execUpdStage s := rfl
@[simp] theorem exec_updateStaged (s : State) :
    exec (.updateStaged) s = execUpdateStaged s := rfl
@[simp] theorem exec_updSwitch (s : State) :
    exec (.updSwitch) s = execUpdSwitch s := rfl
@[simp] theorem exec_keeperSwitchNext (s : State) :
    exec (.keeperSwitchNext) s = execKeeperSwitchNext s := rfl
@[simp] theorem exec_settingsSave (force : Bool) (s : State) :
    exec (.settingsSave force) s = execSettingsSave force s := rfl
@[simp] theorem exec_settingsSaveDone (s : State) :
    exec (.settingsSaveDone) s = execSettingsSaveDone s := rfl
@[simp] theorem exec_twnCfgWrite (path : Path) (val : BitVec 64) (s : State) :
    exec (.twnCfgWrite path val) s = execTwnCfgWrite path val s := rfl
@[simp] theorem exec_journalRecords (tenant : BitVec 12) (recs : List JRecord) (s : State) :
    exec (.journalRecords tenant recs) s = execJournalRecords tenant recs s := rfl
@[simp] theorem exec_journalFetch (k : LayerKey) (first : BitVec 25) (last : BitVec 25) (s : State) :
    exec (.journalFetch k first last) s = execJournalFetch k first last s := rfl
@[simp] theorem exec_journalIndex (tenant : BitVec 12) (s : State) :
    exec (.journalIndex tenant) s = execJournalIndex tenant s := rfl
@[simp] theorem exec_journalAck (m : JAckMsg) (s : State) :
    exec (.journalAck m) s = execJournalAck m s := rfl
@[simp] theorem exec_journalAckTimeout (s : State) :
    exec (.journalAckTimeout) s = execJournalAckTimeout s := rfl
@[simp] theorem exec_journalFlushTimer (tenant : BitVec 12) (s : State) :
    exec (.journalFlushTimer tenant) s = execJournalFlushTimer tenant s := rfl
@[simp] theorem exec_workingCopyIdle (k : BerthKey) (s : State) :
    exec (.workingCopyIdle k) s = execWorkingCopyIdle k s := rfl
@[simp] theorem exec_qset (cert : List Byte) (s : State) :
    exec (.qset cert) s = execQset cert s := rfl
@[simp] theorem exec_expel (cert : List Byte) (s : State) :
    exec (.expel cert) s = execExpel cert s := rfl
@[simp] theorem exec_takeover (cert : List Byte) (s : State) :
    exec (.takeover cert) s = execTakeover cert s := rfl
@[simp] theorem exec_rejoin (cert : List Byte) (s : State) :
    exec (.rejoin cert) s = execRejoin cert s := rfl
@[simp] theorem exec_request (cert : List Byte) (s : State) :
    exec (.request cert) s = execRequest cert s := rfl
@[simp] theorem exec_requestTimer (s : State) :
    exec (.requestTimer) s = execRequestTimer s := rfl
@[simp] theorem exec_selfTestStart (cluster : BitVec 9) (s : State) :
    exec (.selfTestStart cluster) s = execSelfTestStart cluster s := rfl
@[simp] theorem exec_selfTestDone (cluster : BitVec 9) (pass : Bool) (s : State) :
    exec (.selfTestDone cluster pass) s = execSelfTestDone cluster pass s := rfl
@[simp] theorem exec_regionBypass (region : BitVec 12) (s : State) :
    exec (.regionBypass region) s = execRegionBypass region s := rfl
@[simp] theorem exec_regionReturn (region : BitVec 12) (s : State) :
    exec (.regionReturn region) s = execRegionReturn region s := rfl
@[simp] theorem exec_regionTest (region : BitVec 12) (failed : List (BitVec 12)) (s : State) :
    exec (.regionTest region failed) s = execRegionTest region failed s := rfl
@[simp] theorem exec_flashDrain (channel : BitVec 12) (s : State) :
    exec (.flashDrain channel) s = execFlashDrain channel s := rfl
@[simp] theorem exec_flashIsolate (channel : BitVec 12) (s : State) :
    exec (.flashIsolate channel) s = execFlashIsolate channel s := rfl
@[simp] theorem exec_flashReturn (channel : BitVec 12) (s : State) :
    exec (.flashReturn channel) s = execFlashReturn channel s := rfl
@[simp] theorem exec_hbmRetire (channel : BitVec 12) (s : State) :
    exec (.hbmRetire channel) s = execHbmRetire channel s := rfl
@[simp] theorem exec_releaseHeld (tenant : BitVec 12) (s : State) :
    exec (.releaseHeld tenant) s = execReleaseHeld tenant s := rfl
@[simp] theorem exec_regionFaultBypass (region : BitVec 5) (s : State) :
    exec (.regionFaultBypass region) s = execRegionFaultBypass region s := rfl
@[simp] theorem exec_bypassRunTimeout (core : BitVec 12) (s : State) :
    exec (.bypassRunTimeout core) s = execBypassRunTimeout core s := rfl
@[simp] theorem exec_flashChannelFailure (channel : BitVec 5) (s : State) :
    exec (.flashChannelFailure channel) s = execFlashChannelFailure channel s := rfl
@[simp] theorem exec_plbInvBasin (val : BitVec 64) (s : State) :
    exec (.plbInvBasin val) s = execPlbInvBasin val s := rfl
@[simp] theorem exec_plbInvAll (val : BitVec 64) (s : State) :
    exec (.plbInvAll val) s = execPlbInvAll val s := rfl
@[simp] theorem exec_entdaa (addr : BitVec 7) (s : State) :
    exec (.entdaa addr) s = execEntdaa addr s := rfl
@[simp] theorem exec_setdasa (s : State) :
    exec (.setdasa) s = execSetdasa s := rfl
@[simp] theorem exec_setnewda (addr : BitVec 7) (s : State) :
    exec (.setnewda addr) s = execSetnewda addr s := rfl
@[simp] theorem exec_rstdaa (s : State) :
    exec (.rstdaa) s = execRstdaa s := rfl
@[simp] theorem exec_enec (s : State) :
    exec (.enec) s = execEnec s := rfl
@[simp] theorem exec_disec (s : State) :
    exec (.disec) s = execDisec s := rfl
@[simp] theorem exec_getpid (s : State) :
    exec (.getpid) s = execGetpid s := rfl
@[simp] theorem exec_getbcr (s : State) :
    exec (.getbcr) s = execGetbcr s := rfl
@[simp] theorem exec_getdcr (s : State) :
    exec (.getdcr) s = execGetdcr s := rfl
@[simp] theorem exec_getstatus (s : State) :
    exec (.getstatus) s = execGetstatus s := rfl
@[simp] theorem exec_getmwl (s : State) :
    exec (.getmwl) s = execGetmwl s := rfl
@[simp] theorem exec_getmrl (s : State) :
    exec (.getmrl) s = execGetmrl s := rfl
@[simp] theorem exec_setmwl (len : BitVec 16) (s : State) :
    exec (.setmwl len) s = execSetmwl len s := rfl
@[simp] theorem exec_setmrl (len : BitVec 16) (s : State) :
    exec (.setmrl len) s = execSetmrl len s := rfl
@[simp] theorem exec_regRead (f : TwpFrame) (s : State) :
    exec (.regRead f) s = execRegRead f s := rfl
@[simp] theorem exec_regWrite (f : TwpFrame) (s : State) :
    exec (.regWrite f) s = execRegWrite f s := rfl
@[simp] theorem exec_imgWrite (f : TwpFrame) (s : State) :
    exec (.imgWrite f) s = execImgWrite f s := rfl
@[simp] theorem exec_statusRead (f : TwpFrame) (s : State) :
    exec (.statusRead f) s = execStatusRead f s := rfl
@[simp] theorem exec_sensorUpdate (vals : List (BitVec 16)) (s : State) :
    exec (.sensorUpdate vals) s = execSensorUpdate vals s := rfl
@[simp] theorem exec_regulatorPoll (s : State) :
    exec (.regulatorPoll) s = execRegulatorPoll s := rfl
@[simp] theorem exec_lbsXfer (val : BitVec 64) (s : State) :
    exec (.lbsXfer val) s = execLbsXfer val s := rfl
@[simp] theorem exec_lbsTransferDone (ack : Bool) (data : BitVec 64) (s : State) :
    exec (.lbsTransferDone ack data) s = execLbsTransferDone ack data s := rfl
@[simp] theorem exec_lbsTimeout (s : State) :
    exec (.lbsTimeout) s = execLbsTimeout s := rfl
@[simp] theorem exec_lbsClear (sda : List Bool) (sclHigh : Bool) (s : State) :
    exec (.lbsClear sda sclHigh) s = execLbsClear sda sclHigh s := rfl
@[simp] theorem exec_lbsClearRetry (sda : List Bool) (sclHigh : Bool) (s : State) :
    exec (.lbsClearRetry sda sclHigh) s = execLbsClearRetry sda sclHigh s := rfl
@[simp] theorem exec_extest (s : State) :
    exec (.extest) s = execExtest s := rfl
@[simp] theorem exec_samplePreload (pins : BitVec 128) (preload : BitVec 128) (s : State) :
    exec (.samplePreload pins preload) s = execSamplePreload pins preload s := rfl
@[simp] theorem exec_idcode (s : State) :
    exec (.idcode) s = execIdcode s := rfl
@[simp] theorem exec_clamp (s : State) :
    exec (.clamp) s = execClamp s := rfl
@[simp] theorem exec_highz (s : State) :
    exec (.highz) s = execHighz s := rfl
@[simp] theorem exec_dbgSel (scan : BitVec 96) (s : State) :
    exec (.dbgSel scan) s = execDbgSel scan s := rfl
@[simp] theorem exec_bypass (s : State) :
    exec (.bypass) s = execBypass s := rfl
@[simp] theorem exec_dbgHalt (s : State) :
    exec (.dbgHalt) s = execDbgHalt s := rfl
@[simp] theorem exec_haltDeferLimit (core : BitVec 12) (s : State) :
    exec (.haltDeferLimit core) s = execHaltDeferLimit core s := rfl
@[simp] theorem exec_forceHalt (s : State) :
    exec (.forceHalt) s = execForceHalt s := rfl
@[simp] theorem exec_resume (s : State) :
    exec (.resume) s = execResume s := rfl
@[simp] theorem exec_stepOne (s : State) :
    exec (.stepOne) s = execStepOne s := rfl
@[simp] theorem exec_rdreg (s : State) :
    exec (.rdreg) s = execRdreg s := rfl
@[simp] theorem exec_wrreg (s : State) :
    exec (.wrreg) s = execWrreg s := rfl
@[simp] theorem exec_rdmem (s : State) :
    exec (.rdmem) s = execRdmem s := rfl
@[simp] theorem exec_wrmem (s : State) :
    exec (.wrmem) s = execWrmem s := rfl
@[simp] theorem exec_breakSet (s : State) :
    exec (.breakSet) s = execBreakSet s := rfl
@[simp] theorem exec_qread (s : State) :
    exec (.qread) s = execQread s := rfl
@[simp] theorem exec_strandTransitionsReturn (s : State) :
    exec (.strandTransitionsReturn) s = execStrandTransitionsReturn s := rfl
@[simp] theorem exec_journalPageProgrammed (tenant : BitVec 12) (s : State) :
    exec (.journalPageProgrammed tenant) s = execJournalPageProgrammed tenant s := rfl
@[simp] theorem exec_publicationArrival (m : PubMsg) (s : State) :
    exec (.publicationArrival m) s = execPublicationArrival m s := rfl
@[simp] theorem exec_frozenConfigChange (s : State) :
    exec (.frozenConfigChange) s = execFrozenConfigChange s := rfl
@[simp] theorem exec_registerRead (path : Path) (off : BitVec 24) (s : State) :
    exec (.registerRead path off) s = execRegisterRead path off s := rfl
@[simp] theorem exec_bar2Write (off : BitVec 36) (data : List Byte) (ide : Bool) (s : State) :
    exec (.bar2Write off data ide) s = execBar2Write off data ide s := rfl
@[simp] theorem exec_dramReady (s : State) :
    exec (.dramReady) s = execDramReady s := rfl
@[simp] theorem exec_getVersion (s : State) :
    exec (.getVersion) s = execGetVersion s := rfl
@[simp] theorem exec_getCapabilities (s : State) :
    exec (.getCapabilities) s = execGetCapabilities s := rfl
@[simp] theorem exec_negotiateAlgorithms (s : State) :
    exec (.negotiateAlgorithms) s = execNegotiateAlgorithms s := rfl
@[simp] theorem exec_getDigests (s : State) :
    exec (.getDigests) s = execGetDigests s := rfl
@[simp] theorem exec_ptpDelayReqTimer (s : State) :
    exec (.ptpDelayReqTimer) s = execPtpDelayReqTimer s := rfl

end Sys2Proof.Machine
end

