-- ==== Sys2Proof/Laws/State.lean ====
section
/-! SUPPORT. What each update of the state leaves alone, one lemma per update and field, all by definition; and what a
read answers after the update. -/

namespace Sys2Proof.Machine


/-! `State.setReg` changes regs only. -/

@[simp] theorem State.setReg_pending (s : State) (o : Nat) (v : W64) : (s.setReg o v).pending = s.pending := rfl
@[simp] theorem State.setReg_tb (s : State) (o : Nat) (v : W64) : (s.setReg o v).tb = s.tb := rfl
@[simp] theorem State.setReg_fab (s : State) (o : Nat) (v : W64) : (s.setReg o v).fab = s.fab := rfl
@[simp] theorem State.setReg_tiers (s : State) (o : Nat) (v : W64) : (s.setReg o v).tiers = s.tiers := rfl
@[simp] theorem State.setReg_ledger (s : State) (o : Nat) (v : W64) : (s.setReg o v).ledger = s.ledger := rfl
@[simp] theorem State.setReg_sweeps (s : State) (o : Nat) (v : W64) : (s.setReg o v).sweeps = s.sweeps := rfl
@[simp] theorem State.setReg_host (s : State) (o : Nat) (v : W64) : (s.setReg o v).host = s.host := rfl
@[simp] theorem State.setReg_dram (s : State) (o : Nat) (v : W64) : (s.setReg o v).dram = s.dram := rfl
@[simp] theorem State.setReg_net (s : State) (o : Nat) (v : W64) : (s.setReg o v).net = s.net := rfl
@[simp] theorem State.setReg_sec (s : State) (o : Nat) (v : W64) : (s.setReg o v).sec = s.sec := rfl
@[simp] theorem State.setReg_boot (s : State) (o : Nat) (v : W64) : (s.setReg o v).boot = s.boot := rfl
@[simp] theorem State.setReg_aon (s : State) (o : Nat) (v : W64) : (s.setReg o v).aon = s.aon := rfl
@[simp] theorem State.setReg_nv (s : State) (o : Nat) (v : W64) : (s.setReg o v).nv = s.nv := rfl
@[simp] theorem State.setReg_twin (s : State) (o : Nat) (v : W64) : (s.setReg o v).twin = s.twin := rfl
@[simp] theorem State.setReg_towpath (s : State) (o : Nat) (v : W64) : (s.setReg o v).towpath = s.towpath := rfl
@[simp] theorem State.setReg_lbs (s : State) (o : Nat) (v : W64) : (s.setReg o v).lbs = s.lbs := rfl
@[simp] theorem State.setReg_jtag (s : State) (o : Nat) (v : W64) : (s.setReg o v).jtag = s.jtag := rfl
@[simp] theorem State.setReg_sent (s : State) (o : Nat) (v : W64) : (s.setReg o v).sent = s.sent := rfl
@[simp] theorem State.setReg_fresh (s : State) (o : Nat) (v : W64) : (s.setReg o v).fresh = s.fresh := rfl

/-! `State.setFld` changes regs only. -/

@[simp] theorem State.setFld_pending (s : State) (o l w x : Nat) : (s.setFld o l w x).pending = s.pending := rfl
@[simp] theorem State.setFld_tb (s : State) (o l w x : Nat) : (s.setFld o l w x).tb = s.tb := rfl
@[simp] theorem State.setFld_fab (s : State) (o l w x : Nat) : (s.setFld o l w x).fab = s.fab := rfl
@[simp] theorem State.setFld_tiers (s : State) (o l w x : Nat) : (s.setFld o l w x).tiers = s.tiers := rfl
@[simp] theorem State.setFld_ledger (s : State) (o l w x : Nat) : (s.setFld o l w x).ledger = s.ledger := rfl
@[simp] theorem State.setFld_sweeps (s : State) (o l w x : Nat) : (s.setFld o l w x).sweeps = s.sweeps := rfl
@[simp] theorem State.setFld_host (s : State) (o l w x : Nat) : (s.setFld o l w x).host = s.host := rfl
@[simp] theorem State.setFld_dram (s : State) (o l w x : Nat) : (s.setFld o l w x).dram = s.dram := rfl
@[simp] theorem State.setFld_net (s : State) (o l w x : Nat) : (s.setFld o l w x).net = s.net := rfl
@[simp] theorem State.setFld_sec (s : State) (o l w x : Nat) : (s.setFld o l w x).sec = s.sec := rfl
@[simp] theorem State.setFld_boot (s : State) (o l w x : Nat) : (s.setFld o l w x).boot = s.boot := rfl
@[simp] theorem State.setFld_aon (s : State) (o l w x : Nat) : (s.setFld o l w x).aon = s.aon := rfl
@[simp] theorem State.setFld_nv (s : State) (o l w x : Nat) : (s.setFld o l w x).nv = s.nv := rfl
@[simp] theorem State.setFld_twin (s : State) (o l w x : Nat) : (s.setFld o l w x).twin = s.twin := rfl
@[simp] theorem State.setFld_towpath (s : State) (o l w x : Nat) : (s.setFld o l w x).towpath = s.towpath := rfl
@[simp] theorem State.setFld_lbs (s : State) (o l w x : Nat) : (s.setFld o l w x).lbs = s.lbs := rfl
@[simp] theorem State.setFld_jtag (s : State) (o l w x : Nat) : (s.setFld o l w x).jtag = s.jtag := rfl
@[simp] theorem State.setFld_sent (s : State) (o l w x : Nat) : (s.setFld o l w x).sent = s.sent := rfl
@[simp] theorem State.setFld_fresh (s : State) (o l w x : Nat) : (s.setFld o l w x).fresh = s.fresh := rfl

/-! `State.bump` changes regs only. -/

@[simp] theorem State.bump_pending (s : State) (o l w d : Nat) : (s.bump o l w d).pending = s.pending := rfl
@[simp] theorem State.bump_tb (s : State) (o l w d : Nat) : (s.bump o l w d).tb = s.tb := rfl
@[simp] theorem State.bump_fab (s : State) (o l w d : Nat) : (s.bump o l w d).fab = s.fab := rfl
@[simp] theorem State.bump_tiers (s : State) (o l w d : Nat) : (s.bump o l w d).tiers = s.tiers := rfl
@[simp] theorem State.bump_ledger (s : State) (o l w d : Nat) : (s.bump o l w d).ledger = s.ledger := rfl
@[simp] theorem State.bump_sweeps (s : State) (o l w d : Nat) : (s.bump o l w d).sweeps = s.sweeps := rfl
@[simp] theorem State.bump_host (s : State) (o l w d : Nat) : (s.bump o l w d).host = s.host := rfl
@[simp] theorem State.bump_dram (s : State) (o l w d : Nat) : (s.bump o l w d).dram = s.dram := rfl
@[simp] theorem State.bump_net (s : State) (o l w d : Nat) : (s.bump o l w d).net = s.net := rfl
@[simp] theorem State.bump_sec (s : State) (o l w d : Nat) : (s.bump o l w d).sec = s.sec := rfl
@[simp] theorem State.bump_boot (s : State) (o l w d : Nat) : (s.bump o l w d).boot = s.boot := rfl
@[simp] theorem State.bump_aon (s : State) (o l w d : Nat) : (s.bump o l w d).aon = s.aon := rfl
@[simp] theorem State.bump_nv (s : State) (o l w d : Nat) : (s.bump o l w d).nv = s.nv := rfl
@[simp] theorem State.bump_twin (s : State) (o l w d : Nat) : (s.bump o l w d).twin = s.twin := rfl
@[simp] theorem State.bump_towpath (s : State) (o l w d : Nat) : (s.bump o l w d).towpath = s.towpath := rfl
@[simp] theorem State.bump_lbs (s : State) (o l w d : Nat) : (s.bump o l w d).lbs = s.lbs := rfl
@[simp] theorem State.bump_jtag (s : State) (o l w d : Nat) : (s.bump o l w d).jtag = s.jtag := rfl
@[simp] theorem State.bump_sent (s : State) (o l w d : Nat) : (s.bump o l w d).sent = s.sent := rfl
@[simp] theorem State.bump_fresh (s : State) (o l w d : Nat) : (s.bump o l w d).fresh = s.fresh := rfl

/-! `State.drawn` changes fresh only. -/

@[simp] theorem State.drawn_pending (s : State) : (s.drawn ).pending = s.pending := rfl
@[simp] theorem State.drawn_regs (s : State) : (s.drawn ).regs = s.regs := rfl
@[simp] theorem State.drawn_tb (s : State) : (s.drawn ).tb = s.tb := rfl
@[simp] theorem State.drawn_fab (s : State) : (s.drawn ).fab = s.fab := rfl
@[simp] theorem State.drawn_tiers (s : State) : (s.drawn ).tiers = s.tiers := rfl
@[simp] theorem State.drawn_ledger (s : State) : (s.drawn ).ledger = s.ledger := rfl
@[simp] theorem State.drawn_sweeps (s : State) : (s.drawn ).sweeps = s.sweeps := rfl
@[simp] theorem State.drawn_host (s : State) : (s.drawn ).host = s.host := rfl
@[simp] theorem State.drawn_dram (s : State) : (s.drawn ).dram = s.dram := rfl
@[simp] theorem State.drawn_net (s : State) : (s.drawn ).net = s.net := rfl
@[simp] theorem State.drawn_sec (s : State) : (s.drawn ).sec = s.sec := rfl
@[simp] theorem State.drawn_boot (s : State) : (s.drawn ).boot = s.boot := rfl
@[simp] theorem State.drawn_aon (s : State) : (s.drawn ).aon = s.aon := rfl
@[simp] theorem State.drawn_nv (s : State) : (s.drawn ).nv = s.nv := rfl
@[simp] theorem State.drawn_twin (s : State) : (s.drawn ).twin = s.twin := rfl
@[simp] theorem State.drawn_towpath (s : State) : (s.drawn ).towpath = s.towpath := rfl
@[simp] theorem State.drawn_lbs (s : State) : (s.drawn ).lbs = s.lbs := rfl
@[simp] theorem State.drawn_jtag (s : State) : (s.drawn ).jtag = s.jtag := rfl
@[simp] theorem State.drawn_sent (s : State) : (s.drawn ).sent = s.sent := rfl

/-! `State.setDram` changes dram only. -/

@[simp] theorem State.setDram_pending (s : State) (m : Memory) : (s.setDram m).pending = s.pending := rfl
@[simp] theorem State.setDram_regs (s : State) (m : Memory) : (s.setDram m).regs = s.regs := rfl
@[simp] theorem State.setDram_tb (s : State) (m : Memory) : (s.setDram m).tb = s.tb := rfl
@[simp] theorem State.setDram_fab (s : State) (m : Memory) : (s.setDram m).fab = s.fab := rfl
@[simp] theorem State.setDram_tiers (s : State) (m : Memory) : (s.setDram m).tiers = s.tiers := rfl
@[simp] theorem State.setDram_ledger (s : State) (m : Memory) : (s.setDram m).ledger = s.ledger := rfl
@[simp] theorem State.setDram_sweeps (s : State) (m : Memory) : (s.setDram m).sweeps = s.sweeps := rfl
@[simp] theorem State.setDram_host (s : State) (m : Memory) : (s.setDram m).host = s.host := rfl
@[simp] theorem State.setDram_net (s : State) (m : Memory) : (s.setDram m).net = s.net := rfl
@[simp] theorem State.setDram_sec (s : State) (m : Memory) : (s.setDram m).sec = s.sec := rfl
@[simp] theorem State.setDram_boot (s : State) (m : Memory) : (s.setDram m).boot = s.boot := rfl
@[simp] theorem State.setDram_aon (s : State) (m : Memory) : (s.setDram m).aon = s.aon := rfl
@[simp] theorem State.setDram_nv (s : State) (m : Memory) : (s.setDram m).nv = s.nv := rfl
@[simp] theorem State.setDram_twin (s : State) (m : Memory) : (s.setDram m).twin = s.twin := rfl
@[simp] theorem State.setDram_towpath (s : State) (m : Memory) : (s.setDram m).towpath = s.towpath := rfl
@[simp] theorem State.setDram_lbs (s : State) (m : Memory) : (s.setDram m).lbs = s.lbs := rfl
@[simp] theorem State.setDram_jtag (s : State) (m : Memory) : (s.setDram m).jtag = s.jtag := rfl
@[simp] theorem State.setDram_sent (s : State) (m : Memory) : (s.setDram m).sent = s.sent := rfl
@[simp] theorem State.setDram_fresh (s : State) (m : Memory) : (s.setDram m).fresh = s.fresh := rfl

/-! `State.setCore` changes fab.cores only. -/

@[simp] theorem State.setCore_pending (s : State) (c : Nat) (x : Core) : (s.setCore c x).pending = s.pending := rfl
@[simp] theorem State.setCore_regs (s : State) (c : Nat) (x : Core) : (s.setCore c x).regs = s.regs := rfl
@[simp] theorem State.setCore_tb (s : State) (c : Nat) (x : Core) : (s.setCore c x).tb = s.tb := rfl
@[simp] theorem State.setCore_tiers (s : State) (c : Nat) (x : Core) : (s.setCore c x).tiers = s.tiers := rfl
@[simp] theorem State.setCore_ledger (s : State) (c : Nat) (x : Core) : (s.setCore c x).ledger = s.ledger := rfl
@[simp] theorem State.setCore_sweeps (s : State) (c : Nat) (x : Core) : (s.setCore c x).sweeps = s.sweeps := rfl
@[simp] theorem State.setCore_host (s : State) (c : Nat) (x : Core) : (s.setCore c x).host = s.host := rfl
@[simp] theorem State.setCore_dram (s : State) (c : Nat) (x : Core) : (s.setCore c x).dram = s.dram := rfl
@[simp] theorem State.setCore_net (s : State) (c : Nat) (x : Core) : (s.setCore c x).net = s.net := rfl
@[simp] theorem State.setCore_sec (s : State) (c : Nat) (x : Core) : (s.setCore c x).sec = s.sec := rfl
@[simp] theorem State.setCore_boot (s : State) (c : Nat) (x : Core) : (s.setCore c x).boot = s.boot := rfl
@[simp] theorem State.setCore_aon (s : State) (c : Nat) (x : Core) : (s.setCore c x).aon = s.aon := rfl
@[simp] theorem State.setCore_nv (s : State) (c : Nat) (x : Core) : (s.setCore c x).nv = s.nv := rfl
@[simp] theorem State.setCore_twin (s : State) (c : Nat) (x : Core) : (s.setCore c x).twin = s.twin := rfl
@[simp] theorem State.setCore_towpath (s : State) (c : Nat) (x : Core) : (s.setCore c x).towpath = s.towpath := rfl
@[simp] theorem State.setCore_lbs (s : State) (c : Nat) (x : Core) : (s.setCore c x).lbs = s.lbs := rfl
@[simp] theorem State.setCore_jtag (s : State) (c : Nat) (x : Core) : (s.setCore c x).jtag = s.jtag := rfl
@[simp] theorem State.setCore_sent (s : State) (c : Nat) (x : Core) : (s.setCore c x).sent = s.sent := rfl
@[simp] theorem State.setCore_fresh (s : State) (c : Nat) (x : Core) : (s.setCore c x).fresh = s.fresh := rfl
@[simp] theorem State.setCore_fab_clusters (s : State) (c : Nat) (x : Core) : (s.setCore c x).fab.clusters = s.fab.clusters := rfl
@[simp] theorem State.setCore_fab_spares (s : State) (c : Nat) (x : Core) : (s.setCore c x).fab.spares = s.fab.spares := rfl
@[simp] theorem State.setCore_fab_regions (s : State) (c : Nat) (x : Core) : (s.setCore c x).fab.regions = s.fab.regions := rfl
@[simp] theorem State.setCore_fab_chambers (s : State) (c : Nat) (x : Core) : (s.setCore c x).fab.chambers = s.fab.chambers := rfl
@[simp] theorem State.setCore_fab_holdAge (s : State) (c : Nat) (x : Core) : (s.setCore c x).fab.holdAge = s.fab.holdAge := rfl
@[simp] theorem State.setCore_fab_handles (s : State) (c : Nat) (x : Core) : (s.setCore c x).fab.handles = s.fab.handles := rfl
@[simp] theorem State.setCore_fab_svc (s : State) (c : Nat) (x : Core) : (s.setCore c x).fab.svc = s.fab.svc := rfl

/-! `State.setRun` changes fab.cores only. -/

@[simp] theorem State.setRun_pending (s : State) (c : Nat) (r : Run) : (s.setRun c r).pending = s.pending := rfl
@[simp] theorem State.setRun_regs (s : State) (c : Nat) (r : Run) : (s.setRun c r).regs = s.regs := rfl
@[simp] theorem State.setRun_tb (s : State) (c : Nat) (r : Run) : (s.setRun c r).tb = s.tb := rfl
@[simp] theorem State.setRun_tiers (s : State) (c : Nat) (r : Run) : (s.setRun c r).tiers = s.tiers := rfl
@[simp] theorem State.setRun_ledger (s : State) (c : Nat) (r : Run) : (s.setRun c r).ledger = s.ledger := rfl
@[simp] theorem State.setRun_sweeps (s : State) (c : Nat) (r : Run) : (s.setRun c r).sweeps = s.sweeps := rfl
@[simp] theorem State.setRun_host (s : State) (c : Nat) (r : Run) : (s.setRun c r).host = s.host := rfl
@[simp] theorem State.setRun_dram (s : State) (c : Nat) (r : Run) : (s.setRun c r).dram = s.dram := rfl
@[simp] theorem State.setRun_net (s : State) (c : Nat) (r : Run) : (s.setRun c r).net = s.net := rfl
@[simp] theorem State.setRun_sec (s : State) (c : Nat) (r : Run) : (s.setRun c r).sec = s.sec := rfl
@[simp] theorem State.setRun_boot (s : State) (c : Nat) (r : Run) : (s.setRun c r).boot = s.boot := rfl
@[simp] theorem State.setRun_aon (s : State) (c : Nat) (r : Run) : (s.setRun c r).aon = s.aon := rfl
@[simp] theorem State.setRun_nv (s : State) (c : Nat) (r : Run) : (s.setRun c r).nv = s.nv := rfl
@[simp] theorem State.setRun_twin (s : State) (c : Nat) (r : Run) : (s.setRun c r).twin = s.twin := rfl
@[simp] theorem State.setRun_towpath (s : State) (c : Nat) (r : Run) : (s.setRun c r).towpath = s.towpath := rfl
@[simp] theorem State.setRun_lbs (s : State) (c : Nat) (r : Run) : (s.setRun c r).lbs = s.lbs := rfl
@[simp] theorem State.setRun_jtag (s : State) (c : Nat) (r : Run) : (s.setRun c r).jtag = s.jtag := rfl
@[simp] theorem State.setRun_sent (s : State) (c : Nat) (r : Run) : (s.setRun c r).sent = s.sent := rfl
@[simp] theorem State.setRun_fresh (s : State) (c : Nat) (r : Run) : (s.setRun c r).fresh = s.fresh := rfl
@[simp] theorem State.setRun_fab_clusters (s : State) (c : Nat) (r : Run) : (s.setRun c r).fab.clusters = s.fab.clusters := rfl
@[simp] theorem State.setRun_fab_spares (s : State) (c : Nat) (r : Run) : (s.setRun c r).fab.spares = s.fab.spares := rfl
@[simp] theorem State.setRun_fab_regions (s : State) (c : Nat) (r : Run) : (s.setRun c r).fab.regions = s.fab.regions := rfl
@[simp] theorem State.setRun_fab_chambers (s : State) (c : Nat) (r : Run) : (s.setRun c r).fab.chambers = s.fab.chambers := rfl
@[simp] theorem State.setRun_fab_holdAge (s : State) (c : Nat) (r : Run) : (s.setRun c r).fab.holdAge = s.fab.holdAge := rfl
@[simp] theorem State.setRun_fab_handles (s : State) (c : Nat) (r : Run) : (s.setRun c r).fab.handles = s.fab.handles := rfl
@[simp] theorem State.setRun_fab_svc (s : State) (c : Nat) (r : Run) : (s.setRun c r).fab.svc = s.fab.svc := rfl

/-! `State.setCluster` changes fab.clusters only. -/

@[simp] theorem State.setCluster_pending (s : State) (c : Nat) (x : Cluster) : (s.setCluster c x).pending = s.pending := rfl
@[simp] theorem State.setCluster_regs (s : State) (c : Nat) (x : Cluster) : (s.setCluster c x).regs = s.regs := rfl
@[simp] theorem State.setCluster_tb (s : State) (c : Nat) (x : Cluster) : (s.setCluster c x).tb = s.tb := rfl
@[simp] theorem State.setCluster_tiers (s : State) (c : Nat) (x : Cluster) : (s.setCluster c x).tiers = s.tiers := rfl
@[simp] theorem State.setCluster_ledger (s : State) (c : Nat) (x : Cluster) : (s.setCluster c x).ledger = s.ledger := rfl
@[simp] theorem State.setCluster_sweeps (s : State) (c : Nat) (x : Cluster) : (s.setCluster c x).sweeps = s.sweeps := rfl
@[simp] theorem State.setCluster_host (s : State) (c : Nat) (x : Cluster) : (s.setCluster c x).host = s.host := rfl
@[simp] theorem State.setCluster_dram (s : State) (c : Nat) (x : Cluster) : (s.setCluster c x).dram = s.dram := rfl
@[simp] theorem State.setCluster_net (s : State) (c : Nat) (x : Cluster) : (s.setCluster c x).net = s.net := rfl
@[simp] theorem State.setCluster_sec (s : State) (c : Nat) (x : Cluster) : (s.setCluster c x).sec = s.sec := rfl
@[simp] theorem State.setCluster_boot (s : State) (c : Nat) (x : Cluster) : (s.setCluster c x).boot = s.boot := rfl
@[simp] theorem State.setCluster_aon (s : State) (c : Nat) (x : Cluster) : (s.setCluster c x).aon = s.aon := rfl
@[simp] theorem State.setCluster_nv (s : State) (c : Nat) (x : Cluster) : (s.setCluster c x).nv = s.nv := rfl
@[simp] theorem State.setCluster_twin (s : State) (c : Nat) (x : Cluster) : (s.setCluster c x).twin = s.twin := rfl
@[simp] theorem State.setCluster_towpath (s : State) (c : Nat) (x : Cluster) : (s.setCluster c x).towpath = s.towpath := rfl
@[simp] theorem State.setCluster_lbs (s : State) (c : Nat) (x : Cluster) : (s.setCluster c x).lbs = s.lbs := rfl
@[simp] theorem State.setCluster_jtag (s : State) (c : Nat) (x : Cluster) : (s.setCluster c x).jtag = s.jtag := rfl
@[simp] theorem State.setCluster_sent (s : State) (c : Nat) (x : Cluster) : (s.setCluster c x).sent = s.sent := rfl
@[simp] theorem State.setCluster_fresh (s : State) (c : Nat) (x : Cluster) : (s.setCluster c x).fresh = s.fresh := rfl
@[simp] theorem State.setCluster_fab_cores (s : State) (c : Nat) (x : Cluster) : (s.setCluster c x).fab.cores = s.fab.cores := rfl
@[simp] theorem State.setCluster_fab_spares (s : State) (c : Nat) (x : Cluster) : (s.setCluster c x).fab.spares = s.fab.spares := rfl
@[simp] theorem State.setCluster_fab_regions (s : State) (c : Nat) (x : Cluster) : (s.setCluster c x).fab.regions = s.fab.regions := rfl
@[simp] theorem State.setCluster_fab_chambers (s : State) (c : Nat) (x : Cluster) : (s.setCluster c x).fab.chambers = s.fab.chambers := rfl
@[simp] theorem State.setCluster_fab_holdAge (s : State) (c : Nat) (x : Cluster) : (s.setCluster c x).fab.holdAge = s.fab.holdAge := rfl
@[simp] theorem State.setCluster_fab_handles (s : State) (c : Nat) (x : Cluster) : (s.setCluster c x).fab.handles = s.fab.handles := rfl
@[simp] theorem State.setCluster_fab_svc (s : State) (c : Nat) (x : Cluster) : (s.setCluster c x).fab.svc = s.fab.svc := rfl

/-! `State.setChamber` changes fab.chambers only. -/

@[simp] theorem State.setChamber_pending (s : State) (c : Nat) (x : Chamber) : (s.setChamber c x).pending = s.pending := rfl
@[simp] theorem State.setChamber_regs (s : State) (c : Nat) (x : Chamber) : (s.setChamber c x).regs = s.regs := rfl
@[simp] theorem State.setChamber_tb (s : State) (c : Nat) (x : Chamber) : (s.setChamber c x).tb = s.tb := rfl
@[simp] theorem State.setChamber_tiers (s : State) (c : Nat) (x : Chamber) : (s.setChamber c x).tiers = s.tiers := rfl
@[simp] theorem State.setChamber_ledger (s : State) (c : Nat) (x : Chamber) : (s.setChamber c x).ledger = s.ledger := rfl
@[simp] theorem State.setChamber_sweeps (s : State) (c : Nat) (x : Chamber) : (s.setChamber c x).sweeps = s.sweeps := rfl
@[simp] theorem State.setChamber_host (s : State) (c : Nat) (x : Chamber) : (s.setChamber c x).host = s.host := rfl
@[simp] theorem State.setChamber_dram (s : State) (c : Nat) (x : Chamber) : (s.setChamber c x).dram = s.dram := rfl
@[simp] theorem State.setChamber_net (s : State) (c : Nat) (x : Chamber) : (s.setChamber c x).net = s.net := rfl
@[simp] theorem State.setChamber_sec (s : State) (c : Nat) (x : Chamber) : (s.setChamber c x).sec = s.sec := rfl
@[simp] theorem State.setChamber_boot (s : State) (c : Nat) (x : Chamber) : (s.setChamber c x).boot = s.boot := rfl
@[simp] theorem State.setChamber_aon (s : State) (c : Nat) (x : Chamber) : (s.setChamber c x).aon = s.aon := rfl
@[simp] theorem State.setChamber_nv (s : State) (c : Nat) (x : Chamber) : (s.setChamber c x).nv = s.nv := rfl
@[simp] theorem State.setChamber_twin (s : State) (c : Nat) (x : Chamber) : (s.setChamber c x).twin = s.twin := rfl
@[simp] theorem State.setChamber_towpath (s : State) (c : Nat) (x : Chamber) : (s.setChamber c x).towpath = s.towpath := rfl
@[simp] theorem State.setChamber_lbs (s : State) (c : Nat) (x : Chamber) : (s.setChamber c x).lbs = s.lbs := rfl
@[simp] theorem State.setChamber_jtag (s : State) (c : Nat) (x : Chamber) : (s.setChamber c x).jtag = s.jtag := rfl
@[simp] theorem State.setChamber_sent (s : State) (c : Nat) (x : Chamber) : (s.setChamber c x).sent = s.sent := rfl
@[simp] theorem State.setChamber_fresh (s : State) (c : Nat) (x : Chamber) : (s.setChamber c x).fresh = s.fresh := rfl
@[simp] theorem State.setChamber_fab_cores (s : State) (c : Nat) (x : Chamber) : (s.setChamber c x).fab.cores = s.fab.cores := rfl
@[simp] theorem State.setChamber_fab_clusters (s : State) (c : Nat) (x : Chamber) : (s.setChamber c x).fab.clusters = s.fab.clusters := rfl
@[simp] theorem State.setChamber_fab_spares (s : State) (c : Nat) (x : Chamber) : (s.setChamber c x).fab.spares = s.fab.spares := rfl
@[simp] theorem State.setChamber_fab_regions (s : State) (c : Nat) (x : Chamber) : (s.setChamber c x).fab.regions = s.fab.regions := rfl
@[simp] theorem State.setChamber_fab_holdAge (s : State) (c : Nat) (x : Chamber) : (s.setChamber c x).fab.holdAge = s.fab.holdAge := rfl
@[simp] theorem State.setChamber_fab_handles (s : State) (c : Nat) (x : Chamber) : (s.setChamber c x).fab.handles = s.fab.handles := rfl
@[simp] theorem State.setChamber_fab_svc (s : State) (c : Nat) (x : Chamber) : (s.setChamber c x).fab.svc = s.fab.svc := rfl

/-! `State.setRegion` changes fab.regions only. -/

@[simp] theorem State.setRegion_pending (s : State) (c : Nat) (x : Region) : (s.setRegion c x).pending = s.pending := rfl
@[simp] theorem State.setRegion_regs (s : State) (c : Nat) (x : Region) : (s.setRegion c x).regs = s.regs := rfl
@[simp] theorem State.setRegion_tb (s : State) (c : Nat) (x : Region) : (s.setRegion c x).tb = s.tb := rfl
@[simp] theorem State.setRegion_tiers (s : State) (c : Nat) (x : Region) : (s.setRegion c x).tiers = s.tiers := rfl
@[simp] theorem State.setRegion_ledger (s : State) (c : Nat) (x : Region) : (s.setRegion c x).ledger = s.ledger := rfl
@[simp] theorem State.setRegion_sweeps (s : State) (c : Nat) (x : Region) : (s.setRegion c x).sweeps = s.sweeps := rfl
@[simp] theorem State.setRegion_host (s : State) (c : Nat) (x : Region) : (s.setRegion c x).host = s.host := rfl
@[simp] theorem State.setRegion_dram (s : State) (c : Nat) (x : Region) : (s.setRegion c x).dram = s.dram := rfl
@[simp] theorem State.setRegion_net (s : State) (c : Nat) (x : Region) : (s.setRegion c x).net = s.net := rfl
@[simp] theorem State.setRegion_sec (s : State) (c : Nat) (x : Region) : (s.setRegion c x).sec = s.sec := rfl
@[simp] theorem State.setRegion_boot (s : State) (c : Nat) (x : Region) : (s.setRegion c x).boot = s.boot := rfl
@[simp] theorem State.setRegion_aon (s : State) (c : Nat) (x : Region) : (s.setRegion c x).aon = s.aon := rfl
@[simp] theorem State.setRegion_nv (s : State) (c : Nat) (x : Region) : (s.setRegion c x).nv = s.nv := rfl
@[simp] theorem State.setRegion_twin (s : State) (c : Nat) (x : Region) : (s.setRegion c x).twin = s.twin := rfl
@[simp] theorem State.setRegion_towpath (s : State) (c : Nat) (x : Region) : (s.setRegion c x).towpath = s.towpath := rfl
@[simp] theorem State.setRegion_lbs (s : State) (c : Nat) (x : Region) : (s.setRegion c x).lbs = s.lbs := rfl
@[simp] theorem State.setRegion_jtag (s : State) (c : Nat) (x : Region) : (s.setRegion c x).jtag = s.jtag := rfl
@[simp] theorem State.setRegion_sent (s : State) (c : Nat) (x : Region) : (s.setRegion c x).sent = s.sent := rfl
@[simp] theorem State.setRegion_fresh (s : State) (c : Nat) (x : Region) : (s.setRegion c x).fresh = s.fresh := rfl
@[simp] theorem State.setRegion_fab_cores (s : State) (c : Nat) (x : Region) : (s.setRegion c x).fab.cores = s.fab.cores := rfl
@[simp] theorem State.setRegion_fab_clusters (s : State) (c : Nat) (x : Region) : (s.setRegion c x).fab.clusters = s.fab.clusters := rfl
@[simp] theorem State.setRegion_fab_spares (s : State) (c : Nat) (x : Region) : (s.setRegion c x).fab.spares = s.fab.spares := rfl
@[simp] theorem State.setRegion_fab_chambers (s : State) (c : Nat) (x : Region) : (s.setRegion c x).fab.chambers = s.fab.chambers := rfl
@[simp] theorem State.setRegion_fab_holdAge (s : State) (c : Nat) (x : Region) : (s.setRegion c x).fab.holdAge = s.fab.holdAge := rfl
@[simp] theorem State.setRegion_fab_handles (s : State) (c : Nat) (x : Region) : (s.setRegion c x).fab.handles = s.fab.handles := rfl
@[simp] theorem State.setRegion_fab_svc (s : State) (c : Nat) (x : Region) : (s.setRegion c x).fab.svc = s.fab.svc := rfl

/-! `State.setSpareMap` changes fab.spares only. -/

@[simp] theorem State.setSpareMap_pending (s : State) (c : Nat) (x : SpareMap) : (s.setSpareMap c x).pending = s.pending := rfl
@[simp] theorem State.setSpareMap_regs (s : State) (c : Nat) (x : SpareMap) : (s.setSpareMap c x).regs = s.regs := rfl
@[simp] theorem State.setSpareMap_tb (s : State) (c : Nat) (x : SpareMap) : (s.setSpareMap c x).tb = s.tb := rfl
@[simp] theorem State.setSpareMap_tiers (s : State) (c : Nat) (x : SpareMap) : (s.setSpareMap c x).tiers = s.tiers := rfl
@[simp] theorem State.setSpareMap_ledger (s : State) (c : Nat) (x : SpareMap) : (s.setSpareMap c x).ledger = s.ledger := rfl
@[simp] theorem State.setSpareMap_sweeps (s : State) (c : Nat) (x : SpareMap) : (s.setSpareMap c x).sweeps = s.sweeps := rfl
@[simp] theorem State.setSpareMap_host (s : State) (c : Nat) (x : SpareMap) : (s.setSpareMap c x).host = s.host := rfl
@[simp] theorem State.setSpareMap_dram (s : State) (c : Nat) (x : SpareMap) : (s.setSpareMap c x).dram = s.dram := rfl
@[simp] theorem State.setSpareMap_net (s : State) (c : Nat) (x : SpareMap) : (s.setSpareMap c x).net = s.net := rfl
@[simp] theorem State.setSpareMap_sec (s : State) (c : Nat) (x : SpareMap) : (s.setSpareMap c x).sec = s.sec := rfl
@[simp] theorem State.setSpareMap_boot (s : State) (c : Nat) (x : SpareMap) : (s.setSpareMap c x).boot = s.boot := rfl
@[simp] theorem State.setSpareMap_aon (s : State) (c : Nat) (x : SpareMap) : (s.setSpareMap c x).aon = s.aon := rfl
@[simp] theorem State.setSpareMap_nv (s : State) (c : Nat) (x : SpareMap) : (s.setSpareMap c x).nv = s.nv := rfl
@[simp] theorem State.setSpareMap_twin (s : State) (c : Nat) (x : SpareMap) : (s.setSpareMap c x).twin = s.twin := rfl
@[simp] theorem State.setSpareMap_towpath (s : State) (c : Nat) (x : SpareMap) : (s.setSpareMap c x).towpath = s.towpath := rfl
@[simp] theorem State.setSpareMap_lbs (s : State) (c : Nat) (x : SpareMap) : (s.setSpareMap c x).lbs = s.lbs := rfl
@[simp] theorem State.setSpareMap_jtag (s : State) (c : Nat) (x : SpareMap) : (s.setSpareMap c x).jtag = s.jtag := rfl
@[simp] theorem State.setSpareMap_sent (s : State) (c : Nat) (x : SpareMap) : (s.setSpareMap c x).sent = s.sent := rfl
@[simp] theorem State.setSpareMap_fresh (s : State) (c : Nat) (x : SpareMap) : (s.setSpareMap c x).fresh = s.fresh := rfl
@[simp] theorem State.setSpareMap_fab_cores (s : State) (c : Nat) (x : SpareMap) : (s.setSpareMap c x).fab.cores = s.fab.cores := rfl
@[simp] theorem State.setSpareMap_fab_clusters (s : State) (c : Nat) (x : SpareMap) : (s.setSpareMap c x).fab.clusters = s.fab.clusters := rfl
@[simp] theorem State.setSpareMap_fab_regions (s : State) (c : Nat) (x : SpareMap) : (s.setSpareMap c x).fab.regions = s.fab.regions := rfl
@[simp] theorem State.setSpareMap_fab_chambers (s : State) (c : Nat) (x : SpareMap) : (s.setSpareMap c x).fab.chambers = s.fab.chambers := rfl
@[simp] theorem State.setSpareMap_fab_holdAge (s : State) (c : Nat) (x : SpareMap) : (s.setSpareMap c x).fab.holdAge = s.fab.holdAge := rfl
@[simp] theorem State.setSpareMap_fab_handles (s : State) (c : Nat) (x : SpareMap) : (s.setSpareMap c x).fab.handles = s.fab.handles := rfl
@[simp] theorem State.setSpareMap_fab_svc (s : State) (c : Nat) (x : SpareMap) : (s.setSpareMap c x).fab.svc = s.fab.svc := rfl

/-! `State.setSvc` changes fab.svc only. -/

@[simp] theorem State.setSvc_pending (s : State) (x : Option Svc) : (s.setSvc x).pending = s.pending := rfl
@[simp] theorem State.setSvc_regs (s : State) (x : Option Svc) : (s.setSvc x).regs = s.regs := rfl
@[simp] theorem State.setSvc_tb (s : State) (x : Option Svc) : (s.setSvc x).tb = s.tb := rfl
@[simp] theorem State.setSvc_tiers (s : State) (x : Option Svc) : (s.setSvc x).tiers = s.tiers := rfl
@[simp] theorem State.setSvc_ledger (s : State) (x : Option Svc) : (s.setSvc x).ledger = s.ledger := rfl
@[simp] theorem State.setSvc_sweeps (s : State) (x : Option Svc) : (s.setSvc x).sweeps = s.sweeps := rfl
@[simp] theorem State.setSvc_host (s : State) (x : Option Svc) : (s.setSvc x).host = s.host := rfl
@[simp] theorem State.setSvc_dram (s : State) (x : Option Svc) : (s.setSvc x).dram = s.dram := rfl
@[simp] theorem State.setSvc_net (s : State) (x : Option Svc) : (s.setSvc x).net = s.net := rfl
@[simp] theorem State.setSvc_sec (s : State) (x : Option Svc) : (s.setSvc x).sec = s.sec := rfl
@[simp] theorem State.setSvc_boot (s : State) (x : Option Svc) : (s.setSvc x).boot = s.boot := rfl
@[simp] theorem State.setSvc_aon (s : State) (x : Option Svc) : (s.setSvc x).aon = s.aon := rfl
@[simp] theorem State.setSvc_nv (s : State) (x : Option Svc) : (s.setSvc x).nv = s.nv := rfl
@[simp] theorem State.setSvc_twin (s : State) (x : Option Svc) : (s.setSvc x).twin = s.twin := rfl
@[simp] theorem State.setSvc_towpath (s : State) (x : Option Svc) : (s.setSvc x).towpath = s.towpath := rfl
@[simp] theorem State.setSvc_lbs (s : State) (x : Option Svc) : (s.setSvc x).lbs = s.lbs := rfl
@[simp] theorem State.setSvc_jtag (s : State) (x : Option Svc) : (s.setSvc x).jtag = s.jtag := rfl
@[simp] theorem State.setSvc_sent (s : State) (x : Option Svc) : (s.setSvc x).sent = s.sent := rfl
@[simp] theorem State.setSvc_fresh (s : State) (x : Option Svc) : (s.setSvc x).fresh = s.fresh := rfl
@[simp] theorem State.setSvc_fab_cores (s : State) (x : Option Svc) : (s.setSvc x).fab.cores = s.fab.cores := rfl
@[simp] theorem State.setSvc_fab_clusters (s : State) (x : Option Svc) : (s.setSvc x).fab.clusters = s.fab.clusters := rfl
@[simp] theorem State.setSvc_fab_spares (s : State) (x : Option Svc) : (s.setSvc x).fab.spares = s.fab.spares := rfl
@[simp] theorem State.setSvc_fab_regions (s : State) (x : Option Svc) : (s.setSvc x).fab.regions = s.fab.regions := rfl
@[simp] theorem State.setSvc_fab_chambers (s : State) (x : Option Svc) : (s.setSvc x).fab.chambers = s.fab.chambers := rfl
@[simp] theorem State.setSvc_fab_holdAge (s : State) (x : Option Svc) : (s.setSvc x).fab.holdAge = s.fab.holdAge := rfl
@[simp] theorem State.setSvc_fab_handles (s : State) (x : Option Svc) : (s.setSvc x).fab.handles = s.fab.handles := rfl

/-! `State.setBasin` changes host.basins only. -/

@[simp] theorem State.setBasin_pending (s : State) (b : Nat) (x : Basin) : (s.setBasin b x).pending = s.pending := rfl
@[simp] theorem State.setBasin_regs (s : State) (b : Nat) (x : Basin) : (s.setBasin b x).regs = s.regs := rfl
@[simp] theorem State.setBasin_tb (s : State) (b : Nat) (x : Basin) : (s.setBasin b x).tb = s.tb := rfl
@[simp] theorem State.setBasin_fab (s : State) (b : Nat) (x : Basin) : (s.setBasin b x).fab = s.fab := rfl
@[simp] theorem State.setBasin_tiers (s : State) (b : Nat) (x : Basin) : (s.setBasin b x).tiers = s.tiers := rfl
@[simp] theorem State.setBasin_ledger (s : State) (b : Nat) (x : Basin) : (s.setBasin b x).ledger = s.ledger := rfl
@[simp] theorem State.setBasin_sweeps (s : State) (b : Nat) (x : Basin) : (s.setBasin b x).sweeps = s.sweeps := rfl
@[simp] theorem State.setBasin_dram (s : State) (b : Nat) (x : Basin) : (s.setBasin b x).dram = s.dram := rfl
@[simp] theorem State.setBasin_net (s : State) (b : Nat) (x : Basin) : (s.setBasin b x).net = s.net := rfl
@[simp] theorem State.setBasin_sec (s : State) (b : Nat) (x : Basin) : (s.setBasin b x).sec = s.sec := rfl
@[simp] theorem State.setBasin_boot (s : State) (b : Nat) (x : Basin) : (s.setBasin b x).boot = s.boot := rfl
@[simp] theorem State.setBasin_aon (s : State) (b : Nat) (x : Basin) : (s.setBasin b x).aon = s.aon := rfl
@[simp] theorem State.setBasin_nv (s : State) (b : Nat) (x : Basin) : (s.setBasin b x).nv = s.nv := rfl
@[simp] theorem State.setBasin_twin (s : State) (b : Nat) (x : Basin) : (s.setBasin b x).twin = s.twin := rfl
@[simp] theorem State.setBasin_towpath (s : State) (b : Nat) (x : Basin) : (s.setBasin b x).towpath = s.towpath := rfl
@[simp] theorem State.setBasin_lbs (s : State) (b : Nat) (x : Basin) : (s.setBasin b x).lbs = s.lbs := rfl
@[simp] theorem State.setBasin_jtag (s : State) (b : Nat) (x : Basin) : (s.setBasin b x).jtag = s.jtag := rfl
@[simp] theorem State.setBasin_sent (s : State) (b : Nat) (x : Basin) : (s.setBasin b x).sent = s.sent := rfl
@[simp] theorem State.setBasin_fresh (s : State) (b : Nat) (x : Basin) : (s.setBasin b x).fresh = s.fresh := rfl
@[simp] theorem State.setBasin_host_jobs (s : State) (b : Nat) (x : Basin) : (s.setBasin b x).host.jobs = s.host.jobs := rfl
@[simp] theorem State.setBasin_host_nextJob (s : State) (b : Nat) (x : Basin) : (s.setBasin b x).host.nextJob = s.host.nextJob := rfl
@[simp] theorem State.setBasin_host_composeQ (s : State) (b : Nat) (x : Basin) : (s.setBasin b x).host.composeQ = s.host.composeQ := rfl
@[simp] theorem State.setBasin_host_composing (s : State) (b : Nat) (x : Basin) : (s.setBasin b x).host.composing = s.host.composing := rfl

/-! `State.setJobs` changes host.jobs only. -/

@[simp] theorem State.setJobs_pending (s : State) (x : List Job) : (s.setJobs x).pending = s.pending := rfl
@[simp] theorem State.setJobs_regs (s : State) (x : List Job) : (s.setJobs x).regs = s.regs := rfl
@[simp] theorem State.setJobs_tb (s : State) (x : List Job) : (s.setJobs x).tb = s.tb := rfl
@[simp] theorem State.setJobs_fab (s : State) (x : List Job) : (s.setJobs x).fab = s.fab := rfl
@[simp] theorem State.setJobs_tiers (s : State) (x : List Job) : (s.setJobs x).tiers = s.tiers := rfl
@[simp] theorem State.setJobs_ledger (s : State) (x : List Job) : (s.setJobs x).ledger = s.ledger := rfl
@[simp] theorem State.setJobs_sweeps (s : State) (x : List Job) : (s.setJobs x).sweeps = s.sweeps := rfl
@[simp] theorem State.setJobs_dram (s : State) (x : List Job) : (s.setJobs x).dram = s.dram := rfl
@[simp] theorem State.setJobs_net (s : State) (x : List Job) : (s.setJobs x).net = s.net := rfl
@[simp] theorem State.setJobs_sec (s : State) (x : List Job) : (s.setJobs x).sec = s.sec := rfl
@[simp] theorem State.setJobs_boot (s : State) (x : List Job) : (s.setJobs x).boot = s.boot := rfl
@[simp] theorem State.setJobs_aon (s : State) (x : List Job) : (s.setJobs x).aon = s.aon := rfl
@[simp] theorem State.setJobs_nv (s : State) (x : List Job) : (s.setJobs x).nv = s.nv := rfl
@[simp] theorem State.setJobs_twin (s : State) (x : List Job) : (s.setJobs x).twin = s.twin := rfl
@[simp] theorem State.setJobs_towpath (s : State) (x : List Job) : (s.setJobs x).towpath = s.towpath := rfl
@[simp] theorem State.setJobs_lbs (s : State) (x : List Job) : (s.setJobs x).lbs = s.lbs := rfl
@[simp] theorem State.setJobs_jtag (s : State) (x : List Job) : (s.setJobs x).jtag = s.jtag := rfl
@[simp] theorem State.setJobs_sent (s : State) (x : List Job) : (s.setJobs x).sent = s.sent := rfl
@[simp] theorem State.setJobs_fresh (s : State) (x : List Job) : (s.setJobs x).fresh = s.fresh := rfl
@[simp] theorem State.setJobs_host_basins (s : State) (x : List Job) : (s.setJobs x).host.basins = s.host.basins := rfl
@[simp] theorem State.setJobs_host_nextJob (s : State) (x : List Job) : (s.setJobs x).host.nextJob = s.host.nextJob := rfl
@[simp] theorem State.setJobs_host_composeQ (s : State) (x : List Job) : (s.setJobs x).host.composeQ = s.host.composeQ := rfl
@[simp] theorem State.setJobs_host_composing (s : State) (x : List Job) : (s.setJobs x).host.composing = s.host.composing := rfl

/-! `State.setChannel` changes tiers.channels only. -/

@[simp] theorem State.setChannel_pending (s : State) (c : Nat) (x : Channel) : (s.setChannel c x).pending = s.pending := rfl
@[simp] theorem State.setChannel_regs (s : State) (c : Nat) (x : Channel) : (s.setChannel c x).regs = s.regs := rfl
@[simp] theorem State.setChannel_tb (s : State) (c : Nat) (x : Channel) : (s.setChannel c x).tb = s.tb := rfl
@[simp] theorem State.setChannel_fab (s : State) (c : Nat) (x : Channel) : (s.setChannel c x).fab = s.fab := rfl
@[simp] theorem State.setChannel_ledger (s : State) (c : Nat) (x : Channel) : (s.setChannel c x).ledger = s.ledger := rfl
@[simp] theorem State.setChannel_sweeps (s : State) (c : Nat) (x : Channel) : (s.setChannel c x).sweeps = s.sweeps := rfl
@[simp] theorem State.setChannel_host (s : State) (c : Nat) (x : Channel) : (s.setChannel c x).host = s.host := rfl
@[simp] theorem State.setChannel_dram (s : State) (c : Nat) (x : Channel) : (s.setChannel c x).dram = s.dram := rfl
@[simp] theorem State.setChannel_net (s : State) (c : Nat) (x : Channel) : (s.setChannel c x).net = s.net := rfl
@[simp] theorem State.setChannel_sec (s : State) (c : Nat) (x : Channel) : (s.setChannel c x).sec = s.sec := rfl
@[simp] theorem State.setChannel_boot (s : State) (c : Nat) (x : Channel) : (s.setChannel c x).boot = s.boot := rfl
@[simp] theorem State.setChannel_aon (s : State) (c : Nat) (x : Channel) : (s.setChannel c x).aon = s.aon := rfl
@[simp] theorem State.setChannel_nv (s : State) (c : Nat) (x : Channel) : (s.setChannel c x).nv = s.nv := rfl
@[simp] theorem State.setChannel_twin (s : State) (c : Nat) (x : Channel) : (s.setChannel c x).twin = s.twin := rfl
@[simp] theorem State.setChannel_towpath (s : State) (c : Nat) (x : Channel) : (s.setChannel c x).towpath = s.towpath := rfl
@[simp] theorem State.setChannel_lbs (s : State) (c : Nat) (x : Channel) : (s.setChannel c x).lbs = s.lbs := rfl
@[simp] theorem State.setChannel_jtag (s : State) (c : Nat) (x : Channel) : (s.setChannel c x).jtag = s.jtag := rfl
@[simp] theorem State.setChannel_sent (s : State) (c : Nat) (x : Channel) : (s.setChannel c x).sent = s.sent := rfl
@[simp] theorem State.setChannel_fresh (s : State) (c : Nat) (x : Channel) : (s.setChannel c x).fresh = s.fresh := rfl
@[simp] theorem State.setChannel_tiers_slots (s : State) (c : Nat) (x : Channel) : (s.setChannel c x).tiers.slots = s.tiers.slots := rfl
@[simp] theorem State.setChannel_tiers_layers (s : State) (c : Nat) (x : Channel) : (s.setChannel c x).tiers.layers = s.tiers.layers := rfl
@[simp] theorem State.setChannel_tiers_objects (s : State) (c : Nat) (x : Channel) : (s.setChannel c x).tiers.objects = s.tiers.objects := rfl
@[simp] theorem State.setChannel_tiers_quotas (s : State) (c : Nat) (x : Channel) : (s.setChannel c x).tiers.quotas = s.tiers.quotas := rfl
@[simp] theorem State.setChannel_tiers_barges (s : State) (c : Nat) (x : Channel) : (s.setChannel c x).tiers.barges = s.tiers.barges := rfl
@[simp] theorem State.setChannel_tiers_bargeQ (s : State) (c : Nat) (x : Channel) : (s.setChannel c x).tiers.bargeQ = s.tiers.bargeQ := rfl
@[simp] theorem State.setChannel_tiers_copies (s : State) (c : Nat) (x : Channel) : (s.setChannel c x).tiers.copies = s.tiers.copies := rfl
@[simp] theorem State.setChannel_tiers_reads (s : State) (c : Nat) (x : Channel) : (s.setChannel c x).tiers.reads = s.tiers.reads := rfl
@[simp] theorem State.setChannel_tiers_writes (s : State) (c : Nat) (x : Channel) : (s.setChannel c x).tiers.writes = s.tiers.writes := rfl
@[simp] theorem State.setChannel_tiers_noRetry (s : State) (c : Nat) (x : Channel) : (s.setChannel c x).tiers.noRetry = s.tiers.noRetry := rfl
@[simp] theorem State.setChannel_tiers_tombs (s : State) (c : Nat) (x : Channel) : (s.setChannel c x).tiers.tombs = s.tiers.tombs := rfl
@[simp] theorem State.setChannel_tiers_invals (s : State) (c : Nat) (x : Channel) : (s.setChannel c x).tiers.invals = s.tiers.invals := rfl
@[simp] theorem State.setChannel_tiers_retiredCh (s : State) (c : Nat) (x : Channel) : (s.setChannel c x).tiers.retiredCh = s.tiers.retiredCh := rfl
@[simp] theorem State.setChannel_tiers_graphQ (s : State) (c : Nat) (x : Channel) : (s.setChannel c x).tiers.graphQ = s.tiers.graphQ := rfl
@[simp] theorem State.setChannel_tiers_nextRoot (s : State) (c : Nat) (x : Channel) : (s.setChannel c x).tiers.nextRoot = s.tiers.nextRoot := rfl

/-! `State.setSlot` changes tiers.slots only. -/

@[simp] theorem State.setSlot_pending (s : State) (n : Nat) (x : Slot) : (s.setSlot n x).pending = s.pending := rfl
@[simp] theorem State.setSlot_regs (s : State) (n : Nat) (x : Slot) : (s.setSlot n x).regs = s.regs := rfl
@[simp] theorem State.setSlot_tb (s : State) (n : Nat) (x : Slot) : (s.setSlot n x).tb = s.tb := rfl
@[simp] theorem State.setSlot_fab (s : State) (n : Nat) (x : Slot) : (s.setSlot n x).fab = s.fab := rfl
@[simp] theorem State.setSlot_ledger (s : State) (n : Nat) (x : Slot) : (s.setSlot n x).ledger = s.ledger := rfl
@[simp] theorem State.setSlot_sweeps (s : State) (n : Nat) (x : Slot) : (s.setSlot n x).sweeps = s.sweeps := rfl
@[simp] theorem State.setSlot_host (s : State) (n : Nat) (x : Slot) : (s.setSlot n x).host = s.host := rfl
@[simp] theorem State.setSlot_dram (s : State) (n : Nat) (x : Slot) : (s.setSlot n x).dram = s.dram := rfl
@[simp] theorem State.setSlot_net (s : State) (n : Nat) (x : Slot) : (s.setSlot n x).net = s.net := rfl
@[simp] theorem State.setSlot_sec (s : State) (n : Nat) (x : Slot) : (s.setSlot n x).sec = s.sec := rfl
@[simp] theorem State.setSlot_boot (s : State) (n : Nat) (x : Slot) : (s.setSlot n x).boot = s.boot := rfl
@[simp] theorem State.setSlot_aon (s : State) (n : Nat) (x : Slot) : (s.setSlot n x).aon = s.aon := rfl
@[simp] theorem State.setSlot_nv (s : State) (n : Nat) (x : Slot) : (s.setSlot n x).nv = s.nv := rfl
@[simp] theorem State.setSlot_twin (s : State) (n : Nat) (x : Slot) : (s.setSlot n x).twin = s.twin := rfl
@[simp] theorem State.setSlot_towpath (s : State) (n : Nat) (x : Slot) : (s.setSlot n x).towpath = s.towpath := rfl
@[simp] theorem State.setSlot_lbs (s : State) (n : Nat) (x : Slot) : (s.setSlot n x).lbs = s.lbs := rfl
@[simp] theorem State.setSlot_jtag (s : State) (n : Nat) (x : Slot) : (s.setSlot n x).jtag = s.jtag := rfl
@[simp] theorem State.setSlot_sent (s : State) (n : Nat) (x : Slot) : (s.setSlot n x).sent = s.sent := rfl
@[simp] theorem State.setSlot_fresh (s : State) (n : Nat) (x : Slot) : (s.setSlot n x).fresh = s.fresh := rfl
@[simp] theorem State.setSlot_tiers_layers (s : State) (n : Nat) (x : Slot) : (s.setSlot n x).tiers.layers = s.tiers.layers := rfl
@[simp] theorem State.setSlot_tiers_objects (s : State) (n : Nat) (x : Slot) : (s.setSlot n x).tiers.objects = s.tiers.objects := rfl
@[simp] theorem State.setSlot_tiers_quotas (s : State) (n : Nat) (x : Slot) : (s.setSlot n x).tiers.quotas = s.tiers.quotas := rfl
@[simp] theorem State.setSlot_tiers_barges (s : State) (n : Nat) (x : Slot) : (s.setSlot n x).tiers.barges = s.tiers.barges := rfl
@[simp] theorem State.setSlot_tiers_bargeQ (s : State) (n : Nat) (x : Slot) : (s.setSlot n x).tiers.bargeQ = s.tiers.bargeQ := rfl
@[simp] theorem State.setSlot_tiers_copies (s : State) (n : Nat) (x : Slot) : (s.setSlot n x).tiers.copies = s.tiers.copies := rfl
@[simp] theorem State.setSlot_tiers_reads (s : State) (n : Nat) (x : Slot) : (s.setSlot n x).tiers.reads = s.tiers.reads := rfl
@[simp] theorem State.setSlot_tiers_channels (s : State) (n : Nat) (x : Slot) : (s.setSlot n x).tiers.channels = s.tiers.channels := rfl
@[simp] theorem State.setSlot_tiers_writes (s : State) (n : Nat) (x : Slot) : (s.setSlot n x).tiers.writes = s.tiers.writes := rfl
@[simp] theorem State.setSlot_tiers_noRetry (s : State) (n : Nat) (x : Slot) : (s.setSlot n x).tiers.noRetry = s.tiers.noRetry := rfl
@[simp] theorem State.setSlot_tiers_tombs (s : State) (n : Nat) (x : Slot) : (s.setSlot n x).tiers.tombs = s.tiers.tombs := rfl
@[simp] theorem State.setSlot_tiers_invals (s : State) (n : Nat) (x : Slot) : (s.setSlot n x).tiers.invals = s.tiers.invals := rfl
@[simp] theorem State.setSlot_tiers_retiredCh (s : State) (n : Nat) (x : Slot) : (s.setSlot n x).tiers.retiredCh = s.tiers.retiredCh := rfl
@[simp] theorem State.setSlot_tiers_graphQ (s : State) (n : Nat) (x : Slot) : (s.setSlot n x).tiers.graphQ = s.tiers.graphQ := rfl
@[simp] theorem State.setSlot_tiers_nextRoot (s : State) (n : Nat) (x : Slot) : (s.setSlot n x).tiers.nextRoot = s.tiers.nextRoot := rfl

/-! `State.setObj` changes tiers.objects only. -/

@[simp] theorem State.setObj_pending (s : State) (t o : Nat) (x : Obj) : (s.setObj t o x).pending = s.pending := rfl
@[simp] theorem State.setObj_regs (s : State) (t o : Nat) (x : Obj) : (s.setObj t o x).regs = s.regs := rfl
@[simp] theorem State.setObj_tb (s : State) (t o : Nat) (x : Obj) : (s.setObj t o x).tb = s.tb := rfl
@[simp] theorem State.setObj_fab (s : State) (t o : Nat) (x : Obj) : (s.setObj t o x).fab = s.fab := rfl
@[simp] theorem State.setObj_ledger (s : State) (t o : Nat) (x : Obj) : (s.setObj t o x).ledger = s.ledger := rfl
@[simp] theorem State.setObj_sweeps (s : State) (t o : Nat) (x : Obj) : (s.setObj t o x).sweeps = s.sweeps := rfl
@[simp] theorem State.setObj_host (s : State) (t o : Nat) (x : Obj) : (s.setObj t o x).host = s.host := rfl
@[simp] theorem State.setObj_dram (s : State) (t o : Nat) (x : Obj) : (s.setObj t o x).dram = s.dram := rfl
@[simp] theorem State.setObj_net (s : State) (t o : Nat) (x : Obj) : (s.setObj t o x).net = s.net := rfl
@[simp] theorem State.setObj_sec (s : State) (t o : Nat) (x : Obj) : (s.setObj t o x).sec = s.sec := rfl
@[simp] theorem State.setObj_boot (s : State) (t o : Nat) (x : Obj) : (s.setObj t o x).boot = s.boot := rfl
@[simp] theorem State.setObj_aon (s : State) (t o : Nat) (x : Obj) : (s.setObj t o x).aon = s.aon := rfl
@[simp] theorem State.setObj_nv (s : State) (t o : Nat) (x : Obj) : (s.setObj t o x).nv = s.nv := rfl
@[simp] theorem State.setObj_twin (s : State) (t o : Nat) (x : Obj) : (s.setObj t o x).twin = s.twin := rfl
@[simp] theorem State.setObj_towpath (s : State) (t o : Nat) (x : Obj) : (s.setObj t o x).towpath = s.towpath := rfl
@[simp] theorem State.setObj_lbs (s : State) (t o : Nat) (x : Obj) : (s.setObj t o x).lbs = s.lbs := rfl
@[simp] theorem State.setObj_jtag (s : State) (t o : Nat) (x : Obj) : (s.setObj t o x).jtag = s.jtag := rfl
@[simp] theorem State.setObj_sent (s : State) (t o : Nat) (x : Obj) : (s.setObj t o x).sent = s.sent := rfl
@[simp] theorem State.setObj_fresh (s : State) (t o : Nat) (x : Obj) : (s.setObj t o x).fresh = s.fresh := rfl
@[simp] theorem State.setObj_tiers_slots (s : State) (t o : Nat) (x : Obj) : (s.setObj t o x).tiers.slots = s.tiers.slots := rfl
@[simp] theorem State.setObj_tiers_layers (s : State) (t o : Nat) (x : Obj) : (s.setObj t o x).tiers.layers = s.tiers.layers := rfl
@[simp] theorem State.setObj_tiers_quotas (s : State) (t o : Nat) (x : Obj) : (s.setObj t o x).tiers.quotas = s.tiers.quotas := rfl
@[simp] theorem State.setObj_tiers_barges (s : State) (t o : Nat) (x : Obj) : (s.setObj t o x).tiers.barges = s.tiers.barges := rfl
@[simp] theorem State.setObj_tiers_bargeQ (s : State) (t o : Nat) (x : Obj) : (s.setObj t o x).tiers.bargeQ = s.tiers.bargeQ := rfl
@[simp] theorem State.setObj_tiers_copies (s : State) (t o : Nat) (x : Obj) : (s.setObj t o x).tiers.copies = s.tiers.copies := rfl
@[simp] theorem State.setObj_tiers_reads (s : State) (t o : Nat) (x : Obj) : (s.setObj t o x).tiers.reads = s.tiers.reads := rfl
@[simp] theorem State.setObj_tiers_channels (s : State) (t o : Nat) (x : Obj) : (s.setObj t o x).tiers.channels = s.tiers.channels := rfl
@[simp] theorem State.setObj_tiers_writes (s : State) (t o : Nat) (x : Obj) : (s.setObj t o x).tiers.writes = s.tiers.writes := rfl
@[simp] theorem State.setObj_tiers_noRetry (s : State) (t o : Nat) (x : Obj) : (s.setObj t o x).tiers.noRetry = s.tiers.noRetry := rfl
@[simp] theorem State.setObj_tiers_tombs (s : State) (t o : Nat) (x : Obj) : (s.setObj t o x).tiers.tombs = s.tiers.tombs := rfl
@[simp] theorem State.setObj_tiers_invals (s : State) (t o : Nat) (x : Obj) : (s.setObj t o x).tiers.invals = s.tiers.invals := rfl
@[simp] theorem State.setObj_tiers_retiredCh (s : State) (t o : Nat) (x : Obj) : (s.setObj t o x).tiers.retiredCh = s.tiers.retiredCh := rfl
@[simp] theorem State.setObj_tiers_graphQ (s : State) (t o : Nat) (x : Obj) : (s.setObj t o x).tiers.graphQ = s.tiers.graphQ := rfl
@[simp] theorem State.setObj_tiers_nextRoot (s : State) (t o : Nat) (x : Obj) : (s.setObj t o x).tiers.nextRoot = s.tiers.nextRoot := rfl

/-! `State.setLayer` changes tiers.layers only. -/

@[simp] theorem State.setLayer_pending (s : State) (k : LayerKey) (x : Layer) : (s.setLayer k x).pending = s.pending := rfl
@[simp] theorem State.setLayer_regs (s : State) (k : LayerKey) (x : Layer) : (s.setLayer k x).regs = s.regs := rfl
@[simp] theorem State.setLayer_tb (s : State) (k : LayerKey) (x : Layer) : (s.setLayer k x).tb = s.tb := rfl
@[simp] theorem State.setLayer_fab (s : State) (k : LayerKey) (x : Layer) : (s.setLayer k x).fab = s.fab := rfl
@[simp] theorem State.setLayer_ledger (s : State) (k : LayerKey) (x : Layer) : (s.setLayer k x).ledger = s.ledger := rfl
@[simp] theorem State.setLayer_sweeps (s : State) (k : LayerKey) (x : Layer) : (s.setLayer k x).sweeps = s.sweeps := rfl
@[simp] theorem State.setLayer_host (s : State) (k : LayerKey) (x : Layer) : (s.setLayer k x).host = s.host := rfl
@[simp] theorem State.setLayer_dram (s : State) (k : LayerKey) (x : Layer) : (s.setLayer k x).dram = s.dram := rfl
@[simp] theorem State.setLayer_net (s : State) (k : LayerKey) (x : Layer) : (s.setLayer k x).net = s.net := rfl
@[simp] theorem State.setLayer_sec (s : State) (k : LayerKey) (x : Layer) : (s.setLayer k x).sec = s.sec := rfl
@[simp] theorem State.setLayer_boot (s : State) (k : LayerKey) (x : Layer) : (s.setLayer k x).boot = s.boot := rfl
@[simp] theorem State.setLayer_aon (s : State) (k : LayerKey) (x : Layer) : (s.setLayer k x).aon = s.aon := rfl
@[simp] theorem State.setLayer_nv (s : State) (k : LayerKey) (x : Layer) : (s.setLayer k x).nv = s.nv := rfl
@[simp] theorem State.setLayer_twin (s : State) (k : LayerKey) (x : Layer) : (s.setLayer k x).twin = s.twin := rfl
@[simp] theorem State.setLayer_towpath (s : State) (k : LayerKey) (x : Layer) : (s.setLayer k x).towpath = s.towpath := rfl
@[simp] theorem State.setLayer_lbs (s : State) (k : LayerKey) (x : Layer) : (s.setLayer k x).lbs = s.lbs := rfl
@[simp] theorem State.setLayer_jtag (s : State) (k : LayerKey) (x : Layer) : (s.setLayer k x).jtag = s.jtag := rfl
@[simp] theorem State.setLayer_sent (s : State) (k : LayerKey) (x : Layer) : (s.setLayer k x).sent = s.sent := rfl
@[simp] theorem State.setLayer_fresh (s : State) (k : LayerKey) (x : Layer) : (s.setLayer k x).fresh = s.fresh := rfl
@[simp] theorem State.setLayer_tiers_slots (s : State) (k : LayerKey) (x : Layer) : (s.setLayer k x).tiers.slots = s.tiers.slots := rfl
@[simp] theorem State.setLayer_tiers_objects (s : State) (k : LayerKey) (x : Layer) : (s.setLayer k x).tiers.objects = s.tiers.objects := rfl
@[simp] theorem State.setLayer_tiers_quotas (s : State) (k : LayerKey) (x : Layer) : (s.setLayer k x).tiers.quotas = s.tiers.quotas := rfl
@[simp] theorem State.setLayer_tiers_barges (s : State) (k : LayerKey) (x : Layer) : (s.setLayer k x).tiers.barges = s.tiers.barges := rfl
@[simp] theorem State.setLayer_tiers_bargeQ (s : State) (k : LayerKey) (x : Layer) : (s.setLayer k x).tiers.bargeQ = s.tiers.bargeQ := rfl
@[simp] theorem State.setLayer_tiers_copies (s : State) (k : LayerKey) (x : Layer) : (s.setLayer k x).tiers.copies = s.tiers.copies := rfl
@[simp] theorem State.setLayer_tiers_reads (s : State) (k : LayerKey) (x : Layer) : (s.setLayer k x).tiers.reads = s.tiers.reads := rfl
@[simp] theorem State.setLayer_tiers_channels (s : State) (k : LayerKey) (x : Layer) : (s.setLayer k x).tiers.channels = s.tiers.channels := rfl
@[simp] theorem State.setLayer_tiers_writes (s : State) (k : LayerKey) (x : Layer) : (s.setLayer k x).tiers.writes = s.tiers.writes := rfl
@[simp] theorem State.setLayer_tiers_noRetry (s : State) (k : LayerKey) (x : Layer) : (s.setLayer k x).tiers.noRetry = s.tiers.noRetry := rfl
@[simp] theorem State.setLayer_tiers_tombs (s : State) (k : LayerKey) (x : Layer) : (s.setLayer k x).tiers.tombs = s.tiers.tombs := rfl
@[simp] theorem State.setLayer_tiers_invals (s : State) (k : LayerKey) (x : Layer) : (s.setLayer k x).tiers.invals = s.tiers.invals := rfl
@[simp] theorem State.setLayer_tiers_retiredCh (s : State) (k : LayerKey) (x : Layer) : (s.setLayer k x).tiers.retiredCh = s.tiers.retiredCh := rfl
@[simp] theorem State.setLayer_tiers_graphQ (s : State) (k : LayerKey) (x : Layer) : (s.setLayer k x).tiers.graphQ = s.tiers.graphQ := rfl
@[simp] theorem State.setLayer_tiers_nextRoot (s : State) (k : LayerKey) (x : Layer) : (s.setLayer k x).tiers.nextRoot = s.tiers.nextRoot := rfl

/-! `State.setBarge` changes tiers.barges only. -/

@[simp] theorem State.setBarge_pending (s : State) (k : BerthKey) (x : Barge) : (s.setBarge k x).pending = s.pending := rfl
@[simp] theorem State.setBarge_regs (s : State) (k : BerthKey) (x : Barge) : (s.setBarge k x).regs = s.regs := rfl
@[simp] theorem State.setBarge_tb (s : State) (k : BerthKey) (x : Barge) : (s.setBarge k x).tb = s.tb := rfl
@[simp] theorem State.setBarge_fab (s : State) (k : BerthKey) (x : Barge) : (s.setBarge k x).fab = s.fab := rfl
@[simp] theorem State.setBarge_ledger (s : State) (k : BerthKey) (x : Barge) : (s.setBarge k x).ledger = s.ledger := rfl
@[simp] theorem State.setBarge_sweeps (s : State) (k : BerthKey) (x : Barge) : (s.setBarge k x).sweeps = s.sweeps := rfl
@[simp] theorem State.setBarge_host (s : State) (k : BerthKey) (x : Barge) : (s.setBarge k x).host = s.host := rfl
@[simp] theorem State.setBarge_dram (s : State) (k : BerthKey) (x : Barge) : (s.setBarge k x).dram = s.dram := rfl
@[simp] theorem State.setBarge_net (s : State) (k : BerthKey) (x : Barge) : (s.setBarge k x).net = s.net := rfl
@[simp] theorem State.setBarge_sec (s : State) (k : BerthKey) (x : Barge) : (s.setBarge k x).sec = s.sec := rfl
@[simp] theorem State.setBarge_boot (s : State) (k : BerthKey) (x : Barge) : (s.setBarge k x).boot = s.boot := rfl
@[simp] theorem State.setBarge_aon (s : State) (k : BerthKey) (x : Barge) : (s.setBarge k x).aon = s.aon := rfl
@[simp] theorem State.setBarge_nv (s : State) (k : BerthKey) (x : Barge) : (s.setBarge k x).nv = s.nv := rfl
@[simp] theorem State.setBarge_twin (s : State) (k : BerthKey) (x : Barge) : (s.setBarge k x).twin = s.twin := rfl
@[simp] theorem State.setBarge_towpath (s : State) (k : BerthKey) (x : Barge) : (s.setBarge k x).towpath = s.towpath := rfl
@[simp] theorem State.setBarge_lbs (s : State) (k : BerthKey) (x : Barge) : (s.setBarge k x).lbs = s.lbs := rfl
@[simp] theorem State.setBarge_jtag (s : State) (k : BerthKey) (x : Barge) : (s.setBarge k x).jtag = s.jtag := rfl
@[simp] theorem State.setBarge_sent (s : State) (k : BerthKey) (x : Barge) : (s.setBarge k x).sent = s.sent := rfl
@[simp] theorem State.setBarge_fresh (s : State) (k : BerthKey) (x : Barge) : (s.setBarge k x).fresh = s.fresh := rfl
@[simp] theorem State.setBarge_tiers_slots (s : State) (k : BerthKey) (x : Barge) : (s.setBarge k x).tiers.slots = s.tiers.slots := rfl
@[simp] theorem State.setBarge_tiers_layers (s : State) (k : BerthKey) (x : Barge) : (s.setBarge k x).tiers.layers = s.tiers.layers := rfl
@[simp] theorem State.setBarge_tiers_objects (s : State) (k : BerthKey) (x : Barge) : (s.setBarge k x).tiers.objects = s.tiers.objects := rfl
@[simp] theorem State.setBarge_tiers_quotas (s : State) (k : BerthKey) (x : Barge) : (s.setBarge k x).tiers.quotas = s.tiers.quotas := rfl
@[simp] theorem State.setBarge_tiers_bargeQ (s : State) (k : BerthKey) (x : Barge) : (s.setBarge k x).tiers.bargeQ = s.tiers.bargeQ := rfl
@[simp] theorem State.setBarge_tiers_copies (s : State) (k : BerthKey) (x : Barge) : (s.setBarge k x).tiers.copies = s.tiers.copies := rfl
@[simp] theorem State.setBarge_tiers_reads (s : State) (k : BerthKey) (x : Barge) : (s.setBarge k x).tiers.reads = s.tiers.reads := rfl
@[simp] theorem State.setBarge_tiers_channels (s : State) (k : BerthKey) (x : Barge) : (s.setBarge k x).tiers.channels = s.tiers.channels := rfl
@[simp] theorem State.setBarge_tiers_writes (s : State) (k : BerthKey) (x : Barge) : (s.setBarge k x).tiers.writes = s.tiers.writes := rfl
@[simp] theorem State.setBarge_tiers_noRetry (s : State) (k : BerthKey) (x : Barge) : (s.setBarge k x).tiers.noRetry = s.tiers.noRetry := rfl
@[simp] theorem State.setBarge_tiers_tombs (s : State) (k : BerthKey) (x : Barge) : (s.setBarge k x).tiers.tombs = s.tiers.tombs := rfl
@[simp] theorem State.setBarge_tiers_invals (s : State) (k : BerthKey) (x : Barge) : (s.setBarge k x).tiers.invals = s.tiers.invals := rfl
@[simp] theorem State.setBarge_tiers_retiredCh (s : State) (k : BerthKey) (x : Barge) : (s.setBarge k x).tiers.retiredCh = s.tiers.retiredCh := rfl
@[simp] theorem State.setBarge_tiers_graphQ (s : State) (k : BerthKey) (x : Barge) : (s.setBarge k x).tiers.graphQ = s.tiers.graphQ := rfl
@[simp] theorem State.setBarge_tiers_nextRoot (s : State) (k : BerthKey) (x : Barge) : (s.setBarge k x).tiers.nextRoot = s.tiers.nextRoot := rfl

/-! `State.delBarge` changes tiers.barges only. -/

@[simp] theorem State.delBarge_pending (s : State) (k : BerthKey) : (s.delBarge k).pending = s.pending := rfl
@[simp] theorem State.delBarge_regs (s : State) (k : BerthKey) : (s.delBarge k).regs = s.regs := rfl
@[simp] theorem State.delBarge_tb (s : State) (k : BerthKey) : (s.delBarge k).tb = s.tb := rfl
@[simp] theorem State.delBarge_fab (s : State) (k : BerthKey) : (s.delBarge k).fab = s.fab := rfl
@[simp] theorem State.delBarge_ledger (s : State) (k : BerthKey) : (s.delBarge k).ledger = s.ledger := rfl
@[simp] theorem State.delBarge_sweeps (s : State) (k : BerthKey) : (s.delBarge k).sweeps = s.sweeps := rfl
@[simp] theorem State.delBarge_host (s : State) (k : BerthKey) : (s.delBarge k).host = s.host := rfl
@[simp] theorem State.delBarge_dram (s : State) (k : BerthKey) : (s.delBarge k).dram = s.dram := rfl
@[simp] theorem State.delBarge_net (s : State) (k : BerthKey) : (s.delBarge k).net = s.net := rfl
@[simp] theorem State.delBarge_sec (s : State) (k : BerthKey) : (s.delBarge k).sec = s.sec := rfl
@[simp] theorem State.delBarge_boot (s : State) (k : BerthKey) : (s.delBarge k).boot = s.boot := rfl
@[simp] theorem State.delBarge_aon (s : State) (k : BerthKey) : (s.delBarge k).aon = s.aon := rfl
@[simp] theorem State.delBarge_nv (s : State) (k : BerthKey) : (s.delBarge k).nv = s.nv := rfl
@[simp] theorem State.delBarge_twin (s : State) (k : BerthKey) : (s.delBarge k).twin = s.twin := rfl
@[simp] theorem State.delBarge_towpath (s : State) (k : BerthKey) : (s.delBarge k).towpath = s.towpath := rfl
@[simp] theorem State.delBarge_lbs (s : State) (k : BerthKey) : (s.delBarge k).lbs = s.lbs := rfl
@[simp] theorem State.delBarge_jtag (s : State) (k : BerthKey) : (s.delBarge k).jtag = s.jtag := rfl
@[simp] theorem State.delBarge_sent (s : State) (k : BerthKey) : (s.delBarge k).sent = s.sent := rfl
@[simp] theorem State.delBarge_fresh (s : State) (k : BerthKey) : (s.delBarge k).fresh = s.fresh := rfl
@[simp] theorem State.delBarge_tiers_slots (s : State) (k : BerthKey) : (s.delBarge k).tiers.slots = s.tiers.slots := rfl
@[simp] theorem State.delBarge_tiers_layers (s : State) (k : BerthKey) : (s.delBarge k).tiers.layers = s.tiers.layers := rfl
@[simp] theorem State.delBarge_tiers_objects (s : State) (k : BerthKey) : (s.delBarge k).tiers.objects = s.tiers.objects := rfl
@[simp] theorem State.delBarge_tiers_quotas (s : State) (k : BerthKey) : (s.delBarge k).tiers.quotas = s.tiers.quotas := rfl
@[simp] theorem State.delBarge_tiers_bargeQ (s : State) (k : BerthKey) : (s.delBarge k).tiers.bargeQ = s.tiers.bargeQ := rfl
@[simp] theorem State.delBarge_tiers_copies (s : State) (k : BerthKey) : (s.delBarge k).tiers.copies = s.tiers.copies := rfl
@[simp] theorem State.delBarge_tiers_reads (s : State) (k : BerthKey) : (s.delBarge k).tiers.reads = s.tiers.reads := rfl
@[simp] theorem State.delBarge_tiers_channels (s : State) (k : BerthKey) : (s.delBarge k).tiers.channels = s.tiers.channels := rfl
@[simp] theorem State.delBarge_tiers_writes (s : State) (k : BerthKey) : (s.delBarge k).tiers.writes = s.tiers.writes := rfl
@[simp] theorem State.delBarge_tiers_noRetry (s : State) (k : BerthKey) : (s.delBarge k).tiers.noRetry = s.tiers.noRetry := rfl
@[simp] theorem State.delBarge_tiers_tombs (s : State) (k : BerthKey) : (s.delBarge k).tiers.tombs = s.tiers.tombs := rfl
@[simp] theorem State.delBarge_tiers_invals (s : State) (k : BerthKey) : (s.delBarge k).tiers.invals = s.tiers.invals := rfl
@[simp] theorem State.delBarge_tiers_retiredCh (s : State) (k : BerthKey) : (s.delBarge k).tiers.retiredCh = s.tiers.retiredCh := rfl
@[simp] theorem State.delBarge_tiers_graphQ (s : State) (k : BerthKey) : (s.delBarge k).tiers.graphQ = s.tiers.graphQ := rfl
@[simp] theorem State.delBarge_tiers_nextRoot (s : State) (k : BerthKey) : (s.delBarge k).tiers.nextRoot = s.tiers.nextRoot := rfl

/-! `State.setFslot` changes nv.slots only. -/

@[simp] theorem State.setFslot_pending (s : State) (n : Nat) (x : FSlot) : (s.setFslot n x).pending = s.pending := rfl
@[simp] theorem State.setFslot_regs (s : State) (n : Nat) (x : FSlot) : (s.setFslot n x).regs = s.regs := rfl
@[simp] theorem State.setFslot_tb (s : State) (n : Nat) (x : FSlot) : (s.setFslot n x).tb = s.tb := rfl
@[simp] theorem State.setFslot_fab (s : State) (n : Nat) (x : FSlot) : (s.setFslot n x).fab = s.fab := rfl
@[simp] theorem State.setFslot_tiers (s : State) (n : Nat) (x : FSlot) : (s.setFslot n x).tiers = s.tiers := rfl
@[simp] theorem State.setFslot_ledger (s : State) (n : Nat) (x : FSlot) : (s.setFslot n x).ledger = s.ledger := rfl
@[simp] theorem State.setFslot_sweeps (s : State) (n : Nat) (x : FSlot) : (s.setFslot n x).sweeps = s.sweeps := rfl
@[simp] theorem State.setFslot_host (s : State) (n : Nat) (x : FSlot) : (s.setFslot n x).host = s.host := rfl
@[simp] theorem State.setFslot_dram (s : State) (n : Nat) (x : FSlot) : (s.setFslot n x).dram = s.dram := rfl
@[simp] theorem State.setFslot_net (s : State) (n : Nat) (x : FSlot) : (s.setFslot n x).net = s.net := rfl
@[simp] theorem State.setFslot_sec (s : State) (n : Nat) (x : FSlot) : (s.setFslot n x).sec = s.sec := rfl
@[simp] theorem State.setFslot_boot (s : State) (n : Nat) (x : FSlot) : (s.setFslot n x).boot = s.boot := rfl
@[simp] theorem State.setFslot_aon (s : State) (n : Nat) (x : FSlot) : (s.setFslot n x).aon = s.aon := rfl
@[simp] theorem State.setFslot_twin (s : State) (n : Nat) (x : FSlot) : (s.setFslot n x).twin = s.twin := rfl
@[simp] theorem State.setFslot_towpath (s : State) (n : Nat) (x : FSlot) : (s.setFslot n x).towpath = s.towpath := rfl
@[simp] theorem State.setFslot_lbs (s : State) (n : Nat) (x : FSlot) : (s.setFslot n x).lbs = s.lbs := rfl
@[simp] theorem State.setFslot_jtag (s : State) (n : Nat) (x : FSlot) : (s.setFslot n x).jtag = s.jtag := rfl
@[simp] theorem State.setFslot_sent (s : State) (n : Nat) (x : FSlot) : (s.setFslot n x).sent = s.sent := rfl
@[simp] theorem State.setFslot_fresh (s : State) (n : Nat) (x : FSlot) : (s.setFslot n x).fresh = s.fresh := rfl
@[simp] theorem State.setFslot_nv_settings (s : State) (n : Nat) (x : FSlot) : (s.setFslot n x).nv.settings = s.nv.settings := rfl
@[simp] theorem State.setFslot_nv_owners (s : State) (n : Nat) (x : FSlot) : (s.setFslot n x).nv.owners = s.nv.owners := rfl
@[simp] theorem State.setFslot_nv_blockWear (s : State) (n : Nat) (x : FSlot) : (s.setFslot n x).nv.blockWear = s.nv.blockWear := rfl

/-! `State.setMember` changes sweeps.members only. -/

@[simp] theorem State.setMember_pending (s : State) (m : MSweep) : (s.setMember m).pending = s.pending := rfl
@[simp] theorem State.setMember_regs (s : State) (m : MSweep) : (s.setMember m).regs = s.regs := rfl
@[simp] theorem State.setMember_tb (s : State) (m : MSweep) : (s.setMember m).tb = s.tb := rfl
@[simp] theorem State.setMember_fab (s : State) (m : MSweep) : (s.setMember m).fab = s.fab := rfl
@[simp] theorem State.setMember_tiers (s : State) (m : MSweep) : (s.setMember m).tiers = s.tiers := rfl
@[simp] theorem State.setMember_ledger (s : State) (m : MSweep) : (s.setMember m).ledger = s.ledger := rfl
@[simp] theorem State.setMember_host (s : State) (m : MSweep) : (s.setMember m).host = s.host := rfl
@[simp] theorem State.setMember_dram (s : State) (m : MSweep) : (s.setMember m).dram = s.dram := rfl
@[simp] theorem State.setMember_net (s : State) (m : MSweep) : (s.setMember m).net = s.net := rfl
@[simp] theorem State.setMember_sec (s : State) (m : MSweep) : (s.setMember m).sec = s.sec := rfl
@[simp] theorem State.setMember_boot (s : State) (m : MSweep) : (s.setMember m).boot = s.boot := rfl
@[simp] theorem State.setMember_aon (s : State) (m : MSweep) : (s.setMember m).aon = s.aon := rfl
@[simp] theorem State.setMember_nv (s : State) (m : MSweep) : (s.setMember m).nv = s.nv := rfl
@[simp] theorem State.setMember_twin (s : State) (m : MSweep) : (s.setMember m).twin = s.twin := rfl
@[simp] theorem State.setMember_towpath (s : State) (m : MSweep) : (s.setMember m).towpath = s.towpath := rfl
@[simp] theorem State.setMember_lbs (s : State) (m : MSweep) : (s.setMember m).lbs = s.lbs := rfl
@[simp] theorem State.setMember_jtag (s : State) (m : MSweep) : (s.setMember m).jtag = s.jtag := rfl
@[simp] theorem State.setMember_sent (s : State) (m : MSweep) : (s.setMember m).sent = s.sent := rfl
@[simp] theorem State.setMember_fresh (s : State) (m : MSweep) : (s.setMember m).fresh = s.fresh := rfl
@[simp] theorem State.setMember_sweeps_accepted (s : State) (m : MSweep) : (s.setMember m).sweeps.accepted = s.sweeps.accepted := rfl
@[simp] theorem State.setMember_sweeps_convoys (s : State) (m : MSweep) : (s.setMember m).sweeps.convoys = s.sweeps.convoys := rfl
@[simp] theorem State.setMember_sweeps_poolUsed (s : State) (m : MSweep) : (s.setMember m).sweeps.poolUsed = s.sweeps.poolUsed := rfl
@[simp] theorem State.setMember_sweeps_poolQ (s : State) (m : MSweep) : (s.setMember m).sweeps.poolQ = s.sweeps.poolQ := rfl
@[simp] theorem State.setMember_sweeps_nextSeq (s : State) (m : MSweep) : (s.setMember m).sweeps.nextSeq = s.sweeps.nextSeq := rfl
@[simp] theorem State.setMember_sweeps_collFree (s : State) (m : MSweep) : (s.setMember m).sweeps.collFree = s.sweeps.collFree := rfl
@[simp] theorem State.setMember_sweeps_sndQ (s : State) (m : MSweep) : (s.setMember m).sweeps.sndQ = s.sweeps.sndQ := rfl
@[simp] theorem State.setMember_sweeps_flights (s : State) (m : MSweep) : (s.setMember m).sweeps.flights = s.sweeps.flights := rfl
@[simp] theorem State.setMember_sweeps_handed (s : State) (m : MSweep) : (s.setMember m).sweeps.handed = s.sweeps.handed := rfl

/-! `State.setSweep` changes sweeps.accepted only. -/

@[simp] theorem State.setSweep_pending (s : State) (a : ASweep) : (s.setSweep a).pending = s.pending := rfl
@[simp] theorem State.setSweep_regs (s : State) (a : ASweep) : (s.setSweep a).regs = s.regs := rfl
@[simp] theorem State.setSweep_tb (s : State) (a : ASweep) : (s.setSweep a).tb = s.tb := rfl
@[simp] theorem State.setSweep_fab (s : State) (a : ASweep) : (s.setSweep a).fab = s.fab := rfl
@[simp] theorem State.setSweep_tiers (s : State) (a : ASweep) : (s.setSweep a).tiers = s.tiers := rfl
@[simp] theorem State.setSweep_ledger (s : State) (a : ASweep) : (s.setSweep a).ledger = s.ledger := rfl
@[simp] theorem State.setSweep_host (s : State) (a : ASweep) : (s.setSweep a).host = s.host := rfl
@[simp] theorem State.setSweep_dram (s : State) (a : ASweep) : (s.setSweep a).dram = s.dram := rfl
@[simp] theorem State.setSweep_net (s : State) (a : ASweep) : (s.setSweep a).net = s.net := rfl
@[simp] theorem State.setSweep_sec (s : State) (a : ASweep) : (s.setSweep a).sec = s.sec := rfl
@[simp] theorem State.setSweep_boot (s : State) (a : ASweep) : (s.setSweep a).boot = s.boot := rfl
@[simp] theorem State.setSweep_aon (s : State) (a : ASweep) : (s.setSweep a).aon = s.aon := rfl
@[simp] theorem State.setSweep_nv (s : State) (a : ASweep) : (s.setSweep a).nv = s.nv := rfl
@[simp] theorem State.setSweep_twin (s : State) (a : ASweep) : (s.setSweep a).twin = s.twin := rfl
@[simp] theorem State.setSweep_towpath (s : State) (a : ASweep) : (s.setSweep a).towpath = s.towpath := rfl
@[simp] theorem State.setSweep_lbs (s : State) (a : ASweep) : (s.setSweep a).lbs = s.lbs := rfl
@[simp] theorem State.setSweep_jtag (s : State) (a : ASweep) : (s.setSweep a).jtag = s.jtag := rfl
@[simp] theorem State.setSweep_sent (s : State) (a : ASweep) : (s.setSweep a).sent = s.sent := rfl
@[simp] theorem State.setSweep_fresh (s : State) (a : ASweep) : (s.setSweep a).fresh = s.fresh := rfl
@[simp] theorem State.setSweep_sweeps_convoys (s : State) (a : ASweep) : (s.setSweep a).sweeps.convoys = s.sweeps.convoys := rfl
@[simp] theorem State.setSweep_sweeps_members (s : State) (a : ASweep) : (s.setSweep a).sweeps.members = s.sweeps.members := rfl
@[simp] theorem State.setSweep_sweeps_poolUsed (s : State) (a : ASweep) : (s.setSweep a).sweeps.poolUsed = s.sweeps.poolUsed := rfl
@[simp] theorem State.setSweep_sweeps_poolQ (s : State) (a : ASweep) : (s.setSweep a).sweeps.poolQ = s.sweeps.poolQ := rfl
@[simp] theorem State.setSweep_sweeps_nextSeq (s : State) (a : ASweep) : (s.setSweep a).sweeps.nextSeq = s.sweeps.nextSeq := rfl
@[simp] theorem State.setSweep_sweeps_collFree (s : State) (a : ASweep) : (s.setSweep a).sweeps.collFree = s.sweeps.collFree := rfl
@[simp] theorem State.setSweep_sweeps_sndQ (s : State) (a : ASweep) : (s.setSweep a).sweeps.sndQ = s.sweeps.sndQ := rfl
@[simp] theorem State.setSweep_sweeps_flights (s : State) (a : ASweep) : (s.setSweep a).sweeps.flights = s.sweeps.flights := rfl
@[simp] theorem State.setSweep_sweeps_handed (s : State) (a : ASweep) : (s.setSweep a).sweeps.handed = s.sweeps.handed := rfl

/-! `State.setConvoy` changes sweeps.convoys only. -/

@[simp] theorem State.setConvoy_pending (s : State) (c : Convoy) : (s.setConvoy c).pending = s.pending := rfl
@[simp] theorem State.setConvoy_regs (s : State) (c : Convoy) : (s.setConvoy c).regs = s.regs := rfl
@[simp] theorem State.setConvoy_tb (s : State) (c : Convoy) : (s.setConvoy c).tb = s.tb := rfl
@[simp] theorem State.setConvoy_fab (s : State) (c : Convoy) : (s.setConvoy c).fab = s.fab := rfl
@[simp] theorem State.setConvoy_tiers (s : State) (c : Convoy) : (s.setConvoy c).tiers = s.tiers := rfl
@[simp] theorem State.setConvoy_ledger (s : State) (c : Convoy) : (s.setConvoy c).ledger = s.ledger := rfl
@[simp] theorem State.setConvoy_host (s : State) (c : Convoy) : (s.setConvoy c).host = s.host := rfl
@[simp] theorem State.setConvoy_dram (s : State) (c : Convoy) : (s.setConvoy c).dram = s.dram := rfl
@[simp] theorem State.setConvoy_net (s : State) (c : Convoy) : (s.setConvoy c).net = s.net := rfl
@[simp] theorem State.setConvoy_sec (s : State) (c : Convoy) : (s.setConvoy c).sec = s.sec := rfl
@[simp] theorem State.setConvoy_boot (s : State) (c : Convoy) : (s.setConvoy c).boot = s.boot := rfl
@[simp] theorem State.setConvoy_aon (s : State) (c : Convoy) : (s.setConvoy c).aon = s.aon := rfl
@[simp] theorem State.setConvoy_nv (s : State) (c : Convoy) : (s.setConvoy c).nv = s.nv := rfl
@[simp] theorem State.setConvoy_twin (s : State) (c : Convoy) : (s.setConvoy c).twin = s.twin := rfl
@[simp] theorem State.setConvoy_towpath (s : State) (c : Convoy) : (s.setConvoy c).towpath = s.towpath := rfl
@[simp] theorem State.setConvoy_lbs (s : State) (c : Convoy) : (s.setConvoy c).lbs = s.lbs := rfl
@[simp] theorem State.setConvoy_jtag (s : State) (c : Convoy) : (s.setConvoy c).jtag = s.jtag := rfl
@[simp] theorem State.setConvoy_sent (s : State) (c : Convoy) : (s.setConvoy c).sent = s.sent := rfl
@[simp] theorem State.setConvoy_fresh (s : State) (c : Convoy) : (s.setConvoy c).fresh = s.fresh := rfl
@[simp] theorem State.setConvoy_sweeps_accepted (s : State) (c : Convoy) : (s.setConvoy c).sweeps.accepted = s.sweeps.accepted := rfl
@[simp] theorem State.setConvoy_sweeps_members (s : State) (c : Convoy) : (s.setConvoy c).sweeps.members = s.sweeps.members := rfl
@[simp] theorem State.setConvoy_sweeps_poolUsed (s : State) (c : Convoy) : (s.setConvoy c).sweeps.poolUsed = s.sweeps.poolUsed := rfl
@[simp] theorem State.setConvoy_sweeps_poolQ (s : State) (c : Convoy) : (s.setConvoy c).sweeps.poolQ = s.sweeps.poolQ := rfl
@[simp] theorem State.setConvoy_sweeps_nextSeq (s : State) (c : Convoy) : (s.setConvoy c).sweeps.nextSeq = s.sweeps.nextSeq := rfl
@[simp] theorem State.setConvoy_sweeps_collFree (s : State) (c : Convoy) : (s.setConvoy c).sweeps.collFree = s.sweeps.collFree := rfl
@[simp] theorem State.setConvoy_sweeps_sndQ (s : State) (c : Convoy) : (s.setConvoy c).sweeps.sndQ = s.sweeps.sndQ := rfl
@[simp] theorem State.setConvoy_sweeps_flights (s : State) (c : Convoy) : (s.setConvoy c).sweeps.flights = s.sweeps.flights := rfl
@[simp] theorem State.setConvoy_sweeps_handed (s : State) (c : Convoy) : (s.setConvoy c).sweeps.handed = s.sweeps.handed := rfl

/-! `State.setConn` changes net.conns only. -/

@[simp] theorem State.setConn_pending (s : State) (n : Nat) (c : Conn) : (s.setConn n c).pending = s.pending := rfl
@[simp] theorem State.setConn_regs (s : State) (n : Nat) (c : Conn) : (s.setConn n c).regs = s.regs := rfl
@[simp] theorem State.setConn_tb (s : State) (n : Nat) (c : Conn) : (s.setConn n c).tb = s.tb := rfl
@[simp] theorem State.setConn_fab (s : State) (n : Nat) (c : Conn) : (s.setConn n c).fab = s.fab := rfl
@[simp] theorem State.setConn_tiers (s : State) (n : Nat) (c : Conn) : (s.setConn n c).tiers = s.tiers := rfl
@[simp] theorem State.setConn_ledger (s : State) (n : Nat) (c : Conn) : (s.setConn n c).ledger = s.ledger := rfl
@[simp] theorem State.setConn_sweeps (s : State) (n : Nat) (c : Conn) : (s.setConn n c).sweeps = s.sweeps := rfl
@[simp] theorem State.setConn_host (s : State) (n : Nat) (c : Conn) : (s.setConn n c).host = s.host := rfl
@[simp] theorem State.setConn_dram (s : State) (n : Nat) (c : Conn) : (s.setConn n c).dram = s.dram := rfl
@[simp] theorem State.setConn_sec (s : State) (n : Nat) (c : Conn) : (s.setConn n c).sec = s.sec := rfl
@[simp] theorem State.setConn_boot (s : State) (n : Nat) (c : Conn) : (s.setConn n c).boot = s.boot := rfl
@[simp] theorem State.setConn_aon (s : State) (n : Nat) (c : Conn) : (s.setConn n c).aon = s.aon := rfl
@[simp] theorem State.setConn_nv (s : State) (n : Nat) (c : Conn) : (s.setConn n c).nv = s.nv := rfl
@[simp] theorem State.setConn_twin (s : State) (n : Nat) (c : Conn) : (s.setConn n c).twin = s.twin := rfl
@[simp] theorem State.setConn_towpath (s : State) (n : Nat) (c : Conn) : (s.setConn n c).towpath = s.towpath := rfl
@[simp] theorem State.setConn_lbs (s : State) (n : Nat) (c : Conn) : (s.setConn n c).lbs = s.lbs := rfl
@[simp] theorem State.setConn_jtag (s : State) (n : Nat) (c : Conn) : (s.setConn n c).jtag = s.jtag := rfl
@[simp] theorem State.setConn_sent (s : State) (n : Nat) (c : Conn) : (s.setConn n c).sent = s.sent := rfl
@[simp] theorem State.setConn_fresh (s : State) (n : Nat) (c : Conn) : (s.setConn n c).fresh = s.fresh := rfl
@[simp] theorem State.setConn_net_moorings (s : State) (n : Nat) (c : Conn) : (s.setConn n c).net.moorings = s.net.moorings := rfl
@[simp] theorem State.setConn_net_ports (s : State) (n : Nat) (c : Conn) : (s.setConn n c).net.ports = s.net.ports := rfl
@[simp] theorem State.setConn_net_engines (s : State) (n : Nat) (c : Conn) : (s.setConn n c).net.engines = s.net.engines := rfl
@[simp] theorem State.setConn_net_meters (s : State) (n : Nat) (c : Conn) : (s.setConn n c).net.meters = s.net.meters := rfl
@[simp] theorem State.setConn_net_waiting (s : State) (n : Nat) (c : Conn) : (s.setConn n c).net.waiting = s.net.waiting := rfl
@[simp] theorem State.setConn_net_retx (s : State) (n : Nat) (c : Conn) : (s.setConn n c).net.retx = s.net.retx := rfl

/-! `State.setPort` changes net.ports only. -/

@[simp] theorem State.setPort_pending (s : State) (n : Nat) (p : Port) : (s.setPort n p).pending = s.pending := rfl
@[simp] theorem State.setPort_regs (s : State) (n : Nat) (p : Port) : (s.setPort n p).regs = s.regs := rfl
@[simp] theorem State.setPort_tb (s : State) (n : Nat) (p : Port) : (s.setPort n p).tb = s.tb := rfl
@[simp] theorem State.setPort_fab (s : State) (n : Nat) (p : Port) : (s.setPort n p).fab = s.fab := rfl
@[simp] theorem State.setPort_tiers (s : State) (n : Nat) (p : Port) : (s.setPort n p).tiers = s.tiers := rfl
@[simp] theorem State.setPort_ledger (s : State) (n : Nat) (p : Port) : (s.setPort n p).ledger = s.ledger := rfl
@[simp] theorem State.setPort_sweeps (s : State) (n : Nat) (p : Port) : (s.setPort n p).sweeps = s.sweeps := rfl
@[simp] theorem State.setPort_host (s : State) (n : Nat) (p : Port) : (s.setPort n p).host = s.host := rfl
@[simp] theorem State.setPort_dram (s : State) (n : Nat) (p : Port) : (s.setPort n p).dram = s.dram := rfl
@[simp] theorem State.setPort_sec (s : State) (n : Nat) (p : Port) : (s.setPort n p).sec = s.sec := rfl
@[simp] theorem State.setPort_boot (s : State) (n : Nat) (p : Port) : (s.setPort n p).boot = s.boot := rfl
@[simp] theorem State.setPort_aon (s : State) (n : Nat) (p : Port) : (s.setPort n p).aon = s.aon := rfl
@[simp] theorem State.setPort_nv (s : State) (n : Nat) (p : Port) : (s.setPort n p).nv = s.nv := rfl
@[simp] theorem State.setPort_twin (s : State) (n : Nat) (p : Port) : (s.setPort n p).twin = s.twin := rfl
@[simp] theorem State.setPort_towpath (s : State) (n : Nat) (p : Port) : (s.setPort n p).towpath = s.towpath := rfl
@[simp] theorem State.setPort_lbs (s : State) (n : Nat) (p : Port) : (s.setPort n p).lbs = s.lbs := rfl
@[simp] theorem State.setPort_jtag (s : State) (n : Nat) (p : Port) : (s.setPort n p).jtag = s.jtag := rfl
@[simp] theorem State.setPort_sent (s : State) (n : Nat) (p : Port) : (s.setPort n p).sent = s.sent := rfl
@[simp] theorem State.setPort_fresh (s : State) (n : Nat) (p : Port) : (s.setPort n p).fresh = s.fresh := rfl
@[simp] theorem State.setPort_net_conns (s : State) (n : Nat) (p : Port) : (s.setPort n p).net.conns = s.net.conns := rfl
@[simp] theorem State.setPort_net_moorings (s : State) (n : Nat) (p : Port) : (s.setPort n p).net.moorings = s.net.moorings := rfl
@[simp] theorem State.setPort_net_engines (s : State) (n : Nat) (p : Port) : (s.setPort n p).net.engines = s.net.engines := rfl
@[simp] theorem State.setPort_net_meters (s : State) (n : Nat) (p : Port) : (s.setPort n p).net.meters = s.net.meters := rfl
@[simp] theorem State.setPort_net_waiting (s : State) (n : Nat) (p : Port) : (s.setPort n p).net.waiting = s.net.waiting := rfl
@[simp] theorem State.setPort_net_retx (s : State) (n : Nat) (p : Port) : (s.setPort n p).net.retx = s.net.retx := rfl

/-! `State.setEngine` changes net.engines only. -/

@[simp] theorem State.setEngine_pending (s : State) (n : Nat) (x : Engine) : (s.setEngine n x).pending = s.pending := rfl
@[simp] theorem State.setEngine_regs (s : State) (n : Nat) (x : Engine) : (s.setEngine n x).regs = s.regs := rfl
@[simp] theorem State.setEngine_tb (s : State) (n : Nat) (x : Engine) : (s.setEngine n x).tb = s.tb := rfl
@[simp] theorem State.setEngine_fab (s : State) (n : Nat) (x : Engine) : (s.setEngine n x).fab = s.fab := rfl
@[simp] theorem State.setEngine_tiers (s : State) (n : Nat) (x : Engine) : (s.setEngine n x).tiers = s.tiers := rfl
@[simp] theorem State.setEngine_ledger (s : State) (n : Nat) (x : Engine) : (s.setEngine n x).ledger = s.ledger := rfl
@[simp] theorem State.setEngine_sweeps (s : State) (n : Nat) (x : Engine) : (s.setEngine n x).sweeps = s.sweeps := rfl
@[simp] theorem State.setEngine_host (s : State) (n : Nat) (x : Engine) : (s.setEngine n x).host = s.host := rfl
@[simp] theorem State.setEngine_dram (s : State) (n : Nat) (x : Engine) : (s.setEngine n x).dram = s.dram := rfl
@[simp] theorem State.setEngine_sec (s : State) (n : Nat) (x : Engine) : (s.setEngine n x).sec = s.sec := rfl
@[simp] theorem State.setEngine_boot (s : State) (n : Nat) (x : Engine) : (s.setEngine n x).boot = s.boot := rfl
@[simp] theorem State.setEngine_aon (s : State) (n : Nat) (x : Engine) : (s.setEngine n x).aon = s.aon := rfl
@[simp] theorem State.setEngine_nv (s : State) (n : Nat) (x : Engine) : (s.setEngine n x).nv = s.nv := rfl
@[simp] theorem State.setEngine_twin (s : State) (n : Nat) (x : Engine) : (s.setEngine n x).twin = s.twin := rfl
@[simp] theorem State.setEngine_towpath (s : State) (n : Nat) (x : Engine) : (s.setEngine n x).towpath = s.towpath := rfl
@[simp] theorem State.setEngine_lbs (s : State) (n : Nat) (x : Engine) : (s.setEngine n x).lbs = s.lbs := rfl
@[simp] theorem State.setEngine_jtag (s : State) (n : Nat) (x : Engine) : (s.setEngine n x).jtag = s.jtag := rfl
@[simp] theorem State.setEngine_sent (s : State) (n : Nat) (x : Engine) : (s.setEngine n x).sent = s.sent := rfl
@[simp] theorem State.setEngine_fresh (s : State) (n : Nat) (x : Engine) : (s.setEngine n x).fresh = s.fresh := rfl
@[simp] theorem State.setEngine_net_conns (s : State) (n : Nat) (x : Engine) : (s.setEngine n x).net.conns = s.net.conns := rfl
@[simp] theorem State.setEngine_net_moorings (s : State) (n : Nat) (x : Engine) : (s.setEngine n x).net.moorings = s.net.moorings := rfl
@[simp] theorem State.setEngine_net_ports (s : State) (n : Nat) (x : Engine) : (s.setEngine n x).net.ports = s.net.ports := rfl
@[simp] theorem State.setEngine_net_meters (s : State) (n : Nat) (x : Engine) : (s.setEngine n x).net.meters = s.net.meters := rfl
@[simp] theorem State.setEngine_net_waiting (s : State) (n : Nat) (x : Engine) : (s.setEngine n x).net.waiting = s.net.waiting := rfl
@[simp] theorem State.setEngine_net_retx (s : State) (n : Nat) (x : Engine) : (s.setEngine n x).net.retx = s.net.retx := rfl

/-! `State.setMeter` changes net.meters only. -/

@[simp] theorem State.setMeter_pending (s : State) (n : Nat) (x : Meter) : (s.setMeter n x).pending = s.pending := rfl
@[simp] theorem State.setMeter_regs (s : State) (n : Nat) (x : Meter) : (s.setMeter n x).regs = s.regs := rfl
@[simp] theorem State.setMeter_tb (s : State) (n : Nat) (x : Meter) : (s.setMeter n x).tb = s.tb := rfl
@[simp] theorem State.setMeter_fab (s : State) (n : Nat) (x : Meter) : (s.setMeter n x).fab = s.fab := rfl
@[simp] theorem State.setMeter_tiers (s : State) (n : Nat) (x : Meter) : (s.setMeter n x).tiers = s.tiers := rfl
@[simp] theorem State.setMeter_ledger (s : State) (n : Nat) (x : Meter) : (s.setMeter n x).ledger = s.ledger := rfl
@[simp] theorem State.setMeter_sweeps (s : State) (n : Nat) (x : Meter) : (s.setMeter n x).sweeps = s.sweeps := rfl
@[simp] theorem State.setMeter_host (s : State) (n : Nat) (x : Meter) : (s.setMeter n x).host = s.host := rfl
@[simp] theorem State.setMeter_dram (s : State) (n : Nat) (x : Meter) : (s.setMeter n x).dram = s.dram := rfl
@[simp] theorem State.setMeter_sec (s : State) (n : Nat) (x : Meter) : (s.setMeter n x).sec = s.sec := rfl
@[simp] theorem State.setMeter_boot (s : State) (n : Nat) (x : Meter) : (s.setMeter n x).boot = s.boot := rfl
@[simp] theorem State.setMeter_aon (s : State) (n : Nat) (x : Meter) : (s.setMeter n x).aon = s.aon := rfl
@[simp] theorem State.setMeter_nv (s : State) (n : Nat) (x : Meter) : (s.setMeter n x).nv = s.nv := rfl
@[simp] theorem State.setMeter_twin (s : State) (n : Nat) (x : Meter) : (s.setMeter n x).twin = s.twin := rfl
@[simp] theorem State.setMeter_towpath (s : State) (n : Nat) (x : Meter) : (s.setMeter n x).towpath = s.towpath := rfl
@[simp] theorem State.setMeter_lbs (s : State) (n : Nat) (x : Meter) : (s.setMeter n x).lbs = s.lbs := rfl
@[simp] theorem State.setMeter_jtag (s : State) (n : Nat) (x : Meter) : (s.setMeter n x).jtag = s.jtag := rfl
@[simp] theorem State.setMeter_sent (s : State) (n : Nat) (x : Meter) : (s.setMeter n x).sent = s.sent := rfl
@[simp] theorem State.setMeter_fresh (s : State) (n : Nat) (x : Meter) : (s.setMeter n x).fresh = s.fresh := rfl
@[simp] theorem State.setMeter_net_conns (s : State) (n : Nat) (x : Meter) : (s.setMeter n x).net.conns = s.net.conns := rfl
@[simp] theorem State.setMeter_net_moorings (s : State) (n : Nat) (x : Meter) : (s.setMeter n x).net.moorings = s.net.moorings := rfl
@[simp] theorem State.setMeter_net_ports (s : State) (n : Nat) (x : Meter) : (s.setMeter n x).net.ports = s.net.ports := rfl
@[simp] theorem State.setMeter_net_engines (s : State) (n : Nat) (x : Meter) : (s.setMeter n x).net.engines = s.net.engines := rfl
@[simp] theorem State.setMeter_net_waiting (s : State) (n : Nat) (x : Meter) : (s.setMeter n x).net.waiting = s.net.waiting := rfl
@[simp] theorem State.setMeter_net_retx (s : State) (n : Nat) (x : Meter) : (s.setMeter n x).net.retx = s.net.retx := rfl

/-! `State.setMooring` changes net.moorings only. -/

@[simp] theorem State.setMooring_pending (s : State) (n : Nat) (x : Mooring) : (s.setMooring n x).pending = s.pending := rfl
@[simp] theorem State.setMooring_regs (s : State) (n : Nat) (x : Mooring) : (s.setMooring n x).regs = s.regs := rfl
@[simp] theorem State.setMooring_tb (s : State) (n : Nat) (x : Mooring) : (s.setMooring n x).tb = s.tb := rfl
@[simp] theorem State.setMooring_fab (s : State) (n : Nat) (x : Mooring) : (s.setMooring n x).fab = s.fab := rfl
@[simp] theorem State.setMooring_tiers (s : State) (n : Nat) (x : Mooring) : (s.setMooring n x).tiers = s.tiers := rfl
@[simp] theorem State.setMooring_ledger (s : State) (n : Nat) (x : Mooring) : (s.setMooring n x).ledger = s.ledger := rfl
@[simp] theorem State.setMooring_sweeps (s : State) (n : Nat) (x : Mooring) : (s.setMooring n x).sweeps = s.sweeps := rfl
@[simp] theorem State.setMooring_host (s : State) (n : Nat) (x : Mooring) : (s.setMooring n x).host = s.host := rfl
@[simp] theorem State.setMooring_dram (s : State) (n : Nat) (x : Mooring) : (s.setMooring n x).dram = s.dram := rfl
@[simp] theorem State.setMooring_sec (s : State) (n : Nat) (x : Mooring) : (s.setMooring n x).sec = s.sec := rfl
@[simp] theorem State.setMooring_boot (s : State) (n : Nat) (x : Mooring) : (s.setMooring n x).boot = s.boot := rfl
@[simp] theorem State.setMooring_aon (s : State) (n : Nat) (x : Mooring) : (s.setMooring n x).aon = s.aon := rfl
@[simp] theorem State.setMooring_nv (s : State) (n : Nat) (x : Mooring) : (s.setMooring n x).nv = s.nv := rfl
@[simp] theorem State.setMooring_twin (s : State) (n : Nat) (x : Mooring) : (s.setMooring n x).twin = s.twin := rfl
@[simp] theorem State.setMooring_towpath (s : State) (n : Nat) (x : Mooring) : (s.setMooring n x).towpath = s.towpath := rfl
@[simp] theorem State.setMooring_lbs (s : State) (n : Nat) (x : Mooring) : (s.setMooring n x).lbs = s.lbs := rfl
@[simp] theorem State.setMooring_jtag (s : State) (n : Nat) (x : Mooring) : (s.setMooring n x).jtag = s.jtag := rfl
@[simp] theorem State.setMooring_sent (s : State) (n : Nat) (x : Mooring) : (s.setMooring n x).sent = s.sent := rfl
@[simp] theorem State.setMooring_fresh (s : State) (n : Nat) (x : Mooring) : (s.setMooring n x).fresh = s.fresh := rfl
@[simp] theorem State.setMooring_net_conns (s : State) (n : Nat) (x : Mooring) : (s.setMooring n x).net.conns = s.net.conns := rfl
@[simp] theorem State.setMooring_net_ports (s : State) (n : Nat) (x : Mooring) : (s.setMooring n x).net.ports = s.net.ports := rfl
@[simp] theorem State.setMooring_net_engines (s : State) (n : Nat) (x : Mooring) : (s.setMooring n x).net.engines = s.net.engines := rfl
@[simp] theorem State.setMooring_net_meters (s : State) (n : Nat) (x : Mooring) : (s.setMooring n x).net.meters = s.net.meters := rfl
@[simp] theorem State.setMooring_net_waiting (s : State) (n : Nat) (x : Mooring) : (s.setMooring n x).net.waiting = s.net.waiting := rfl
@[simp] theorem State.setMooring_net_retx (s : State) (n : Nat) (x : Mooring) : (s.setMooring n x).net.retx = s.net.retx := rfl

/-! `State.setKeySlot` changes sec.slots only. -/

@[simp] theorem State.setKeySlot_pending (s : State) (t : Nat) (k : KeySlot) : (s.setKeySlot t k).pending = s.pending := rfl
@[simp] theorem State.setKeySlot_regs (s : State) (t : Nat) (k : KeySlot) : (s.setKeySlot t k).regs = s.regs := rfl
@[simp] theorem State.setKeySlot_tb (s : State) (t : Nat) (k : KeySlot) : (s.setKeySlot t k).tb = s.tb := rfl
@[simp] theorem State.setKeySlot_fab (s : State) (t : Nat) (k : KeySlot) : (s.setKeySlot t k).fab = s.fab := rfl
@[simp] theorem State.setKeySlot_tiers (s : State) (t : Nat) (k : KeySlot) : (s.setKeySlot t k).tiers = s.tiers := rfl
@[simp] theorem State.setKeySlot_ledger (s : State) (t : Nat) (k : KeySlot) : (s.setKeySlot t k).ledger = s.ledger := rfl
@[simp] theorem State.setKeySlot_sweeps (s : State) (t : Nat) (k : KeySlot) : (s.setKeySlot t k).sweeps = s.sweeps := rfl
@[simp] theorem State.setKeySlot_host (s : State) (t : Nat) (k : KeySlot) : (s.setKeySlot t k).host = s.host := rfl
@[simp] theorem State.setKeySlot_dram (s : State) (t : Nat) (k : KeySlot) : (s.setKeySlot t k).dram = s.dram := rfl
@[simp] theorem State.setKeySlot_net (s : State) (t : Nat) (k : KeySlot) : (s.setKeySlot t k).net = s.net := rfl
@[simp] theorem State.setKeySlot_boot (s : State) (t : Nat) (k : KeySlot) : (s.setKeySlot t k).boot = s.boot := rfl
@[simp] theorem State.setKeySlot_aon (s : State) (t : Nat) (k : KeySlot) : (s.setKeySlot t k).aon = s.aon := rfl
@[simp] theorem State.setKeySlot_nv (s : State) (t : Nat) (k : KeySlot) : (s.setKeySlot t k).nv = s.nv := rfl
@[simp] theorem State.setKeySlot_twin (s : State) (t : Nat) (k : KeySlot) : (s.setKeySlot t k).twin = s.twin := rfl
@[simp] theorem State.setKeySlot_towpath (s : State) (t : Nat) (k : KeySlot) : (s.setKeySlot t k).towpath = s.towpath := rfl
@[simp] theorem State.setKeySlot_lbs (s : State) (t : Nat) (k : KeySlot) : (s.setKeySlot t k).lbs = s.lbs := rfl
@[simp] theorem State.setKeySlot_jtag (s : State) (t : Nat) (k : KeySlot) : (s.setKeySlot t k).jtag = s.jtag := rfl
@[simp] theorem State.setKeySlot_sent (s : State) (t : Nat) (k : KeySlot) : (s.setKeySlot t k).sent = s.sent := rfl
@[simp] theorem State.setKeySlot_fresh (s : State) (t : Nat) (k : KeySlot) : (s.setKeySlot t k).fresh = s.fresh := rfl
@[simp] theorem State.setKeySlot_sec_sessions (s : State) (t : Nat) (k : KeySlot) : (s.setKeySlot t k).sec.sessions = s.sec.sessions := rfl
@[simp] theorem State.setKeySlot_sec_tdisp (s : State) (t : Nat) (k : KeySlot) : (s.setKeySlot t k).sec.tdisp = s.sec.tdisp := rfl
@[simp] theorem State.setKeySlot_sec_ide (s : State) (t : Nat) (k : KeySlot) : (s.setKeySlot t k).sec.ide = s.sec.ide := rfl
@[simp] theorem State.setKeySlot_sec_dbgMask (s : State) (t : Nat) (k : KeySlot) : (s.setKeySlot t k).sec.dbgMask = s.sec.dbgMask := rfl
@[simp] theorem State.setKeySlot_sec_dbgCount (s : State) (t : Nat) (k : KeySlot) : (s.setKeySlot t k).sec.dbgCount = s.sec.dbgCount := rfl
@[simp] theorem State.setKeySlot_sec_dbgOwner (s : State) (t : Nat) (k : KeySlot) : (s.setKeySlot t k).sec.dbgOwner = s.sec.dbgOwner := rfl
@[simp] theorem State.setKeySlot_sec_removal (s : State) (t : Nat) (k : KeySlot) : (s.setKeySlot t k).sec.removal = s.sec.removal := rfl
@[simp] theorem State.setKeySlot_sec_mgrKey (s : State) (t : Nat) (k : KeySlot) : (s.setKeySlot t k).sec.mgrKey = s.sec.mgrKey := rfl
@[simp] theorem State.setKeySlot_sec_sysKeys (s : State) (t : Nat) (k : KeySlot) : (s.setKeySlot t k).sec.sysKeys = s.sec.sysKeys := rfl
@[simp] theorem State.setKeySlot_sec_bootDigest (s : State) (t : Nat) (k : KeySlot) : (s.setKeySlot t k).sec.bootDigest = s.sec.bootDigest := rfl
@[simp] theorem State.setKeySlot_sec_bootSvn (s : State) (t : Nat) (k : KeySlot) : (s.setKeySlot t k).sec.bootSvn = s.sec.bootSvn := rfl

/-! `State.setTdisp` changes sec.tdisp only. -/

@[simp] theorem State.setTdisp_pending (s : State) (n : Nat) : (s.setTdisp n).pending = s.pending := rfl
@[simp] theorem State.setTdisp_regs (s : State) (n : Nat) : (s.setTdisp n).regs = s.regs := rfl
@[simp] theorem State.setTdisp_tb (s : State) (n : Nat) : (s.setTdisp n).tb = s.tb := rfl
@[simp] theorem State.setTdisp_fab (s : State) (n : Nat) : (s.setTdisp n).fab = s.fab := rfl
@[simp] theorem State.setTdisp_tiers (s : State) (n : Nat) : (s.setTdisp n).tiers = s.tiers := rfl
@[simp] theorem State.setTdisp_ledger (s : State) (n : Nat) : (s.setTdisp n).ledger = s.ledger := rfl
@[simp] theorem State.setTdisp_sweeps (s : State) (n : Nat) : (s.setTdisp n).sweeps = s.sweeps := rfl
@[simp] theorem State.setTdisp_host (s : State) (n : Nat) : (s.setTdisp n).host = s.host := rfl
@[simp] theorem State.setTdisp_dram (s : State) (n : Nat) : (s.setTdisp n).dram = s.dram := rfl
@[simp] theorem State.setTdisp_net (s : State) (n : Nat) : (s.setTdisp n).net = s.net := rfl
@[simp] theorem State.setTdisp_boot (s : State) (n : Nat) : (s.setTdisp n).boot = s.boot := rfl
@[simp] theorem State.setTdisp_aon (s : State) (n : Nat) : (s.setTdisp n).aon = s.aon := rfl
@[simp] theorem State.setTdisp_nv (s : State) (n : Nat) : (s.setTdisp n).nv = s.nv := rfl
@[simp] theorem State.setTdisp_twin (s : State) (n : Nat) : (s.setTdisp n).twin = s.twin := rfl
@[simp] theorem State.setTdisp_towpath (s : State) (n : Nat) : (s.setTdisp n).towpath = s.towpath := rfl
@[simp] theorem State.setTdisp_lbs (s : State) (n : Nat) : (s.setTdisp n).lbs = s.lbs := rfl
@[simp] theorem State.setTdisp_jtag (s : State) (n : Nat) : (s.setTdisp n).jtag = s.jtag := rfl
@[simp] theorem State.setTdisp_sent (s : State) (n : Nat) : (s.setTdisp n).sent = s.sent := rfl
@[simp] theorem State.setTdisp_fresh (s : State) (n : Nat) : (s.setTdisp n).fresh = s.fresh := rfl
@[simp] theorem State.setTdisp_sec_slots (s : State) (n : Nat) : (s.setTdisp n).sec.slots = s.sec.slots := rfl
@[simp] theorem State.setTdisp_sec_sessions (s : State) (n : Nat) : (s.setTdisp n).sec.sessions = s.sec.sessions := rfl
@[simp] theorem State.setTdisp_sec_ide (s : State) (n : Nat) : (s.setTdisp n).sec.ide = s.sec.ide := rfl
@[simp] theorem State.setTdisp_sec_dbgMask (s : State) (n : Nat) : (s.setTdisp n).sec.dbgMask = s.sec.dbgMask := rfl
@[simp] theorem State.setTdisp_sec_dbgCount (s : State) (n : Nat) : (s.setTdisp n).sec.dbgCount = s.sec.dbgCount := rfl
@[simp] theorem State.setTdisp_sec_dbgOwner (s : State) (n : Nat) : (s.setTdisp n).sec.dbgOwner = s.sec.dbgOwner := rfl
@[simp] theorem State.setTdisp_sec_removal (s : State) (n : Nat) : (s.setTdisp n).sec.removal = s.sec.removal := rfl
@[simp] theorem State.setTdisp_sec_mgrKey (s : State) (n : Nat) : (s.setTdisp n).sec.mgrKey = s.sec.mgrKey := rfl
@[simp] theorem State.setTdisp_sec_sysKeys (s : State) (n : Nat) : (s.setTdisp n).sec.sysKeys = s.sec.sysKeys := rfl
@[simp] theorem State.setTdisp_sec_bootDigest (s : State) (n : Nat) : (s.setTdisp n).sec.bootDigest = s.sec.bootDigest := rfl
@[simp] theorem State.setTdisp_sec_bootSvn (s : State) (n : Nat) : (s.setTdisp n).sec.bootSvn = s.sec.bootSvn := rfl

/-! `State.setRemoval` changes sec.removal only. -/

@[simp] theorem State.setRemoval_pending (s : State) (r : Removal) : (s.setRemoval r).pending = s.pending := rfl
@[simp] theorem State.setRemoval_regs (s : State) (r : Removal) : (s.setRemoval r).regs = s.regs := rfl
@[simp] theorem State.setRemoval_tb (s : State) (r : Removal) : (s.setRemoval r).tb = s.tb := rfl
@[simp] theorem State.setRemoval_fab (s : State) (r : Removal) : (s.setRemoval r).fab = s.fab := rfl
@[simp] theorem State.setRemoval_tiers (s : State) (r : Removal) : (s.setRemoval r).tiers = s.tiers := rfl
@[simp] theorem State.setRemoval_ledger (s : State) (r : Removal) : (s.setRemoval r).ledger = s.ledger := rfl
@[simp] theorem State.setRemoval_sweeps (s : State) (r : Removal) : (s.setRemoval r).sweeps = s.sweeps := rfl
@[simp] theorem State.setRemoval_host (s : State) (r : Removal) : (s.setRemoval r).host = s.host := rfl
@[simp] theorem State.setRemoval_dram (s : State) (r : Removal) : (s.setRemoval r).dram = s.dram := rfl
@[simp] theorem State.setRemoval_net (s : State) (r : Removal) : (s.setRemoval r).net = s.net := rfl
@[simp] theorem State.setRemoval_boot (s : State) (r : Removal) : (s.setRemoval r).boot = s.boot := rfl
@[simp] theorem State.setRemoval_aon (s : State) (r : Removal) : (s.setRemoval r).aon = s.aon := rfl
@[simp] theorem State.setRemoval_nv (s : State) (r : Removal) : (s.setRemoval r).nv = s.nv := rfl
@[simp] theorem State.setRemoval_twin (s : State) (r : Removal) : (s.setRemoval r).twin = s.twin := rfl
@[simp] theorem State.setRemoval_towpath (s : State) (r : Removal) : (s.setRemoval r).towpath = s.towpath := rfl
@[simp] theorem State.setRemoval_lbs (s : State) (r : Removal) : (s.setRemoval r).lbs = s.lbs := rfl
@[simp] theorem State.setRemoval_jtag (s : State) (r : Removal) : (s.setRemoval r).jtag = s.jtag := rfl
@[simp] theorem State.setRemoval_sent (s : State) (r : Removal) : (s.setRemoval r).sent = s.sent := rfl
@[simp] theorem State.setRemoval_fresh (s : State) (r : Removal) : (s.setRemoval r).fresh = s.fresh := rfl
@[simp] theorem State.setRemoval_sec_slots (s : State) (r : Removal) : (s.setRemoval r).sec.slots = s.sec.slots := rfl
@[simp] theorem State.setRemoval_sec_sessions (s : State) (r : Removal) : (s.setRemoval r).sec.sessions = s.sec.sessions := rfl
@[simp] theorem State.setRemoval_sec_tdisp (s : State) (r : Removal) : (s.setRemoval r).sec.tdisp = s.sec.tdisp := rfl
@[simp] theorem State.setRemoval_sec_ide (s : State) (r : Removal) : (s.setRemoval r).sec.ide = s.sec.ide := rfl
@[simp] theorem State.setRemoval_sec_dbgMask (s : State) (r : Removal) : (s.setRemoval r).sec.dbgMask = s.sec.dbgMask := rfl
@[simp] theorem State.setRemoval_sec_dbgCount (s : State) (r : Removal) : (s.setRemoval r).sec.dbgCount = s.sec.dbgCount := rfl
@[simp] theorem State.setRemoval_sec_dbgOwner (s : State) (r : Removal) : (s.setRemoval r).sec.dbgOwner = s.sec.dbgOwner := rfl
@[simp] theorem State.setRemoval_sec_mgrKey (s : State) (r : Removal) : (s.setRemoval r).sec.mgrKey = s.sec.mgrKey := rfl
@[simp] theorem State.setRemoval_sec_sysKeys (s : State) (r : Removal) : (s.setRemoval r).sec.sysKeys = s.sec.sysKeys := rfl
@[simp] theorem State.setRemoval_sec_bootDigest (s : State) (r : Removal) : (s.setRemoval r).sec.bootDigest = s.sec.bootDigest := rfl
@[simp] theorem State.setRemoval_sec_bootSvn (s : State) (r : Removal) : (s.setRemoval r).sec.bootSvn = s.sec.bootSvn := rfl

/-! `State.setSec` changes sec only. -/

@[simp] theorem State.setSec_pending (s : State) (x : Sec) : (s.setSec x).pending = s.pending := rfl
@[simp] theorem State.setSec_regs (s : State) (x : Sec) : (s.setSec x).regs = s.regs := rfl
@[simp] theorem State.setSec_tb (s : State) (x : Sec) : (s.setSec x).tb = s.tb := rfl
@[simp] theorem State.setSec_fab (s : State) (x : Sec) : (s.setSec x).fab = s.fab := rfl
@[simp] theorem State.setSec_tiers (s : State) (x : Sec) : (s.setSec x).tiers = s.tiers := rfl
@[simp] theorem State.setSec_ledger (s : State) (x : Sec) : (s.setSec x).ledger = s.ledger := rfl
@[simp] theorem State.setSec_sweeps (s : State) (x : Sec) : (s.setSec x).sweeps = s.sweeps := rfl
@[simp] theorem State.setSec_host (s : State) (x : Sec) : (s.setSec x).host = s.host := rfl
@[simp] theorem State.setSec_dram (s : State) (x : Sec) : (s.setSec x).dram = s.dram := rfl
@[simp] theorem State.setSec_net (s : State) (x : Sec) : (s.setSec x).net = s.net := rfl
@[simp] theorem State.setSec_boot (s : State) (x : Sec) : (s.setSec x).boot = s.boot := rfl
@[simp] theorem State.setSec_aon (s : State) (x : Sec) : (s.setSec x).aon = s.aon := rfl
@[simp] theorem State.setSec_nv (s : State) (x : Sec) : (s.setSec x).nv = s.nv := rfl
@[simp] theorem State.setSec_twin (s : State) (x : Sec) : (s.setSec x).twin = s.twin := rfl
@[simp] theorem State.setSec_towpath (s : State) (x : Sec) : (s.setSec x).towpath = s.towpath := rfl
@[simp] theorem State.setSec_lbs (s : State) (x : Sec) : (s.setSec x).lbs = s.lbs := rfl
@[simp] theorem State.setSec_jtag (s : State) (x : Sec) : (s.setSec x).jtag = s.jtag := rfl
@[simp] theorem State.setSec_sent (s : State) (x : Sec) : (s.setSec x).sent = s.sent := rfl
@[simp] theorem State.setSec_fresh (s : State) (x : Sec) : (s.setSec x).fresh = s.fresh := rfl

/-! `State.setLedger` changes ledger only. -/

@[simp] theorem State.setLedger_pending (s : State) (l : Ledger) : (s.setLedger l).pending = s.pending := rfl
@[simp] theorem State.setLedger_regs (s : State) (l : Ledger) : (s.setLedger l).regs = s.regs := rfl
@[simp] theorem State.setLedger_tb (s : State) (l : Ledger) : (s.setLedger l).tb = s.tb := rfl
@[simp] theorem State.setLedger_fab (s : State) (l : Ledger) : (s.setLedger l).fab = s.fab := rfl
@[simp] theorem State.setLedger_tiers (s : State) (l : Ledger) : (s.setLedger l).tiers = s.tiers := rfl
@[simp] theorem State.setLedger_sweeps (s : State) (l : Ledger) : (s.setLedger l).sweeps = s.sweeps := rfl
@[simp] theorem State.setLedger_host (s : State) (l : Ledger) : (s.setLedger l).host = s.host := rfl
@[simp] theorem State.setLedger_dram (s : State) (l : Ledger) : (s.setLedger l).dram = s.dram := rfl
@[simp] theorem State.setLedger_net (s : State) (l : Ledger) : (s.setLedger l).net = s.net := rfl
@[simp] theorem State.setLedger_sec (s : State) (l : Ledger) : (s.setLedger l).sec = s.sec := rfl
@[simp] theorem State.setLedger_boot (s : State) (l : Ledger) : (s.setLedger l).boot = s.boot := rfl
@[simp] theorem State.setLedger_aon (s : State) (l : Ledger) : (s.setLedger l).aon = s.aon := rfl
@[simp] theorem State.setLedger_nv (s : State) (l : Ledger) : (s.setLedger l).nv = s.nv := rfl
@[simp] theorem State.setLedger_twin (s : State) (l : Ledger) : (s.setLedger l).twin = s.twin := rfl
@[simp] theorem State.setLedger_towpath (s : State) (l : Ledger) : (s.setLedger l).towpath = s.towpath := rfl
@[simp] theorem State.setLedger_lbs (s : State) (l : Ledger) : (s.setLedger l).lbs = s.lbs := rfl
@[simp] theorem State.setLedger_jtag (s : State) (l : Ledger) : (s.setLedger l).jtag = s.jtag := rfl
@[simp] theorem State.setLedger_sent (s : State) (l : Ledger) : (s.setLedger l).sent = s.sent := rfl
@[simp] theorem State.setLedger_fresh (s : State) (l : Ledger) : (s.setLedger l).fresh = s.fresh := rfl

/-! `State.setTwin` changes twin only. -/

@[simp] theorem State.setTwin_pending (s : State) (t : Twin) : (s.setTwin t).pending = s.pending := rfl
@[simp] theorem State.setTwin_regs (s : State) (t : Twin) : (s.setTwin t).regs = s.regs := rfl
@[simp] theorem State.setTwin_tb (s : State) (t : Twin) : (s.setTwin t).tb = s.tb := rfl
@[simp] theorem State.setTwin_fab (s : State) (t : Twin) : (s.setTwin t).fab = s.fab := rfl
@[simp] theorem State.setTwin_tiers (s : State) (t : Twin) : (s.setTwin t).tiers = s.tiers := rfl
@[simp] theorem State.setTwin_ledger (s : State) (t : Twin) : (s.setTwin t).ledger = s.ledger := rfl
@[simp] theorem State.setTwin_sweeps (s : State) (t : Twin) : (s.setTwin t).sweeps = s.sweeps := rfl
@[simp] theorem State.setTwin_host (s : State) (t : Twin) : (s.setTwin t).host = s.host := rfl
@[simp] theorem State.setTwin_dram (s : State) (t : Twin) : (s.setTwin t).dram = s.dram := rfl
@[simp] theorem State.setTwin_net (s : State) (t : Twin) : (s.setTwin t).net = s.net := rfl
@[simp] theorem State.setTwin_sec (s : State) (t : Twin) : (s.setTwin t).sec = s.sec := rfl
@[simp] theorem State.setTwin_boot (s : State) (t : Twin) : (s.setTwin t).boot = s.boot := rfl
@[simp] theorem State.setTwin_aon (s : State) (t : Twin) : (s.setTwin t).aon = s.aon := rfl
@[simp] theorem State.setTwin_nv (s : State) (t : Twin) : (s.setTwin t).nv = s.nv := rfl
@[simp] theorem State.setTwin_towpath (s : State) (t : Twin) : (s.setTwin t).towpath = s.towpath := rfl
@[simp] theorem State.setTwin_lbs (s : State) (t : Twin) : (s.setTwin t).lbs = s.lbs := rfl
@[simp] theorem State.setTwin_jtag (s : State) (t : Twin) : (s.setTwin t).jtag = s.jtag := rfl
@[simp] theorem State.setTwin_sent (s : State) (t : Twin) : (s.setTwin t).sent = s.sent := rfl
@[simp] theorem State.setTwin_fresh (s : State) (t : Twin) : (s.setTwin t).fresh = s.fresh := rfl

/-! `State.setJout` changes twin.out only. -/

@[simp] theorem State.setJout_pending (s : State) (t : Nat) (j : JOut) : (s.setJout t j).pending = s.pending := rfl
@[simp] theorem State.setJout_regs (s : State) (t : Nat) (j : JOut) : (s.setJout t j).regs = s.regs := rfl
@[simp] theorem State.setJout_tb (s : State) (t : Nat) (j : JOut) : (s.setJout t j).tb = s.tb := rfl
@[simp] theorem State.setJout_fab (s : State) (t : Nat) (j : JOut) : (s.setJout t j).fab = s.fab := rfl
@[simp] theorem State.setJout_tiers (s : State) (t : Nat) (j : JOut) : (s.setJout t j).tiers = s.tiers := rfl
@[simp] theorem State.setJout_ledger (s : State) (t : Nat) (j : JOut) : (s.setJout t j).ledger = s.ledger := rfl
@[simp] theorem State.setJout_sweeps (s : State) (t : Nat) (j : JOut) : (s.setJout t j).sweeps = s.sweeps := rfl
@[simp] theorem State.setJout_host (s : State) (t : Nat) (j : JOut) : (s.setJout t j).host = s.host := rfl
@[simp] theorem State.setJout_dram (s : State) (t : Nat) (j : JOut) : (s.setJout t j).dram = s.dram := rfl
@[simp] theorem State.setJout_net (s : State) (t : Nat) (j : JOut) : (s.setJout t j).net = s.net := rfl
@[simp] theorem State.setJout_sec (s : State) (t : Nat) (j : JOut) : (s.setJout t j).sec = s.sec := rfl
@[simp] theorem State.setJout_boot (s : State) (t : Nat) (j : JOut) : (s.setJout t j).boot = s.boot := rfl
@[simp] theorem State.setJout_aon (s : State) (t : Nat) (j : JOut) : (s.setJout t j).aon = s.aon := rfl
@[simp] theorem State.setJout_nv (s : State) (t : Nat) (j : JOut) : (s.setJout t j).nv = s.nv := rfl
@[simp] theorem State.setJout_towpath (s : State) (t : Nat) (j : JOut) : (s.setJout t j).towpath = s.towpath := rfl
@[simp] theorem State.setJout_lbs (s : State) (t : Nat) (j : JOut) : (s.setJout t j).lbs = s.lbs := rfl
@[simp] theorem State.setJout_jtag (s : State) (t : Nat) (j : JOut) : (s.setJout t j).jtag = s.jtag := rfl
@[simp] theorem State.setJout_sent (s : State) (t : Nat) (j : JOut) : (s.setJout t j).sent = s.sent := rfl
@[simp] theorem State.setJout_fresh (s : State) (t : Nat) (j : JOut) : (s.setJout t j).fresh = s.fresh := rfl
@[simp] theorem State.setJout_twin_pair (s : State) (t : Nat) (j : JOut) : (s.setJout t j).twin.pair = s.twin.pair := rfl
@[simp] theorem State.setJout_twin_src (s : State) (t : Nat) (j : JOut) : (s.setJout t j).twin.src = s.twin.src := rfl
@[simp] theorem State.setJout_twin_seeding (s : State) (t : Nat) (j : JOut) : (s.setJout t j).twin.seeding = s.twin.seeding := rfl
@[simp] theorem State.setJout_twin_ackAt (s : State) (t : Nat) (j : JOut) : (s.setJout t j).twin.ackAt = s.twin.ackAt := rfl
@[simp] theorem State.setJout_twin_lostAt (s : State) (t : Nat) (j : JOut) : (s.setJout t j).twin.lostAt = s.twin.lostAt := rfl
@[simp] theorem State.setJout_twin_qset (s : State) (t : Nat) (j : JOut) : (s.setJout t j).twin.qset = s.twin.qset := rfl
@[simp] theorem State.setJout_twin_expelled (s : State) (t : Nat) (j : JOut) : (s.setJout t j).twin.expelled = s.twin.expelled := rfl
@[simp] theorem State.setJout_twin_reqAt (s : State) (t : Nat) (j : JOut) : (s.setJout t j).twin.reqAt = s.twin.reqAt := rfl
@[simp] theorem State.setJout_twin_rejoined (s : State) (t : Nat) (j : JOut) : (s.setJout t j).twin.rejoined = s.twin.rejoined := rfl
@[simp] theorem State.setJout_twin_indexed (s : State) (t : Nat) (j : JOut) : (s.setJout t j).twin.indexed = s.twin.indexed := rfl
@[simp] theorem State.setJout_twin_indexWait (s : State) (t : Nat) (j : JOut) : (s.setJout t j).twin.indexWait = s.twin.indexWait := rfl
@[simp] theorem State.setJout_twin_claims (s : State) (t : Nat) (j : JOut) : (s.setJout t j).twin.claims = s.twin.claims := rfl
@[simp] theorem State.setJout_twin_fetching (s : State) (t : Nat) (j : JOut) : (s.setJout t j).twin.fetching = s.twin.fetching := rfl
@[simp] theorem State.setJout_twin_unjournalled (s : State) (t : Nat) (j : JOut) : (s.setJout t j).twin.unjournalled = s.twin.unjournalled := rfl

/-! `State.setJsrc` changes twin.src only. -/

@[simp] theorem State.setJsrc_pending (s : State) (t : Nat) (j : JSource) : (s.setJsrc t j).pending = s.pending := rfl
@[simp] theorem State.setJsrc_regs (s : State) (t : Nat) (j : JSource) : (s.setJsrc t j).regs = s.regs := rfl
@[simp] theorem State.setJsrc_tb (s : State) (t : Nat) (j : JSource) : (s.setJsrc t j).tb = s.tb := rfl
@[simp] theorem State.setJsrc_fab (s : State) (t : Nat) (j : JSource) : (s.setJsrc t j).fab = s.fab := rfl
@[simp] theorem State.setJsrc_tiers (s : State) (t : Nat) (j : JSource) : (s.setJsrc t j).tiers = s.tiers := rfl
@[simp] theorem State.setJsrc_ledger (s : State) (t : Nat) (j : JSource) : (s.setJsrc t j).ledger = s.ledger := rfl
@[simp] theorem State.setJsrc_sweeps (s : State) (t : Nat) (j : JSource) : (s.setJsrc t j).sweeps = s.sweeps := rfl
@[simp] theorem State.setJsrc_host (s : State) (t : Nat) (j : JSource) : (s.setJsrc t j).host = s.host := rfl
@[simp] theorem State.setJsrc_dram (s : State) (t : Nat) (j : JSource) : (s.setJsrc t j).dram = s.dram := rfl
@[simp] theorem State.setJsrc_net (s : State) (t : Nat) (j : JSource) : (s.setJsrc t j).net = s.net := rfl
@[simp] theorem State.setJsrc_sec (s : State) (t : Nat) (j : JSource) : (s.setJsrc t j).sec = s.sec := rfl
@[simp] theorem State.setJsrc_boot (s : State) (t : Nat) (j : JSource) : (s.setJsrc t j).boot = s.boot := rfl
@[simp] theorem State.setJsrc_aon (s : State) (t : Nat) (j : JSource) : (s.setJsrc t j).aon = s.aon := rfl
@[simp] theorem State.setJsrc_nv (s : State) (t : Nat) (j : JSource) : (s.setJsrc t j).nv = s.nv := rfl
@[simp] theorem State.setJsrc_towpath (s : State) (t : Nat) (j : JSource) : (s.setJsrc t j).towpath = s.towpath := rfl
@[simp] theorem State.setJsrc_lbs (s : State) (t : Nat) (j : JSource) : (s.setJsrc t j).lbs = s.lbs := rfl
@[simp] theorem State.setJsrc_jtag (s : State) (t : Nat) (j : JSource) : (s.setJsrc t j).jtag = s.jtag := rfl
@[simp] theorem State.setJsrc_sent (s : State) (t : Nat) (j : JSource) : (s.setJsrc t j).sent = s.sent := rfl
@[simp] theorem State.setJsrc_fresh (s : State) (t : Nat) (j : JSource) : (s.setJsrc t j).fresh = s.fresh := rfl
@[simp] theorem State.setJsrc_twin_pair (s : State) (t : Nat) (j : JSource) : (s.setJsrc t j).twin.pair = s.twin.pair := rfl
@[simp] theorem State.setJsrc_twin_out (s : State) (t : Nat) (j : JSource) : (s.setJsrc t j).twin.out = s.twin.out := rfl
@[simp] theorem State.setJsrc_twin_seeding (s : State) (t : Nat) (j : JSource) : (s.setJsrc t j).twin.seeding = s.twin.seeding := rfl
@[simp] theorem State.setJsrc_twin_ackAt (s : State) (t : Nat) (j : JSource) : (s.setJsrc t j).twin.ackAt = s.twin.ackAt := rfl
@[simp] theorem State.setJsrc_twin_lostAt (s : State) (t : Nat) (j : JSource) : (s.setJsrc t j).twin.lostAt = s.twin.lostAt := rfl
@[simp] theorem State.setJsrc_twin_qset (s : State) (t : Nat) (j : JSource) : (s.setJsrc t j).twin.qset = s.twin.qset := rfl
@[simp] theorem State.setJsrc_twin_expelled (s : State) (t : Nat) (j : JSource) : (s.setJsrc t j).twin.expelled = s.twin.expelled := rfl
@[simp] theorem State.setJsrc_twin_reqAt (s : State) (t : Nat) (j : JSource) : (s.setJsrc t j).twin.reqAt = s.twin.reqAt := rfl
@[simp] theorem State.setJsrc_twin_rejoined (s : State) (t : Nat) (j : JSource) : (s.setJsrc t j).twin.rejoined = s.twin.rejoined := rfl
@[simp] theorem State.setJsrc_twin_indexed (s : State) (t : Nat) (j : JSource) : (s.setJsrc t j).twin.indexed = s.twin.indexed := rfl
@[simp] theorem State.setJsrc_twin_indexWait (s : State) (t : Nat) (j : JSource) : (s.setJsrc t j).twin.indexWait = s.twin.indexWait := rfl
@[simp] theorem State.setJsrc_twin_claims (s : State) (t : Nat) (j : JSource) : (s.setJsrc t j).twin.claims = s.twin.claims := rfl
@[simp] theorem State.setJsrc_twin_fetching (s : State) (t : Nat) (j : JSource) : (s.setJsrc t j).twin.fetching = s.twin.fetching := rfl
@[simp] theorem State.setJsrc_twin_unjournalled (s : State) (t : Nat) (j : JSource) : (s.setJsrc t j).twin.unjournalled = s.twin.unjournalled := rfl

/-! `State.setLbs` changes lbs only. -/

@[simp] theorem State.setLbs_pending (s : State) (l : Lbs) : (s.setLbs l).pending = s.pending := rfl
@[simp] theorem State.setLbs_regs (s : State) (l : Lbs) : (s.setLbs l).regs = s.regs := rfl
@[simp] theorem State.setLbs_tb (s : State) (l : Lbs) : (s.setLbs l).tb = s.tb := rfl
@[simp] theorem State.setLbs_fab (s : State) (l : Lbs) : (s.setLbs l).fab = s.fab := rfl
@[simp] theorem State.setLbs_tiers (s : State) (l : Lbs) : (s.setLbs l).tiers = s.tiers := rfl
@[simp] theorem State.setLbs_ledger (s : State) (l : Lbs) : (s.setLbs l).ledger = s.ledger := rfl
@[simp] theorem State.setLbs_sweeps (s : State) (l : Lbs) : (s.setLbs l).sweeps = s.sweeps := rfl
@[simp] theorem State.setLbs_host (s : State) (l : Lbs) : (s.setLbs l).host = s.host := rfl
@[simp] theorem State.setLbs_dram (s : State) (l : Lbs) : (s.setLbs l).dram = s.dram := rfl
@[simp] theorem State.setLbs_net (s : State) (l : Lbs) : (s.setLbs l).net = s.net := rfl
@[simp] theorem State.setLbs_sec (s : State) (l : Lbs) : (s.setLbs l).sec = s.sec := rfl
@[simp] theorem State.setLbs_boot (s : State) (l : Lbs) : (s.setLbs l).boot = s.boot := rfl
@[simp] theorem State.setLbs_aon (s : State) (l : Lbs) : (s.setLbs l).aon = s.aon := rfl
@[simp] theorem State.setLbs_nv (s : State) (l : Lbs) : (s.setLbs l).nv = s.nv := rfl
@[simp] theorem State.setLbs_twin (s : State) (l : Lbs) : (s.setLbs l).twin = s.twin := rfl
@[simp] theorem State.setLbs_towpath (s : State) (l : Lbs) : (s.setLbs l).towpath = s.towpath := rfl
@[simp] theorem State.setLbs_jtag (s : State) (l : Lbs) : (s.setLbs l).jtag = s.jtag := rfl
@[simp] theorem State.setLbs_sent (s : State) (l : Lbs) : (s.setLbs l).sent = s.sent := rfl
@[simp] theorem State.setLbs_fresh (s : State) (l : Lbs) : (s.setLbs l).fresh = s.fresh := rfl

/-! `State.setJtag` changes jtag only. -/

@[simp] theorem State.setJtag_pending (s : State) (j : Jtag) : (s.setJtag j).pending = s.pending := rfl
@[simp] theorem State.setJtag_regs (s : State) (j : Jtag) : (s.setJtag j).regs = s.regs := rfl
@[simp] theorem State.setJtag_tb (s : State) (j : Jtag) : (s.setJtag j).tb = s.tb := rfl
@[simp] theorem State.setJtag_fab (s : State) (j : Jtag) : (s.setJtag j).fab = s.fab := rfl
@[simp] theorem State.setJtag_tiers (s : State) (j : Jtag) : (s.setJtag j).tiers = s.tiers := rfl
@[simp] theorem State.setJtag_ledger (s : State) (j : Jtag) : (s.setJtag j).ledger = s.ledger := rfl
@[simp] theorem State.setJtag_sweeps (s : State) (j : Jtag) : (s.setJtag j).sweeps = s.sweeps := rfl
@[simp] theorem State.setJtag_host (s : State) (j : Jtag) : (s.setJtag j).host = s.host := rfl
@[simp] theorem State.setJtag_dram (s : State) (j : Jtag) : (s.setJtag j).dram = s.dram := rfl
@[simp] theorem State.setJtag_net (s : State) (j : Jtag) : (s.setJtag j).net = s.net := rfl
@[simp] theorem State.setJtag_sec (s : State) (j : Jtag) : (s.setJtag j).sec = s.sec := rfl
@[simp] theorem State.setJtag_boot (s : State) (j : Jtag) : (s.setJtag j).boot = s.boot := rfl
@[simp] theorem State.setJtag_aon (s : State) (j : Jtag) : (s.setJtag j).aon = s.aon := rfl
@[simp] theorem State.setJtag_nv (s : State) (j : Jtag) : (s.setJtag j).nv = s.nv := rfl
@[simp] theorem State.setJtag_twin (s : State) (j : Jtag) : (s.setJtag j).twin = s.twin := rfl
@[simp] theorem State.setJtag_towpath (s : State) (j : Jtag) : (s.setJtag j).towpath = s.towpath := rfl
@[simp] theorem State.setJtag_lbs (s : State) (j : Jtag) : (s.setJtag j).lbs = s.lbs := rfl
@[simp] theorem State.setJtag_sent (s : State) (j : Jtag) : (s.setJtag j).sent = s.sent := rfl
@[simp] theorem State.setJtag_fresh (s : State) (j : Jtag) : (s.setJtag j).fresh = s.fresh := rfl

/-! `State.setTow` changes towpath only. -/

@[simp] theorem State.setTow_pending (s : State) (t : Towpath) : (s.setTow t).pending = s.pending := rfl
@[simp] theorem State.setTow_regs (s : State) (t : Towpath) : (s.setTow t).regs = s.regs := rfl
@[simp] theorem State.setTow_tb (s : State) (t : Towpath) : (s.setTow t).tb = s.tb := rfl
@[simp] theorem State.setTow_fab (s : State) (t : Towpath) : (s.setTow t).fab = s.fab := rfl
@[simp] theorem State.setTow_tiers (s : State) (t : Towpath) : (s.setTow t).tiers = s.tiers := rfl
@[simp] theorem State.setTow_ledger (s : State) (t : Towpath) : (s.setTow t).ledger = s.ledger := rfl
@[simp] theorem State.setTow_sweeps (s : State) (t : Towpath) : (s.setTow t).sweeps = s.sweeps := rfl
@[simp] theorem State.setTow_host (s : State) (t : Towpath) : (s.setTow t).host = s.host := rfl
@[simp] theorem State.setTow_dram (s : State) (t : Towpath) : (s.setTow t).dram = s.dram := rfl
@[simp] theorem State.setTow_net (s : State) (t : Towpath) : (s.setTow t).net = s.net := rfl
@[simp] theorem State.setTow_sec (s : State) (t : Towpath) : (s.setTow t).sec = s.sec := rfl
@[simp] theorem State.setTow_boot (s : State) (t : Towpath) : (s.setTow t).boot = s.boot := rfl
@[simp] theorem State.setTow_aon (s : State) (t : Towpath) : (s.setTow t).aon = s.aon := rfl
@[simp] theorem State.setTow_nv (s : State) (t : Towpath) : (s.setTow t).nv = s.nv := rfl
@[simp] theorem State.setTow_twin (s : State) (t : Towpath) : (s.setTow t).twin = s.twin := rfl
@[simp] theorem State.setTow_lbs (s : State) (t : Towpath) : (s.setTow t).lbs = s.lbs := rfl
@[simp] theorem State.setTow_jtag (s : State) (t : Towpath) : (s.setTow t).jtag = s.jtag := rfl
@[simp] theorem State.setTow_sent (s : State) (t : Towpath) : (s.setTow t).sent = s.sent := rfl
@[simp] theorem State.setTow_fresh (s : State) (t : Towpath) : (s.setTow t).fresh = s.fresh := rfl

/-! `State.setFine` changes tb only. -/

@[simp] theorem State.setFine_pending (s : State) (x : Int) : (s.setFine x).pending = s.pending := rfl
@[simp] theorem State.setFine_regs (s : State) (x : Int) : (s.setFine x).regs = s.regs := rfl
@[simp] theorem State.setFine_fab (s : State) (x : Int) : (s.setFine x).fab = s.fab := rfl
@[simp] theorem State.setFine_tiers (s : State) (x : Int) : (s.setFine x).tiers = s.tiers := rfl
@[simp] theorem State.setFine_ledger (s : State) (x : Int) : (s.setFine x).ledger = s.ledger := rfl
@[simp] theorem State.setFine_sweeps (s : State) (x : Int) : (s.setFine x).sweeps = s.sweeps := rfl
@[simp] theorem State.setFine_host (s : State) (x : Int) : (s.setFine x).host = s.host := rfl
@[simp] theorem State.setFine_dram (s : State) (x : Int) : (s.setFine x).dram = s.dram := rfl
@[simp] theorem State.setFine_net (s : State) (x : Int) : (s.setFine x).net = s.net := rfl
@[simp] theorem State.setFine_sec (s : State) (x : Int) : (s.setFine x).sec = s.sec := rfl
@[simp] theorem State.setFine_boot (s : State) (x : Int) : (s.setFine x).boot = s.boot := rfl
@[simp] theorem State.setFine_aon (s : State) (x : Int) : (s.setFine x).aon = s.aon := rfl
@[simp] theorem State.setFine_nv (s : State) (x : Int) : (s.setFine x).nv = s.nv := rfl
@[simp] theorem State.setFine_twin (s : State) (x : Int) : (s.setFine x).twin = s.twin := rfl
@[simp] theorem State.setFine_towpath (s : State) (x : Int) : (s.setFine x).towpath = s.towpath := rfl
@[simp] theorem State.setFine_lbs (s : State) (x : Int) : (s.setFine x).lbs = s.lbs := rfl
@[simp] theorem State.setFine_jtag (s : State) (x : Int) : (s.setFine x).jtag = s.jtag := rfl
@[simp] theorem State.setFine_sent (s : State) (x : Int) : (s.setFine x).sent = s.sent := rfl
@[simp] theorem State.setFine_fresh (s : State) (x : Int) : (s.setFine x).fresh = s.fresh := rfl

/-! `State.setStrand` changes tb.strand only. -/

@[simp] theorem State.setStrand_pending (s : State) (x : Strand) : (s.setStrand x).pending = s.pending := rfl
@[simp] theorem State.setStrand_regs (s : State) (x : Strand) : (s.setStrand x).regs = s.regs := rfl
@[simp] theorem State.setStrand_fab (s : State) (x : Strand) : (s.setStrand x).fab = s.fab := rfl
@[simp] theorem State.setStrand_tiers (s : State) (x : Strand) : (s.setStrand x).tiers = s.tiers := rfl
@[simp] theorem State.setStrand_ledger (s : State) (x : Strand) : (s.setStrand x).ledger = s.ledger := rfl
@[simp] theorem State.setStrand_sweeps (s : State) (x : Strand) : (s.setStrand x).sweeps = s.sweeps := rfl
@[simp] theorem State.setStrand_host (s : State) (x : Strand) : (s.setStrand x).host = s.host := rfl
@[simp] theorem State.setStrand_dram (s : State) (x : Strand) : (s.setStrand x).dram = s.dram := rfl
@[simp] theorem State.setStrand_net (s : State) (x : Strand) : (s.setStrand x).net = s.net := rfl
@[simp] theorem State.setStrand_sec (s : State) (x : Strand) : (s.setStrand x).sec = s.sec := rfl
@[simp] theorem State.setStrand_boot (s : State) (x : Strand) : (s.setStrand x).boot = s.boot := rfl
@[simp] theorem State.setStrand_aon (s : State) (x : Strand) : (s.setStrand x).aon = s.aon := rfl
@[simp] theorem State.setStrand_nv (s : State) (x : Strand) : (s.setStrand x).nv = s.nv := rfl
@[simp] theorem State.setStrand_twin (s : State) (x : Strand) : (s.setStrand x).twin = s.twin := rfl
@[simp] theorem State.setStrand_towpath (s : State) (x : Strand) : (s.setStrand x).towpath = s.towpath := rfl
@[simp] theorem State.setStrand_lbs (s : State) (x : Strand) : (s.setStrand x).lbs = s.lbs := rfl
@[simp] theorem State.setStrand_jtag (s : State) (x : Strand) : (s.setStrand x).jtag = s.jtag := rfl
@[simp] theorem State.setStrand_sent (s : State) (x : Strand) : (s.setStrand x).sent = s.sent := rfl
@[simp] theorem State.setStrand_fresh (s : State) (x : Strand) : (s.setStrand x).fresh = s.fresh := rfl
@[simp] theorem State.setStrand_tb_ticks (s : State) (x : Strand) : (s.setStrand x).tb.ticks = s.tb.ticks := rfl
@[simp] theorem State.setStrand_tb_frac (s : State) (x : Strand) : (s.setStrand x).tb.frac = s.tb.frac := rfl
@[simp] theorem State.setStrand_tb_freq (s : State) (x : Strand) : (s.setStrand x).tb.freq = s.tb.freq := rfl
@[simp] theorem State.setStrand_tb_err (s : State) (x : Strand) : (s.setStrand x).tb.err = s.tb.err := rfl
@[simp] theorem State.setStrand_tb_state (s : State) (x : Strand) : (s.setStrand x).tb.state = s.tb.state := rfl
@[simp] theorem State.setStrand_tb_src (s : State) (x : Strand) : (s.setStrand x).tb.src = s.tb.src := rfl
@[simp] theorem State.setStrand_tb_holdUntil (s : State) (x : Strand) : (s.setStrand x).tb.holdUntil = s.tb.holdUntil := rfl
@[simp] theorem State.setStrand_tb_ptp (s : State) (x : Strand) : (s.setStrand x).tb.ptp = s.tb.ptp := rfl

/-! `State.setPtp` changes tb.ptp only. -/

@[simp] theorem State.setPtp_pending (s : State) (p : Ptp) : (s.setPtp p).pending = s.pending := rfl
@[simp] theorem State.setPtp_regs (s : State) (p : Ptp) : (s.setPtp p).regs = s.regs := rfl
@[simp] theorem State.setPtp_fab (s : State) (p : Ptp) : (s.setPtp p).fab = s.fab := rfl
@[simp] theorem State.setPtp_tiers (s : State) (p : Ptp) : (s.setPtp p).tiers = s.tiers := rfl
@[simp] theorem State.setPtp_ledger (s : State) (p : Ptp) : (s.setPtp p).ledger = s.ledger := rfl
@[simp] theorem State.setPtp_sweeps (s : State) (p : Ptp) : (s.setPtp p).sweeps = s.sweeps := rfl
@[simp] theorem State.setPtp_host (s : State) (p : Ptp) : (s.setPtp p).host = s.host := rfl
@[simp] theorem State.setPtp_dram (s : State) (p : Ptp) : (s.setPtp p).dram = s.dram := rfl
@[simp] theorem State.setPtp_net (s : State) (p : Ptp) : (s.setPtp p).net = s.net := rfl
@[simp] theorem State.setPtp_sec (s : State) (p : Ptp) : (s.setPtp p).sec = s.sec := rfl
@[simp] theorem State.setPtp_boot (s : State) (p : Ptp) : (s.setPtp p).boot = s.boot := rfl
@[simp] theorem State.setPtp_aon (s : State) (p : Ptp) : (s.setPtp p).aon = s.aon := rfl
@[simp] theorem State.setPtp_nv (s : State) (p : Ptp) : (s.setPtp p).nv = s.nv := rfl
@[simp] theorem State.setPtp_twin (s : State) (p : Ptp) : (s.setPtp p).twin = s.twin := rfl
@[simp] theorem State.setPtp_towpath (s : State) (p : Ptp) : (s.setPtp p).towpath = s.towpath := rfl
@[simp] theorem State.setPtp_lbs (s : State) (p : Ptp) : (s.setPtp p).lbs = s.lbs := rfl
@[simp] theorem State.setPtp_jtag (s : State) (p : Ptp) : (s.setPtp p).jtag = s.jtag := rfl
@[simp] theorem State.setPtp_sent (s : State) (p : Ptp) : (s.setPtp p).sent = s.sent := rfl
@[simp] theorem State.setPtp_fresh (s : State) (p : Ptp) : (s.setPtp p).fresh = s.fresh := rfl
@[simp] theorem State.setPtp_tb_ticks (s : State) (p : Ptp) : (s.setPtp p).tb.ticks = s.tb.ticks := rfl
@[simp] theorem State.setPtp_tb_frac (s : State) (p : Ptp) : (s.setPtp p).tb.frac = s.tb.frac := rfl
@[simp] theorem State.setPtp_tb_freq (s : State) (p : Ptp) : (s.setPtp p).tb.freq = s.tb.freq := rfl
@[simp] theorem State.setPtp_tb_err (s : State) (p : Ptp) : (s.setPtp p).tb.err = s.tb.err := rfl
@[simp] theorem State.setPtp_tb_state (s : State) (p : Ptp) : (s.setPtp p).tb.state = s.tb.state := rfl
@[simp] theorem State.setPtp_tb_src (s : State) (p : Ptp) : (s.setPtp p).tb.src = s.tb.src := rfl
@[simp] theorem State.setPtp_tb_holdUntil (s : State) (p : Ptp) : (s.setPtp p).tb.holdUntil = s.tb.holdUntil := rfl
@[simp] theorem State.setPtp_tb_strand (s : State) (p : Ptp) : (s.setPtp p).tb.strand = s.tb.strand := rfl

/-! ### Association lists -/

section
variable {κ α : Type} [DecidableEq κ]

@[simp] theorem alGet_nil (k : κ) : alGet ([] : AL κ α) k = none := rfl

theorem alGet_alPut (m : AL κ α) (k x : κ) (v : α) : alGet (alPut m k v) x = if k = x then some v else alGet m x := by
  induction m with
  | nil => simp [alPut, alGet]
  | cons p t ih =>
    obtain ⟨a, w⟩ := p
    by_cases h : a = k
    · subst h; by_cases hx : a = x <;> simp [alPut, alGet, hx]
    · by_cases hx : a = x
      · subst hx; simp [alPut, alGet, h, Ne.symm h]
      · simp [alPut, alGet, h, hx, ih]

@[simp] theorem alGet_alPut_self (m : AL κ α) (k : κ) (v : α) : alGet (alPut m k v) k = some v := by
  simp [alGet_alPut]

@[simp] theorem alGetD_alPut_self (m : AL κ α) (k : κ) (v d : α) : alGetD (alPut m k v) k d = v := by
  simp [alGetD]

theorem alGetD_alPut_ne (m : AL κ α) {k x : κ} (h : k ≠ x) (v d : α) : alGetD (alPut m k v) x d = alGetD m x d := by
  simp [alGetD, alGet_alPut, h]

@[simp] theorem alPut_alPut (m : AL κ α) (k : κ) (v w : α) : alPut (alPut m k v) k w = alPut m k w := by
  induction m with
  | nil => simp [alPut]
  | cons p t ih =>
    obtain ⟨a, u⟩ := p
    by_cases h : a = k <;> simp [alPut, h, ih]

theorem alGet_alDel (m : AL κ α) (k x : κ) : alGet (alDel m k) x = if k = x then none else alGet m x := by
  induction m with
  | nil => simp [alDel]
  | cons p t ih =>
    obtain ⟨a, w⟩ := p
    by_cases h : a = k
    · subst h
      have e : alDel ((a, w) :: t) a = alDel t a := by simp [alDel]
      rw [e, ih]
      by_cases hx : a = x <;> simp [alGet, hx]
    · by_cases hx : a = x
      · subst hx; simp [alDel, alGet, h, Ne.symm h]
      · simp [alDel, alGet, h, hx, ih]

end

/-! ### Reads after updates -/

@[simp] theorem State.core_setCore (s : State) (c : Nat) (x : Core) : (s.setCore c x).core c = x := by
  simp [State.core, State.setCore]
theorem State.core_setCore_ne (s : State) (c : Nat) (x : Core) {y : Nat} (h : c ≠ y) : (s.setCore c x).core y = s.core y := by
  simp [State.core, State.setCore, alGetD_alPut_ne _ h]
@[simp] theorem State.cluster_setCluster (s : State) (c : Nat) (x : Cluster) : (s.setCluster c x).cluster c = x := by
  simp [State.cluster, State.setCluster]
theorem State.cluster_setCluster_ne (s : State) (c : Nat) (x : Cluster) {y : Nat} (h : c ≠ y) : (s.setCluster c x).cluster y = s.cluster y := by
  simp [State.cluster, State.setCluster, alGetD_alPut_ne _ h]
@[simp] theorem State.chamber_setChamber (s : State) (c : Nat) (x : Chamber) : (s.setChamber c x).chamber c = x := by
  simp [State.chamber, State.setChamber]
theorem State.chamber_setChamber_ne (s : State) (c : Nat) (x : Chamber) {y : Nat} (h : c ≠ y) : (s.setChamber c x).chamber y = s.chamber y := by
  simp [State.chamber, State.setChamber, alGetD_alPut_ne _ h]
@[simp] theorem State.region_setRegion (s : State) (c : Nat) (x : Region) : (s.setRegion c x).region c = x := by
  simp [State.region, State.setRegion]
theorem State.region_setRegion_ne (s : State) (c : Nat) (x : Region) {y : Nat} (h : c ≠ y) : (s.setRegion c x).region y = s.region y := by
  simp [State.region, State.setRegion, alGetD_alPut_ne _ h]
@[simp] theorem State.basin_setBasin (s : State) (c : Nat) (x : Basin) : (s.setBasin c x).basin c = x := by
  simp [State.basin, State.setBasin]
theorem State.basin_setBasin_ne (s : State) (c : Nat) (x : Basin) {y : Nat} (h : c ≠ y) : (s.setBasin c x).basin y = s.basin y := by
  simp [State.basin, State.setBasin, alGetD_alPut_ne _ h]
@[simp] theorem State.channel_setChannel (s : State) (c : Nat) (x : Channel) : (s.setChannel c x).channel c = x := by
  simp [State.channel, State.setChannel]
theorem State.channel_setChannel_ne (s : State) (c : Nat) (x : Channel) {y : Nat} (h : c ≠ y) : (s.setChannel c x).channel y = s.channel y := by
  simp [State.channel, State.setChannel, alGetD_alPut_ne _ h]
@[simp] theorem State.slot_setSlot (s : State) (c : Nat) (x : Slot) : (s.setSlot c x).slot c = x := by
  simp [State.slot, State.setSlot]
theorem State.slot_setSlot_ne (s : State) (c : Nat) (x : Slot) {y : Nat} (h : c ≠ y) : (s.setSlot c x).slot y = s.slot y := by
  simp [State.slot, State.setSlot, alGetD_alPut_ne _ h]
@[simp] theorem State.fslot_setFslot (s : State) (c : Nat) (x : FSlot) : (s.setFslot c x).fslot c = x := by
  simp [State.fslot, State.setFslot]
theorem State.fslot_setFslot_ne (s : State) (c : Nat) (x : FSlot) {y : Nat} (h : c ≠ y) : (s.setFslot c x).fslot y = s.fslot y := by
  simp [State.fslot, State.setFslot, alGetD_alPut_ne _ h]
@[simp] theorem State.conn_setConn (s : State) (c : Nat) (x : Conn) : (s.setConn c x).conn c = x := by
  simp [State.conn, State.setConn]
theorem State.conn_setConn_ne (s : State) (c : Nat) (x : Conn) {y : Nat} (h : c ≠ y) : (s.setConn c x).conn y = s.conn y := by
  simp [State.conn, State.setConn, alGetD_alPut_ne _ h]
@[simp] theorem State.port_setPort (s : State) (c : Nat) (x : Port) : (s.setPort c x).port c = x := by
  simp [State.port, State.setPort]
theorem State.port_setPort_ne (s : State) (c : Nat) (x : Port) {y : Nat} (h : c ≠ y) : (s.setPort c x).port y = s.port y := by
  simp [State.port, State.setPort, alGetD_alPut_ne _ h]
@[simp] theorem State.meter_setMeter (s : State) (c : Nat) (x : Meter) : (s.setMeter c x).meter c = x := by
  simp [State.meter, State.setMeter]
theorem State.meter_setMeter_ne (s : State) (c : Nat) (x : Meter) {y : Nat} (h : c ≠ y) : (s.setMeter c x).meter y = s.meter y := by
  simp [State.meter, State.setMeter, alGetD_alPut_ne _ h]
@[simp] theorem State.engine_setEngine (s : State) (c : Nat) (x : Engine) : (s.setEngine c x).engine c = x := by
  simp [State.engine, State.setEngine]
theorem State.engine_setEngine_ne (s : State) (c : Nat) (x : Engine) {y : Nat} (h : c ≠ y) : (s.setEngine c x).engine y = s.engine y := by
  simp [State.engine, State.setEngine, alGetD_alPut_ne _ h]
@[simp] theorem State.keySlot_setKeySlot (s : State) (c : Nat) (x : KeySlot) : (s.setKeySlot c x).keySlot c = x := by
  simp [State.keySlot, State.setKeySlot]
theorem State.keySlot_setKeySlot_ne (s : State) (c : Nat) (x : KeySlot) {y : Nat} (h : c ≠ y) : (s.setKeySlot c x).keySlot y = s.keySlot y := by
  simp [State.keySlot, State.setKeySlot, alGetD_alPut_ne _ h]
@[simp] theorem State.spareMap_setSpareMap (s : State) (c : Nat) (x : SpareMap) : (s.setSpareMap c x).spareMap c = x := by
  simp [State.spareMap, State.setSpareMap]
theorem State.spareMap_setSpareMap_ne (s : State) (c : Nat) (x : SpareMap) {y : Nat} (h : c ≠ y) : (s.setSpareMap c x).spareMap y = s.spareMap y := by
  simp [State.spareMap, State.setSpareMap, alGetD_alPut_ne _ h]
@[simp] theorem State.reg_setReg (s : State) (c : Nat) (x : W64) : (s.setReg c x).reg c = x := by
  simp [State.reg, State.setReg]
theorem State.reg_setReg_ne (s : State) (c : Nat) (x : W64) {y : Nat} (h : c ≠ y) : (s.setReg c x).reg y = s.reg y := by
  simp [State.reg, State.setReg, alGetD_alPut_ne _ h]
@[simp] theorem State.jout_setJout (s : State) (c : Nat) (x : JOut) : (s.setJout c x).jout c = x := by
  simp [State.jout, State.setJout, State.setTwin]
theorem State.jout_setJout_ne (s : State) (c : Nat) (x : JOut) {y : Nat} (h : c ≠ y) : (s.setJout c x).jout y = s.jout y := by
  simp [State.jout, State.setJout, State.setTwin, alGetD_alPut_ne _ h]
@[simp] theorem State.jsrc_setJsrc (s : State) (c : Nat) (x : JSource) : (s.setJsrc c x).jsrc c = x := by
  simp [State.jsrc, State.setJsrc]
theorem State.jsrc_setJsrc_ne (s : State) (c : Nat) (x : JSource) {y : Nat} (h : c ≠ y) : (s.setJsrc c x).jsrc y = s.jsrc y := by
  simp [State.jsrc, State.setJsrc, alGetD_alPut_ne _ h]

@[simp] theorem State.setCore_setCore (s : State) (c : Nat) (x y : Core) : (s.setCore c x).setCore c y = s.setCore c y := by
  simp [State.setCore]
@[simp] theorem State.setCluster_setCluster (s : State) (c : Nat) (x y : Cluster) : (s.setCluster c x).setCluster c y = s.setCluster c y := by
  simp [State.setCluster]
@[simp] theorem State.setBasin_setBasin (s : State) (c : Nat) (x y : Basin) : (s.setBasin c x).setBasin c y = s.setBasin c y := by
  simp [State.setBasin]
@[simp] theorem State.setChamber_setChamber (s : State) (c : Nat) (x y : Chamber) : (s.setChamber c x).setChamber c y = s.setChamber c y := by
  simp [State.setChamber]

/-! Readers of components that an update leaves alone. -/

@[simp] theorem State.core_of_setReg (s : State) (o : Nat) (v : W64) (y : Nat) : (s.setReg o v).core y = s.core y := rfl
@[simp] theorem State.cluster_of_setReg (s : State) (o : Nat) (v : W64) (y : Nat) : (s.setReg o v).cluster y = s.cluster y := rfl
@[simp] theorem State.chamber_of_setReg (s : State) (o : Nat) (v : W64) (y : Nat) : (s.setReg o v).chamber y = s.chamber y := rfl
@[simp] theorem State.region_of_setReg (s : State) (o : Nat) (v : W64) (y : Nat) : (s.setReg o v).region y = s.region y := rfl
@[simp] theorem State.basin_of_setReg (s : State) (o : Nat) (v : W64) (y : Nat) : (s.setReg o v).basin y = s.basin y := rfl
@[simp] theorem State.channel_of_setReg (s : State) (o : Nat) (v : W64) (y : Nat) : (s.setReg o v).channel y = s.channel y := rfl
@[simp] theorem State.slot_of_setReg (s : State) (o : Nat) (v : W64) (y : Nat) : (s.setReg o v).slot y = s.slot y := rfl
@[simp] theorem State.conn_of_setReg (s : State) (o : Nat) (v : W64) (y : Nat) : (s.setReg o v).conn y = s.conn y := rfl
@[simp] theorem State.keySlot_of_setReg (s : State) (o : Nat) (v : W64) (y : Nat) : (s.setReg o v).keySlot y = s.keySlot y := rfl
@[simp] theorem State.fslot_of_setReg (s : State) (o : Nat) (v : W64) (y : Nat) : (s.setReg o v).fslot y = s.fslot y := rfl
@[simp] theorem State.now_of_setReg (s : State) (o : Nat) (v : W64) : (s.setReg o v).now = s.now := rfl
@[simp] theorem State.core_of_setFld (s : State) (o l w x : Nat) (y : Nat) : (s.setFld o l w x).core y = s.core y := rfl
@[simp] theorem State.cluster_of_setFld (s : State) (o l w x : Nat) (y : Nat) : (s.setFld o l w x).cluster y = s.cluster y := rfl
@[simp] theorem State.chamber_of_setFld (s : State) (o l w x : Nat) (y : Nat) : (s.setFld o l w x).chamber y = s.chamber y := rfl
@[simp] theorem State.region_of_setFld (s : State) (o l w x : Nat) (y : Nat) : (s.setFld o l w x).region y = s.region y := rfl
@[simp] theorem State.basin_of_setFld (s : State) (o l w x : Nat) (y : Nat) : (s.setFld o l w x).basin y = s.basin y := rfl
@[simp] theorem State.channel_of_setFld (s : State) (o l w x : Nat) (y : Nat) : (s.setFld o l w x).channel y = s.channel y := rfl
@[simp] theorem State.slot_of_setFld (s : State) (o l w x : Nat) (y : Nat) : (s.setFld o l w x).slot y = s.slot y := rfl
@[simp] theorem State.conn_of_setFld (s : State) (o l w x : Nat) (y : Nat) : (s.setFld o l w x).conn y = s.conn y := rfl
@[simp] theorem State.keySlot_of_setFld (s : State) (o l w x : Nat) (y : Nat) : (s.setFld o l w x).keySlot y = s.keySlot y := rfl
@[simp] theorem State.fslot_of_setFld (s : State) (o l w x : Nat) (y : Nat) : (s.setFld o l w x).fslot y = s.fslot y := rfl
@[simp] theorem State.now_of_setFld (s : State) (o l w x : Nat) : (s.setFld o l w x).now = s.now := rfl
@[simp] theorem State.core_of_bump (s : State) (o l w d : Nat) (y : Nat) : (s.bump o l w d).core y = s.core y := rfl
@[simp] theorem State.cluster_of_bump (s : State) (o l w d : Nat) (y : Nat) : (s.bump o l w d).cluster y = s.cluster y := rfl
@[simp] theorem State.chamber_of_bump (s : State) (o l w d : Nat) (y : Nat) : (s.bump o l w d).chamber y = s.chamber y := rfl
@[simp] theorem State.region_of_bump (s : State) (o l w d : Nat) (y : Nat) : (s.bump o l w d).region y = s.region y := rfl
@[simp] theorem State.basin_of_bump (s : State) (o l w d : Nat) (y : Nat) : (s.bump o l w d).basin y = s.basin y := rfl
@[simp] theorem State.channel_of_bump (s : State) (o l w d : Nat) (y : Nat) : (s.bump o l w d).channel y = s.channel y := rfl
@[simp] theorem State.slot_of_bump (s : State) (o l w d : Nat) (y : Nat) : (s.bump o l w d).slot y = s.slot y := rfl
@[simp] theorem State.conn_of_bump (s : State) (o l w d : Nat) (y : Nat) : (s.bump o l w d).conn y = s.conn y := rfl
@[simp] theorem State.keySlot_of_bump (s : State) (o l w d : Nat) (y : Nat) : (s.bump o l w d).keySlot y = s.keySlot y := rfl
@[simp] theorem State.fslot_of_bump (s : State) (o l w d : Nat) (y : Nat) : (s.bump o l w d).fslot y = s.fslot y := rfl
@[simp] theorem State.now_of_bump (s : State) (o l w d : Nat) : (s.bump o l w d).now = s.now := rfl
@[simp] theorem State.core_of_drawn (s : State) (y : Nat) : (s.drawn ).core y = s.core y := rfl
@[simp] theorem State.cluster_of_drawn (s : State) (y : Nat) : (s.drawn ).cluster y = s.cluster y := rfl
@[simp] theorem State.chamber_of_drawn (s : State) (y : Nat) : (s.drawn ).chamber y = s.chamber y := rfl
@[simp] theorem State.region_of_drawn (s : State) (y : Nat) : (s.drawn ).region y = s.region y := rfl
@[simp] theorem State.basin_of_drawn (s : State) (y : Nat) : (s.drawn ).basin y = s.basin y := rfl
@[simp] theorem State.channel_of_drawn (s : State) (y : Nat) : (s.drawn ).channel y = s.channel y := rfl
@[simp] theorem State.slot_of_drawn (s : State) (y : Nat) : (s.drawn ).slot y = s.slot y := rfl
@[simp] theorem State.conn_of_drawn (s : State) (y : Nat) : (s.drawn ).conn y = s.conn y := rfl
@[simp] theorem State.reg_of_drawn (s : State) (y : Nat) : (s.drawn ).reg y = s.reg y := rfl
@[simp] theorem State.keySlot_of_drawn (s : State) (y : Nat) : (s.drawn ).keySlot y = s.keySlot y := rfl
@[simp] theorem State.fslot_of_drawn (s : State) (y : Nat) : (s.drawn ).fslot y = s.fslot y := rfl
@[simp] theorem State.now_of_drawn (s : State) : (s.drawn ).now = s.now := rfl
@[simp] theorem State.fld_of_drawn (s : State) (o1 l1 w1 : Nat) : (s.drawn ).fld o1 l1 w1 = s.fld o1 l1 w1 := rfl
@[simp] theorem State.core_of_setDram (s : State) (m : Memory) (y : Nat) : (s.setDram m).core y = s.core y := rfl
@[simp] theorem State.cluster_of_setDram (s : State) (m : Memory) (y : Nat) : (s.setDram m).cluster y = s.cluster y := rfl
@[simp] theorem State.chamber_of_setDram (s : State) (m : Memory) (y : Nat) : (s.setDram m).chamber y = s.chamber y := rfl
@[simp] theorem State.region_of_setDram (s : State) (m : Memory) (y : Nat) : (s.setDram m).region y = s.region y := rfl
@[simp] theorem State.basin_of_setDram (s : State) (m : Memory) (y : Nat) : (s.setDram m).basin y = s.basin y := rfl
@[simp] theorem State.channel_of_setDram (s : State) (m : Memory) (y : Nat) : (s.setDram m).channel y = s.channel y := rfl
@[simp] theorem State.slot_of_setDram (s : State) (m : Memory) (y : Nat) : (s.setDram m).slot y = s.slot y := rfl
@[simp] theorem State.conn_of_setDram (s : State) (m : Memory) (y : Nat) : (s.setDram m).conn y = s.conn y := rfl
@[simp] theorem State.reg_of_setDram (s : State) (m : Memory) (y : Nat) : (s.setDram m).reg y = s.reg y := rfl
@[simp] theorem State.keySlot_of_setDram (s : State) (m : Memory) (y : Nat) : (s.setDram m).keySlot y = s.keySlot y := rfl
@[simp] theorem State.fslot_of_setDram (s : State) (m : Memory) (y : Nat) : (s.setDram m).fslot y = s.fslot y := rfl
@[simp] theorem State.now_of_setDram (s : State) (m : Memory) : (s.setDram m).now = s.now := rfl
@[simp] theorem State.fld_of_setDram (s : State) (m : Memory) (o1 l1 w1 : Nat) : (s.setDram m).fld o1 l1 w1 = s.fld o1 l1 w1 := rfl
@[simp] theorem State.cluster_of_setCore (s : State) (c : Nat) (x : Core) (y : Nat) : (s.setCore c x).cluster y = s.cluster y := rfl
@[simp] theorem State.chamber_of_setCore (s : State) (c : Nat) (x : Core) (y : Nat) : (s.setCore c x).chamber y = s.chamber y := rfl
@[simp] theorem State.region_of_setCore (s : State) (c : Nat) (x : Core) (y : Nat) : (s.setCore c x).region y = s.region y := rfl
@[simp] theorem State.basin_of_setCore (s : State) (c : Nat) (x : Core) (y : Nat) : (s.setCore c x).basin y = s.basin y := rfl
@[simp] theorem State.channel_of_setCore (s : State) (c : Nat) (x : Core) (y : Nat) : (s.setCore c x).channel y = s.channel y := rfl
@[simp] theorem State.slot_of_setCore (s : State) (c : Nat) (x : Core) (y : Nat) : (s.setCore c x).slot y = s.slot y := rfl
@[simp] theorem State.conn_of_setCore (s : State) (c : Nat) (x : Core) (y : Nat) : (s.setCore c x).conn y = s.conn y := rfl
@[simp] theorem State.reg_of_setCore (s : State) (c : Nat) (x : Core) (y : Nat) : (s.setCore c x).reg y = s.reg y := rfl
@[simp] theorem State.keySlot_of_setCore (s : State) (c : Nat) (x : Core) (y : Nat) : (s.setCore c x).keySlot y = s.keySlot y := rfl
@[simp] theorem State.fslot_of_setCore (s : State) (c : Nat) (x : Core) (y : Nat) : (s.setCore c x).fslot y = s.fslot y := rfl
@[simp] theorem State.now_of_setCore (s : State) (c : Nat) (x : Core) : (s.setCore c x).now = s.now := rfl
@[simp] theorem State.fld_of_setCore (s : State) (c : Nat) (x : Core) (o1 l1 w1 : Nat) : (s.setCore c x).fld o1 l1 w1 = s.fld o1 l1 w1 := rfl
@[simp] theorem State.cluster_of_setRun (s : State) (c : Nat) (r : Run) (y : Nat) : (s.setRun c r).cluster y = s.cluster y := rfl
@[simp] theorem State.chamber_of_setRun (s : State) (c : Nat) (r : Run) (y : Nat) : (s.setRun c r).chamber y = s.chamber y := rfl
@[simp] theorem State.region_of_setRun (s : State) (c : Nat) (r : Run) (y : Nat) : (s.setRun c r).region y = s.region y := rfl
@[simp] theorem State.basin_of_setRun (s : State) (c : Nat) (r : Run) (y : Nat) : (s.setRun c r).basin y = s.basin y := rfl
@[simp] theorem State.channel_of_setRun (s : State) (c : Nat) (r : Run) (y : Nat) : (s.setRun c r).channel y = s.channel y := rfl
@[simp] theorem State.slot_of_setRun (s : State) (c : Nat) (r : Run) (y : Nat) : (s.setRun c r).slot y = s.slot y := rfl
@[simp] theorem State.conn_of_setRun (s : State) (c : Nat) (r : Run) (y : Nat) : (s.setRun c r).conn y = s.conn y := rfl
@[simp] theorem State.reg_of_setRun (s : State) (c : Nat) (r : Run) (y : Nat) : (s.setRun c r).reg y = s.reg y := rfl
@[simp] theorem State.keySlot_of_setRun (s : State) (c : Nat) (r : Run) (y : Nat) : (s.setRun c r).keySlot y = s.keySlot y := rfl
@[simp] theorem State.fslot_of_setRun (s : State) (c : Nat) (r : Run) (y : Nat) : (s.setRun c r).fslot y = s.fslot y := rfl
@[simp] theorem State.now_of_setRun (s : State) (c : Nat) (r : Run) : (s.setRun c r).now = s.now := rfl
@[simp] theorem State.fld_of_setRun (s : State) (c : Nat) (r : Run) (o1 l1 w1 : Nat) : (s.setRun c r).fld o1 l1 w1 = s.fld o1 l1 w1 := rfl
@[simp] theorem State.core_of_setCluster (s : State) (c : Nat) (x : Cluster) (y : Nat) : (s.setCluster c x).core y = s.core y := rfl
@[simp] theorem State.chamber_of_setCluster (s : State) (c : Nat) (x : Cluster) (y : Nat) : (s.setCluster c x).chamber y = s.chamber y := rfl
@[simp] theorem State.region_of_setCluster (s : State) (c : Nat) (x : Cluster) (y : Nat) : (s.setCluster c x).region y = s.region y := rfl
@[simp] theorem State.basin_of_setCluster (s : State) (c : Nat) (x : Cluster) (y : Nat) : (s.setCluster c x).basin y = s.basin y := rfl
@[simp] theorem State.channel_of_setCluster (s : State) (c : Nat) (x : Cluster) (y : Nat) : (s.setCluster c x).channel y = s.channel y := rfl
@[simp] theorem State.slot_of_setCluster (s : State) (c : Nat) (x : Cluster) (y : Nat) : (s.setCluster c x).slot y = s.slot y := rfl
@[simp] theorem State.conn_of_setCluster (s : State) (c : Nat) (x : Cluster) (y : Nat) : (s.setCluster c x).conn y = s.conn y := rfl
@[simp] theorem State.reg_of_setCluster (s : State) (c : Nat) (x : Cluster) (y : Nat) : (s.setCluster c x).reg y = s.reg y := rfl
@[simp] theorem State.keySlot_of_setCluster (s : State) (c : Nat) (x : Cluster) (y : Nat) : (s.setCluster c x).keySlot y = s.keySlot y := rfl
@[simp] theorem State.fslot_of_setCluster (s : State) (c : Nat) (x : Cluster) (y : Nat) : (s.setCluster c x).fslot y = s.fslot y := rfl
@[simp] theorem State.now_of_setCluster (s : State) (c : Nat) (x : Cluster) : (s.setCluster c x).now = s.now := rfl
@[simp] theorem State.fld_of_setCluster (s : State) (c : Nat) (x : Cluster) (o1 l1 w1 : Nat) : (s.setCluster c x).fld o1 l1 w1 = s.fld o1 l1 w1 := rfl
@[simp] theorem State.core_of_setChamber (s : State) (c : Nat) (x : Chamber) (y : Nat) : (s.setChamber c x).core y = s.core y := rfl
@[simp] theorem State.cluster_of_setChamber (s : State) (c : Nat) (x : Chamber) (y : Nat) : (s.setChamber c x).cluster y = s.cluster y := rfl
@[simp] theorem State.region_of_setChamber (s : State) (c : Nat) (x : Chamber) (y : Nat) : (s.setChamber c x).region y = s.region y := rfl
@[simp] theorem State.basin_of_setChamber (s : State) (c : Nat) (x : Chamber) (y : Nat) : (s.setChamber c x).basin y = s.basin y := rfl
@[simp] theorem State.channel_of_setChamber (s : State) (c : Nat) (x : Chamber) (y : Nat) : (s.setChamber c x).channel y = s.channel y := rfl
@[simp] theorem State.slot_of_setChamber (s : State) (c : Nat) (x : Chamber) (y : Nat) : (s.setChamber c x).slot y = s.slot y := rfl
@[simp] theorem State.conn_of_setChamber (s : State) (c : Nat) (x : Chamber) (y : Nat) : (s.setChamber c x).conn y = s.conn y := rfl
@[simp] theorem State.reg_of_setChamber (s : State) (c : Nat) (x : Chamber) (y : Nat) : (s.setChamber c x).reg y = s.reg y := rfl
@[simp] theorem State.keySlot_of_setChamber (s : State) (c : Nat) (x : Chamber) (y : Nat) : (s.setChamber c x).keySlot y = s.keySlot y := rfl
@[simp] theorem State.fslot_of_setChamber (s : State) (c : Nat) (x : Chamber) (y : Nat) : (s.setChamber c x).fslot y = s.fslot y := rfl
@[simp] theorem State.now_of_setChamber (s : State) (c : Nat) (x : Chamber) : (s.setChamber c x).now = s.now := rfl
@[simp] theorem State.fld_of_setChamber (s : State) (c : Nat) (x : Chamber) (o1 l1 w1 : Nat) : (s.setChamber c x).fld o1 l1 w1 = s.fld o1 l1 w1 := rfl
@[simp] theorem State.core_of_setRegion (s : State) (c : Nat) (x : Region) (y : Nat) : (s.setRegion c x).core y = s.core y := rfl
@[simp] theorem State.cluster_of_setRegion (s : State) (c : Nat) (x : Region) (y : Nat) : (s.setRegion c x).cluster y = s.cluster y := rfl
@[simp] theorem State.chamber_of_setRegion (s : State) (c : Nat) (x : Region) (y : Nat) : (s.setRegion c x).chamber y = s.chamber y := rfl
@[simp] theorem State.basin_of_setRegion (s : State) (c : Nat) (x : Region) (y : Nat) : (s.setRegion c x).basin y = s.basin y := rfl
@[simp] theorem State.channel_of_setRegion (s : State) (c : Nat) (x : Region) (y : Nat) : (s.setRegion c x).channel y = s.channel y := rfl
@[simp] theorem State.slot_of_setRegion (s : State) (c : Nat) (x : Region) (y : Nat) : (s.setRegion c x).slot y = s.slot y := rfl
@[simp] theorem State.conn_of_setRegion (s : State) (c : Nat) (x : Region) (y : Nat) : (s.setRegion c x).conn y = s.conn y := rfl
@[simp] theorem State.reg_of_setRegion (s : State) (c : Nat) (x : Region) (y : Nat) : (s.setRegion c x).reg y = s.reg y := rfl
@[simp] theorem State.keySlot_of_setRegion (s : State) (c : Nat) (x : Region) (y : Nat) : (s.setRegion c x).keySlot y = s.keySlot y := rfl
@[simp] theorem State.fslot_of_setRegion (s : State) (c : Nat) (x : Region) (y : Nat) : (s.setRegion c x).fslot y = s.fslot y := rfl
@[simp] theorem State.now_of_setRegion (s : State) (c : Nat) (x : Region) : (s.setRegion c x).now = s.now := rfl
@[simp] theorem State.fld_of_setRegion (s : State) (c : Nat) (x : Region) (o1 l1 w1 : Nat) : (s.setRegion c x).fld o1 l1 w1 = s.fld o1 l1 w1 := rfl
@[simp] theorem State.core_of_setSpareMap (s : State) (c : Nat) (x : SpareMap) (y : Nat) : (s.setSpareMap c x).core y = s.core y := rfl
@[simp] theorem State.cluster_of_setSpareMap (s : State) (c : Nat) (x : SpareMap) (y : Nat) : (s.setSpareMap c x).cluster y = s.cluster y := rfl
@[simp] theorem State.chamber_of_setSpareMap (s : State) (c : Nat) (x : SpareMap) (y : Nat) : (s.setSpareMap c x).chamber y = s.chamber y := rfl
@[simp] theorem State.region_of_setSpareMap (s : State) (c : Nat) (x : SpareMap) (y : Nat) : (s.setSpareMap c x).region y = s.region y := rfl
@[simp] theorem State.basin_of_setSpareMap (s : State) (c : Nat) (x : SpareMap) (y : Nat) : (s.setSpareMap c x).basin y = s.basin y := rfl
@[simp] theorem State.channel_of_setSpareMap (s : State) (c : Nat) (x : SpareMap) (y : Nat) : (s.setSpareMap c x).channel y = s.channel y := rfl
@[simp] theorem State.slot_of_setSpareMap (s : State) (c : Nat) (x : SpareMap) (y : Nat) : (s.setSpareMap c x).slot y = s.slot y := rfl
@[simp] theorem State.conn_of_setSpareMap (s : State) (c : Nat) (x : SpareMap) (y : Nat) : (s.setSpareMap c x).conn y = s.conn y := rfl
@[simp] theorem State.reg_of_setSpareMap (s : State) (c : Nat) (x : SpareMap) (y : Nat) : (s.setSpareMap c x).reg y = s.reg y := rfl
@[simp] theorem State.keySlot_of_setSpareMap (s : State) (c : Nat) (x : SpareMap) (y : Nat) : (s.setSpareMap c x).keySlot y = s.keySlot y := rfl
@[simp] theorem State.fslot_of_setSpareMap (s : State) (c : Nat) (x : SpareMap) (y : Nat) : (s.setSpareMap c x).fslot y = s.fslot y := rfl
@[simp] theorem State.now_of_setSpareMap (s : State) (c : Nat) (x : SpareMap) : (s.setSpareMap c x).now = s.now := rfl
@[simp] theorem State.fld_of_setSpareMap (s : State) (c : Nat) (x : SpareMap) (o1 l1 w1 : Nat) : (s.setSpareMap c x).fld o1 l1 w1 = s.fld o1 l1 w1 := rfl
@[simp] theorem State.core_of_setSvc (s : State) (x : Option Svc) (y : Nat) : (s.setSvc x).core y = s.core y := rfl
@[simp] theorem State.cluster_of_setSvc (s : State) (x : Option Svc) (y : Nat) : (s.setSvc x).cluster y = s.cluster y := rfl
@[simp] theorem State.chamber_of_setSvc (s : State) (x : Option Svc) (y : Nat) : (s.setSvc x).chamber y = s.chamber y := rfl
@[simp] theorem State.region_of_setSvc (s : State) (x : Option Svc) (y : Nat) : (s.setSvc x).region y = s.region y := rfl
@[simp] theorem State.basin_of_setSvc (s : State) (x : Option Svc) (y : Nat) : (s.setSvc x).basin y = s.basin y := rfl
@[simp] theorem State.channel_of_setSvc (s : State) (x : Option Svc) (y : Nat) : (s.setSvc x).channel y = s.channel y := rfl
@[simp] theorem State.slot_of_setSvc (s : State) (x : Option Svc) (y : Nat) : (s.setSvc x).slot y = s.slot y := rfl
@[simp] theorem State.conn_of_setSvc (s : State) (x : Option Svc) (y : Nat) : (s.setSvc x).conn y = s.conn y := rfl
@[simp] theorem State.reg_of_setSvc (s : State) (x : Option Svc) (y : Nat) : (s.setSvc x).reg y = s.reg y := rfl
@[simp] theorem State.keySlot_of_setSvc (s : State) (x : Option Svc) (y : Nat) : (s.setSvc x).keySlot y = s.keySlot y := rfl
@[simp] theorem State.fslot_of_setSvc (s : State) (x : Option Svc) (y : Nat) : (s.setSvc x).fslot y = s.fslot y := rfl
@[simp] theorem State.now_of_setSvc (s : State) (x : Option Svc) : (s.setSvc x).now = s.now := rfl
@[simp] theorem State.fld_of_setSvc (s : State) (x : Option Svc) (o1 l1 w1 : Nat) : (s.setSvc x).fld o1 l1 w1 = s.fld o1 l1 w1 := rfl
@[simp] theorem State.core_of_setBasin (s : State) (b : Nat) (x : Basin) (y : Nat) : (s.setBasin b x).core y = s.core y := rfl
@[simp] theorem State.cluster_of_setBasin (s : State) (b : Nat) (x : Basin) (y : Nat) : (s.setBasin b x).cluster y = s.cluster y := rfl
@[simp] theorem State.chamber_of_setBasin (s : State) (b : Nat) (x : Basin) (y : Nat) : (s.setBasin b x).chamber y = s.chamber y := rfl
@[simp] theorem State.region_of_setBasin (s : State) (b : Nat) (x : Basin) (y : Nat) : (s.setBasin b x).region y = s.region y := rfl
@[simp] theorem State.channel_of_setBasin (s : State) (b : Nat) (x : Basin) (y : Nat) : (s.setBasin b x).channel y = s.channel y := rfl
@[simp] theorem State.slot_of_setBasin (s : State) (b : Nat) (x : Basin) (y : Nat) : (s.setBasin b x).slot y = s.slot y := rfl
@[simp] theorem State.conn_of_setBasin (s : State) (b : Nat) (x : Basin) (y : Nat) : (s.setBasin b x).conn y = s.conn y := rfl
@[simp] theorem State.reg_of_setBasin (s : State) (b : Nat) (x : Basin) (y : Nat) : (s.setBasin b x).reg y = s.reg y := rfl
@[simp] theorem State.keySlot_of_setBasin (s : State) (b : Nat) (x : Basin) (y : Nat) : (s.setBasin b x).keySlot y = s.keySlot y := rfl
@[simp] theorem State.fslot_of_setBasin (s : State) (b : Nat) (x : Basin) (y : Nat) : (s.setBasin b x).fslot y = s.fslot y := rfl
@[simp] theorem State.now_of_setBasin (s : State) (b : Nat) (x : Basin) : (s.setBasin b x).now = s.now := rfl
@[simp] theorem State.fld_of_setBasin (s : State) (b : Nat) (x : Basin) (o1 l1 w1 : Nat) : (s.setBasin b x).fld o1 l1 w1 = s.fld o1 l1 w1 := rfl
@[simp] theorem State.core_of_setJobs (s : State) (x : List Job) (y : Nat) : (s.setJobs x).core y = s.core y := rfl
@[simp] theorem State.cluster_of_setJobs (s : State) (x : List Job) (y : Nat) : (s.setJobs x).cluster y = s.cluster y := rfl
@[simp] theorem State.chamber_of_setJobs (s : State) (x : List Job) (y : Nat) : (s.setJobs x).chamber y = s.chamber y := rfl
@[simp] theorem State.region_of_setJobs (s : State) (x : List Job) (y : Nat) : (s.setJobs x).region y = s.region y := rfl
@[simp] theorem State.basin_of_setJobs (s : State) (x : List Job) (y : Nat) : (s.setJobs x).basin y = s.basin y := rfl
@[simp] theorem State.channel_of_setJobs (s : State) (x : List Job) (y : Nat) : (s.setJobs x).channel y = s.channel y := rfl
@[simp] theorem State.slot_of_setJobs (s : State) (x : List Job) (y : Nat) : (s.setJobs x).slot y = s.slot y := rfl
@[simp] theorem State.conn_of_setJobs (s : State) (x : List Job) (y : Nat) : (s.setJobs x).conn y = s.conn y := rfl
@[simp] theorem State.reg_of_setJobs (s : State) (x : List Job) (y : Nat) : (s.setJobs x).reg y = s.reg y := rfl
@[simp] theorem State.keySlot_of_setJobs (s : State) (x : List Job) (y : Nat) : (s.setJobs x).keySlot y = s.keySlot y := rfl
@[simp] theorem State.fslot_of_setJobs (s : State) (x : List Job) (y : Nat) : (s.setJobs x).fslot y = s.fslot y := rfl
@[simp] theorem State.now_of_setJobs (s : State) (x : List Job) : (s.setJobs x).now = s.now := rfl
@[simp] theorem State.fld_of_setJobs (s : State) (x : List Job) (o1 l1 w1 : Nat) : (s.setJobs x).fld o1 l1 w1 = s.fld o1 l1 w1 := rfl
@[simp] theorem State.core_of_setChannel (s : State) (c : Nat) (x : Channel) (y : Nat) : (s.setChannel c x).core y = s.core y := rfl
@[simp] theorem State.cluster_of_setChannel (s : State) (c : Nat) (x : Channel) (y : Nat) : (s.setChannel c x).cluster y = s.cluster y := rfl
@[simp] theorem State.chamber_of_setChannel (s : State) (c : Nat) (x : Channel) (y : Nat) : (s.setChannel c x).chamber y = s.chamber y := rfl
@[simp] theorem State.region_of_setChannel (s : State) (c : Nat) (x : Channel) (y : Nat) : (s.setChannel c x).region y = s.region y := rfl
@[simp] theorem State.basin_of_setChannel (s : State) (c : Nat) (x : Channel) (y : Nat) : (s.setChannel c x).basin y = s.basin y := rfl
@[simp] theorem State.slot_of_setChannel (s : State) (c : Nat) (x : Channel) (y : Nat) : (s.setChannel c x).slot y = s.slot y := rfl
@[simp] theorem State.conn_of_setChannel (s : State) (c : Nat) (x : Channel) (y : Nat) : (s.setChannel c x).conn y = s.conn y := rfl
@[simp] theorem State.reg_of_setChannel (s : State) (c : Nat) (x : Channel) (y : Nat) : (s.setChannel c x).reg y = s.reg y := rfl
@[simp] theorem State.keySlot_of_setChannel (s : State) (c : Nat) (x : Channel) (y : Nat) : (s.setChannel c x).keySlot y = s.keySlot y := rfl
@[simp] theorem State.fslot_of_setChannel (s : State) (c : Nat) (x : Channel) (y : Nat) : (s.setChannel c x).fslot y = s.fslot y := rfl
@[simp] theorem State.now_of_setChannel (s : State) (c : Nat) (x : Channel) : (s.setChannel c x).now = s.now := rfl
@[simp] theorem State.fld_of_setChannel (s : State) (c : Nat) (x : Channel) (o1 l1 w1 : Nat) : (s.setChannel c x).fld o1 l1 w1 = s.fld o1 l1 w1 := rfl
@[simp] theorem State.core_of_setSlot (s : State) (n : Nat) (x : Slot) (y : Nat) : (s.setSlot n x).core y = s.core y := rfl
@[simp] theorem State.cluster_of_setSlot (s : State) (n : Nat) (x : Slot) (y : Nat) : (s.setSlot n x).cluster y = s.cluster y := rfl
@[simp] theorem State.chamber_of_setSlot (s : State) (n : Nat) (x : Slot) (y : Nat) : (s.setSlot n x).chamber y = s.chamber y := rfl
@[simp] theorem State.region_of_setSlot (s : State) (n : Nat) (x : Slot) (y : Nat) : (s.setSlot n x).region y = s.region y := rfl
@[simp] theorem State.basin_of_setSlot (s : State) (n : Nat) (x : Slot) (y : Nat) : (s.setSlot n x).basin y = s.basin y := rfl
@[simp] theorem State.channel_of_setSlot (s : State) (n : Nat) (x : Slot) (y : Nat) : (s.setSlot n x).channel y = s.channel y := rfl
@[simp] theorem State.conn_of_setSlot (s : State) (n : Nat) (x : Slot) (y : Nat) : (s.setSlot n x).conn y = s.conn y := rfl
@[simp] theorem State.reg_of_setSlot (s : State) (n : Nat) (x : Slot) (y : Nat) : (s.setSlot n x).reg y = s.reg y := rfl
@[simp] theorem State.keySlot_of_setSlot (s : State) (n : Nat) (x : Slot) (y : Nat) : (s.setSlot n x).keySlot y = s.keySlot y := rfl
@[simp] theorem State.fslot_of_setSlot (s : State) (n : Nat) (x : Slot) (y : Nat) : (s.setSlot n x).fslot y = s.fslot y := rfl
@[simp] theorem State.now_of_setSlot (s : State) (n : Nat) (x : Slot) : (s.setSlot n x).now = s.now := rfl
@[simp] theorem State.fld_of_setSlot (s : State) (n : Nat) (x : Slot) (o1 l1 w1 : Nat) : (s.setSlot n x).fld o1 l1 w1 = s.fld o1 l1 w1 := rfl
@[simp] theorem State.core_of_setObj (s : State) (t o : Nat) (x : Obj) (y : Nat) : (s.setObj t o x).core y = s.core y := rfl
@[simp] theorem State.cluster_of_setObj (s : State) (t o : Nat) (x : Obj) (y : Nat) : (s.setObj t o x).cluster y = s.cluster y := rfl
@[simp] theorem State.chamber_of_setObj (s : State) (t o : Nat) (x : Obj) (y : Nat) : (s.setObj t o x).chamber y = s.chamber y := rfl
@[simp] theorem State.region_of_setObj (s : State) (t o : Nat) (x : Obj) (y : Nat) : (s.setObj t o x).region y = s.region y := rfl
@[simp] theorem State.basin_of_setObj (s : State) (t o : Nat) (x : Obj) (y : Nat) : (s.setObj t o x).basin y = s.basin y := rfl
@[simp] theorem State.channel_of_setObj (s : State) (t o : Nat) (x : Obj) (y : Nat) : (s.setObj t o x).channel y = s.channel y := rfl
@[simp] theorem State.slot_of_setObj (s : State) (t o : Nat) (x : Obj) (y : Nat) : (s.setObj t o x).slot y = s.slot y := rfl
@[simp] theorem State.conn_of_setObj (s : State) (t o : Nat) (x : Obj) (y : Nat) : (s.setObj t o x).conn y = s.conn y := rfl
@[simp] theorem State.reg_of_setObj (s : State) (t o : Nat) (x : Obj) (y : Nat) : (s.setObj t o x).reg y = s.reg y := rfl
@[simp] theorem State.keySlot_of_setObj (s : State) (t o : Nat) (x : Obj) (y : Nat) : (s.setObj t o x).keySlot y = s.keySlot y := rfl
@[simp] theorem State.fslot_of_setObj (s : State) (t o : Nat) (x : Obj) (y : Nat) : (s.setObj t o x).fslot y = s.fslot y := rfl
@[simp] theorem State.now_of_setObj (s : State) (t o : Nat) (x : Obj) : (s.setObj t o x).now = s.now := rfl
@[simp] theorem State.fld_of_setObj (s : State) (t o : Nat) (x : Obj) (o1 l1 w1 : Nat) : (s.setObj t o x).fld o1 l1 w1 = s.fld o1 l1 w1 := rfl
@[simp] theorem State.core_of_setLayer (s : State) (k : LayerKey) (x : Layer) (y : Nat) : (s.setLayer k x).core y = s.core y := rfl
@[simp] theorem State.cluster_of_setLayer (s : State) (k : LayerKey) (x : Layer) (y : Nat) : (s.setLayer k x).cluster y = s.cluster y := rfl
@[simp] theorem State.chamber_of_setLayer (s : State) (k : LayerKey) (x : Layer) (y : Nat) : (s.setLayer k x).chamber y = s.chamber y := rfl
@[simp] theorem State.region_of_setLayer (s : State) (k : LayerKey) (x : Layer) (y : Nat) : (s.setLayer k x).region y = s.region y := rfl
@[simp] theorem State.basin_of_setLayer (s : State) (k : LayerKey) (x : Layer) (y : Nat) : (s.setLayer k x).basin y = s.basin y := rfl
@[simp] theorem State.channel_of_setLayer (s : State) (k : LayerKey) (x : Layer) (y : Nat) : (s.setLayer k x).channel y = s.channel y := rfl
@[simp] theorem State.slot_of_setLayer (s : State) (k : LayerKey) (x : Layer) (y : Nat) : (s.setLayer k x).slot y = s.slot y := rfl
@[simp] theorem State.conn_of_setLayer (s : State) (k : LayerKey) (x : Layer) (y : Nat) : (s.setLayer k x).conn y = s.conn y := rfl
@[simp] theorem State.reg_of_setLayer (s : State) (k : LayerKey) (x : Layer) (y : Nat) : (s.setLayer k x).reg y = s.reg y := rfl
@[simp] theorem State.keySlot_of_setLayer (s : State) (k : LayerKey) (x : Layer) (y : Nat) : (s.setLayer k x).keySlot y = s.keySlot y := rfl
@[simp] theorem State.fslot_of_setLayer (s : State) (k : LayerKey) (x : Layer) (y : Nat) : (s.setLayer k x).fslot y = s.fslot y := rfl
@[simp] theorem State.now_of_setLayer (s : State) (k : LayerKey) (x : Layer) : (s.setLayer k x).now = s.now := rfl
@[simp] theorem State.fld_of_setLayer (s : State) (k : LayerKey) (x : Layer) (o1 l1 w1 : Nat) : (s.setLayer k x).fld o1 l1 w1 = s.fld o1 l1 w1 := rfl
@[simp] theorem State.core_of_setBarge (s : State) (k : BerthKey) (x : Barge) (y : Nat) : (s.setBarge k x).core y = s.core y := rfl
@[simp] theorem State.cluster_of_setBarge (s : State) (k : BerthKey) (x : Barge) (y : Nat) : (s.setBarge k x).cluster y = s.cluster y := rfl
@[simp] theorem State.chamber_of_setBarge (s : State) (k : BerthKey) (x : Barge) (y : Nat) : (s.setBarge k x).chamber y = s.chamber y := rfl
@[simp] theorem State.region_of_setBarge (s : State) (k : BerthKey) (x : Barge) (y : Nat) : (s.setBarge k x).region y = s.region y := rfl
@[simp] theorem State.basin_of_setBarge (s : State) (k : BerthKey) (x : Barge) (y : Nat) : (s.setBarge k x).basin y = s.basin y := rfl
@[simp] theorem State.channel_of_setBarge (s : State) (k : BerthKey) (x : Barge) (y : Nat) : (s.setBarge k x).channel y = s.channel y := rfl
@[simp] theorem State.slot_of_setBarge (s : State) (k : BerthKey) (x : Barge) (y : Nat) : (s.setBarge k x).slot y = s.slot y := rfl
@[simp] theorem State.conn_of_setBarge (s : State) (k : BerthKey) (x : Barge) (y : Nat) : (s.setBarge k x).conn y = s.conn y := rfl
@[simp] theorem State.reg_of_setBarge (s : State) (k : BerthKey) (x : Barge) (y : Nat) : (s.setBarge k x).reg y = s.reg y := rfl
@[simp] theorem State.keySlot_of_setBarge (s : State) (k : BerthKey) (x : Barge) (y : Nat) : (s.setBarge k x).keySlot y = s.keySlot y := rfl
@[simp] theorem State.fslot_of_setBarge (s : State) (k : BerthKey) (x : Barge) (y : Nat) : (s.setBarge k x).fslot y = s.fslot y := rfl
@[simp] theorem State.now_of_setBarge (s : State) (k : BerthKey) (x : Barge) : (s.setBarge k x).now = s.now := rfl
@[simp] theorem State.fld_of_setBarge (s : State) (k : BerthKey) (x : Barge) (o1 l1 w1 : Nat) : (s.setBarge k x).fld o1 l1 w1 = s.fld o1 l1 w1 := rfl
@[simp] theorem State.core_of_delBarge (s : State) (k : BerthKey) (y : Nat) : (s.delBarge k).core y = s.core y := rfl
@[simp] theorem State.cluster_of_delBarge (s : State) (k : BerthKey) (y : Nat) : (s.delBarge k).cluster y = s.cluster y := rfl
@[simp] theorem State.chamber_of_delBarge (s : State) (k : BerthKey) (y : Nat) : (s.delBarge k).chamber y = s.chamber y := rfl
@[simp] theorem State.region_of_delBarge (s : State) (k : BerthKey) (y : Nat) : (s.delBarge k).region y = s.region y := rfl
@[simp] theorem State.basin_of_delBarge (s : State) (k : BerthKey) (y : Nat) : (s.delBarge k).basin y = s.basin y := rfl
@[simp] theorem State.channel_of_delBarge (s : State) (k : BerthKey) (y : Nat) : (s.delBarge k).channel y = s.channel y := rfl
@[simp] theorem State.slot_of_delBarge (s : State) (k : BerthKey) (y : Nat) : (s.delBarge k).slot y = s.slot y := rfl
@[simp] theorem State.conn_of_delBarge (s : State) (k : BerthKey) (y : Nat) : (s.delBarge k).conn y = s.conn y := rfl
@[simp] theorem State.reg_of_delBarge (s : State) (k : BerthKey) (y : Nat) : (s.delBarge k).reg y = s.reg y := rfl
@[simp] theorem State.keySlot_of_delBarge (s : State) (k : BerthKey) (y : Nat) : (s.delBarge k).keySlot y = s.keySlot y := rfl
@[simp] theorem State.fslot_of_delBarge (s : State) (k : BerthKey) (y : Nat) : (s.delBarge k).fslot y = s.fslot y := rfl
@[simp] theorem State.now_of_delBarge (s : State) (k : BerthKey) : (s.delBarge k).now = s.now := rfl
@[simp] theorem State.fld_of_delBarge (s : State) (k : BerthKey) (o1 l1 w1 : Nat) : (s.delBarge k).fld o1 l1 w1 = s.fld o1 l1 w1 := rfl
@[simp] theorem State.core_of_setFslot (s : State) (n : Nat) (x : FSlot) (y : Nat) : (s.setFslot n x).core y = s.core y := rfl
@[simp] theorem State.cluster_of_setFslot (s : State) (n : Nat) (x : FSlot) (y : Nat) : (s.setFslot n x).cluster y = s.cluster y := rfl
@[simp] theorem State.chamber_of_setFslot (s : State) (n : Nat) (x : FSlot) (y : Nat) : (s.setFslot n x).chamber y = s.chamber y := rfl
@[simp] theorem State.region_of_setFslot (s : State) (n : Nat) (x : FSlot) (y : Nat) : (s.setFslot n x).region y = s.region y := rfl
@[simp] theorem State.basin_of_setFslot (s : State) (n : Nat) (x : FSlot) (y : Nat) : (s.setFslot n x).basin y = s.basin y := rfl
@[simp] theorem State.channel_of_setFslot (s : State) (n : Nat) (x : FSlot) (y : Nat) : (s.setFslot n x).channel y = s.channel y := rfl
@[simp] theorem State.slot_of_setFslot (s : State) (n : Nat) (x : FSlot) (y : Nat) : (s.setFslot n x).slot y = s.slot y := rfl
@[simp] theorem State.conn_of_setFslot (s : State) (n : Nat) (x : FSlot) (y : Nat) : (s.setFslot n x).conn y = s.conn y := rfl
@[simp] theorem State.reg_of_setFslot (s : State) (n : Nat) (x : FSlot) (y : Nat) : (s.setFslot n x).reg y = s.reg y := rfl
@[simp] theorem State.keySlot_of_setFslot (s : State) (n : Nat) (x : FSlot) (y : Nat) : (s.setFslot n x).keySlot y = s.keySlot y := rfl
@[simp] theorem State.now_of_setFslot (s : State) (n : Nat) (x : FSlot) : (s.setFslot n x).now = s.now := rfl
@[simp] theorem State.fld_of_setFslot (s : State) (n : Nat) (x : FSlot) (o1 l1 w1 : Nat) : (s.setFslot n x).fld o1 l1 w1 = s.fld o1 l1 w1 := rfl
@[simp] theorem State.core_of_setMember (s : State) (m : MSweep) (y : Nat) : (s.setMember m).core y = s.core y := rfl
@[simp] theorem State.cluster_of_setMember (s : State) (m : MSweep) (y : Nat) : (s.setMember m).cluster y = s.cluster y := rfl
@[simp] theorem State.chamber_of_setMember (s : State) (m : MSweep) (y : Nat) : (s.setMember m).chamber y = s.chamber y := rfl
@[simp] theorem State.region_of_setMember (s : State) (m : MSweep) (y : Nat) : (s.setMember m).region y = s.region y := rfl
@[simp] theorem State.basin_of_setMember (s : State) (m : MSweep) (y : Nat) : (s.setMember m).basin y = s.basin y := rfl
@[simp] theorem State.channel_of_setMember (s : State) (m : MSweep) (y : Nat) : (s.setMember m).channel y = s.channel y := rfl
@[simp] theorem State.slot_of_setMember (s : State) (m : MSweep) (y : Nat) : (s.setMember m).slot y = s.slot y := rfl
@[simp] theorem State.conn_of_setMember (s : State) (m : MSweep) (y : Nat) : (s.setMember m).conn y = s.conn y := rfl
@[simp] theorem State.reg_of_setMember (s : State) (m : MSweep) (y : Nat) : (s.setMember m).reg y = s.reg y := rfl
@[simp] theorem State.keySlot_of_setMember (s : State) (m : MSweep) (y : Nat) : (s.setMember m).keySlot y = s.keySlot y := rfl
@[simp] theorem State.fslot_of_setMember (s : State) (m : MSweep) (y : Nat) : (s.setMember m).fslot y = s.fslot y := rfl
@[simp] theorem State.now_of_setMember (s : State) (m : MSweep) : (s.setMember m).now = s.now := rfl
@[simp] theorem State.fld_of_setMember (s : State) (m : MSweep) (o1 l1 w1 : Nat) : (s.setMember m).fld o1 l1 w1 = s.fld o1 l1 w1 := rfl
@[simp] theorem State.core_of_setSweep (s : State) (a : ASweep) (y : Nat) : (s.setSweep a).core y = s.core y := rfl
@[simp] theorem State.cluster_of_setSweep (s : State) (a : ASweep) (y : Nat) : (s.setSweep a).cluster y = s.cluster y := rfl
@[simp] theorem State.chamber_of_setSweep (s : State) (a : ASweep) (y : Nat) : (s.setSweep a).chamber y = s.chamber y := rfl
@[simp] theorem State.region_of_setSweep (s : State) (a : ASweep) (y : Nat) : (s.setSweep a).region y = s.region y := rfl
@[simp] theorem State.basin_of_setSweep (s : State) (a : ASweep) (y : Nat) : (s.setSweep a).basin y = s.basin y := rfl
@[simp] theorem State.channel_of_setSweep (s : State) (a : ASweep) (y : Nat) : (s.setSweep a).channel y = s.channel y := rfl
@[simp] theorem State.slot_of_setSweep (s : State) (a : ASweep) (y : Nat) : (s.setSweep a).slot y = s.slot y := rfl
@[simp] theorem State.conn_of_setSweep (s : State) (a : ASweep) (y : Nat) : (s.setSweep a).conn y = s.conn y := rfl
@[simp] theorem State.reg_of_setSweep (s : State) (a : ASweep) (y : Nat) : (s.setSweep a).reg y = s.reg y := rfl
@[simp] theorem State.keySlot_of_setSweep (s : State) (a : ASweep) (y : Nat) : (s.setSweep a).keySlot y = s.keySlot y := rfl
@[simp] theorem State.fslot_of_setSweep (s : State) (a : ASweep) (y : Nat) : (s.setSweep a).fslot y = s.fslot y := rfl
@[simp] theorem State.now_of_setSweep (s : State) (a : ASweep) : (s.setSweep a).now = s.now := rfl
@[simp] theorem State.fld_of_setSweep (s : State) (a : ASweep) (o1 l1 w1 : Nat) : (s.setSweep a).fld o1 l1 w1 = s.fld o1 l1 w1 := rfl
@[simp] theorem State.core_of_setConvoy (s : State) (c : Convoy) (y : Nat) : (s.setConvoy c).core y = s.core y := rfl
@[simp] theorem State.cluster_of_setConvoy (s : State) (c : Convoy) (y : Nat) : (s.setConvoy c).cluster y = s.cluster y := rfl
@[simp] theorem State.chamber_of_setConvoy (s : State) (c : Convoy) (y : Nat) : (s.setConvoy c).chamber y = s.chamber y := rfl
@[simp] theorem State.region_of_setConvoy (s : State) (c : Convoy) (y : Nat) : (s.setConvoy c).region y = s.region y := rfl
@[simp] theorem State.basin_of_setConvoy (s : State) (c : Convoy) (y : Nat) : (s.setConvoy c).basin y = s.basin y := rfl
@[simp] theorem State.channel_of_setConvoy (s : State) (c : Convoy) (y : Nat) : (s.setConvoy c).channel y = s.channel y := rfl
@[simp] theorem State.slot_of_setConvoy (s : State) (c : Convoy) (y : Nat) : (s.setConvoy c).slot y = s.slot y := rfl
@[simp] theorem State.conn_of_setConvoy (s : State) (c : Convoy) (y : Nat) : (s.setConvoy c).conn y = s.conn y := rfl
@[simp] theorem State.reg_of_setConvoy (s : State) (c : Convoy) (y : Nat) : (s.setConvoy c).reg y = s.reg y := rfl
@[simp] theorem State.keySlot_of_setConvoy (s : State) (c : Convoy) (y : Nat) : (s.setConvoy c).keySlot y = s.keySlot y := rfl
@[simp] theorem State.fslot_of_setConvoy (s : State) (c : Convoy) (y : Nat) : (s.setConvoy c).fslot y = s.fslot y := rfl
@[simp] theorem State.now_of_setConvoy (s : State) (c : Convoy) : (s.setConvoy c).now = s.now := rfl
@[simp] theorem State.fld_of_setConvoy (s : State) (c : Convoy) (o1 l1 w1 : Nat) : (s.setConvoy c).fld o1 l1 w1 = s.fld o1 l1 w1 := rfl
@[simp] theorem State.core_of_setConn (s : State) (n : Nat) (c : Conn) (y : Nat) : (s.setConn n c).core y = s.core y := rfl
@[simp] theorem State.cluster_of_setConn (s : State) (n : Nat) (c : Conn) (y : Nat) : (s.setConn n c).cluster y = s.cluster y := rfl
@[simp] theorem State.chamber_of_setConn (s : State) (n : Nat) (c : Conn) (y : Nat) : (s.setConn n c).chamber y = s.chamber y := rfl
@[simp] theorem State.region_of_setConn (s : State) (n : Nat) (c : Conn) (y : Nat) : (s.setConn n c).region y = s.region y := rfl
@[simp] theorem State.basin_of_setConn (s : State) (n : Nat) (c : Conn) (y : Nat) : (s.setConn n c).basin y = s.basin y := rfl
@[simp] theorem State.channel_of_setConn (s : State) (n : Nat) (c : Conn) (y : Nat) : (s.setConn n c).channel y = s.channel y := rfl
@[simp] theorem State.slot_of_setConn (s : State) (n : Nat) (c : Conn) (y : Nat) : (s.setConn n c).slot y = s.slot y := rfl
@[simp] theorem State.reg_of_setConn (s : State) (n : Nat) (c : Conn) (y : Nat) : (s.setConn n c).reg y = s.reg y := rfl
@[simp] theorem State.keySlot_of_setConn (s : State) (n : Nat) (c : Conn) (y : Nat) : (s.setConn n c).keySlot y = s.keySlot y := rfl
@[simp] theorem State.fslot_of_setConn (s : State) (n : Nat) (c : Conn) (y : Nat) : (s.setConn n c).fslot y = s.fslot y := rfl
@[simp] theorem State.now_of_setConn (s : State) (n : Nat) (c : Conn) : (s.setConn n c).now = s.now := rfl
@[simp] theorem State.fld_of_setConn (s : State) (n : Nat) (c : Conn) (o1 l1 w1 : Nat) : (s.setConn n c).fld o1 l1 w1 = s.fld o1 l1 w1 := rfl
@[simp] theorem State.core_of_setPort (s : State) (n : Nat) (p : Port) (y : Nat) : (s.setPort n p).core y = s.core y := rfl
@[simp] theorem State.cluster_of_setPort (s : State) (n : Nat) (p : Port) (y : Nat) : (s.setPort n p).cluster y = s.cluster y := rfl
@[simp] theorem State.chamber_of_setPort (s : State) (n : Nat) (p : Port) (y : Nat) : (s.setPort n p).chamber y = s.chamber y := rfl
@[simp] theorem State.region_of_setPort (s : State) (n : Nat) (p : Port) (y : Nat) : (s.setPort n p).region y = s.region y := rfl
@[simp] theorem State.basin_of_setPort (s : State) (n : Nat) (p : Port) (y : Nat) : (s.setPort n p).basin y = s.basin y := rfl
@[simp] theorem State.channel_of_setPort (s : State) (n : Nat) (p : Port) (y : Nat) : (s.setPort n p).channel y = s.channel y := rfl
@[simp] theorem State.slot_of_setPort (s : State) (n : Nat) (p : Port) (y : Nat) : (s.setPort n p).slot y = s.slot y := rfl
@[simp] theorem State.conn_of_setPort (s : State) (n : Nat) (p : Port) (y : Nat) : (s.setPort n p).conn y = s.conn y := rfl
@[simp] theorem State.reg_of_setPort (s : State) (n : Nat) (p : Port) (y : Nat) : (s.setPort n p).reg y = s.reg y := rfl
@[simp] theorem State.keySlot_of_setPort (s : State) (n : Nat) (p : Port) (y : Nat) : (s.setPort n p).keySlot y = s.keySlot y := rfl
@[simp] theorem State.fslot_of_setPort (s : State) (n : Nat) (p : Port) (y : Nat) : (s.setPort n p).fslot y = s.fslot y := rfl
@[simp] theorem State.now_of_setPort (s : State) (n : Nat) (p : Port) : (s.setPort n p).now = s.now := rfl
@[simp] theorem State.fld_of_setPort (s : State) (n : Nat) (p : Port) (o1 l1 w1 : Nat) : (s.setPort n p).fld o1 l1 w1 = s.fld o1 l1 w1 := rfl
@[simp] theorem State.core_of_setEngine (s : State) (n : Nat) (x : Engine) (y : Nat) : (s.setEngine n x).core y = s.core y := rfl
@[simp] theorem State.cluster_of_setEngine (s : State) (n : Nat) (x : Engine) (y : Nat) : (s.setEngine n x).cluster y = s.cluster y := rfl
@[simp] theorem State.chamber_of_setEngine (s : State) (n : Nat) (x : Engine) (y : Nat) : (s.setEngine n x).chamber y = s.chamber y := rfl
@[simp] theorem State.region_of_setEngine (s : State) (n : Nat) (x : Engine) (y : Nat) : (s.setEngine n x).region y = s.region y := rfl
@[simp] theorem State.basin_of_setEngine (s : State) (n : Nat) (x : Engine) (y : Nat) : (s.setEngine n x).basin y = s.basin y := rfl
@[simp] theorem State.channel_of_setEngine (s : State) (n : Nat) (x : Engine) (y : Nat) : (s.setEngine n x).channel y = s.channel y := rfl
@[simp] theorem State.slot_of_setEngine (s : State) (n : Nat) (x : Engine) (y : Nat) : (s.setEngine n x).slot y = s.slot y := rfl
@[simp] theorem State.conn_of_setEngine (s : State) (n : Nat) (x : Engine) (y : Nat) : (s.setEngine n x).conn y = s.conn y := rfl
@[simp] theorem State.reg_of_setEngine (s : State) (n : Nat) (x : Engine) (y : Nat) : (s.setEngine n x).reg y = s.reg y := rfl
@[simp] theorem State.keySlot_of_setEngine (s : State) (n : Nat) (x : Engine) (y : Nat) : (s.setEngine n x).keySlot y = s.keySlot y := rfl
@[simp] theorem State.fslot_of_setEngine (s : State) (n : Nat) (x : Engine) (y : Nat) : (s.setEngine n x).fslot y = s.fslot y := rfl
@[simp] theorem State.now_of_setEngine (s : State) (n : Nat) (x : Engine) : (s.setEngine n x).now = s.now := rfl
@[simp] theorem State.fld_of_setEngine (s : State) (n : Nat) (x : Engine) (o1 l1 w1 : Nat) : (s.setEngine n x).fld o1 l1 w1 = s.fld o1 l1 w1 := rfl
@[simp] theorem State.core_of_setMeter (s : State) (n : Nat) (x : Meter) (y : Nat) : (s.setMeter n x).core y = s.core y := rfl
@[simp] theorem State.cluster_of_setMeter (s : State) (n : Nat) (x : Meter) (y : Nat) : (s.setMeter n x).cluster y = s.cluster y := rfl
@[simp] theorem State.chamber_of_setMeter (s : State) (n : Nat) (x : Meter) (y : Nat) : (s.setMeter n x).chamber y = s.chamber y := rfl
@[simp] theorem State.region_of_setMeter (s : State) (n : Nat) (x : Meter) (y : Nat) : (s.setMeter n x).region y = s.region y := rfl
@[simp] theorem State.basin_of_setMeter (s : State) (n : Nat) (x : Meter) (y : Nat) : (s.setMeter n x).basin y = s.basin y := rfl
@[simp] theorem State.channel_of_setMeter (s : State) (n : Nat) (x : Meter) (y : Nat) : (s.setMeter n x).channel y = s.channel y := rfl
@[simp] theorem State.slot_of_setMeter (s : State) (n : Nat) (x : Meter) (y : Nat) : (s.setMeter n x).slot y = s.slot y := rfl
@[simp] theorem State.conn_of_setMeter (s : State) (n : Nat) (x : Meter) (y : Nat) : (s.setMeter n x).conn y = s.conn y := rfl
@[simp] theorem State.reg_of_setMeter (s : State) (n : Nat) (x : Meter) (y : Nat) : (s.setMeter n x).reg y = s.reg y := rfl
@[simp] theorem State.keySlot_of_setMeter (s : State) (n : Nat) (x : Meter) (y : Nat) : (s.setMeter n x).keySlot y = s.keySlot y := rfl
@[simp] theorem State.fslot_of_setMeter (s : State) (n : Nat) (x : Meter) (y : Nat) : (s.setMeter n x).fslot y = s.fslot y := rfl
@[simp] theorem State.now_of_setMeter (s : State) (n : Nat) (x : Meter) : (s.setMeter n x).now = s.now := rfl
@[simp] theorem State.fld_of_setMeter (s : State) (n : Nat) (x : Meter) (o1 l1 w1 : Nat) : (s.setMeter n x).fld o1 l1 w1 = s.fld o1 l1 w1 := rfl
@[simp] theorem State.core_of_setMooring (s : State) (n : Nat) (x : Mooring) (y : Nat) : (s.setMooring n x).core y = s.core y := rfl
@[simp] theorem State.cluster_of_setMooring (s : State) (n : Nat) (x : Mooring) (y : Nat) : (s.setMooring n x).cluster y = s.cluster y := rfl
@[simp] theorem State.chamber_of_setMooring (s : State) (n : Nat) (x : Mooring) (y : Nat) : (s.setMooring n x).chamber y = s.chamber y := rfl
@[simp] theorem State.region_of_setMooring (s : State) (n : Nat) (x : Mooring) (y : Nat) : (s.setMooring n x).region y = s.region y := rfl
@[simp] theorem State.basin_of_setMooring (s : State) (n : Nat) (x : Mooring) (y : Nat) : (s.setMooring n x).basin y = s.basin y := rfl
@[simp] theorem State.channel_of_setMooring (s : State) (n : Nat) (x : Mooring) (y : Nat) : (s.setMooring n x).channel y = s.channel y := rfl
@[simp] theorem State.slot_of_setMooring (s : State) (n : Nat) (x : Mooring) (y : Nat) : (s.setMooring n x).slot y = s.slot y := rfl
@[simp] theorem State.conn_of_setMooring (s : State) (n : Nat) (x : Mooring) (y : Nat) : (s.setMooring n x).conn y = s.conn y := rfl
@[simp] theorem State.reg_of_setMooring (s : State) (n : Nat) (x : Mooring) (y : Nat) : (s.setMooring n x).reg y = s.reg y := rfl
@[simp] theorem State.keySlot_of_setMooring (s : State) (n : Nat) (x : Mooring) (y : Nat) : (s.setMooring n x).keySlot y = s.keySlot y := rfl
@[simp] theorem State.fslot_of_setMooring (s : State) (n : Nat) (x : Mooring) (y : Nat) : (s.setMooring n x).fslot y = s.fslot y := rfl
@[simp] theorem State.now_of_setMooring (s : State) (n : Nat) (x : Mooring) : (s.setMooring n x).now = s.now := rfl
@[simp] theorem State.fld_of_setMooring (s : State) (n : Nat) (x : Mooring) (o1 l1 w1 : Nat) : (s.setMooring n x).fld o1 l1 w1 = s.fld o1 l1 w1 := rfl
@[simp] theorem State.core_of_setKeySlot (s : State) (t : Nat) (k : KeySlot) (y : Nat) : (s.setKeySlot t k).core y = s.core y := rfl
@[simp] theorem State.cluster_of_setKeySlot (s : State) (t : Nat) (k : KeySlot) (y : Nat) : (s.setKeySlot t k).cluster y = s.cluster y := rfl
@[simp] theorem State.chamber_of_setKeySlot (s : State) (t : Nat) (k : KeySlot) (y : Nat) : (s.setKeySlot t k).chamber y = s.chamber y := rfl
@[simp] theorem State.region_of_setKeySlot (s : State) (t : Nat) (k : KeySlot) (y : Nat) : (s.setKeySlot t k).region y = s.region y := rfl
@[simp] theorem State.basin_of_setKeySlot (s : State) (t : Nat) (k : KeySlot) (y : Nat) : (s.setKeySlot t k).basin y = s.basin y := rfl
@[simp] theorem State.channel_of_setKeySlot (s : State) (t : Nat) (k : KeySlot) (y : Nat) : (s.setKeySlot t k).channel y = s.channel y := rfl
@[simp] theorem State.slot_of_setKeySlot (s : State) (t : Nat) (k : KeySlot) (y : Nat) : (s.setKeySlot t k).slot y = s.slot y := rfl
@[simp] theorem State.conn_of_setKeySlot (s : State) (t : Nat) (k : KeySlot) (y : Nat) : (s.setKeySlot t k).conn y = s.conn y := rfl
@[simp] theorem State.reg_of_setKeySlot (s : State) (t : Nat) (k : KeySlot) (y : Nat) : (s.setKeySlot t k).reg y = s.reg y := rfl
@[simp] theorem State.fslot_of_setKeySlot (s : State) (t : Nat) (k : KeySlot) (y : Nat) : (s.setKeySlot t k).fslot y = s.fslot y := rfl
@[simp] theorem State.now_of_setKeySlot (s : State) (t : Nat) (k : KeySlot) : (s.setKeySlot t k).now = s.now := rfl
@[simp] theorem State.fld_of_setKeySlot (s : State) (t : Nat) (k : KeySlot) (o1 l1 w1 : Nat) : (s.setKeySlot t k).fld o1 l1 w1 = s.fld o1 l1 w1 := rfl
@[simp] theorem State.core_of_setTdisp (s : State) (n : Nat) (y : Nat) : (s.setTdisp n).core y = s.core y := rfl
@[simp] theorem State.cluster_of_setTdisp (s : State) (n : Nat) (y : Nat) : (s.setTdisp n).cluster y = s.cluster y := rfl
@[simp] theorem State.chamber_of_setTdisp (s : State) (n : Nat) (y : Nat) : (s.setTdisp n).chamber y = s.chamber y := rfl
@[simp] theorem State.region_of_setTdisp (s : State) (n : Nat) (y : Nat) : (s.setTdisp n).region y = s.region y := rfl
@[simp] theorem State.basin_of_setTdisp (s : State) (n : Nat) (y : Nat) : (s.setTdisp n).basin y = s.basin y := rfl
@[simp] theorem State.channel_of_setTdisp (s : State) (n : Nat) (y : Nat) : (s.setTdisp n).channel y = s.channel y := rfl
@[simp] theorem State.slot_of_setTdisp (s : State) (n : Nat) (y : Nat) : (s.setTdisp n).slot y = s.slot y := rfl
@[simp] theorem State.conn_of_setTdisp (s : State) (n : Nat) (y : Nat) : (s.setTdisp n).conn y = s.conn y := rfl
@[simp] theorem State.reg_of_setTdisp (s : State) (n : Nat) (y : Nat) : (s.setTdisp n).reg y = s.reg y := rfl
@[simp] theorem State.keySlot_of_setTdisp (s : State) (n : Nat) (y : Nat) : (s.setTdisp n).keySlot y = s.keySlot y := rfl
@[simp] theorem State.fslot_of_setTdisp (s : State) (n : Nat) (y : Nat) : (s.setTdisp n).fslot y = s.fslot y := rfl
@[simp] theorem State.now_of_setTdisp (s : State) (n : Nat) : (s.setTdisp n).now = s.now := rfl
@[simp] theorem State.fld_of_setTdisp (s : State) (n : Nat) (o1 l1 w1 : Nat) : (s.setTdisp n).fld o1 l1 w1 = s.fld o1 l1 w1 := rfl
@[simp] theorem State.core_of_setRemoval (s : State) (r : Removal) (y : Nat) : (s.setRemoval r).core y = s.core y := rfl
@[simp] theorem State.cluster_of_setRemoval (s : State) (r : Removal) (y : Nat) : (s.setRemoval r).cluster y = s.cluster y := rfl
@[simp] theorem State.chamber_of_setRemoval (s : State) (r : Removal) (y : Nat) : (s.setRemoval r).chamber y = s.chamber y := rfl
@[simp] theorem State.region_of_setRemoval (s : State) (r : Removal) (y : Nat) : (s.setRemoval r).region y = s.region y := rfl
@[simp] theorem State.basin_of_setRemoval (s : State) (r : Removal) (y : Nat) : (s.setRemoval r).basin y = s.basin y := rfl
@[simp] theorem State.channel_of_setRemoval (s : State) (r : Removal) (y : Nat) : (s.setRemoval r).channel y = s.channel y := rfl
@[simp] theorem State.slot_of_setRemoval (s : State) (r : Removal) (y : Nat) : (s.setRemoval r).slot y = s.slot y := rfl
@[simp] theorem State.conn_of_setRemoval (s : State) (r : Removal) (y : Nat) : (s.setRemoval r).conn y = s.conn y := rfl
@[simp] theorem State.reg_of_setRemoval (s : State) (r : Removal) (y : Nat) : (s.setRemoval r).reg y = s.reg y := rfl
@[simp] theorem State.keySlot_of_setRemoval (s : State) (r : Removal) (y : Nat) : (s.setRemoval r).keySlot y = s.keySlot y := rfl
@[simp] theorem State.fslot_of_setRemoval (s : State) (r : Removal) (y : Nat) : (s.setRemoval r).fslot y = s.fslot y := rfl
@[simp] theorem State.now_of_setRemoval (s : State) (r : Removal) : (s.setRemoval r).now = s.now := rfl
@[simp] theorem State.fld_of_setRemoval (s : State) (r : Removal) (o1 l1 w1 : Nat) : (s.setRemoval r).fld o1 l1 w1 = s.fld o1 l1 w1 := rfl
@[simp] theorem State.core_of_setSec (s : State) (x : Sec) (y : Nat) : (s.setSec x).core y = s.core y := rfl
@[simp] theorem State.cluster_of_setSec (s : State) (x : Sec) (y : Nat) : (s.setSec x).cluster y = s.cluster y := rfl
@[simp] theorem State.chamber_of_setSec (s : State) (x : Sec) (y : Nat) : (s.setSec x).chamber y = s.chamber y := rfl
@[simp] theorem State.region_of_setSec (s : State) (x : Sec) (y : Nat) : (s.setSec x).region y = s.region y := rfl
@[simp] theorem State.basin_of_setSec (s : State) (x : Sec) (y : Nat) : (s.setSec x).basin y = s.basin y := rfl
@[simp] theorem State.channel_of_setSec (s : State) (x : Sec) (y : Nat) : (s.setSec x).channel y = s.channel y := rfl
@[simp] theorem State.slot_of_setSec (s : State) (x : Sec) (y : Nat) : (s.setSec x).slot y = s.slot y := rfl
@[simp] theorem State.conn_of_setSec (s : State) (x : Sec) (y : Nat) : (s.setSec x).conn y = s.conn y := rfl
@[simp] theorem State.reg_of_setSec (s : State) (x : Sec) (y : Nat) : (s.setSec x).reg y = s.reg y := rfl
@[simp] theorem State.fslot_of_setSec (s : State) (x : Sec) (y : Nat) : (s.setSec x).fslot y = s.fslot y := rfl
@[simp] theorem State.now_of_setSec (s : State) (x : Sec) : (s.setSec x).now = s.now := rfl
@[simp] theorem State.fld_of_setSec (s : State) (x : Sec) (o1 l1 w1 : Nat) : (s.setSec x).fld o1 l1 w1 = s.fld o1 l1 w1 := rfl
@[simp] theorem State.core_of_setLedger (s : State) (l : Ledger) (y : Nat) : (s.setLedger l).core y = s.core y := rfl
@[simp] theorem State.cluster_of_setLedger (s : State) (l : Ledger) (y : Nat) : (s.setLedger l).cluster y = s.cluster y := rfl
@[simp] theorem State.chamber_of_setLedger (s : State) (l : Ledger) (y : Nat) : (s.setLedger l).chamber y = s.chamber y := rfl
@[simp] theorem State.region_of_setLedger (s : State) (l : Ledger) (y : Nat) : (s.setLedger l).region y = s.region y := rfl
@[simp] theorem State.basin_of_setLedger (s : State) (l : Ledger) (y : Nat) : (s.setLedger l).basin y = s.basin y := rfl
@[simp] theorem State.channel_of_setLedger (s : State) (l : Ledger) (y : Nat) : (s.setLedger l).channel y = s.channel y := rfl
@[simp] theorem State.slot_of_setLedger (s : State) (l : Ledger) (y : Nat) : (s.setLedger l).slot y = s.slot y := rfl
@[simp] theorem State.conn_of_setLedger (s : State) (l : Ledger) (y : Nat) : (s.setLedger l).conn y = s.conn y := rfl
@[simp] theorem State.reg_of_setLedger (s : State) (l : Ledger) (y : Nat) : (s.setLedger l).reg y = s.reg y := rfl
@[simp] theorem State.keySlot_of_setLedger (s : State) (l : Ledger) (y : Nat) : (s.setLedger l).keySlot y = s.keySlot y := rfl
@[simp] theorem State.fslot_of_setLedger (s : State) (l : Ledger) (y : Nat) : (s.setLedger l).fslot y = s.fslot y := rfl
@[simp] theorem State.now_of_setLedger (s : State) (l : Ledger) : (s.setLedger l).now = s.now := rfl
@[simp] theorem State.fld_of_setLedger (s : State) (l : Ledger) (o1 l1 w1 : Nat) : (s.setLedger l).fld o1 l1 w1 = s.fld o1 l1 w1 := rfl
@[simp] theorem State.core_of_setTwin (s : State) (t : Twin) (y : Nat) : (s.setTwin t).core y = s.core y := rfl
@[simp] theorem State.cluster_of_setTwin (s : State) (t : Twin) (y : Nat) : (s.setTwin t).cluster y = s.cluster y := rfl
@[simp] theorem State.chamber_of_setTwin (s : State) (t : Twin) (y : Nat) : (s.setTwin t).chamber y = s.chamber y := rfl
@[simp] theorem State.region_of_setTwin (s : State) (t : Twin) (y : Nat) : (s.setTwin t).region y = s.region y := rfl
@[simp] theorem State.basin_of_setTwin (s : State) (t : Twin) (y : Nat) : (s.setTwin t).basin y = s.basin y := rfl
@[simp] theorem State.channel_of_setTwin (s : State) (t : Twin) (y : Nat) : (s.setTwin t).channel y = s.channel y := rfl
@[simp] theorem State.slot_of_setTwin (s : State) (t : Twin) (y : Nat) : (s.setTwin t).slot y = s.slot y := rfl
@[simp] theorem State.conn_of_setTwin (s : State) (t : Twin) (y : Nat) : (s.setTwin t).conn y = s.conn y := rfl
@[simp] theorem State.reg_of_setTwin (s : State) (t : Twin) (y : Nat) : (s.setTwin t).reg y = s.reg y := rfl
@[simp] theorem State.keySlot_of_setTwin (s : State) (t : Twin) (y : Nat) : (s.setTwin t).keySlot y = s.keySlot y := rfl
@[simp] theorem State.fslot_of_setTwin (s : State) (t : Twin) (y : Nat) : (s.setTwin t).fslot y = s.fslot y := rfl
@[simp] theorem State.now_of_setTwin (s : State) (t : Twin) : (s.setTwin t).now = s.now := rfl
@[simp] theorem State.fld_of_setTwin (s : State) (t : Twin) (o1 l1 w1 : Nat) : (s.setTwin t).fld o1 l1 w1 = s.fld o1 l1 w1 := rfl
@[simp] theorem State.core_of_setJout (s : State) (t : Nat) (j : JOut) (y : Nat) : (s.setJout t j).core y = s.core y := rfl
@[simp] theorem State.cluster_of_setJout (s : State) (t : Nat) (j : JOut) (y : Nat) : (s.setJout t j).cluster y = s.cluster y := rfl
@[simp] theorem State.chamber_of_setJout (s : State) (t : Nat) (j : JOut) (y : Nat) : (s.setJout t j).chamber y = s.chamber y := rfl
@[simp] theorem State.region_of_setJout (s : State) (t : Nat) (j : JOut) (y : Nat) : (s.setJout t j).region y = s.region y := rfl
@[simp] theorem State.basin_of_setJout (s : State) (t : Nat) (j : JOut) (y : Nat) : (s.setJout t j).basin y = s.basin y := rfl
@[simp] theorem State.channel_of_setJout (s : State) (t : Nat) (j : JOut) (y : Nat) : (s.setJout t j).channel y = s.channel y := rfl
@[simp] theorem State.slot_of_setJout (s : State) (t : Nat) (j : JOut) (y : Nat) : (s.setJout t j).slot y = s.slot y := rfl
@[simp] theorem State.conn_of_setJout (s : State) (t : Nat) (j : JOut) (y : Nat) : (s.setJout t j).conn y = s.conn y := rfl
@[simp] theorem State.reg_of_setJout (s : State) (t : Nat) (j : JOut) (y : Nat) : (s.setJout t j).reg y = s.reg y := rfl
@[simp] theorem State.keySlot_of_setJout (s : State) (t : Nat) (j : JOut) (y : Nat) : (s.setJout t j).keySlot y = s.keySlot y := rfl
@[simp] theorem State.fslot_of_setJout (s : State) (t : Nat) (j : JOut) (y : Nat) : (s.setJout t j).fslot y = s.fslot y := rfl
@[simp] theorem State.now_of_setJout (s : State) (t : Nat) (j : JOut) : (s.setJout t j).now = s.now := rfl
@[simp] theorem State.fld_of_setJout (s : State) (t : Nat) (j : JOut) (o1 l1 w1 : Nat) : (s.setJout t j).fld o1 l1 w1 = s.fld o1 l1 w1 := rfl
@[simp] theorem State.core_of_setJsrc (s : State) (t : Nat) (j : JSource) (y : Nat) : (s.setJsrc t j).core y = s.core y := rfl
@[simp] theorem State.cluster_of_setJsrc (s : State) (t : Nat) (j : JSource) (y : Nat) : (s.setJsrc t j).cluster y = s.cluster y := rfl
@[simp] theorem State.chamber_of_setJsrc (s : State) (t : Nat) (j : JSource) (y : Nat) : (s.setJsrc t j).chamber y = s.chamber y := rfl
@[simp] theorem State.region_of_setJsrc (s : State) (t : Nat) (j : JSource) (y : Nat) : (s.setJsrc t j).region y = s.region y := rfl
@[simp] theorem State.basin_of_setJsrc (s : State) (t : Nat) (j : JSource) (y : Nat) : (s.setJsrc t j).basin y = s.basin y := rfl
@[simp] theorem State.channel_of_setJsrc (s : State) (t : Nat) (j : JSource) (y : Nat) : (s.setJsrc t j).channel y = s.channel y := rfl
@[simp] theorem State.slot_of_setJsrc (s : State) (t : Nat) (j : JSource) (y : Nat) : (s.setJsrc t j).slot y = s.slot y := rfl
@[simp] theorem State.conn_of_setJsrc (s : State) (t : Nat) (j : JSource) (y : Nat) : (s.setJsrc t j).conn y = s.conn y := rfl
@[simp] theorem State.reg_of_setJsrc (s : State) (t : Nat) (j : JSource) (y : Nat) : (s.setJsrc t j).reg y = s.reg y := rfl
@[simp] theorem State.keySlot_of_setJsrc (s : State) (t : Nat) (j : JSource) (y : Nat) : (s.setJsrc t j).keySlot y = s.keySlot y := rfl
@[simp] theorem State.fslot_of_setJsrc (s : State) (t : Nat) (j : JSource) (y : Nat) : (s.setJsrc t j).fslot y = s.fslot y := rfl
@[simp] theorem State.now_of_setJsrc (s : State) (t : Nat) (j : JSource) : (s.setJsrc t j).now = s.now := rfl
@[simp] theorem State.fld_of_setJsrc (s : State) (t : Nat) (j : JSource) (o1 l1 w1 : Nat) : (s.setJsrc t j).fld o1 l1 w1 = s.fld o1 l1 w1 := rfl
@[simp] theorem State.core_of_setLbs (s : State) (l : Lbs) (y : Nat) : (s.setLbs l).core y = s.core y := rfl
@[simp] theorem State.cluster_of_setLbs (s : State) (l : Lbs) (y : Nat) : (s.setLbs l).cluster y = s.cluster y := rfl
@[simp] theorem State.chamber_of_setLbs (s : State) (l : Lbs) (y : Nat) : (s.setLbs l).chamber y = s.chamber y := rfl
@[simp] theorem State.region_of_setLbs (s : State) (l : Lbs) (y : Nat) : (s.setLbs l).region y = s.region y := rfl
@[simp] theorem State.basin_of_setLbs (s : State) (l : Lbs) (y : Nat) : (s.setLbs l).basin y = s.basin y := rfl
@[simp] theorem State.channel_of_setLbs (s : State) (l : Lbs) (y : Nat) : (s.setLbs l).channel y = s.channel y := rfl
@[simp] theorem State.slot_of_setLbs (s : State) (l : Lbs) (y : Nat) : (s.setLbs l).slot y = s.slot y := rfl
@[simp] theorem State.conn_of_setLbs (s : State) (l : Lbs) (y : Nat) : (s.setLbs l).conn y = s.conn y := rfl
@[simp] theorem State.reg_of_setLbs (s : State) (l : Lbs) (y : Nat) : (s.setLbs l).reg y = s.reg y := rfl
@[simp] theorem State.keySlot_of_setLbs (s : State) (l : Lbs) (y : Nat) : (s.setLbs l).keySlot y = s.keySlot y := rfl
@[simp] theorem State.fslot_of_setLbs (s : State) (l : Lbs) (y : Nat) : (s.setLbs l).fslot y = s.fslot y := rfl
@[simp] theorem State.now_of_setLbs (s : State) (l : Lbs) : (s.setLbs l).now = s.now := rfl
@[simp] theorem State.fld_of_setLbs (s : State) (l : Lbs) (o1 l1 w1 : Nat) : (s.setLbs l).fld o1 l1 w1 = s.fld o1 l1 w1 := rfl
@[simp] theorem State.core_of_setJtag (s : State) (j : Jtag) (y : Nat) : (s.setJtag j).core y = s.core y := rfl
@[simp] theorem State.cluster_of_setJtag (s : State) (j : Jtag) (y : Nat) : (s.setJtag j).cluster y = s.cluster y := rfl
@[simp] theorem State.chamber_of_setJtag (s : State) (j : Jtag) (y : Nat) : (s.setJtag j).chamber y = s.chamber y := rfl
@[simp] theorem State.region_of_setJtag (s : State) (j : Jtag) (y : Nat) : (s.setJtag j).region y = s.region y := rfl
@[simp] theorem State.basin_of_setJtag (s : State) (j : Jtag) (y : Nat) : (s.setJtag j).basin y = s.basin y := rfl
@[simp] theorem State.channel_of_setJtag (s : State) (j : Jtag) (y : Nat) : (s.setJtag j).channel y = s.channel y := rfl
@[simp] theorem State.slot_of_setJtag (s : State) (j : Jtag) (y : Nat) : (s.setJtag j).slot y = s.slot y := rfl
@[simp] theorem State.conn_of_setJtag (s : State) (j : Jtag) (y : Nat) : (s.setJtag j).conn y = s.conn y := rfl
@[simp] theorem State.reg_of_setJtag (s : State) (j : Jtag) (y : Nat) : (s.setJtag j).reg y = s.reg y := rfl
@[simp] theorem State.keySlot_of_setJtag (s : State) (j : Jtag) (y : Nat) : (s.setJtag j).keySlot y = s.keySlot y := rfl
@[simp] theorem State.fslot_of_setJtag (s : State) (j : Jtag) (y : Nat) : (s.setJtag j).fslot y = s.fslot y := rfl
@[simp] theorem State.now_of_setJtag (s : State) (j : Jtag) : (s.setJtag j).now = s.now := rfl
@[simp] theorem State.fld_of_setJtag (s : State) (j : Jtag) (o1 l1 w1 : Nat) : (s.setJtag j).fld o1 l1 w1 = s.fld o1 l1 w1 := rfl
@[simp] theorem State.core_of_setTow (s : State) (t : Towpath) (y : Nat) : (s.setTow t).core y = s.core y := rfl
@[simp] theorem State.cluster_of_setTow (s : State) (t : Towpath) (y : Nat) : (s.setTow t).cluster y = s.cluster y := rfl
@[simp] theorem State.chamber_of_setTow (s : State) (t : Towpath) (y : Nat) : (s.setTow t).chamber y = s.chamber y := rfl
@[simp] theorem State.region_of_setTow (s : State) (t : Towpath) (y : Nat) : (s.setTow t).region y = s.region y := rfl
@[simp] theorem State.basin_of_setTow (s : State) (t : Towpath) (y : Nat) : (s.setTow t).basin y = s.basin y := rfl
@[simp] theorem State.channel_of_setTow (s : State) (t : Towpath) (y : Nat) : (s.setTow t).channel y = s.channel y := rfl
@[simp] theorem State.slot_of_setTow (s : State) (t : Towpath) (y : Nat) : (s.setTow t).slot y = s.slot y := rfl
@[simp] theorem State.conn_of_setTow (s : State) (t : Towpath) (y : Nat) : (s.setTow t).conn y = s.conn y := rfl
@[simp] theorem State.reg_of_setTow (s : State) (t : Towpath) (y : Nat) : (s.setTow t).reg y = s.reg y := rfl
@[simp] theorem State.keySlot_of_setTow (s : State) (t : Towpath) (y : Nat) : (s.setTow t).keySlot y = s.keySlot y := rfl
@[simp] theorem State.fslot_of_setTow (s : State) (t : Towpath) (y : Nat) : (s.setTow t).fslot y = s.fslot y := rfl
@[simp] theorem State.now_of_setTow (s : State) (t : Towpath) : (s.setTow t).now = s.now := rfl
@[simp] theorem State.fld_of_setTow (s : State) (t : Towpath) (o1 l1 w1 : Nat) : (s.setTow t).fld o1 l1 w1 = s.fld o1 l1 w1 := rfl
@[simp] theorem State.core_of_setFine (s : State) (x : Int) (y : Nat) : (s.setFine x).core y = s.core y := rfl
@[simp] theorem State.cluster_of_setFine (s : State) (x : Int) (y : Nat) : (s.setFine x).cluster y = s.cluster y := rfl
@[simp] theorem State.chamber_of_setFine (s : State) (x : Int) (y : Nat) : (s.setFine x).chamber y = s.chamber y := rfl
@[simp] theorem State.region_of_setFine (s : State) (x : Int) (y : Nat) : (s.setFine x).region y = s.region y := rfl
@[simp] theorem State.basin_of_setFine (s : State) (x : Int) (y : Nat) : (s.setFine x).basin y = s.basin y := rfl
@[simp] theorem State.channel_of_setFine (s : State) (x : Int) (y : Nat) : (s.setFine x).channel y = s.channel y := rfl
@[simp] theorem State.slot_of_setFine (s : State) (x : Int) (y : Nat) : (s.setFine x).slot y = s.slot y := rfl
@[simp] theorem State.conn_of_setFine (s : State) (x : Int) (y : Nat) : (s.setFine x).conn y = s.conn y := rfl
@[simp] theorem State.reg_of_setFine (s : State) (x : Int) (y : Nat) : (s.setFine x).reg y = s.reg y := rfl
@[simp] theorem State.keySlot_of_setFine (s : State) (x : Int) (y : Nat) : (s.setFine x).keySlot y = s.keySlot y := rfl
@[simp] theorem State.fslot_of_setFine (s : State) (x : Int) (y : Nat) : (s.setFine x).fslot y = s.fslot y := rfl
@[simp] theorem State.fld_of_setFine (s : State) (x : Int) (o1 l1 w1 : Nat) : (s.setFine x).fld o1 l1 w1 = s.fld o1 l1 w1 := rfl
@[simp] theorem State.core_of_setStrand (s : State) (x : Strand) (y : Nat) : (s.setStrand x).core y = s.core y := rfl
@[simp] theorem State.cluster_of_setStrand (s : State) (x : Strand) (y : Nat) : (s.setStrand x).cluster y = s.cluster y := rfl
@[simp] theorem State.chamber_of_setStrand (s : State) (x : Strand) (y : Nat) : (s.setStrand x).chamber y = s.chamber y := rfl
@[simp] theorem State.region_of_setStrand (s : State) (x : Strand) (y : Nat) : (s.setStrand x).region y = s.region y := rfl
@[simp] theorem State.basin_of_setStrand (s : State) (x : Strand) (y : Nat) : (s.setStrand x).basin y = s.basin y := rfl
@[simp] theorem State.channel_of_setStrand (s : State) (x : Strand) (y : Nat) : (s.setStrand x).channel y = s.channel y := rfl
@[simp] theorem State.slot_of_setStrand (s : State) (x : Strand) (y : Nat) : (s.setStrand x).slot y = s.slot y := rfl
@[simp] theorem State.conn_of_setStrand (s : State) (x : Strand) (y : Nat) : (s.setStrand x).conn y = s.conn y := rfl
@[simp] theorem State.reg_of_setStrand (s : State) (x : Strand) (y : Nat) : (s.setStrand x).reg y = s.reg y := rfl
@[simp] theorem State.keySlot_of_setStrand (s : State) (x : Strand) (y : Nat) : (s.setStrand x).keySlot y = s.keySlot y := rfl
@[simp] theorem State.fslot_of_setStrand (s : State) (x : Strand) (y : Nat) : (s.setStrand x).fslot y = s.fslot y := rfl
@[simp] theorem State.fld_of_setStrand (s : State) (x : Strand) (o1 l1 w1 : Nat) : (s.setStrand x).fld o1 l1 w1 = s.fld o1 l1 w1 := rfl
@[simp] theorem State.core_of_setPtp (s : State) (p : Ptp) (y : Nat) : (s.setPtp p).core y = s.core y := rfl
@[simp] theorem State.cluster_of_setPtp (s : State) (p : Ptp) (y : Nat) : (s.setPtp p).cluster y = s.cluster y := rfl
@[simp] theorem State.chamber_of_setPtp (s : State) (p : Ptp) (y : Nat) : (s.setPtp p).chamber y = s.chamber y := rfl
@[simp] theorem State.region_of_setPtp (s : State) (p : Ptp) (y : Nat) : (s.setPtp p).region y = s.region y := rfl
@[simp] theorem State.basin_of_setPtp (s : State) (p : Ptp) (y : Nat) : (s.setPtp p).basin y = s.basin y := rfl
@[simp] theorem State.channel_of_setPtp (s : State) (p : Ptp) (y : Nat) : (s.setPtp p).channel y = s.channel y := rfl
@[simp] theorem State.slot_of_setPtp (s : State) (p : Ptp) (y : Nat) : (s.setPtp p).slot y = s.slot y := rfl
@[simp] theorem State.conn_of_setPtp (s : State) (p : Ptp) (y : Nat) : (s.setPtp p).conn y = s.conn y := rfl
@[simp] theorem State.reg_of_setPtp (s : State) (p : Ptp) (y : Nat) : (s.setPtp p).reg y = s.reg y := rfl
@[simp] theorem State.keySlot_of_setPtp (s : State) (p : Ptp) (y : Nat) : (s.setPtp p).keySlot y = s.keySlot y := rfl
@[simp] theorem State.fslot_of_setPtp (s : State) (p : Ptp) (y : Nat) : (s.setPtp p).fslot y = s.fslot y := rfl
@[simp] theorem State.fld_of_setPtp (s : State) (p : Ptp) (o1 l1 w1 : Nat) : (s.setPtp p).fld o1 l1 w1 = s.fld o1 l1 w1 := rfl

end Sys2Proof.Machine
end

