-- ==== Sys2Proof/Laws/Issue.lean ====
section
/-! SUPPORT. Everything one issue of a core instruction can do (R81, R96 to R118). -/

namespace Sys2Proof.Machine

/-- What follows an instruction that leaves the core as `x` with run `r`. -/
theorem State.after_issue (s : State) (c : Nat) (x : Core) (r : Run) (ip : Nat) (h : x.run = some r) :
    ((s.setCore c x).advance c ip).afterIssue c = s.setCore c (issued x r ip) := by
  unfold State.advance State.afterIssue issued
  by_cases hh : r.hold.isNone = true ∧ (x.halt = .requested ∨ x.stepOnce = true)
  · obtain ⟨h1, h2⟩ := hh
    have hn : r.hold = none := by simpa using h1
    simp [h, hn, h2]
  · have hn : ¬ (r.hold = none ∧ (x.halt = .requested ∨ x.stepOnce = true)) := by simpa using hh
    simp [h, hn]

/-- The same where the instruction changed other state too: only the core is written back. -/
theorem State.after_issue_of (t : State) (c : Nat) (x : Core) (r : Run) (ip : Nat) (hc : t.core c = x) (h : x.run = some r) :
    (t.advance c ip).afterIssue c = t.setCore c (issued x r ip) := by
  have hh : ((t.setCore c x).advance c ip).afterIssue c = (t.advance c ip).afterIssue c := by
    unfold State.advance State.afterIssue
    subst hc
    simp [h]
  rw [← hh]; exact t.after_issue c x r ip h

variable {s : State} {c : Nat} {x : Core} {r : Run} {o : CoreOp} {w : W64} {sem : Sem}

/-- One issue comes down to the instruction's own meaning. -/
theorem issue_eq (h : Issues s c x r o w) :
    issue o sem c s = match sem w c x r s with
      | .done t => (t.advance c (r.ip + 1)).afterIssue c
      | .jump t ip => (t.advance c ip).afterIssue c
      | .stay => s
      | .ended t => t
      | .exc code detail => s.raise c code detail := by
  obtain ⟨⟨hc, hr, h1, h2, h3, hw, ho, hb, hl, hg, hh, hd⟩, hp⟩ := h
  have hg' : (r.gate.isSome && !o.gateable) = false := by rcases hg with hg | hg <;> simp [hg]
  have hh' : (r.hold.isSome && !o.inHold) = false := by rcases hh with hh | hh <;> simp [hh]
  unfold issue
  have hp' : (x.pGet (predF w % 8) != decide (8 ≤ predF w)) = true := by simpa using hp
  cases hs : sem w c x r s <;> simp [hc, hr, h1, h2, h3, hw, ho, hb, hl, hg', hh', hd, hp', hs]

/-- An instruction that completes, having changed its core only. -/
theorem issue_put {x' : Core} {r' : Run} (h : Issues s c x r o w) (hs : sem w c x r s = put c x' s) (hr : x'.run = some r')  :
    issue o sem c s = s.setCore c (issued x' r' (r.ip + 1)) := by
  rw [issue_eq h, hs]; exact s.after_issue c x' r' _ hr

/-- An instruction that completes, having changed other state too. -/
theorem issue_done {t : State} {x' : Core} {r' : Run} (h : Issues s c x r o w) (hs : sem w c x r s = .done t) (hc : t.core c = x')
    (hr : x'.run = some r') : issue o sem c s = t.setCore c (issued x' r' (r.ip + 1)) := by
  rw [issue_eq h, hs]; exact t.after_issue_of c x' r' _ hc hr

/-- An instruction that sets the instruction position. -/
theorem issue_jump {t : State} {x' : Core} {r' : Run} {ip : Nat} (h : Issues s c x r o w) (hs : sem w c x r s = .jump t ip)
    (hc : t.core c = x') (hr : x'.run = some r') : issue o sem c s = t.setCore c (issued x' r' ip) := by
  rw [issue_eq h, hs]; exact t.after_issue_of c x' r' _ hc hr

theorem issue_stay (h : Issues s c x r o w) (hs : sem w c x r s = .stay) : issue o sem c s = s := by rw [issue_eq h, hs]
theorem issue_ended {t : State} (h : Issues s c x r o w) (hs : sem w c x r s = .ended t) : issue o sem c s = t := by
  rw [issue_eq h, hs]
theorem issue_exc {code : Nat} {d : W64} (h : Issues s c x r o w) (hs : sem w c x r s = .exc code d) :
    issue o sem c s = s.raise c code d := by rw [issue_eq h, hs]

/-- A word whose predicate forbids it takes its step and does nothing else (R81). -/
theorem issue_skipped (h : MayIssue s c x r o w) (hp : x.pGet (predF w % 8) = decide (8 ≤ predF w)) :
    issue o sem c s = s.setCore c (issued { x with run := some { r with gate := none } } { r with gate := none } (r.ip + 1)) := by
  obtain ⟨hc, hr, h1, h2, h3, hw, ho, hb, hl, hg, hh, hd⟩ := h
  have hg' : (r.gate.isSome && !o.gateable) = false := by rcases hg with hg | hg <;> simp [hg]
  have hh' : (r.hold.isSome && !o.inHold) = false := by rcases hh with hh | hh <;> simp [hh]
  have : issue o sem c s = ((s.setCore c { x with run := some { r with gate := none } }).advance c (r.ip + 1)).afterIssue c := by
    unfold issue
    simp only [hc, hr, h1, h2, h3, hw, ho, hb, hl, hg', hh', hd]
    simp [hp]
  rw [this]; exact s.after_issue c _ _ _ rfl

end Sys2Proof.Machine
end

