-- ==== Sys2Proof/Laws/Memory.lean ====
section
/-! SUPPORT. The part's DRAM: every memory operation keeps the canonical form, a read after a write to the same address gives the byte
written, and a write leaves every other address alone. -/

namespace Sys2Proof.Machine

/-- The canonical form asks less of a lower bound that is smaller. -/
theorem memWfFrom_mono {m : Memory} {lo hi : Nat} (hle : hi ≤ lo) (h : memWfFrom lo m = true) : memWfFrom hi m = true := by
  cases m with
  | nil => rfl
  | cons c t =>
    obtain ⟨x, b⟩ := c
    simp only [memWfFrom, Bool.and_eq_true, decide_eq_true_eq] at h ⊢
    exact ⟨⟨Nat.le_trans hle h.1.1, h.1.2⟩, h.2⟩

/-- Every address listed above a bound reads as 0 below it. -/
theorem memRead_below {m : Memory} {lo a : Nat} (h : memWfFrom lo m = true) (ha : a < lo) : memRead m a = 0 := by
  induction m generalizing lo with
  | nil => rfl
  | cons c t ih =>
    obtain ⟨x, b⟩ := c
    simp only [memWfFrom, Bool.and_eq_true, decide_eq_true_eq] at h
    have hne : x ≠ a := by omega
    simp only [memRead, if_neg hne]
    exact ih h.2 (by omega)

/-- Writing one byte keeps the canonical form. -/
theorem memWrite_wfFrom {m : Memory} {lo a : Nat} (b : Byte) (h : memWfFrom lo m = true) (ha : lo ≤ a) :
    memWfFrom lo (memWrite m a b) = true := by
  induction m generalizing lo with
  | nil =>
    by_cases hb : b = 0
    · simp only [memWrite, if_pos hb]; rfl
    · simp only [memWrite, if_neg hb, memWfFrom, Bool.and_eq_true, decide_eq_true_eq]
      exact ⟨⟨ha, hb⟩, trivial⟩
  | cons c t ih =>
    obtain ⟨x, y⟩ := c
    simp only [memWfFrom, Bool.and_eq_true, decide_eq_true_eq] at h
    obtain ⟨⟨h1, h2⟩, h3⟩ := h
    simp only [memWrite]
    by_cases hlt : x < a
    · simp only [if_pos hlt, memWfFrom, Bool.and_eq_true, decide_eq_true_eq]
      exact ⟨⟨h1, h2⟩, ih h3 hlt⟩
    · by_cases heq : x = a
      · subst heq
        by_cases hb : b = 0
        · simp only [hb, if_neg hlt, if_true]
          exact memWfFrom_mono (by omega) h3
        · simp only [if_neg hlt, if_neg hb, if_true, memWfFrom, Bool.and_eq_true, decide_eq_true_eq]
          exact ⟨⟨h1, hb⟩, h3⟩
      · by_cases hb : b = 0
        · simp only [hb, if_neg hlt, if_neg heq, if_true, memWfFrom, Bool.and_eq_true, decide_eq_true_eq]
          exact ⟨⟨h1, h2⟩, h3⟩
        · simp only [if_neg hlt, if_neg heq, if_neg hb, memWfFrom, Bool.and_eq_true, decide_eq_true_eq]
          exact ⟨⟨ha, hb⟩, ⟨by omega, h2⟩, h3⟩

/-- Writing one byte keeps the canonical form. -/
theorem memWrite_wf {m : Memory} (a : Nat) (b : Byte) (h : Memory.wf m = true) : Memory.wf (memWrite m a b) = true :=
  memWrite_wfFrom b h (Nat.zero_le a)

/-- Writing a run of bytes keeps the canonical form. -/
theorem memWriteL_wf {m : Memory} (a : Nat) (bs : List Byte) (h : Memory.wf m = true) : Memory.wf (memWriteL m a bs) = true := by
  induction bs generalizing m a with
  | nil => exact h
  | cons b bs ih => exact ih (a + 1) (memWrite_wf a b h)

/-- Dropping entries keeps the canonical form. -/
theorem memFilter_wfFrom {m : Memory} {lo : Nat} (p : Host.Cell → Bool) (h : memWfFrom lo m = true) :
    memWfFrom lo (m.filter p) = true := by
  induction m generalizing lo with
  | nil => rfl
  | cons c t ih =>
    obtain ⟨x, b⟩ := c
    simp only [memWfFrom, Bool.and_eq_true, decide_eq_true_eq] at h
    by_cases hp : p (x, b) = true
    · simp only [List.filter_cons_of_pos hp, memWfFrom, Bool.and_eq_true, decide_eq_true_eq]
      exact ⟨h.1, ih h.2⟩
    · rw [List.filter_cons_of_neg hp]
      exact ih (memWfFrom_mono (by omega) h.2)

/-- Scrubbing a range keeps the canonical form. -/
theorem memZero_wf {m : Memory} (a n : Nat) (h : Memory.wf m = true) : Memory.wf (memZero m a n) = true :=
  memFilter_wfFrom _ h

/-- Writing one byte: the address written reads as the byte, every other address reads as before. -/
theorem memRead_memWrite_from {m : Memory} {lo : Nat} (a : Nat) (b : Byte) (x : Nat) (h : memWfFrom lo m = true) :
    memRead (memWrite m a b) x = (if a = x then b else memRead m x) := by
  induction m generalizing lo with
  | nil =>
    by_cases hb : b = 0
    · subst hb; simp only [memWrite, if_true, memRead, ite_self]
    · simp only [memWrite, if_neg hb, memRead]
  | cons c t ih =>
    obtain ⟨y, v⟩ := c
    simp only [memWfFrom, Bool.and_eq_true, decide_eq_true_eq] at h
    obtain ⟨⟨h1, h2⟩, h3⟩ := h
    simp only [memWrite]
    by_cases hlt : y < a
    · simp only [if_pos hlt, memRead]
      by_cases hy : y = x
      · have : a ≠ x := by omega
        simp [hy, this]
      · simp only [if_neg hy]; exact ih h3
    · by_cases heq : y = a
      · subst heq
        by_cases hb : b = 0
        · simp only [hb, if_neg hlt, if_true]
          by_cases hy : y = x
          · subst hy; simp only [if_true]; exact memRead_below h3 (by omega)
          · simp [memRead, hy]
        · simp only [if_neg hlt, if_neg hb, if_true, memRead]
          by_cases hy : y = x
          · simp only [if_pos hy]
          · simp only [if_neg hy]
      · by_cases hb : b = 0
        · simp only [hb, if_neg hlt, if_neg heq, if_true]
          by_cases hx : a = x
          · subst hx; simp only [if_true, memRead, if_neg heq]
            exact memRead_below h3 (by omega)
          · simp [hx]
        · simp only [if_neg hlt, if_neg heq, if_neg hb, memRead]

/-- Writing one byte of a canonical memory: the address written reads as the byte, every other address reads as before. -/
theorem memRead_memWrite {m : Memory} (a : Nat) (b : Byte) (x : Nat) (h : Memory.wf m = true) :
    memRead (memWrite m a b) x = (if a = x then b else memRead m x) :=
  memRead_memWrite_from a b x h

/-- Writing a run of bytes leaves every address outside it alone. -/
theorem memRead_memWriteL_outside {m : Memory} (a : Nat) (bs : List Byte) (x : Nat) (h : Memory.wf m = true)
    (hx : x < a ∨ a + bs.length ≤ x) : memRead (memWriteL m a bs) x = memRead m x := by
  induction bs generalizing m a with
  | nil => rfl
  | cons b bs ih =>
    simp only [List.length_cons] at hx
    show memRead (memWriteL (memWrite m a b) (a + 1) bs) x = _
    rw [ih (a + 1) (memWrite_wf a b h) (by omega), memRead_memWrite a b x h, if_neg (by omega)]

/-- After a run of bytes is written, the address k places in reads as the k-th byte. -/
theorem memRead_memWriteL_inside {m : Memory} (a : Nat) (bs : List Byte) (k : Nat) (h : Memory.wf m = true)
    (hk : k < bs.length) : memRead (memWriteL m a bs) (a + k) = bs[k] := by
  induction bs generalizing m a k with
  | nil => exact absurd hk (Nat.not_lt_zero k)
  | cons b bs ih =>
    show memRead (memWriteL (memWrite m a b) (a + 1) bs) (a + k) = _
    cases k with
    | zero =>
      rw [memRead_memWriteL_outside (a + 1) bs (a + 0) (memWrite_wf a b h) (by omega), memRead_memWrite a b _ h]
      simp
    | succ k =>
      have : a + (k + 1) = a + 1 + k := by omega
      rw [this, ih (a + 1) k (memWrite_wf a b h) (by simpa using hk)]
      simp

/-- The memory after reset is canonical. -/
theorem reset_dram_wf : Memory.wf State.reset.dram = true := rfl

end Sys2Proof.Machine
end

