-- ==== Sys2Proof/Laws/Output.lean ====
section
/-! SUPPORT. What `State.send` does with each kind of message (R418): to a peer only while the part is not expelled. -/

namespace Sys2Proof.Machine

@[simp] theorem OutMsg.fabric_arm (dst : Nat) (m : ArmMsg) : (OutMsg.arm dst m).fabric = true := rfl
@[simp] theorem OutMsg.fabric_armAck (dst : Nat) (m : ArmAckMsg) : (OutMsg.armAck dst m).fabric = true := rfl
@[simp] theorem OutMsg.fabric_backup (dst : Nat) (m : BackupMsg) : (OutMsg.backup dst m).fabric = true := rfl
@[simp] theorem OutMsg.fabric_cancel (dst gsid seq : Nat) : (OutMsg.cancel dst gsid seq).fabric = true := rfl
@[simp] theorem OutMsg.fabric_part (dst : Nat) (m : PartMsg) : (OutMsg.part dst m).fabric = true := rfl
@[simp] theorem OutMsg.fabric_publish (dst : Nat) (m : PubMsg) : (OutMsg.publish dst m).fabric = true := rfl
@[simp] theorem OutMsg.fabric_staleMap (dst gsid seq member : Nat) (ref : W64) : (OutMsg.staleMap dst gsid seq member ref).fabric = true := rfl
@[simp] theorem OutMsg.fabric_reserveReq (dst gsid bytes : Nat) : (OutMsg.reserveReq dst gsid bytes).fabric = true := rfl
@[simp] theorem OutMsg.fabric_reserved (dst gsid : Nat) : (OutMsg.reserved dst gsid).fabric = true := rfl
@[simp] theorem OutMsg.fabric_bargeReserve (dst : Nat) (k : BerthKey) (flash : Bool) : (OutMsg.bargeReserve dst k flash).fabric = true := rfl
@[simp] theorem OutMsg.fabric_bargeGrant (dst : Nat) (k : BerthKey) (status : Nat) : (OutMsg.bargeGrant dst k status).fabric = true := rfl
@[simp] theorem OutMsg.fabric_bargeData (dst : Nat) (k : BerthKey) (phase : BargePhase) (img : SlotImage) : (OutMsg.bargeData dst k phase img).fabric = true := rfl
@[simp] theorem OutMsg.fabric_bargeReady (dst : Nat) (k : BerthKey) : (OutMsg.bargeReady dst k).fabric = true := rfl
@[simp] theorem OutMsg.fabric_bargeCommit (dst : Nat) (k : BerthKey) : (OutMsg.bargeCommit dst k).fabric = true := rfl
@[simp] theorem OutMsg.fabric_homeNote (dst epoch : Nat) (k : LayerKey) (block homed : Nat) (gain : Bool) : (OutMsg.homeNote dst epoch k block homed gain).fabric = true := rfl
@[simp] theorem OutMsg.fabric_homeQuery (dst tenant : Nat) : (OutMsg.homeQuery dst tenant).fabric = true := rfl
@[simp] theorem OutMsg.fabric_homeReply (dst : Nat) (blocks : List HomeBlock) : (OutMsg.homeReply dst blocks).fabric = true := rfl
@[simp] theorem OutMsg.fabric_journal (dst tenant : Nat) (recs : List JRecord) : (OutMsg.journal dst tenant recs).fabric = true := rfl
@[simp] theorem OutMsg.fabric_journalFetch (dst : Nat) (k : LayerKey) (first last : Nat) : (OutMsg.journalFetch dst k first last).fabric = true := rfl
@[simp] theorem OutMsg.fabric_journalIndex (dst tenant : Nat) : (OutMsg.journalIndex dst tenant).fabric = true := rfl
@[simp] theorem OutMsg.fabric_journalAck (dst : Nat) (m : JAckMsg) : (OutMsg.journalAck dst m).fabric = true := rfl
@[simp] theorem OutMsg.fabric_cert (dst : Nat) (bytes : List Byte) : (OutMsg.cert dst bytes).fabric = true := rfl
@[simp] theorem OutMsg.fabric_packet (conn : Nat) (p : TxPkt) (retx : Bool) : (OutMsg.packet conn p retx).fabric = true := rfl
@[simp] theorem OutMsg.fabric_ack (conn apsn : Nat) (sack : W64) (owd status spsn : Nat) (ece : Bool) : (OutMsg.ack conn apsn sack owd status spsn ece).fabric = true := rfl
@[simp] theorem OutMsg.fabric_nak (conn status psn : Nat) : (OutMsg.nak conn status psn).fabric = true := rfl
@[simp] theorem OutMsg.fabric_connReq (dst : Nat) (m : ConnSetup) : (OutMsg.connReq dst m).fabric = true := rfl
@[simp] theorem OutMsg.fabric_connAcc (dst : Nat) (m : ConnSetup) : (OutMsg.connAcc dst m).fabric = true := rfl
@[simp] theorem OutMsg.fabric_connClose (conn : Nat) : (OutMsg.connClose conn).fabric = true := rfl
@[simp] theorem OutMsg.fabric_ptpReq (kind seqId : Nat) : (OutMsg.ptpReq kind seqId).fabric = true := rfl
@[simp] theorem OutMsg.fabric_frame (port : Nat) (f : Frame) : (OutMsg.frame port f).fabric = true := rfl
@[simp] theorem OutMsg.fabric_lldp (port : Nat) : (OutMsg.lldp port).fabric = false := rfl
@[simp] theorem OutMsg.fabric_msix (vector : Nat) : (OutMsg.msix vector).fabric = false := rfl
@[simp] theorem OutMsg.fabric_tstr (bits : Option (BitVec 512)) : (OutMsg.tstr bits).fabric = false := rfl
@[simp] theorem OutMsg.fabric_ibi (byte : Byte) : (OutMsg.ibi byte).fabric = false := rfl
@[simp] theorem OutMsg.fabric_spdm (kind : Nat) (body : List Byte) : (OutMsg.spdm kind body).fabric = false := rfl
@[simp] theorem OutMsg.fabric_i3c (body : List Byte) : (OutMsg.i3c body).fabric = false := rfl
@[simp] theorem OutMsg.fabric_lbs (op : LbsOp) : (OutMsg.lbs op).fabric = false := rfl
@[simp] theorem OutMsg.fabric_lbsClear : OutMsg.lbsClear.fabric = false := rfl
@[simp] theorem OutMsg.fabric_tap (bits : BitVec 128) : (OutMsg.tap bits).fabric = false := rfl
@[simp] theorem OutMsg.fabric_read (val : W64) : (OutMsg.read val).fabric = false := rfl
@[simp] theorem OutMsg.fabric_unsupported : OutMsg.unsupported.fabric = false := rfl

/-- A message to the host, the manager or a device goes out whatever the part's standing. -/
theorem State.send_local (s : State) {m : OutMsg} (h : m.fabric = false) : s.send m = { s with sent := s.sent ++ [m] } := by simp [State.send, h]
/-- A message to a peer goes out while the part is not expelled, and is dropped once it is. -/
theorem State.send_peer (s : State) {m : OutMsg} (h : s.expelled = false) : s.send m = { s with sent := s.sent ++ [m] } := by simp [State.send, h]
theorem State.send_dropped (s : State) {m : OutMsg} (h : s.expelled = true) (hm : m.fabric = true) : s.send m = s := by simp [State.send, h, hm]
/-- Several messages to the host, the manager or a device. -/
theorem State.sends_local (ms : List OutMsg) : ∀ s : State, (∀ m ∈ ms, m.fabric = false) → s.sends ms = { s with sent := s.sent ++ ms } := by
  induction ms with
  | nil => intro s _; simp [State.sends]
  | cons m ms ih =>
    intro s h
    have h1 := s.send_local (h m (by simp))
    have h2 := ih (s.send m) (fun x hx => h x (by simp [hx]))
    simp only [State.sends, List.foldl_cons] at h2 ⊢
    rw [h2, h1]; simp

end Sys2Proof.Machine
end

