-- ==== Sys2Proof/WellFormed.lean ====
section
/-! DEFINITION. Well-formed commands: every number in a command fits the width the spec gives its field (R26, R29,
R30, R49, R64, R148, R153, R201, R279, R280, R333, R410, R439). -/

namespace Sys2Proof

/-- Every element is well formed. -/
def listWf {α : Type} (f : α → Bool) (l : List α) : Bool := l.all f

/-- The value, if there is one, is well formed. -/
def optWf {α : Type} (f : α → Bool) (o : Option α) : Bool :=
  match o with
  | some x => f x
  | none => true

/-- A number fits `w` bits. -/
def fits (w x : Nat) : Bool := decide (x < 2 ^ w)

/-- Tenant 12 bits, object 32 bits, layer 16 bits (R29, R153). -/
def LayerKey.wf (k : LayerKey) : Bool := fits 12 k.tenant && fits 32 k.object && fits 16 k.layer

/-- A berth index has 25 bits (R161). -/
def BerthKey.wf (k : BerthKey) : Bool := LayerKey.wf k.lk && fits 25 k.berth

/-- A disturbed byte lies inside the slot (R148). -/
def Upset.wf (u : Upset) : Bool := decide (u.off < 0x14000)

/-- A faulty accumulator element lies in a plane of 32 × 32 (R119). -/
def AccUpset.wf (u : AccUpset) : Bool := fits 1 u.plane && fits 5 u.row && fits 5 u.col

/-- A flipped bit lies inside a ledger entry (R218). -/
def LedgerUpset.wf (u : LedgerUpset) : Bool := decide (u.index < 262144 ∧ u.bit < 354)

/-- The fields of a SWEEP descriptor fit their places (R333). -/
def SweepDesc.wf (d : SweepDesc) : Bool :=
  fits 16 d.tenant && fits 64 d.wrid && fits 8 d.prog && fits 16 d.layer && fits 32 d.object && fits 16 d.nq
    && fits 16 d.treeNodes && fits 32 d.window && fits 32 d.lo && fits 32 d.hi && fits 32 d.treeBase
    && fits 16 d.sink && fits 16 d.k && fits 16 d.mergePoint && fits 16 d.filter && fits 16 d.treeOff && fits 64 d.qbuf && fits 32 d.qlen
    && fits 32 d.reserve && fits 64 d.launch && fits 32 d.minLead && fits 32 d.deadline && fits 32 d.backup && fits 32 d.slotLen
    && fits 64 d.slot

/-- Fabric times are 64-bit tick values (R245). -/
def Times.wf (t : Times) : Bool := fits 64 t.t && optWf (fits 64) t.b && fits 64 t.c && fits 64 t.d

/-- ARM (R64). -/
def ArmMsg.wf (m : ArmMsg) : Bool :=
  fits 24 m.gsid && fits 32 m.seq && fits 10 m.member && fits 10 m.origin && fits 10 m.src && fits 16 m.epoch
    && m.desc.wf && m.times.wf

/-- ARM_ACK (R64). -/
def ArmAckMsg.wf (m : ArmAckMsg) : Bool :=
  fits 24 m.gsid && fits 32 m.seq && fits 10 m.member && fits 10 m.src && fits 32 m.count

/-- BACKUP (R67). -/
def BackupMsg.wf (m : BackupMsg) : Bool := m.arm.wf && optWf (fun a => fits 32 a.1) m.ack

/-- A partial record (R49). -/
def Partial.wf (r : Partial) : Bool :=
  fits 32 r.nExact && fits 32 r.nMan && fits 32 r.nDrop && fits 32 r.nSel && fits 32 r.nSkip && fits 32 r.nTwin
    && fits 32 r.nSuspect && fits 32 r.flags && fits 32 r.qpos && fits 32 r.qid && fits 24 r.sweep
    && fits 32 r.seq && fits 10 r.part && fits 10 r.member && decide (r.o.length ≤ 256)

/-- PART (R65). -/
def PartMsg.wf (m : PartMsg) : Bool :=
  fits 24 m.gsid && fits 32 m.seq && fits 10 m.member && fits 10 m.src && fits 16 m.row && m.body.wf

/-- A publication (R340). -/
def PubMsg.wf (m : PubMsg) : Bool :=
  fits 24 m.gsid && fits 32 m.seq && fits 10 m.filled && fits 10 m.members && listWf Partial.wf m.recs

/-- What a sluice releases names a sweep, a core or a flight of the part (R266). -/
def SluiceRef.wf : SluiceRef → Bool
  | .convoy gsid seq _ => fits 24 gsid && fits 32 seq
  | .core c => fits 12 c
  | .coreFlight c f => fits 12 c && fits 64 f
  | .hostFlight h => fits 64 h

/-- A stored line: LEN × 16 bytes and 16 check bytes in two halves (R196, R201). -/
def StoredLine.wf (l : StoredLine) : Bool :=
  decide (l.lcode ≤ 3 ∧ l.len ≤ 16 ∧ l.bytes.length = 16 * l.len) && fits 16 l.ver

/-- A slot label (R153). -/
def SlotLabel.wf (l : SlotLabel) : Bool :=
  fits 32 l.object && fits 16 l.tenant && fits 16 l.layer && fits 32 l.berth && fits 32 l.gen && fits 8 l.kind

/-- A slot holds at most 256 lines (R148). -/
def SlotImage.wf (i : SlotImage) : Bool :=
  decide (i.lines.length ≤ 256) && listWf StoredLine.wf i.lines && decide (i.man.bytes.length = 3968) && i.label.wf

/-- A HOME block (R230). -/
def HomeBlock.wf (b : HomeBlock) : Bool :=
  fits 12 b.tenant && fits 32 b.object && fits 16 b.layer && fits 25 b.block && fits 16 b.epoch

/-- A PTP Sync (R254). -/
def PtpSyncMsg.wf (m : PtpSyncMsg) : Bool := fits 8 m.domain && fits 16 m.seqId

/-- A PTP Announce (R254). -/
def PtpAnnounce.wf (m : PtpAnnounce) : Bool :=
  fits 8 m.domain && fits 8 m.prio1 && fits 8 m.clockClass && fits 8 m.accuracy && fits 16 m.variance
    && fits 8 m.prio2 && fits 64 m.identity

/-- The base header (R279). -/
def Pkt.wf (h : Pkt) : Bool :=
  fits 2 h.engine && fits 4 h.ver && fits 2 h.vc && fits 24 h.dconn && fits 32 h.tag && fits 13 h.len
    && fits 32 h.psn && fits 32 h.apsn && fits 64 h.ctr && fits 64 h.txtime

/-- The RMA extension (R280). -/
def RmaExt.wf (r : RmaExt) : Bool := fits 32 r.mkey && fits 16 r.mgen && fits 32 r.msgLen

/-- The RESPONSE extension (R280). -/
def RespExt.wf (r : RespExt) : Bool := fits 32 r.rpsn && fits 16 r.status

/-- The ACK extension (R280). -/
def AckExt.wf (a : AckExt) : Bool := fits 32 a.owd && fits 16 a.status && fits 32 a.spsn

/-- CONN_REQ and CONN_ACC (R290). -/
def ConnSetup.wf (m : ConnSetup) : Bool :=
  fits 10 m.pkg && fits 24 m.conn && fits 24 m.peerConn && fits 2 m.kind && fits 12 m.tenant

/-- A journal record (R410). -/
def JRecord.wf (r : JRecord) : Bool :=
  r.key.wf && fits 64 r.jseq && fits 32 r.gen && fits 16 r.count
    && match r.body with
       | .image img => img.wf
       | .lines ls => ls.all (fun l => decide (l.1 < 256) && l.2.wf)
       | _ => true

/-- JOURNAL_ACK (R410). -/
def JAckMsg.wf (m : JAckMsg) : Bool :=
  fits 12 m.tenant && fits 16 m.status && fits 64 m.recv && fits 64 m.durable && listWf JRecord.wf m.images
    && optWf (listWf (fun (e : JIndexEntry) => e.key.wf && fits 16 e.count && fits 32 e.gen)) m.index

/-- A towpath frame carries at most 255 data bytes (R439). -/
def TwpFrame.wf (f : TwpFrame) : Bool := decide (f.data.length ≤ 255)

/-- A command is well formed: its operands fit their fields. -/
def Instr.wf : Instr → Bool
  | .registerWrite _ _ _ => true
  | .paceWindowEnd counts => decide (counts.length = 32)
  | .sweep _ _ => true
  | .mergeSlotReserve _ => true
  | .arm m => (ArmMsg.wf m)
  | .armAck m => (ArmAckMsg.wf m)
  | .staleMap _ _ _ _ => true
  | .sluiceRelease which => (SluiceRef.wf which)
  | .graceExpiry _ _ _ => true
  | .memberCutoff _ _ _ => true
  | .memberRecordsSend _ _ _ => true
  | .regionPartialMerge _ _ _ _ _ => true
  | .backupPoint _ _ => true
  | .backup m => (BackupMsg.wf m)
  | .cancelMsg _ _ => true
  | .part m => (PartMsg.wf m)
  | .mergeDeadline _ _ => true
  | .mergeLostTimeout _ => true
  | .runStart _ _ _ _ _ _ => true
  | .runOverdue _ => true
  | .br _ => true
  | .brR _ => true
  | .loopI _ => true
  | .call _ => true
  | .ret _ => true
  | .halt _ => true
  | .nop _ => true
  | .add _ => true
  | .addI _ => true
  | .sub _ => true
  | .subI _ => true
  | .andR _ => true
  | .andI _ => true
  | .orR _ => true
  | .orI _ => true
  | .xorR _ => true
  | .xorI _ => true
  | .shl _ => true
  | .shlI _ => true
  | .shr _ => true
  | .shrI _ => true
  | .sra _ => true
  | .sraI _ => true
  | .mul _ => true
  | .mulI _ => true
  | .mov _ => true
  | .movh _ => true
  | .cmpEq _ => true
  | .cmpEqI _ => true
  | .cmpNe _ => true
  | .cmpNeI _ => true
  | .cmpLt _ => true
  | .cmpLtI _ => true
  | .cmpLtu _ => true
  | .cmpLtuI _ => true
  | .ext _ => true
  | .plog _ => true
  | .ldD _ _ => true
  | .ldW _ _ => true
  | .ldH _ _ => true
  | .ldB _ _ => true
  | .stD _ => true
  | .stW _ => true
  | .stH _ => true
  | .stB _ => true
  | .vld _ _ => true
  | .vst _ => true
  | .tldK _ => true
  | .tldV _ => true
  | .tldMan _ => true
  | .tldManNext _ => true
  | .tldManRequeue _ _ => true
  | .tstLd _ _ => true
  | .tstSt _ => true
  | .dotQk _ => true
  | .accPv _ => true
  | .scaleS _ => true
  | .scaleO _ => true
  | .rope _ => true
  | .mskCausal _ => true
  | .mskWin _ => true
  | .mskTree _ => true
  | .smxUpd _ => true
  | .smxUpdMan _ => true
  | .smxUpdSkip _ => true
  | .smxExp _ => true
  | .abftAcc _ => true
  | .abftChk _ upset _ => (optWf AccUpset.wf upset)
  | .mergePart _ => true
  | .mergePartDrop _ => true
  | .mergePartR _ => true
  | .emitPart _ => true
  | .chAdd _ => true
  | .chSet _ => true
  | .chSetThr _ => true
  | .chWait _ => true
  | .atGate _ => true
  | .untilTime _ => true
  | .flightArm _ => true
  | .flightArmCancel _ => true
  | .fxPut _ => true
  | .fxGet _ => true
  | .fxAdd _ => true
  | .fxCas _ => true
  | .fxFlush _ => true
  | .sndScan _ => true
  | .sndTop _ => true
  | .holdBegin _ => true
  | .holdEnd _ => true
  | .brk _ => true
  | .chamberWaitTimeout => true
  | .pageWalk _ _ => true
  | .leafReadDone k _ => (LayerKey.wf k)
  | .stageComplete _ _ ups => (listWf Upset.wf ups)
  | .flashReadDone k _ ups => (BerthKey.wf k) && (listWf Upset.wf ups)
  | .stagingCopyExpiry k => (BerthKey.wf k)
  | .baseBerthExpiry _ _ => true
  | .localBargeStart k => (BerthKey.wf k)
  | .bargeSwitch k => (BerthKey.wf k)
  | .plbInvalAcked => true
  | .sourceDrainFree _ => true
  | .flashBlockEraseDone _ block => block.all (fun x => decide (x < 2 ^ 32))
  | .flashProgramFail k => (BerthKey.wf k)
  | .bargeReserve _ _ k _ => (BerthKey.wf k)
  | .bargeGrant _ k _ => (BerthKey.wf k)
  | .bargeData _ k _ slot => (BerthKey.wf k) && (SlotImage.wf slot)
  | .bargeReady _ k => (BerthKey.wf k)
  | .bargeCommitAfterCutoff k => (BerthKey.wf k)
  | .bargeCommit _ k => (BerthKey.wf k)
  | .tombstoneExpiry k => (BerthKey.wf k)
  | .evictionScan k => (LayerKey.wf k)
  | .prefetchLeadUpdate _ => true
  | .berthWrite k => (BerthKey.wf k)
  | .ledgerCursorLookup _ _ _ => true
  | .ledgerCursorNext _ => true
  | .ledgerCursorClose _ => true
  | .ldgRetireLogRead => true
  | .homeInsertRetry => true
  | .dredgeVisit ups => (listWf LedgerUpset.wf ups)
  | .rebuildDone => true
  | .homeNote _ _ k _ _ _ => (LayerKey.wf k)
  | .homeQuery _ _ => true
  | .homeReply _ blocks => (listWf HomeBlock.wf blocks)
  | .soundingRoomGrant => true
  | .engineEstimate _ _ _ _ => true
  | .selectionFixed _ _ => true
  | .graphInsert k => (BerthKey.wf k)
  | .strandFrame _ _ => true
  | .strandNoSignal => true
  | .ptpSync m => (PtpSyncMsg.wf m)
  | .ptpFollowUp _ _ _ => true
  | .ptpDelayResp _ _ _ => true
  | .ptpPdelayResp _ _ _ _ => true
  | .ptpAnnounce m => (PtpAnnounce.wf m)
  | .sourceLoss => true
  | .holdoverExpiry => true
  | .tbSet _ => true
  | .chAllocate _ _ => true
  | .chFree _ _ _ => true
  | .chCfgWrite _ => true
  | .portDown _ => true
  | .portUp _ => true
  | .portHoldExpiry _ => true
  | .laneRemap _ _ => true
  | .prtEngCtlWrite _ _ => true
  | .sakRekey _ => true
  | .mkaFrame _ _ sak => decide (sak.length = 32)
  | .lldpFrame _ _ _ => true
  | .readReq h r => (Pkt.wf h) && (RmaExt.wf r)
  | .readResp h r _ => (Pkt.wf h) && (RespExt.wf r)
  | .write h r _ => (Pkt.wf h) && (RmaExt.wf r)
  | .atomicAdd h r => (Pkt.wf h) && (RmaExt.wf r)
  | .cas h r => (Pkt.wf h) && (RmaExt.wf r)
  | .atomicResp h r => (Pkt.wf h) && (RespExt.wf r)
  | .fabricChAdd h r => (Pkt.wf h) && (RmaExt.wf r)
  | .flush h r _ => (Pkt.wf h) && (RmaExt.wf r)
  | .flushResp h r => (Pkt.wf h) && (RespExt.wf r)
  | .enable h r _ => (Pkt.wf h) && (RmaExt.wf r)
  | .ack h a => (Pkt.wf h) && (AckExt.wf a)
  | .ackTimer _ => true
  | .retransmitTimeout _ => true
  | .connLossExpiry _ => true
  | .targetBusyRetry _ => true
  | .connReq m => (ConnSetup.wf m)
  | .connAcc m => (ConnSetup.wf m)
  | .connReqRetry _ => true
  | .connCloseMsg _ => true
  | .contextLoadDone _ => true
  | .connDbSend _ _ _ => true
  | .connDbRecv _ _ _ => true
  | .connDbCompletion _ _ _ => true
  | .wrStart _ => true
  | .portFrameSelect _ => true
  | .trfCtlWrite _ => true
  | .trfMrateWrite _ => true
  | .pcieHotReset => true
  | .serviceEntry => true
  | .sqTail _ _ _ => true
  | .cqHead _ _ _ => true
  | .evtHead _ _ => true
  | .excHead _ _ => true
  | .release _ _ => true
  | .coalTimer _ _ => true
  | .cancel _ _ => true
  | .createObject _ _ => true
  | .updateObject _ _ => true
  | .destroyObject _ _ => true
  | .append _ _ ups => (listWf Upset.wf ups)
  | .truncate _ _ ups => (listWf Upset.wf ups)
  | .loadProgram _ _ => true
  | .retiringImageFree _ _ => true
  | .ringConfig _ _ => true
  | .moorReg _ _ => true
  | .moorRevoke _ _ => true
  | .moorDereg _ _ => true
  | .flightArmDesc _ _ => true
  | .flightCancel _ _ => true
  | .connOpen _ _ => true
  | .connClose _ _ => true
  | .compose _ => true
  | .clusterPass _ => true
  | .resize _ => true
  | .decompose _ => true
  | .basinTenant _ => true
  | .mapEpoch _ => true
  | .bsnEpochWrite _ => true
  | .bsnCmdGo _ => true
  | .moveObject _ _ => true
  | .moveLedgerSwitch _ _ => true
  | .backgroundPull k => (BerthKey.wf k)
  | .tenantReserve _ => true
  | .tenantRemove _ => true
  | .removalFence => true
  | .removalCancel => true
  | .removalScrub => true
  | .removalReport => true
  | .bind _ _ => true
  | .unbind _ _ => true
  | .keyExchange _ _ => true
  | .finish _ _ => true
  | .getMeasurements _ => true
  | .getCertificate _ => true
  | .challenge _ _ => true
  | .keyUpdate _ => true
  | .heartbeat _ => true
  | .endSession _ => true
  | .getSlot _ _ => true
  | .keyLoad _ _ _ _ => true
  | .keyConn _ _ _ => true
  | .ownerClaim _ => true
  | .ownerTransfer _ _ => true
  | .sysKey _ _ _ _ _ _ => true
  | .debugUnlock _ _ => true
  | .tenant0Key _ _ _ => true
  | .lockInterface => true
  | .startInterface => true
  | .stopInterface => true
  | .ideKm _ _ _ => true
  | .ideIntegrityFail => true
  | .ideKeyExpiry => true
  | .powerOn _ _ _ => true
  | .pinReset _ => true
  | .resetStretchEnd => true
  | .aonPowerLoss => true
  | .vinMainLoss => true
  | .vinMainStable => true
  | .brownOut => true
  | .thermalTrip => true
  | .thermalClear => true
  | .swrst _ => true
  | .rstCauseRead => true
  | .forceLw _ => true
  | .bootLoad => true
  | .imageVerifyDone => true
  | .keepersRunning => true
  | .bootCountClear => true
  | .attemptClear _ => true
  | .diagDramTest => true
  | .diagFlashScan => true
  | .diagOpticalLoopback => true
  | .diagDone _ _ => true
  | .keeperWatchdogExpiry _ _ => true
  | .updStage => true
  | .updateStaged => true
  | .updSwitch => true
  | .keeperSwitchNext => true
  | .settingsSave _ => true
  | .settingsSaveDone => true
  | .twnCfgWrite _ _ => true
  | .journalRecords _ recs => (listWf JRecord.wf recs)
  | .journalFetch k _ _ => (LayerKey.wf k)
  | .journalIndex _ => true
  | .journalAck m => (JAckMsg.wf m)
  | .journalAckTimeout => true
  | .journalFlushTimer _ => true
  | .workingCopyIdle k => (BerthKey.wf k)
  | .qset _ => true
  | .expel _ => true
  | .takeover _ => true
  | .rejoin _ => true
  | .request _ => true
  | .requestTimer => true
  | .selfTestStart _ => true
  | .selfTestDone _ _ => true
  | .regionBypass _ => true
  | .regionReturn _ => true
  | .regionTest _ _ => true
  | .flashDrain _ => true
  | .flashIsolate _ => true
  | .flashReturn _ => true
  | .hbmRetire _ => true
  | .releaseHeld _ => true
  | .regionFaultBypass _ => true
  | .bypassRunTimeout _ => true
  | .flashChannelFailure _ => true
  | .plbInvBasin _ => true
  | .plbInvAll _ => true
  | .entdaa _ => true
  | .setdasa => true
  | .setnewda _ => true
  | .rstdaa => true
  | .enec => true
  | .disec => true
  | .getpid => true
  | .getbcr => true
  | .getdcr => true
  | .getstatus => true
  | .getmwl => true
  | .getmrl => true
  | .setmwl _ => true
  | .setmrl _ => true
  | .regRead f => (TwpFrame.wf f)
  | .regWrite f => (TwpFrame.wf f)
  | .imgWrite f => (TwpFrame.wf f)
  | .statusRead f => (TwpFrame.wf f)
  | .sensorUpdate vals => decide (vals.length = 20)
  | .regulatorPoll => true
  | .lbsXfer _ => true
  | .lbsTransferDone _ _ => true
  | .lbsTimeout => true
  | .lbsClear sda _ => decide (sda.length ≤ 9)
  | .lbsClearRetry sda _ => decide (sda.length ≤ 9)
  | .extest => true
  | .samplePreload _ _ => true
  | .idcode => true
  | .clamp => true
  | .highz => true
  | .dbgSel _ => true
  | .bypass => true
  | .dbgHalt => true
  | .haltDeferLimit _ => true
  | .forceHalt => true
  | .resume => true
  | .stepOne => true
  | .rdreg => true
  | .wrreg => true
  | .rdmem => true
  | .wrmem => true
  | .breakSet => true
  | .qread => true
  | .strandTransitionsReturn => true
  | .journalPageProgrammed _ => true
  | .publicationArrival m => (PubMsg.wf m)
  | .frozenConfigChange => true
  | .registerRead _ _ => true
  | .bar2Write _ data _ => decide (data.length ≤ 4096)
  | .dramReady => true
  | .getVersion => true
  | .getCapabilities => true
  | .negotiateAlgorithms => true
  | .getDigests => true
  | .ptpDelayReqTimer => true

end Sys2Proof
end

section
/-! SUPPORT. A word read field by field: what setting one field leaves in it and in the fields apart from it, and what a register's
fields hold after each of them has been treated in turn, as a write and a read of the register do (R6, R7). -/

namespace Sys2Proof.Machine

/-! ### Fields of a word -/

/-- A field's bits are the word's bits from the field's least bit on. -/
theorem testBit_fld (v : W64) (lo w i : Nat) : (fld v lo w).testBit i = (decide (i < w) && v.toNat.testBit (i + lo)) := by
  simp [fld, Nat.testBit_mod_two_pow, Nat.testBit_div_two_pow]

theorem fld_lt (v : W64) (lo w : Nat) : fld v lo w < 2 ^ w := Nat.mod_lt _ (by positivity)

/-- Bit by bit, a word with a field set: the value's bits inside the field, the old bits outside. -/
theorem testBit_setFld {v : W64} {lo w : Nat} (x : Nat) (h : lo + w ≤ 64) (i : Nat) :
    (setFld v lo w x).toNat.testBit i = if lo ≤ i ∧ i < lo + w then x.testBit (i - lo) else v.toNat.testBit i := by
  have hlow : v.toNat % 2 ^ lo < 2 ^ lo := Nat.mod_lt _ (by positivity)
  have hx : x % 2 ^ w < 2 ^ w := Nat.mod_lt _ (by positivity)
  have hold : v.toNat = 2 ^ lo * (2 ^ w * (v.toNat / 2 ^ lo / 2 ^ w) + v.toNat / 2 ^ lo % 2 ^ w) + v.toNat % 2 ^ lo := by
    rw [Nat.div_add_mod, Nat.div_add_mod]
  have hset : v.toNat - v.toNat / 2 ^ lo % 2 ^ w * 2 ^ lo + x % 2 ^ w * 2 ^ lo =
      2 ^ lo * (2 ^ w * (v.toNat / 2 ^ lo / 2 ^ w) + x % 2 ^ w) + v.toNat % 2 ^ lo := by
    rw [Nat.mul_add] at hold ⊢
    rw [Nat.mul_comm (v.toNat / 2 ^ lo % 2 ^ w), Nat.mul_comm (x % 2 ^ w)]
    omega
  rw [setFld, BitVec.toNat_ofNat, Nat.testBit_mod_two_pow, hset, Nat.testBit_two_pow_mul_add _ hlow, Nat.testBit_two_pow_mul_add _ hx,
    Nat.testBit_mod_two_pow, Nat.testBit_mod_two_pow, Nat.testBit_div_two_pow, Nat.testBit_div_two_pow]
  by_cases h64 : i < 64
  · by_cases hbelow : i < lo
    · simp [h64, hbelow, Nat.not_le.mpr hbelow]
    · by_cases hin : i < lo + w
      · simp [h64, hbelow, hin, Nat.not_lt.mp hbelow, show i - lo < w by omega]
      · simp [h64, hbelow, hin, show ¬ i - lo < w by omega, show i - lo - w + w + lo = i by omega]
  · rw [if_neg (by omega : ¬ (lo ≤ i ∧ i < lo + w)), Nat.testBit_lt_two_pow (v.isLt.trans_le (Nat.pow_le_pow_right two_pos (Nat.not_lt.mp h64)))]
    simp [h64]

/-- A field set holds the value, cut to its width. -/
theorem fld_setFld {v : W64} {lo w : Nat} (x : Nat) (h : lo + w ≤ 64) : fld (setFld v lo w x) lo w = x % 2 ^ w := by
  refine Nat.eq_of_testBit_eq fun i => ?_
  rw [testBit_fld, testBit_setFld x h, Nat.testBit_mod_two_pow]
  by_cases hi : i < w <;> simp [hi, Nat.add_comm i lo]

/-- Setting a field leaves the fields apart from it. -/
theorem fld_setFld_apart {v : W64} {lo w lo' w' : Nat} (x : Nat) (h : lo + w ≤ 64) (ha : lo + w ≤ lo' ∨ lo' + w' ≤ lo) :
    fld (setFld v lo w x) lo' w' = fld v lo' w' := by
  refine Nat.eq_of_testBit_eq fun i => ?_
  rw [testBit_fld, testBit_fld, testBit_setFld x h]
  by_cases hi : i < w'
  · rw [if_neg (by omega)]
  · simp [hi]

/-- Taking away the bits two numbers share clears them, as a write of a W1C field does (R6). -/
theorem testBit_sub_and (a b i : Nat) : (a - (a &&& b)).testBit i = (a.testBit i && !b.testBit i) := by
  have hle (x y : Nat) : x &&& y ≤ x := Nat.and_le_left
  have hpar (x y : Nat) : (x &&& y) % 2 = 1 ↔ x % 2 = 1 ∧ y % 2 = 1 := Nat.and_mod_two_eq_one
  induction i generalizing a b with
  | zero =>
    have := hle a b
    have := hpar a b
    rw [Nat.testBit_zero, Nat.testBit_zero, Nat.testBit_zero, ← decide_not, ← Bool.decide_and, decide_eq_decide]
    omega
  | succ i ih =>
    have hhalf : (a - (a &&& b)) / 2 = a / 2 - (a / 2 &&& b / 2) := by
      have := hle a b
      have := hpar a b
      rw [← Nat.and_div_two]
      omega
    rw [Nat.testBit_succ, Nat.testBit_succ, Nat.testBit_succ, hhalf, ih]

/-! ### The fields of a register -/

/-- Fields from bit `n` on in rising order, apart from one another and inside the word. -/
def laidFrom : Nat → List RField → Bool
  | _, [] => true
  | n, f :: fs => decide (n ≤ f.lo) && decide (f.lo + f.w ≤ 64) && laidFrom (f.lo + f.w) fs

theorem laidFrom_cons {n : Nat} {f : RField} {fs : List RField} :
    laidFrom n (f :: fs) = true ↔ n ≤ f.lo ∧ f.lo + f.w ≤ 64 ∧ laidFrom (f.lo + f.w) fs = true := by
  simp [laidFrom, and_assoc]

/-- Fields laid out from a bit on lie above it and inside the word. -/
theorem laidFrom_mem {n : Nat} {fs : List RField} (h : laidFrom n fs = true) {f : RField} (hf : f ∈ fs) :
    n ≤ f.lo ∧ f.lo + f.w ≤ 64 := by
  induction fs generalizing n with
  | nil => cases hf
  | cons g gs ih =>
    obtain ⟨hn, h64, hgs⟩ := laidFrom_cons.mp h
    rcases List.mem_cons.mp hf with rfl | hf
    · exact ⟨hn, h64⟩
    · have := ih hgs hf
      exact ⟨by omega, this.2⟩

theorem regTable_laid : regTable.all (fun p => laidFrom 0 p.2) = true := by decide

/-- The map lays out the fields of every register. -/
theorem regFields_laid (off : Nat) : laidFrom 0 (regFields off) = true := by
  unfold regFields
  split
  · cases hl : regTable.lookup (regBase off) with
    | none => rfl
    | some fs =>
      obtain ⟨l₁, l₂, htab, -⟩ := List.lookup_eq_some_iff.mp hl
      exact List.all_eq_true.mp regTable_laid (regBase off, fs) (by rw [htab]; simp)
  · rfl

/-- A treatment of one field at a time that leaves every field apart from the one treated. -/
def Fieldwise (g : W64 → RField → W64) : Prop :=
  ∀ (v : W64) (f : RField) (lo w : Nat), f.lo + f.w ≤ 64 → f.lo + f.w ≤ lo ∨ lo + w ≤ f.lo → fld (g v f) lo w = fld v lo w

/-- Treating fields from a bit on leaves what lies below it. -/
theorem Fieldwise.fld_foldl_below {g : W64 → RField → W64} (hg : Fieldwise g) {fs : List RField} {n lo w : Nat}
    (h : laidFrom n fs = true) (hn : lo + w ≤ n) (v : W64) : fld (fs.foldl g v) lo w = fld v lo w := by
  induction fs generalizing n v with
  | nil => rfl
  | cons f fs ih =>
    obtain ⟨hlo, h64, hfs⟩ := laidFrom_cons.mp h
    rw [List.foldl_cons, ih hfs (by omega), hg v f lo w h64 (.inr (by omega))]

/-- After all fields are treated, each stands as its own treatment left it, from the value it had. -/
theorem Fieldwise.fld_foldl {g : W64 → RField → W64} (hg : Fieldwise g) {fs : List RField} {n : Nat} (h : laidFrom n fs = true)
    {f : RField} (hf : f ∈ fs) (v : W64) :
    ∃ u, fld u f.lo f.w = fld v f.lo f.w ∧ fld (fs.foldl g v) f.lo f.w = fld (g u f) f.lo f.w := by
  induction fs generalizing n v with
  | nil => cases hf
  | cons f' fs ih =>
    obtain ⟨-, h64, hfs⟩ := laidFrom_cons.mp h
    rcases List.mem_cons.mp hf with rfl | hf
    · exact ⟨v, rfl, hg.fld_foldl_below hfs le_rfl (g v f)⟩
    · obtain ⟨u, hu, hfold⟩ := ih hfs hf (g v f')
      exact ⟨u, hu.trans (hg v f' f.lo f.w h64 (.inl (laidFrom_mem hfs hf).1)), hfold⟩

/-! ### A register written and read -/

theorem writeField_apart (val : W64) : Fieldwise (fun v f => writeField f v val) := by
  intro v f lo w h64 ha
  show fld (writeField f v val) lo w = _
  unfold writeField
  split
  · exact fld_setFld_apart _ h64 ha
  · exact fld_setFld_apart _ h64 ha
  · rfl

/-- A written RW field takes the bits written, a W1C field loses those written as 1, the others stay (R6). -/
theorem fld_writeField {f : RField} (u val : W64) (h64 : f.lo + f.w ≤ 64) :
    (f.acc = .RW → fld (writeField f u val) f.lo f.w = fld val f.lo f.w) ∧
    (f.acc = .W1C → ∀ i < f.w, (fld (writeField f u val) f.lo f.w).testBit i = ((fld u f.lo f.w).testBit i && !(fld val f.lo f.w).testBit i)) ∧
    (f.acc ≠ .RW → f.acc ≠ .W1C → fld (writeField f u val) f.lo f.w = fld u f.lo f.w) := by
  refine ⟨fun hacc => ?_, fun hacc i hi => ?_, fun hrw hw1c => ?_⟩
  · simp only [writeField, hacc]
    rw [fld_setFld _ h64, Nat.mod_eq_of_lt (fld_lt val f.lo f.w)]
  · simp only [writeField, hacc]
    rw [fld_setFld _ h64, Nat.testBit_mod_two_pow, testBit_sub_and, decide_eq_true hi, Bool.true_and]
  · unfold writeField
    split
    · exact absurd ‹_› hrw
    · exact absurd ‹_› hw1c
    · rfl

/-- Every field of a register written: as its access code says, a reserved value leaving an RW field as it was (R6, R7). -/
theorem fld_written (off : Nat) (old val : W64) {f : RField} (hf : f ∈ regFields off) :
    (f.acc = .RW → fld (written off old val) f.lo f.w = fld val f.lo f.w ∨
      (fld (written off old val) f.lo f.w = fld old f.lo f.w ∧ ∃ x, reservedIn off f.lo (fld val f.lo f.w) x = true)) ∧
    (f.acc = .W1C → ∀ i < f.w, (fld (written off old val) f.lo f.w).testBit i =
      ((fld old f.lo f.w).testBit i && !(fld val f.lo f.w).testBit i)) ∧
    (f.acc ≠ .RW → f.acc ≠ .W1C → fld (written off old val) f.lo f.w = fld old f.lo f.w) := by
  have hapart : Fieldwise (fun v g => if g.acc = .RW ∧ reservedIn off g.lo (fld val g.lo g.w) v then v else writeField g v val) := by
    intro v g lo w h64 ha
    dsimp only
    split
    · rfl
    · exact writeField_apart val v g lo w h64 ha
  obtain ⟨u, hu, hval⟩ := hapart.fld_foldl (regFields_laid off) hf old
  obtain ⟨hrw, hw1c, hother⟩ := fld_writeField u val (laidFrom_mem (regFields_laid off) hf).2
  rw [written, hval, ← hu]
  split
  · next hres => exact ⟨fun _ => .inr ⟨rfl, u, hres.2⟩, fun hacc => absurd (hres.1.symm.trans hacc) (by decide), fun _ _ => rfl⟩
  · exact ⟨fun hacc => .inl (hrw hacc), hw1c, hother⟩

/-- Every field of a register read: RC fields are cleared, the others stay (R6). -/
theorem fld_readClear {fs : List RField} {n : Nat} (h : laidFrom n fs = true) (old : W64) {f : RField} (hf : f ∈ fs) :
    fld (readClear fs old) f.lo f.w = if f.acc = .RC then 0 else fld old f.lo f.w := by
  have hapart : Fieldwise (fun v g => if g.acc = .RC then setFld v g.lo g.w 0 else v) := by
    intro v g lo w h64 ha
    dsimp only
    split
    · exact fld_setFld_apart 0 h64 ha
    · rfl
  obtain ⟨u, hu, hval⟩ := hapart.fld_foldl h hf old
  rw [readClear, hval, ← hu]
  split
  · rw [fld_setFld 0 (laidFrom_mem h hf).2, Nat.zero_mod]
  · rfl

end Sys2Proof.Machine
end

section
/-! SUPPORT. What the updates of registers by field, the outputs and the pace of a window do to the stored registers (R22 to R24), and
what a register access by the host comes to (R6, R7, R326, R369). -/

namespace Sys2Proof.Machine

/-! ### Registers updated by field -/

@[simp] theorem State.fld_setReg (s : State) (off : Nat) (v : W64) (lo w : Nat) : (s.setReg off v).fld off lo w = Sys2Proof.fld v lo w := by
  simp [State.fld]

theorem State.fld_setReg_ne (s : State) {off o : Nat} (v : W64) (lo w : Nat) (h : off ≠ o) : (s.setReg off v).fld o lo w = s.fld o lo w := by
  simp [State.fld, s.reg_setReg_ne off v h]

theorem State.reg_setFld_ne (s : State) {off o : Nat} (lo w x : Nat) (h : off ≠ o) : (s.setFld off lo w x).reg o = s.reg o :=
  s.reg_setReg_ne off _ h

theorem State.fld_setFld (s : State) (off : Nat) {lo w : Nat} (x : Nat) (h : lo + w ≤ 64) : (s.setFld off lo w x).fld off lo w = x % 2 ^ w := by
  simp [State.setFld, Machine.fld_setFld x h]

theorem State.fld_setFld_apart (s : State) (off : Nat) {lo w lo' w' : Nat} (x : Nat) (h : lo + w ≤ 64) (ha : lo + w ≤ lo' ∨ lo' + w' ≤ lo) :
    (s.setFld off lo w x).fld off lo' w' = s.fld off lo' w' := by
  simp [State.setFld, Machine.fld_setFld_apart x h ha, State.fld]

theorem State.fld_setFld_ne (s : State) {off o : Nat} (lo w x lo' w' : Nat) (h : off ≠ o) :
    (s.setFld off lo w x).fld o lo' w' = s.fld o lo' w' :=
  s.fld_setReg_ne _ lo' w' h

/-- A counter raised shows the saturating sum. -/
theorem State.fld_bump (s : State) (off : Nat) {lo w : Nat} (d : Nat) (h : lo + w ≤ 64) :
    (s.bump off lo w d).fld off lo w = satAdd w (s.fld off lo w) d := by
  have hpos : 0 < 2 ^ w := by positivity
  rw [State.bump, s.fld_setFld off _ h, Nat.mod_eq_of_lt]
  unfold satAdd
  omega

theorem State.turnedAway_error {s : State} (h : s.sec.tdisp = 3) : s.turnedAway = s.bump rSecErr 32 32 1 := if_pos h

/-! ### Outputs -/

@[simp] theorem State.reg_of_send (s : State) (m : OutMsg) (o : Nat) : (s.send m).reg o = s.reg o := by
  unfold State.send; split <;> rfl

@[simp] theorem State.dram_of_send (s : State) (m : OutMsg) : (s.send m).dram = s.dram := by
  unfold State.send; split <;> rfl

@[simp] theorem State.dram_of_raiseMsix (s : State) (v : Nat) : (s.raiseMsix v).dram = s.dram := by
  unfold State.raiseMsix; split <;> simp

/-- A vector raised changes no register but the pending bits. -/
theorem State.reg_raiseMsix_ne (s : State) (v : Nat) {o : Nat} (h : rMsixPba ≠ o) : (s.raiseMsix v).reg o = s.reg o := by
  unfold State.raiseMsix
  split
  · exact s.reg_setFld_ne v 1 1 h
  · exact s.reg_of_send _ o

/-! ### The pace of a window -/

/-- The word a region's pace register takes at the end of a window. -/
def State.paceWord (s : State) (r steps : Nat) : W64 :=
  let seq := (s.fld (rHubPaceReg + 8 * r) 32 16 + 1) % 2 ^ 16
  if (s.region r).out || (s.region r).midWindow then pack 0 [(32, 16, seq)] else pack 0 [(0, 32, steps), (32, 16, seq), (48, 1, 1)]

theorem State.paceWord_reporting {s : State} {r : Nat} (steps : Nat) (hout : (s.region r).out = false) (hmid : (s.region r).midWindow = false) :
    s.paceWord r steps = pack 0 [(0, 32, steps), (32, 16, (s.fld (rHubPaceReg + 8 * r) 32 16 + 1) % 2 ^ 16), (48, 1, 1)] := by
  simp [State.paceWord, hout, hmid]

/-- A region out of service shows no valid pace. -/
theorem State.fld_paceWord_out {s : State} {r : Nat} (steps : Nat) (hout : (s.region r).out = true) :
    Sys2Proof.fld (s.paceWord r steps) 48 1 = 0 := by
  simp only [State.paceWord, hout, Bool.true_or, if_true, pack, List.foldl_cons, List.foldl_nil]
  rw [Machine.fld_setFld_apart _ (by omega) (by omega)]
  rfl

theorem State.reg_paceStore (s : State) (r steps : Nat) : (s.paceStore r steps).reg (rHubPaceReg + 8 * r) = s.paceWord r steps := by
  unfold State.paceStore State.paceWord
  dsimp only
  cases (s.region r).out <;> cases (s.region r).midWindow <;> simp

theorem State.reg_paceStore_ne (s : State) {r : Nat} (steps : Nat) {o : Nat} (h : rHubPaceReg + 8 * r ≠ o) :
    (s.paceStore r steps).reg o = s.reg o := by
  unfold State.paceStore
  dsimp only
  split_ifs <;> simp [State.reg_setReg_ne _ _ _ h]

theorem State.region_paceStore_ne (s : State) {r : Nat} (steps : Nat) {q : Nat} (h : r ≠ q) :
    (s.paceStore r steps).region q = s.region q := by
  unfold State.paceStore
  dsimp only
  split_ifs <;> simp [State.region_setRegion_ne _ _ _ h]

@[simp] theorem State.dram_paceStore (s : State) (r steps : Nat) : (s.paceStore r steps).dram = s.dram := by
  unfold State.paceStore
  dsimp only
  split_ifs <;> rfl

/-- The pace registers of the regions listed, stored in turn. -/
def State.paceStores (s : State) (counts : List Nat) (rs : List Nat) : State :=
  rs.foldl (fun (s : State) r => s.paceStore r (nthD 0 counts r % 2 ^ 32)) s

theorem State.paceStores_cons (s : State) (counts : List Nat) (r : Nat) (rs : List Nat) :
    s.paceStores counts (r :: rs) = (s.paceStore r (nthD 0 counts r % 2 ^ 32)).paceStores counts rs := rfl

@[simp] theorem State.dram_paceStores (counts rs : List Nat) (s : State) : (s.paceStores counts rs).dram = s.dram := by
  induction rs generalizing s with
  | nil => rfl
  | cons r rs ih => rw [State.paceStores_cons, ih, State.dram_paceStore]

/-- A register other than those of the regions listed stays. -/
theorem State.reg_paceStores_ne (counts : List Nat) {rs : List Nat} (s : State) {o : Nat} (h : ∀ r ∈ rs, rHubPaceReg + 8 * r ≠ o) :
    (s.paceStores counts rs).reg o = s.reg o := by
  induction rs generalizing s with
  | nil => rfl
  | cons r rs ih =>
    rw [State.paceStores_cons, ih _ (fun q hq => h q (by simp [hq])), s.reg_paceStore_ne _ (h r (by simp))]

/-- Each region listed gets the word of its own state and count: the others before it touch neither. -/
theorem State.reg_paceStores (counts : List Nat) {rs : List Nat} (hnd : rs.Nodup) (s : State) {r : Nat} (hr : r ∈ rs) :
    (s.paceStores counts rs).reg (rHubPaceReg + 8 * r) = s.paceWord r (nthD 0 counts r % 2 ^ 32) := by
  induction rs generalizing s with
  | nil => cases hr
  | cons q rs ih =>
    obtain ⟨hq, hnd⟩ := List.nodup_cons.mp hnd
    rw [State.paceStores_cons]
    rcases List.mem_cons.mp hr with rfl | hr
    · rw [State.reg_paceStores_ne counts _ (fun p hp => ?_), State.reg_paceStore]
      have : p ≠ r := fun h => hq (h ▸ hp)
      omega
    · have hne : q ≠ r := fun h => hq (h ▸ hr)
      rw [ih hnd _ hr]
      simp only [State.paceWord, State.fld, s.region_paceStore_ne _ hne,
        s.reg_paceStore_ne _ (show rHubPaceReg + 8 * q ≠ rHubPaceReg + 8 * r by omega)]

/-- The slower of two regions with their step counts, the first where they are equal. -/
def slower (b x : Nat × Nat) : Nat × Nat := if x.2 < b.2 then x else b

/-- No region is slower than the slowest. -/
theorem foldl_slower_le (p : Nat × Nat) (ps : List (Nat × Nat)) {x : Nat × Nat} (hx : x ∈ p :: ps) : (ps.foldl slower p).2 ≤ x.2 := by
  have hstep (b y : Nat × Nat) : (slower b y).2 ≤ b.2 ∧ (slower b y).2 ≤ y.2 := by unfold slower; split <;> omega
  induction ps generalizing p x with
  | nil => rw [List.mem_singleton.mp hx, List.foldl_nil]
  | cons y ys ih =>
    rw [List.foldl_cons]
    have hacc := ih (slower p y) (List.mem_cons_self ..)
    have := hstep p y
    rcases List.mem_cons.mp hx with rfl | hx
    · omega
    · rcases List.mem_cons.mp hx with rfl | hx
      · omega
      · exact ih (slower p y) (List.mem_cons_of_mem _ hx)

/-- The slowest region and its pace shown as the part's. -/
def State.showPace (s : State) (x : Nat × Nat) : State :=
  (s.setFld rHubPaceStat 0 16 (min (2 ^ 16 - 1) (s.msps x.2))).setFld rHubPaceStat 16 5 x.1

/-- All the end of a window can do to the part's pace: nothing where no region reports, else the slowest region's is shown, and
BELOW_FLOOR may be set with vector 0 raised. -/
theorem State.paceUpdate_cases (s : State) :
    (s.paced = [] ∧ s.paceUpdate = s) ∨
    ∃ p ps, s.paced = p :: ps ∧ (s.paceUpdate = s.showPace (ps.foldl slower p) ∨
      s.paceUpdate = ((s.showPace (ps.foldl slower p)).setFld rHubPaceStat 32 1 1).raiseMsix 0) := by
  unfold State.paceUpdate
  split
  · next h => exact .inl ⟨h, rfl⟩
  · next p ps h =>
    refine .inr ⟨p, ps, h, ?_⟩
    dsimp only
    split
    · exact .inr rfl
    · exact .inl rfl

@[simp] theorem State.dram_paceUpdate (s : State) : s.paceUpdate.dram = s.dram := by
  obtain ⟨-, h⟩ | ⟨p, ps, -, h | h⟩ := s.paceUpdate_cases <;> rw [h]
  · rfl
  · rw [State.dram_of_raiseMsix]; rfl

/-- The part's pace changes no register but HUB_PACE_STAT and the pending bits. -/
theorem State.reg_paceUpdate_ne (s : State) {o : Nat} (hstat : rHubPaceStat ≠ o) (hpba : rMsixPba ≠ o) : s.paceUpdate.reg o = s.reg o := by
  have hshow (x : Nat × Nat) : (s.showPace x).reg o = s.reg o := by
    rw [State.showPace, State.reg_setFld_ne _ _ _ _ hstat, State.reg_setFld_ne _ _ _ _ hstat]
  obtain ⟨-, h⟩ | ⟨p, ps, -, h | h⟩ := s.paceUpdate_cases <;> rw [h]
  · exact hshow _
  · rw [State.reg_raiseMsix_ne _ _ hpba, State.reg_setFld_ne _ _ _ _ hstat, hshow]

/-- The pace shown is no more than that of any region that reports one. -/
theorem State.paceStat_paceUpdate_le (s : State) {r : Nat} (hr : r < 32) (hvalid : s.fld (rHubPaceReg + 8 * r) 48 1 = 1) :
    s.paceUpdate.fld rHubPaceStat 0 16 ≤ s.msps (s.fld (rHubPaceReg + 8 * r) 0 32) := by
  have hmem : (r, s.fld (rHubPaceReg + 8 * r) 0 32) ∈ s.paced :=
    List.mem_filterMap.mpr ⟨r, List.mem_range.mpr hr, if_pos hvalid⟩
  have hshow (x : Nat × Nat) : (s.showPace x).fld rHubPaceStat 0 16 ≤ s.msps x.2 := by
    rw [State.showPace, State.fld_setFld_apart _ _ _ (by decide) (by decide), State.fld_setFld _ _ _ (by decide)]
    exact (Nat.mod_le _ _).trans (min_le_right _ _)
  obtain ⟨hnone, -⟩ | ⟨p, ps, hpaced, hup⟩ := s.paceUpdate_cases
  · rw [hnone] at hmem; cases hmem
  · rw [hpaced] at hmem
    have hle : s.msps (ps.foldl slower p).2 ≤ s.msps (s.fld (rHubPaceReg + 8 * r) 0 32) :=
      Nat.div_le_div_right (Nat.mul_le_mul_right _ (foldl_slower_le p ps hmem))
    refine le_trans ?_ ((hshow (ps.foldl slower p)).trans hle)
    rcases hup with h | h <;> rw [h]
    rw [State.fld, State.reg_raiseMsix_ne _ _ (by decide), ← State.fld, State.fld_setFld_apart _ _ _ (by decide) (by decide)]

/-! ### Accesses by the host -/

/-- Registers in several blocks whose write performs no action of its own. -/
def plainRegs : List Nat := [rHubPaceCtl, rHubHostif, rTrnCtl, rTrnCc, rTrfDrr, rLdgCtl, rSndCtl, rBthCtl]

/-- A host write of such a register stores the word written field by field. -/
theorem State.writeVia_host_plain {s : State} {off : Nat} (val : W64)
    (hoff : off ∈ plainRegs) (h : s.takesWrite off = true) :
    s.writeVia .host off val = s.setReg off (written off (s.reg off) val) := by
  have herr : s.sec.tdisp ≠ 3 := by
    simp only [State.takesWrite, Bool.and_eq_true, decide_eq_true_eq] at h
    exact h.2
  have hact : s.regAct off val = s.setReg off (written off (s.reg off) val) := by
    simp only [plainRegs, List.mem_cons, List.not_mem_nil, or_false] at hoff
    rcases hoff with rfl | rfl | rfl | rfl | rfl | rfl | rfl | rfl <;> rfl
  simp only [State.writeVia, if_neg herr, h, if_true, hact]

/-- A host write outside the blocks served is not taken. -/
theorem State.writeVia_host_unserved {s : State} {off : Nat} (val : W64) (herr : s.sec.tdisp ≠ 3) (h : s.blockServed off = false) :
    s.writeVia .host off val = s := by
  simp [State.writeVia, herr, State.takesWrite, h]

theorem State.writeVia_host_error {s : State} (off : Nat) (val : W64) (h : s.sec.tdisp = 3) :
    s.writeVia .host off val = s.bump rSecErr 32 32 1 := by
  simp [State.writeVia, h, State.turnedAway_error h]

theorem State.svcOn_idle {s : State} (h : s.fab.svc = none) : s.svcOn = s := by
  unfold State.svcOn; rw [h]

/-- A host read with no service action in progress: the value shown goes out, and the read's effect is left. -/
theorem registerRead_host {s : State} (off : BitVec 24) (herr : s.sec.tdisp ≠ 3) (hsvc : s.fab.svc = none) :
    exec (.registerRead .host off) s = .next ((s.regReadEffect off.toNat).send (.read (s.regShown off.toNat))) := by
  simp [execRegisterRead, herr, State.readVia, State.svcOn_idle hsvc]

/-- Off the grid or outside the blocks served a register shows 0, and reading it does nothing. -/
theorem State.regShown_unserved {s : State} {off : Nat} (h : s.blockServed off = false ∨ off % 8 ≠ 0) :
    s.regShown off = 0 ∧ s.regReadEffect off = s := by
  rcases h with h | h <;> simp [State.regShown, State.regReadEffect, h]

/-- HUB_HOSTIF and SEC_ERR show what they store, and a read clears their RC fields. -/
theorem State.regShown_plain {s : State} {off : Nat} (hoff : off ∈ [rHubHostif, rSecErr]) (h : s.blockServed off = true) :
    s.regShown off = s.reg off ∧ s.regReadEffect off = s.setReg off (readClear (regFields off) (s.reg off)) := by
  have hgrid : off % 8 = 0 := (by decide : ∀ o ∈ [rHubHostif, rSecErr], o % 8 = 0) off hoff
  rw [State.regShown, if_pos ⟨hgrid, h⟩, State.regReadEffect, if_neg (by simp [hgrid, h])]
  simp only [List.mem_cons, List.not_mem_nil, or_false] at hoff
  rcases hoff with rfl | rfl <;> exact ⟨rfl, rfl⟩

end Sys2Proof.Machine
end

section
/-! The order of work, and the register accesses: the statements of the scope chapter. -/

namespace Sys2Proof.Machine

/-- Settles O1: the two cases of the queue. -/
theorem stepRunsFrontCommand : Obligations.StepRunsFrontCommand := by
  unfold Obligations.StepRunsFrontCommand
  refine ⟨fun c rest s h => ?_, fun s h => ?_⟩ <;> rw [step, h]

/-- The reads of the registers that show what they store (R6, R7). -/
theorem registerRead_host_plain {s : State} {off : Nat} (hoff : off ∈ [rHubHostif, rSecErr]) (h : s.blockServed off = true)
    (herr : s.sec.tdisp ≠ 3) (hsvc : s.fab.svc = none) :
    ∃ t, exec (.registerRead .host (BitVec.ofNat 24 off)) s = .next t ∧ t.sent = s.sent ++ [.read (s.reg off)] ∧
      (∀ f ∈ regFields off, Sys2Proof.fld (t.reg off) f.lo f.w = if f.acc = .RC then 0 else Sys2Proof.fld (s.reg off) f.lo f.w) ∧
      t.dram = s.dram ∧ ∀ o, o ≠ off → t.reg o = s.reg o := by
  have hnat : (BitVec.ofNat 24 off).toNat = off := (by decide : ∀ o ∈ [rHubHostif, rSecErr], (BitVec.ofNat 24 o).toNat = o) off hoff
  obtain ⟨hshown, heffect⟩ := State.regShown_plain hoff h
  refine ⟨_, registerRead_host _ herr hsvc, ?_⟩
  rw [hnat, hshown, heffect]
  refine ⟨by rw [State.send_local _ rfl]; rfl, fun f hf => ?_, by simp, fun o ho => ?_⟩
  · rw [State.reg_of_send, State.reg_setReg, fld_readClear (regFields_laid off) _ hf]
  · rw [State.reg_of_send, State.reg_setReg_ne _ _ _ ho.symm]

/-- The end of a pace window: what the regions' registers and the part's pace then hold (R22 to R24). -/
theorem paceWindowEnd_next {s : State} (counts : List Nat) (h : s.boot.inReset = false) :
    ∃ t, exec (.paceWindowEnd counts) s = .next t ∧
      (∀ r < 32, t.reg (rHubPaceReg + 8 * r) = s.paceWord r (nthD 0 counts r % 2 ^ 32)) ∧
      (∀ r < 32, t.fld (rHubPaceReg + 8 * r) 48 1 = 1 → t.fld rHubPaceStat 0 16 ≤ t.msps (t.fld (rHubPaceReg + 8 * r) 0 32)) ∧
      t.dram = s.dram := by
  let u := s.paceStores counts (List.range 32)
  have hkeep {o : Nat} (hstat : rHubPaceStat ≠ o) (hpba : rMsixPba ≠ o) : u.paceUpdate.reg o = u.reg o :=
    u.reg_paceUpdate_ne hstat hpba
  have hpace (r : Nat) (hr : r < 32) : u.paceUpdate.reg (rHubPaceReg + 8 * r) = u.reg (rHubPaceReg + 8 * r) :=
    hkeep (by simp only [rHubPaceStat, rHubPaceReg]; omega) (by simp only [rMsixPba, rHubPaceReg]; omega)
  refine ⟨u.paceUpdate, by simp [execPaceWindowEnd, h, u, State.paceStores], fun r hr => ?_, fun r hr hvalid => ?_, by simp [u]⟩
  · rw [hpace r hr, State.reg_paceStores counts List.nodup_range s (List.mem_range.mpr hr)]
  · rw [State.fld, hpace r hr] at hvalid
    have hwindow (n : Nat) : u.paceUpdate.msps n = u.msps n := by
      simp only [State.msps, State.fld, hkeep (o := rHubPaceCtl) (by decide) (by decide)]
    rw [hwindow, State.fld, State.fld, hpace r hr]
    exact u.paceStat_paceUpdate_le hr hvalid

/-- A write of BAR2 in service (R323, R369). -/
theorem bar2Write_next {s : State} (off : BitVec 36) (data : List Byte) (ide : Bool) (hreset : s.boot.inReset = false)
    (herr : s.sec.tdisp ≠ 3) (hide : s.sec.tdisp = 2 → ide = true) :
    exec (.bar2Write off data ide) s = .next (if s.hostMay (imageAt + off.toNat) data.length = true
      then s.setDram (memWriteL s.dram (imageAt + off.toNat) data) else s.bump rHubHostif 32 16 1) := by
  have hide' : ¬ (s.sec.tdisp = 2 ∧ (!ide) = true) := fun ⟨h2, hno⟩ => by simp [hide h2] at hno
  simp only [exec_bar2Write, execBar2Write, hreset, Bool.false_eq_true, if_false, if_neg herr, if_neg hide']
  split <;> rfl

theorem tdispError_cases (s : State) :
    (s.sec.tdisp = 1 ∨ s.sec.tdisp = 2) ∧ s.tdispError = s.setTdisp 3 ∨ ¬ (s.sec.tdisp = 1 ∨ s.sec.tdisp = 2) ∧ s.tdispError = s := by
  unfold State.tdispError
  split
  · next h => exact .inl ⟨h, rfl⟩
  · next h => exact .inr ⟨h, rfl⟩

/-- Settles O25: a write and a read go field by field through the register's map, the registers of a window are each their own region's,
and the slowest of a list is no more than any of its members. -/
theorem registerAccess : Obligations.RegisterAccess := by
  unfold Obligations.RegisterAccess
  refine ⟨fun s val off hoff htakes => ?write, fun s => ⟨fun off hoff h herr hsvc => registerRead_host_plain hoff h herr hsvc,
    fun off herr hsvc h => ?readUnserved, fun off herr => ?readError, fun off val herr => ?writeError, fun off val herr h => ?writeUnserved⟩,
    fun s => ⟨fun counts h => ?pace, fun off data ide hreset herr hide => ⟨fun hmay => ?bar2In, fun hmay => ?bar2Out⟩,
      fun off data hreset hrun => ?bar2Ide, fun h => ?frozen, fun h => ?unfrozen⟩⟩
  case write =>
    have hnat : (BitVec.ofNat 24 off).toNat = off := (by decide : ∀ o ∈ plainRegs, (BitVec.ofNat 24 o).toNat = o) off hoff
    exact ⟨_, by rw [exec_registerWrite, execRegisterWrite, hnat, State.writeVia_host_plain val hoff htakes],
      fun f hf => fld_written off (s.reg off) val hf⟩
  case readUnserved =>
    obtain ⟨hshown, heffect⟩ := State.regShown_unserved h
    rw [registerRead_host off herr hsvc, hshown, heffect]
  case readError =>
    refine ⟨s.unsupported, by simp [execRegisterRead, herr], ?_, ?_⟩ <;>
      rw [State.unsupported, State.turnedAway_error herr, State.send_local _ rfl]
    · rfl
    · exact s.fld_bump rSecErr 1 (by decide)
  case writeError =>
    exact ⟨s.bump rSecErr 32 32 1, by rw [exec_registerWrite, execRegisterWrite, State.writeVia_host_error _ val herr], rfl,
      s.fld_bump rSecErr 1 (by decide), fun o ho => s.reg_setFld_ne _ _ _ ho.symm⟩
  case writeUnserved => rw [exec_registerWrite, execRegisterWrite, State.writeVia_host_unserved val herr h]
  case pace =>
    obtain ⟨t, hexec, hreg, hle, hdram⟩ := paceWindowEnd_next counts h
    refine ⟨t, hexec, fun r hr hout hmid => ?_, fun r hr hout => ?_, hle, hdram⟩
    · rw [hreg r hr, State.paceWord_reporting _ hout hmid]
    · rw [State.fld, hreg r hr, State.fld_paceWord_out _ hout]
  case bar2In => rw [bar2Write_next off data ide hreset herr hide, if_pos hmay]
  case bar2Out => rw [bar2Write_next off data ide hreset herr hide, hmay, if_neg Bool.false_ne_true]
  case bar2Ide => simp [execBar2Write, hreset, hrun]
  case frozen =>
    obtain ⟨-, heq⟩ | ⟨hnot, -⟩ := tdispError_cases s
    · exact ⟨s.setTdisp 3, by rw [exec_frozenConfigChange, execFrozenConfigChange, heq], rfl⟩
    · exact absurd h hnot
  case unfrozen =>
    obtain ⟨hlocked, -⟩ | ⟨-, heq⟩ := tdispError_cases s
    · omega
    · rw [exec_frozenConfigChange, execFrozenConfigChange, heq]

end Sys2Proof.Machine
end

section
/-! The reset state (R17, R356, R390, R448; log entry 18 for what the spec leaves open). -/

namespace Sys2Proof.Machine

/-- Reset names no core, so the part's memories are stacked DRAM alone. -/
theorem reset_memOk : State.reset.memOk = true := by
  simp only [State.memOk, reset_dram_wf]
  rfl

theorem reset_modesOk : State.reset.modesOk = true := by decide

theorem reset_safe : State.reset.safe = true := by
  rw [State.safe, reset_memOk, reset_modesOk, Bool.and_self]

/-- The register image holds no word at reset, so each register reads its table's value. -/
theorem reset_reg (off : Nat) : State.reset.reg off = regReset off := rfl

theorem reset_memRead (a : Nat) : memRead State.reset.dram a = 0 := rfl

theorem reset_core_run (c : Nat) : (State.reset.core c).run = none := rfl

theorem reset_chamber_counter (ch : Nat) : (State.reset.chamber ch).counter = 0 := rfl

/-- EPOCH is 0, and UNSET stands (R356, R390). -/
theorem reset_epoch : State.reset.fld rBsnEpoch 0 16 = 0 ∧ State.reset.fld rBsnEpoch 18 1 = 1 := by
  rw [State.fld, State.fld, reset_reg]
  decide

/-- Settles O2: the memories and the small state machines one lemma each, the register image and the finite maps by their reset value. -/
theorem resetState : Obligations.ResetState := by
  unfold Obligations.ResetState
  obtain ⟨hepoch, hunset⟩ := reset_epoch
  exact ⟨reset_safe, rfl, rfl, rfl, rfl, rfl, rfl, rfl, hepoch, hunset, rfl, rfl, rfl, rfl, rfl, reset_reg, reset_memRead, reset_core_run,
    reset_chamber_counter⟩

end Sys2Proof.Machine
end

section
/-! A SWEEP taken from its ring (R330 to R334), and the merge slots reserved for it (R61, R62, R337). -/

namespace Sys2Proof.Machine

/-! ### A descriptor taken from its ring -/

theorem serve_of_front_none (op : Nat) (f : Dsc → State → State) {b r : Nat} {s : State} (h : s.front b r = none) :
    serve op f b r s = s := by
  simp [serve, h]

theorem serve_of_reservedOp (op : Nat) (f : Dsc → State → State) {b r : Nat} {s : State} {d : Dsc} (h : s.front b r = some d)
    (hop : reservedOp d.op = true) : serve op f b r s = (s.takeEntry b r).fin d stInvalidField 0 := by
  simp [serve, h, hop]

theorem serve_of_op {op : Nat} (f : Dsc → State → State) {b r : Nat} {s : State} {d : Dsc} (h : s.front b r = some d) (hop : d.op = op)
    (hmeant : reservedOp op = false) : serve op f b r s = f d (s.takeEntry b r) := by
  simp [serve, h, hop, hmeant]

/-! ### SWEEP -/

theorem execSweep_of_noNumber (b : BitVec 6) (r : BitVec 8) {s : State} (h : s.nextSweep = none) : execSweep b r s = .next s := by
  simp [execSweep, h]

theorem execSweep_of_number (b : BitVec 6) (r : BitVec 8) {s : State} {n : Nat} (h : s.nextSweep = some n) :
    execSweep b r s = .next (serve 0x01 (fun d s => s.acceptSweep d n) b.toNat r.toNat s) := by
  simp [execSweep, h]

namespace State
variable {u : State} {d : Dsc} {o : Obj}

theorem acceptSweep_refused (n : Nat) {e : Nat} (h : u.tenantRefuse d.basin d.tenant = some e) : u.acceptSweep d n = u.fin d e 0 := by
  simp [acceptSweep, h]

theorem acceptSweep_noObject (n : Nat) (ht : u.tenantRefuse d.basin d.tenant = none)
    (ho : u.obj d.tenant (sweepDesc d.bytes).object = none) :
    u.acceptSweep d n = u.fin d (if (sweepDesc d.bytes).object = 0 then stInvalidField else stNotFound) 0 := by
  simp [acceptSweep, ht, ho]

theorem acceptSweep_outside (n : Nat) (ht : u.tenantRefuse d.basin d.tenant = none) (ho : u.obj d.tenant (sweepDesc d.bytes).object = some o)
    (hout : u.inHost d.basin (sweepDesc d.bytes).qbuf (sweepDesc d.bytes).qlen = false ∨
      u.inHost d.basin (sweepDesc d.bytes).slot (max 64 (sweepDesc d.bytes).slotLen) = false) :
    u.acceptSweep d n = u.fin d stAccessDenied 0 := by
  simp [acceptSweep, ht, ho, hout]

theorem acceptSweep_wrongField (n : Nat) (ht : u.tenantRefuse d.basin d.tenant = none) (ho : u.obj d.tenant (sweepDesc d.bytes).object = some o)
    (hq : u.inHost d.basin (sweepDesc d.bytes).qbuf (sweepDesc d.bytes).qlen = true)
    (hslot : u.inHost d.basin (sweepDesc d.bytes).slot (max 64 (sweepDesc d.bytes).slotLen) = true)
    (hok : sweepOk (sweepDesc d.bytes) o (u.buffer (sweepDesc d.bytes).qbuf (sweepDesc d.bytes).qlen) = false) :
    u.acceptSweep d n = u.fin d stInvalidField 0 := by
  simp [acceptSweep, ht, ho, hq, hslot, hok]

/-- The sweep that descriptor `d` asks for, under local number `n` and the basin's next USE number (R363). -/
def askedSweep (u : State) (d : Dsc) (n : Nat) : ASweep :=
  { num := n, basin := d.basin, ring := d.ring, wrid := d.wrid, tenant := d.tenant, desc := sweepDesc d.bytes,
    qbuf := u.buffer (sweepDesc d.bytes).qbuf (sweepDesc d.bytes).qlen, seq := 0, useSeq := ((u.basin d.basin).useCount + 1) % 2 ^ 16 }

theorem acceptSweep_accepted (n : Nat) (ht : u.tenantRefuse d.basin d.tenant = none) (ho : u.obj d.tenant (sweepDesc d.bytes).object = some o)
    (hq : u.inHost d.basin (sweepDesc d.bytes).qbuf (sweepDesc d.bytes).qlen = true)
    (hslot : u.inHost d.basin (sweepDesc d.bytes).slot (max 64 (sweepDesc d.bytes).slotLen) = true)
    (hok : sweepOk (sweepDesc d.bytes) o (u.buffer (sweepDesc d.bytes).qbuf (sweepDesc d.bytes).qlen) = true) :
    u.acceptSweep d n = ((u.setBasin d.basin { u.basin d.basin with useCount := (u.askedSweep d n).useSeq }).showSweep
      (u.askedSweep d n)).formConvoy (u.askedSweep d n) := by
  simp [acceptSweep, askedSweep, ht, ho, hq, hslot, hok]

end State

/-! ### MERGE_SLOT_RESERVE -/

/-- A slot for a sweep of this part at its own merge point: reserved when its request heads the queue and the pool holds it. -/
theorem execMergeSlotReserve_own {s : State} {gsid : BitVec 24} {a : ASweep} {o : Obj} {q : PoolReq} {rest : List PoolReq}
    (hhears : s.hears (gsid.toNat / 2 ^ 14) = true) (hself : gsid.toNat / 2 ^ 14 = selfPkg) (ha : s.sweepNo (gsid.toNat % 2 ^ 14) = some a)
    (hstate : a.state < 5) (htimes : a.times = none) (hmembers : a.members ≠ []) (hmerge : a.mergePkg = selfPkg)
    (ho : s.obj a.tenant a.desc.object = some o) (hq : s.sweeps.poolQ = q :: rest) (hgsid : q.gsid = gsid.toNat) :
    execMergeSlotReserve gsid s = .next (if s.sweeps.poolUsed + q.bytes ≤ poolSize then (s.openConvoy (convoyOf a o)).sendArms a else s) := by
  have hopen : ¬ (5 ≤ a.state ∨ a.times.isSome = true ∨ a.members.isEmpty = true) := by simp [htimes, hmembers, hstate]
  simp only [execMergeSlotReserve, hhears, if_pos hself, ha, if_neg hopen, hmerge, ho, hq, hgsid]
  by_cases hroom : s.sweeps.poolUsed + q.bytes ≤ poolSize <;> simp [hroom]

/-- The convoy of a merge slot that a sweep of another package asked for: that package's members and its times. -/
def peerConvoy (g : Nat) (r : PeerRequest) : Convoy :=
  { gsid := g, seq := r.seq, origin := g / 2 ^ 14, tenant := r.tenant, desc := r.desc, qbuf := r.qbuf,
    nkv := r.nkv, gq := r.gq, d := r.d, slots := r.members.map (fun p => { pkg := p }),
    bytes := slotBytes r.members.length r.desc.nq (r.nkv * r.gq) r.d, times := some r.times, late := r.late }

/-- The state once that request stands alone in the queue of the pool. -/
def State.asked (s : State) (c : Convoy) : State :=
  { s.drawn with sweeps := { s.sweeps with poolQ := [⟨c.gsid, c.bytes⟩] } }

theorem execMergeSlotReserve_peer {s : State} {gsid : BitVec 24} {r : PeerRequest} (hhears : s.hears (gsid.toNat / 2 ^ 14) = true)
    (hself : gsid.toNat / 2 ^ 14 ≠ selfPkg) (hr : Config.peerRequest gsid.toNat s.fresh = some r) (hq : s.sweeps.poolQ = [])
    (hnew : s.convoy gsid.toNat = none) (hroom : s.sweeps.poolUsed + (peerConvoy gsid.toNat r).bytes ≤ poolSize) :
    execMergeSlotReserve gsid s = .next (((s.asked (peerConvoy gsid.toNat r)).openConvoy (peerConvoy gsid.toNat r)).send
      (.reserved (gsid.toNat / 2 ^ 14) gsid.toNat)) := by
  have hnew' : (s.drawn.convoy gsid.toNat).any (fun c => decide (c.seq = r.seq)) = false := by
    rw [show s.drawn.convoy gsid.toNat = none from hnew]
    rfl
  have hq' : s.drawn.sweeps.poolQ = [] := hq
  have hroom' : s.drawn.sweeps.poolUsed + slotBytes r.members.length r.desc.nq (r.nkv * r.gq) r.d ≤ poolSize := hroom
  simp only [execMergeSlotReserve, hhears, if_neg hself, hr, hnew', hq', List.any_nil, List.nil_append, decide_true, hroom', Bool.not_true,
    Bool.or_false, Bool.and_true, Bool.false_eq_true, if_true, if_false]
  rfl

theorem State.openConvoy_convoy (s : State) (c : Convoy) : (s.openConvoy c).convoy c.gsid = some c :=
  alGet_alPut_self s.sweeps.convoys c.gsid c

theorem State.openConvoy_poolUsed (s : State) (c : Convoy) : (s.openConvoy c).sweeps.poolUsed = s.sweeps.poolUsed + c.bytes := rfl

/-- Settles O26: the descriptor's outcomes case by case, then the merge slot of a sweep of this part and of another package. -/
theorem sweepAcceptance : Obligations.SweepAcceptance := by
  unfold Obligations.SweepAcceptance
  refine ⟨fun s b r => ⟨execSweep_of_noNumber b r, fun n hn hfront => ?empty, fun n d hn hfront => ?front⟩,
    fun s gsid hhears => ⟨fun a o q rest hself ha hstate htimes hmembers hmerge ho hq hgsid => ?own,
      fun r hself hr hq hnew hexp hroom => ?peer⟩⟩
  case empty => rw [exec_sweep, execSweep_of_number b r hn, serve_of_front_none _ _ hfront]
  case front =>
    have htaken (hop : d.op = 1) : exec (.sweep b r) s = .next ((s.takeEntry b.toNat r.toNat).acceptSweep d n) := by
      rw [exec_sweep, execSweep_of_number b r hn, serve_of_op _ hfront hop (by decide)]
    refine ⟨fun hop => ?_, fun hop e he => ?_, fun hop ht ho => ?_, fun o hop ht ho => ⟨fun hout => ?_, fun hqbuf hslot =>
      ⟨fun hwrong => ?_, fun hok => ?_⟩⟩⟩
    · rw [exec_sweep, execSweep_of_number b r hn, serve_of_reservedOp _ _ hfront hop]
    · rw [htaken hop, State.acceptSweep_refused n he]
    · rw [htaken hop, State.acceptSweep_noObject n ht ho]
    · rw [htaken hop, State.acceptSweep_outside n ht ho hout]
    · rw [htaken hop, State.acceptSweep_wrongField n ht ho hqbuf hslot hwrong]
    · exact ⟨(s.takeEntry b.toNat r.toNat).askedSweep d n, rfl, rfl, rfl, rfl, rfl, rfl, rfl, rfl, by
        rw [htaken hop, State.acceptSweep_accepted n ht ho hqbuf hslot hok]⟩
  case own =>
    rw [exec_mergeSlotReserve, execMergeSlotReserve_own hhears hself ha hstate htimes hmembers hmerge ho hq hgsid]
    exact ⟨fun hroom => by rw [if_pos hroom], fun hfull => by rw [if_neg (by omega)]⟩
  case peer =>
    have hexp' : ((s.asked (peerConvoy gsid.toNat r)).openConvoy (peerConvoy gsid.toNat r)).expelled = false := hexp
    refine ⟨_, peerConvoy gsid.toNat r, by rw [exec_mergeSlotReserve, execMergeSlotReserve_peer hhears hself hr hq hnew hroom], ?_⟩
    rw [State.send_peer _ hexp']
    exact ⟨State.openConvoy_convoy (s.asked _) (peerConvoy gsid.toNat r), rfl, rfl, rfl, State.openConvoy_poolUsed (s.asked _) _, rfl⟩

end Sys2Proof.Machine
end

section
/-! Stacked DRAM through the model's functions (R26, R155; log entry 8), first layer: the functions that leave it as it is, in the order
of the model's files. `State.f_dram` says so of `State.f`; where a function answers a state or an error, it speaks of the state answered. -/

namespace Sys2Proof.Machine

/-- An update that leaves stacked DRAM as it is, whatever it is given besides the state. -/
def KeepsDram {α : Type} (f : State → α → State) : Prop := ∀ s x, (f s x).dram = s.dram

@[simp] theorem keepsDram_iff {α : Type} {f : State → α → State} : KeepsDram f ↔ ∀ s x, (f s x).dram = s.dram := ⟨id, id⟩

@[simp] theorem State.dram_foldl {α : Type} {f : State → α → State} (h : KeepsDram f) (l : List α) (s : State) :
    (l.foldl f s).dram = s.dram := by
  induction l generalizing s with
  | nil => rfl
  | cons x l ih => rw [List.foldl_cons, ih, h]

@[simp] theorem State.dram_ite {p : Prop} [Decidable p] (s t : State) : (if p then s else t).dram = if p then s.dram else t.dram := apply_ite _ _ _ _

/-! ### Machine/Ops -/

@[simp] theorem State.turnedAway_dram (s : State) : (s.turnedAway).dram = s.dram := by
  simp [State.turnedAway]
@[simp] theorem State.sends_dram (s : State) (ms) : (s.sends ms).dram = s.dram := by
  simp [State.sends]
@[simp] theorem State.unsupported_dram (s : State) : (s.unsupported).dram = s.dram := by
  simp [State.unsupported]
@[simp] theorem State.addJob_dram (s : State) (j) : (s.addJob j).dram = s.dram := rfl

/-! ### Machine/Wire -/

@[simp] theorem State.weirSettle_dram (s : State) (b) : (s.weirSettle b).dram = s.dram := rfl
@[simp] theorem State.enqueue_dram (s : State) (n c vc op psn len) : (s.enqueue n c vc op psn len).dram = s.dram := by
  unfold State.enqueue; split <;> rfl

@[simp] theorem State.pump_dram (s : State) (n k) : (s.pump n k).dram = s.dram := by
  induction k generalizing s with
  | zero => rfl
  | succ k ih => unfold State.pump; dsimp only; (repeat' split) <;> simp [ih]

@[simp] theorem State.queuePkt_dram (s : State) (n p) : (s.queuePkt n p).dram = s.dram := rfl
@[simp] theorem State.flushTx_dram (s : State) (n) : (s.flushTx n).dram = s.dram := s.pump_dram n _
@[simp] theorem State.queueMsg_dram (s : State) (n p) : (s.queueMsg n p).dram = s.dram := by
  simp [State.queueMsg]
@[simp] theorem State.respond_dram (s : State) (n op rpsn status result data) : (s.respond n op rpsn status result data).dram = s.dram := by
  simp [State.respond]
@[simp] theorem State.sendAckPkt_dram (s : State) (n) : (s.sendAckPkt n).dram = s.dram := by
  simp [State.sendAckPkt]
@[simp] theorem State.sendNak_dram (s : State) (n status psn) : (s.sendNak n status psn).dram = s.dram := by
  simp [State.sendNak]

@[simp] theorem State.rule_dram (s : State) (n psn status) : (s.rule n psn status).dram = s.dram := by
  simp [State.rule]

/-! ### Machine/Sync -/

@[simp] theorem State.wake_dram (s : State) (src ok) : (s.wake src ok).dram = s.dram := by
  unfold State.wake; dsimp only; (repeat' split) <;> simp
@[simp] theorem State.wakeAll_dram (s : State) (ch) : (s.wakeAll ch).dram = s.dram := by
  simp [State.wakeAll]
@[simp] theorem State.chEffect_dram (s : State) (ch op) : (s.chEffect ch op).dram = s.dram := by
  simp [State.chEffect]
@[simp] theorem State.chRemote_dram (s : State) (ch op) : (s.chRemote ch op).dram = s.dram := by
  unfold State.chRemote; split <;> simp
@[simp] theorem State.chDrain_dram (s : State) (ch) : (s.chDrain ch).dram = s.dram := by
  simp [State.chDrain]
@[simp] theorem State.fxResult_dram (s : State) (core id status old data) : (s.fxResult core id status old data).dram = s.dram := by
  unfold State.fxResult; dsimp only; (repeat' split) <;> simp
@[simp] theorem State.fxPost_dram (s : State) (core conn id wr) : (s.fxPost core conn id wr).dram = s.dram := by
  simp [State.fxPost]
@[simp] theorem State.gateEffect_dram (s : State) (core g) : (s.gateEffect core g).dram = s.dram := by
  unfold State.gateEffect; dsimp only; (repeat' split) <;> simp

@[simp] theorem State.sluicePop_dram (s : State) (core) : (s.sluicePop core).dram = s.dram := by
  unfold State.sluicePop; dsimp only; split <;> simp

/-! ### Machine/Tiers -/

@[simp] theorem State.setPte_dram (s : State) (k p) : (s.setPte k p).dram = s.dram := by
  unfold State.setPte; split <;> rfl
@[simp] theorem State.modPte_dram (s : State) (k f) : (s.modPte k f).dram = s.dram := by
  unfold State.modPte; split <;> simp
@[simp] theorem State.delPte_dram (s : State) (k) : (s.delPte k).dram = s.dram := by
  unfold State.delPte; split <;> rfl
@[simp] theorem State.setImage_dram (s : State) (slot img) : (s.setImage slot img).dram = s.dram := by
  simp [State.setImage]
@[simp] theorem State.dropCopy_dram (s : State) (k) : (s.dropCopy k).dram = s.dram := rfl
@[simp] theorem State.evictCopyAt_dram (s : State) (n) : (s.evictCopyAt n).dram = s.dram := rfl

theorem State.takeDram_dram {s t : State} {k st n} (h : s.takeDram k st = .ok (t, n)) : t.dram = s.dram := by
  unfold State.takeDram at h
  split at h
  · cases h
  · split at h <;> cases h; simp

theorem State.takeFlash_dram {s t : State} {k mask st n} (h : s.takeFlash k mask st = .ok (t, n)) : t.dram = s.dram := by
  unfold State.takeFlash at h
  split at h
  · cases h
  · split at h <;> cases h; simp

@[simp] theorem State.freeHome_dram (s : State) (slot) : (s.freeHome slot).dram = s.dram := by
  simp [State.freeHome]
@[simp] theorem State.drainHome_dram (s : State) (slot) : (s.drainHome slot).dram = s.dram := by
  simp [State.drainHome]
@[simp] theorem State.plbDrop_dram (s : State) (ks) : (s.plbDrop ks).dram = s.dram := rfl
@[simp] theorem State.plbInval_dram (s : State) (ks) : (s.plbInval ks).dram = s.dram := rfl
@[simp] theorem State.plbInstall_dram (s : State) (cl e) : (s.plbInstall cl e).dram = s.dram := rfl
@[simp] theorem State.scoreUpdate_dram (s : State) (k inc) : (s.scoreUpdate k inc).dram = s.dram := by
  unfold State.scoreUpdate; split <;> simp

theorem State.packPut_dram {s t : State} {k m n i} (h : s.packPut k m = some (t, n, i)) : t.dram = s.dram := by
  unfold State.packPut at h
  split at h <;> split at h <;> cases h <;> simp

@[simp] theorem State.packDrop_dram (s : State) (p) : (s.packDrop p).dram = s.dram := by
  simp [State.packDrop]
@[simp] theorem State.countNospace_dram (s : State) : (s.countNospace).dram = s.dram := rfl

/-! ### Machine/CoreRun -/

@[simp] theorem State.modMember_dram (s : State) (r f) : (s.modMember r f).dram = s.dram := by
  unfold State.modMember; split <;> rfl
@[simp] theorem State.freeBay_dram (s : State) (core t) : (s.freeBay core t).dram = s.dram := by
  simp [State.freeBay]
@[simp] theorem State.release_dram (s : State) (core t) : (s.release core t).dram = s.dram := by
  unfold State.release; dsimp only; split <;> simp
@[simp] theorem State.dropBays_dram (s : State) (core) : (s.dropBays core).dram = s.dram := rfl
@[simp] theorem State.unlock_dram (s : State) (chs) : (s.unlock chs).dram = s.dram := by
  simp [State.unlock]
@[simp] theorem State.clearRun_dram (s : State) (core) : (s.clearRun core).dram = s.dram := by
  unfold State.clearRun; dsimp only; (repeat' split) <;> simp
@[simp] theorem State.advance_dram (s : State) (core ip) : (s.advance core ip).dram = s.dram := by
  unfold State.advance; dsimp only; split <;> simp
@[simp] theorem State.afterIssue_dram (s : State) (core) : (s.afterIssue core).dram = s.dram := by
  unfold State.afterIssue; dsimp only; split <;> simp

@[simp] theorem State.restartHold_dram (s : State) (core) : (s.restartHold core).dram = s.dram := by
  unfold State.restartHold; dsimp only; (repeat' split) <;> simp

/-! ### Machine/CoreSync -/

@[simp] theorem State.releaseCore_dram (s : State) (core) : (s.releaseCore core).dram = s.dram := by
  unfold State.releaseCore; split <;> simp

@[simp] theorem State.releaseFlight_dram (s : State) (core handle) : (s.releaseFlight core handle).dram = s.dram := by
  unfold State.releaseFlight; dsimp only; (repeat' split) <;> simp

/-! ### Machine/CoreSoftmax -/

@[simp] theorem State.latchScore_dram (s : State) (core e) : (s.latchScore core e).dram = s.dram := by
  unfold State.latchScore; dsimp only; (repeat' split) <;> simp

/-! ### Machine/Ledger -/

@[simp] theorem State.ldgPut_dram (s : State) (i e) : (s.ldgPut i e).dram = s.dram := rfl
@[simp] theorem State.ldgDel_dram (s : State) (i) : (s.ldgDel i).dram = s.dram := rfl

theorem State.ldgInsert_dram {s t : State} {key care val fence} (h : s.ldgInsert key care val fence = .ok t) : t.dram = s.dram := by
  unfold State.ldgInsert at h
  (repeat' split at h) <;> cases h <;> simp

theorem State.ldgAdd_dram {s t : State} {key care val} (h : s.ldgAdd key care val = .ok t) : t.dram = s.dram := by
  unfold State.ldgAdd at h
  split at h <;> cases h
  next h => exact ldgInsert_dram h

theorem State.ldgAdd_dram_error {s t : State} {key care val e} (h : s.ldgAdd key care val = .error (e, t)) : t.dram = s.dram := by
  unfold State.ldgAdd at h
  split at h <;> cases h
  simp

@[simp] theorem State.ldgDrop_dram (s : State) (key care) : (s.ldgDrop key care).dram = s.dram := by
  unfold State.ldgDrop; split <;> rfl
@[simp] theorem State.sawEpoch_dram (s : State) (e) : (s.sawEpoch e).dram = s.dram := by
  simp [State.sawEpoch]
@[simp] theorem State.homeMerge_dram (s : State) (tenant object pkg) : (s.homeMerge tenant object pkg).dram = s.dram := by
  unfold State.homeMerge; dsimp only; split <;> simp

@[simp] theorem State.homeInsert_dram (s : State) (key care val) : (s.homeInsert key care val).dram = s.dram := by
  unfold State.homeInsert
  split
  · next h => exact ldgInsert_dram h
  · split
    · rfl
    · dsimp only
      split
      · next h => simp [ldgInsert_dram h]
      · simp

@[simp] theorem State.rebuildStart_dram (s : State) (kind tenant) : (s.rebuildStart kind tenant).dram = s.dram := by
  unfold State.rebuildStart; split <;> simp
@[simp] theorem State.setCursor_dram (s : State) (n c) : (s.setCursor n c).dram = s.dram := rfl
@[simp] theorem State.cursorClose_dram (s : State) (n) : (s.cursorClose n).dram = s.dram := by
  simp [State.cursorClose]
@[simp] theorem State.retireLogPop_dram (s : State) : (s.retireLogPop).dram = s.dram := rfl

/-! ### Machine/Share -/

@[simp] theorem State.setJentry_dram (s : State) (k e) : (s.setJentry k e).dram = s.dram := rfl
@[simp] theorem State.upsetShare_dram (s : State) (m b slot us) : (s.upsetShare m b slot us).dram = s.dram := by
  unfold State.upsetShare; (repeat' split) <;> simp
@[simp] theorem State.setBay_dram (s : State) (cl i b) : (s.setBay cl i b).dram = s.dram := rfl
@[simp] theorem State.delBay_dram (s : State) (cl i) : (s.delBay cl i).dram = s.dram := rfl
@[simp] theorem State.stageBase_dram (s : State) (cl core k) : (s.stageBase cl core k).dram = s.dram := by
  unfold State.stageBase; dsimp only; (repeat' split) <;> simp

@[simp] theorem State.post_dram (s : State) (core t) : (s.post core t).dram = s.dram := by
  unfold State.post; dsimp only; split <;> simp

/-! ### Machine/Sounding -/

@[simp] theorem State.soundStart_dram (s : State) (m) : (s.soundStart m).dram = s.dram := by
  simp [State.soundStart]
@[simp] theorem State.soundFree_dram (s : State) (m) : (s.soundFree m).dram = s.dram := by
  unfold State.soundFree; split <;> simp
@[simp] theorem State.setNbrs_dram (s : State) (k ns) : (s.setNbrs k ns).dram = s.dram := by
  unfold State.setNbrs; (repeat' split) <;> simp
@[simp] theorem State.graphTrim_dram (s : State) (lk) : (s.graphTrim lk).dram = s.dram := by
  unfold State.graphTrim; split <;> simp
@[simp] theorem State.nbrPrefetch_dram (s : State) (m b) : (s.nbrPrefetch m b).dram = s.dram := by
  unfold State.nbrPrefetch; split <;> simp

@[simp] theorem State.submit_dram (s : State) (m b u man) : (s.submit m b u man).dram = s.dram := by
  unfold State.submit; dsimp only; split <;> simp

/-! ### Machine/Placement -/

@[simp] theorem State.queueBarge_dram (s : State) (r) : (s.queueBarge r).dram = s.dram := by
  simp [State.queueBarge]
@[simp] theorem State.classCheck_dram (s : State) (k) : (s.classCheck k).dram = s.dram := by
  unfold State.classCheck; split <;> simp
@[simp] theorem State.quotaSink_dram (s : State) (tenant) : (s.quotaSink tenant).dram = s.dram := by
  simp [State.quotaSink]
@[simp] theorem State.poolSink_dram (s : State) : (s.poolSink).dram = s.dram := by
  simp [State.poolSink]
@[simp] theorem State.pressure_dram (s : State) (tenant) : (s.pressure tenant).dram = s.dram := by
  simp [State.pressure]

@[simp] theorem State.scoreBerth_dram (s : State) (k inc) : (s.scoreBerth k inc).dram = s.dram := by
  simp [State.scoreBerth]

/-! ### Machine/Merge -/

@[simp] theorem State.freePool_dram (s : State) (c) : (s.freePool c).dram = s.dram := by
  simp [State.freePool]
@[simp] theorem State.sendBackup_dram (s : State) (c i) : (s.sendBackup c i).dram = s.dram := by
  unfold State.sendBackup; (repeat' split) <;> simp

@[simp] theorem State.cancelAll_dram (s : State) (c) : (s.cancelAll c).dram = s.dram :=
  State.dram_foldl (fun s x => by dsimp only; (repeat' split) <;> simp) _ _

/-! ### Machine/Member -/

@[simp] theorem State.prefetch_dram (s : State) (m) : (s.prefetch m).dram = s.dram := by
  unfold State.prefetch; dsimp only; (repeat' split) <;> simp
@[simp] theorem State.noteLaunch_dram (s : State) (m) : (s.noteLaunch m).dram = s.dram := by
  unfold State.noteLaunch; dsimp only; (repeat' split) <;> simp
@[simp] theorem State.walked_dram (s : State) (cl basin k) : (s.walked cl basin k).dram = s.dram := by
  unfold State.walked; split <;> simp
@[simp] theorem State.adoptBasin_dram (s : State) (k basin) : (s.adoptBasin k basin).dram = s.dram := by
  unfold State.adoptBasin; split <;> simp
@[simp] theorem State.postMode_dram (s : State) (core m r p mode again) : (s.postMode core m r p mode again).dram = s.dram := by
  simp [State.postMode]
@[simp] theorem State.stage_dram (s : State) (core m r b fromFlash explicit again) : (s.stage core m r b fromFlash explicit again).dram = s.dram := by
  unfold State.stage; dsimp only; split <;> simp
@[simp] theorem State.cutRun_dram (s : State) (core) : (s.cutRun core).dram = s.dram := by
  unfold State.cutRun; dsimp only; (repeat' split) <;> simp

@[simp] theorem State.moveQueue_dram (s : State) (m) : (s.moveQueue m).dram = s.dram := by
  unfold State.moveQueue
  split
  · rfl
  · split
    · rfl
    · dsimp only
      split
      · simp
      · rw [State.dram_foldl fun s p => by split <;> simp]; simp

@[simp] theorem State.finalScores_dram (s : State) (m region g recs) : (s.finalScores m region g recs).dram = s.dram :=
  State.dram_foldl (fun s i => by dsimp only; (repeat' split) <;> simp) _ _

@[simp] theorem State.stopMember_dram (s : State) (m) : (s.stopMember m).dram = s.dram := by
  unfold State.stopMember; dsimp only; split <;> simp

/-! ### Machine/HostRing -/

@[simp] theorem State.takeEntry_dram (s : State) (b r) : (s.takeEntry b r).dram = s.dram := by
  unfold State.takeEntry; dsimp only; split <;> simp
@[simp] theorem State.badDb_dram (s : State) : (s.badDb).dram = s.dram := rfl

/-! ### Machine/Objects -/

@[simp] theorem State.journal_dram (s : State) (k gen count durable body) : (s.journal k gen count durable body).1.dram = s.dram := by
  unfold State.journal; dsimp only; (repeat' split) <;> simp
@[simp] theorem State.journalObj_dram (s : State) (tenant object o destroy) : (s.journalObj tenant object o destroy).dram = s.dram := by
  simp [State.journalObj]
@[simp] theorem State.travelImage_dram (s : State) (pkg k img) : (s.travelImage pkg k img).1.dram = s.dram := by
  unfold State.travelImage; (repeat' split) <;> simp
@[simp] theorem State.homeNotes_dram (s : State) (k gain) : (s.homeNotes k gain).dram = s.dram := by
  unfold State.homeNotes; split <;> simp

theorem State.newRoot_dram {s t : State} {k basin p} (h : s.newRoot k basin p = .ok t) : t.dram = s.dram := by
  unfold State.newRoot at h
  split at h
  · cases h
  · dsimp only at h
    split at h <;> cases h
    next h => exact (ldgAdd_dram h :)

theorem State.newRoot_dram_error {s t : State} {k basin p e} (h : s.newRoot k basin p = .error (e, t)) : t.dram = s.dram := by
  unfold State.newRoot at h
  split at h
  · cases h; simp
  · dsimp only at h
    split at h <;> cases h
    next h => exact ldgAdd_dram_error h

@[simp] theorem State.dropRoot_dram (s : State) (k) : (s.dropRoot k).dram = s.dram := by
  unfold State.dropRoot
  split
  · rfl
  · split
    · rfl
    · exact (State.dram_foldl (fun s p => by split <;> simp) _ _).trans (by simp)

@[simp] theorem State.abortBarge_dram (s : State) (k) : (s.abortBarge k).dram = s.dram := by
  unfold State.abortBarge; (repeat' split) <;> simp
@[simp] theorem State.freeBerth_dram (s : State) (k journal) : (s.freeBerth k journal).dram = s.dram := by
  unfold State.freeBerth; dsimp only; (repeat' split) <;> simp
@[simp] theorem State.dropHomes_dram (s : State) (tenant object) : (s.dropHomes tenant object).dram = s.dram := by
  simp [State.dropHomes]

@[simp] theorem State.destroyObj_dram (s : State) (tenant object o) : (s.destroyObj tenant object o).dram = s.dram := by
  simp [State.destroyObj]

/-! ### Machine/Convoy -/

@[simp] theorem State.sendStale_dram (s : State) (m ref) : (s.sendStale m ref).dram = s.dram := by
  simp [State.sendStale]
@[simp] theorem State.addMember_dram (s : State) (m) : (s.addMember m).dram = s.dram := rfl
@[simp] theorem State.forwardArm_dram (s : State) (m pkg epoch src) : (s.forwardArm m pkg epoch src).dram = s.dram := by
  simp [State.forwardArm]
@[simp] theorem State.openConvoy_dram (s : State) (c) : (s.openConvoy c).dram = s.dram := rfl

@[simp] theorem State.rehome_dram (s : State) (k old new lo hi) : (s.rehome k old new lo hi).dram = s.dram := by
  simp [State.rehome]

/-! ### Machine/Pairing -/

@[simp] theorem State.seedCheck_dram (s : State) : (s.seedCheck).dram = s.dram := by
  simp [State.seedCheck]
@[simp] theorem State.journalImage_dram (s : State) (k durable) : (s.journalImage k durable).dram = s.dram := by
  unfold State.journalImage; dsimp only; (repeat' split) <;> simp

@[simp] theorem State.seedStart_dram (s : State) : (s.seedStart).dram = s.dram := by
  unfold State.seedStart
  simp only [seedCheck_dram, setTwin_dram]
  rw [State.dram_foldl (by simp), State.dram_foldl fun s x => by split <;> simp]
  simp

@[simp] theorem State.bargesReady_dram (s : State) (p) : (s.bargesReady p).dram = s.dram :=
  State.dram_foldl (fun s x => by dsimp only; (repeat' split) <;> simp) _ _
@[simp] theorem State.endFlushes_dram (s : State) (p status) : (s.endFlushes p status).dram = s.dram := by
  simp [State.endFlushes]
@[simp] theorem State.fetch_dram (s : State) (k) : (s.fetch k).dram = s.dram := by
  simp [State.fetch]
@[simp] theorem State.askFetch_dram (s : State) (k) : (s.askFetch k).dram = s.dram := by
  simp [State.askFetch]
@[simp] theorem State.askIndex_dram (s : State) (t) : (s.askIndex t).dram = s.dram := by
  simp [State.askIndex]

@[simp] theorem State.pairBack_dram (s : State) : (s.pairBack).dram = s.dram := by
  simp [State.pairBack]

/-! ### Machine/Transport -/

@[simp] theorem State.connChamber_dram (s : State) (n) : (s.connChamber n).dram = s.dram := by
  simp [State.connChamber]
@[simp] theorem State.resend_dram (s : State) (n p again) : (s.resend n p again).dram = s.dram := by
  unfold State.resend; dsimp only; split <;> simp
@[simp] theorem State.takeAcks_dram (s : State) (n apsn sack) : (s.takeAcks n apsn sack).1.dram = s.dram := by
  unfold State.takeAcks; dsimp only; split <;> simp
@[simp] theorem State.fastResend_dram (s : State) (n apsn sack) : (s.fastResend n apsn sack).dram = s.dram := by
  simp [State.fastResend]
@[simp] theorem State.askConn_dram (s : State) (n) : (s.askConn n).dram = s.dram := by
  simp [State.askConn]
@[simp] theorem State.makeLive_dram (s : State) (n) : (s.makeLive n).dram = s.dram := by
  unfold State.makeLive; (repeat' split) <;> simp
@[simp] theorem State.touch_dram (s : State) (n) : (s.touch n).dram = s.dram := by
  simp [State.touch]
@[simp] theorem State.dropFrames_dram (s : State) (n) : (s.dropFrames n).dram = s.dram := by
  simp [State.dropFrames]
@[simp] theorem State.dropWaiter_dram (s : State) (n) : (s.dropWaiter n).dram = s.dram := by
  unfold State.dropWaiter; split <;> simp

theorem State.popWr_dram {s t : State} {n i w} (h : s.popWr n = some (i, w, t)) : t.dram = s.dram := by
  unfold State.popWr at h
  dsimp only at h
  split at h <;> cases h; simp

/-! ### Machine/Chambers -/

@[simp] theorem State.giveBlocks_dram (s : State) (basin b blocks) : (s.giveBlocks basin b blocks).dram = s.dram := by
  simp [State.giveBlocks]
@[simp] theorem State.chResult_dram (s : State) (base status) : (s.chResult base status).dram = s.dram := rfl
@[simp] theorem State.chAllocate_dram (s : State) (b n) : (s.chAllocate b n).dram = s.dram := by
  unfold State.chAllocate; (repeat' split) <;> simp

@[simp] theorem State.chCfgWrite_dram (s : State) (val) : (s.chCfgWrite val).dram = s.dram := by
  simp [State.chCfgWrite]

/-! ### Machine/Clock -/

@[simp] theorem State.cycle_dram (s : State) : (s.cycle).dram = s.dram := rfl
@[simp] theorem State.correct_dram (s : State) (src e) : (s.correct src e).dram = s.dram := by
  simp [State.correct]
@[simp] theorem State.loseSource_dram (s : State) : (s.loseSource).dram = s.dram := by
  simp [State.loseSource]
@[simp] theorem State.tbSet_dram (s : State) (val) : (s.tbSet val).dram = s.dram := by
  simp [State.tbSet]
@[simp] theorem State.tstrUpdate_dram (s : State) : (s.tstrUpdate).dram = s.dram := by
  simp [State.tstrUpdate]
@[simp] theorem State.strandTo_dram (s : State) (st) : (s.strandTo st).dram = s.dram := by
  simp [State.strandTo]
@[simp] theorem State.strandSearch_dram (s : State) (f) : (s.strandSearch f).dram = s.dram := by
  simp [State.strandSearch]
@[simp] theorem State.setPath_dram (s : State) (x) : (s.setPath x).dram = s.dram := rfl

@[simp] theorem State.ptpOffset_dram (s : State) (origin rx corr) : (s.ptpOffset origin rx corr).dram = s.dram := by
  simp [State.ptpOffset]

/-! ### Machine/Ports -/

@[simp] theorem State.clearPort_dram (s : State) (p) : (s.clearPort p).dram = s.dram := by
  simp [State.clearPort]
@[simp] theorem State.installSak_dram (s : State) (p k) : (s.installSak p k).dram = s.dram := rfl

theorem State.frameRefused_dram {s t : State} {e len prot} (h : s.frameRefused e len prot = some t) : t.dram = s.dram := by
  unfold State.frameRefused at h
  (repeat' split at h) <;> cases h <;> simp

@[simp] theorem State.startFrame_dram (s : State) (p f) : (s.startFrame p f).dram = s.dram := by
  unfold State.startFrame; split <;> simp

@[simp] theorem State.drrSend_dram (s : State) (p tc k) : (s.drrSend p tc k).dram = s.dram := by
  induction k generalizing s with
  | zero => rfl
  | succ k ih => unfold State.drrSend; dsimp only; (repeat' split) <;> simp [ih]

@[simp] theorem State.drrTurn_dram (s : State) (p k) : (s.drrTurn p k).dram = s.dram := by
  induction k generalizing s with
  | zero => rfl
  | succ k ih => unfold State.drrTurn; dsimp only; (repeat' split) <;> simp [ih]

@[simp] theorem State.countHeld_dram (s : State) (p) : (s.countHeld p).dram = s.dram :=
  State.dram_foldl (fun s f => by split <;> simp) _ _
@[simp] theorem State.meterPacket_dram (s : State) (t bytes) : (s.meterPacket t bytes).1.dram = s.dram := by
  unfold State.meterPacket; dsimp only; (repeat' split) <;> simp
@[simp] theorem State.trfCtlWrite_dram (s : State) (val) : (s.trfCtlWrite val).dram = s.dram := by
  simp [State.trfCtlWrite]
@[simp] theorem State.mrateWrite_dram (s : State) (val) : (s.mrateWrite val).dram = s.dram := rfl

/-! ### Machine/Berths -/

@[simp] theorem State.dropWrite_dram (s : State) (o) : (s.dropWrite o).dram = s.dram := rfl
@[simp] theorem State.jobSeq_dram (s : State) (id q) : (s.jobSeq id q).dram = s.dram := rfl
@[simp] theorem State.freeLine_dram (s : State) : s.freeLine.1.dram = s.dram := rfl
@[simp] theorem State.protectLayer_dram (s : State) (k) : (s.protectLayer k).dram = s.dram := by
  unfold State.protectLayer; split <;> rfl
@[simp] theorem State.writeManifest_dram (s : State) (k pay) : (s.writeManifest k pay).dram = s.dram := by
  unfold State.writeManifest; (repeat' split) <;> simp
@[simp] theorem State.journalWrite_dram (s : State) (k is durable trunc) : (s.journalWrite k is durable trunc).1.dram = s.dram := by
  unfold State.journalWrite; dsimp only; (repeat' split) <;> simp
@[simp] theorem State.rewrite_dram (s : State) (k pay count is) : (s.rewrite k pay count is).dram = s.dram := by
  unfold State.rewrite; (repeat' split) <;> simp
@[simp] theorem State.opFetch_dram (s : State) (o) : (s.opFetch o).dram = s.dram := by
  simp [State.opFetch]

/-- A layer's root, found or made, takes nothing of stacked DRAM. -/
theorem State.rooted_dram {s t : State} {k : LayerKey} {basin p : Nat}
    (h : (if (s.layer k).isSome then .ok s else s.newRoot k basin p) = Except.ok t) : t.dram = s.dram := by
  split at h
  · cases h; rfl
  · exact State.newRoot_dram h

theorem State.rooted_dram_error {s t : State} {k : LayerKey} {basin p e : Nat}
    (h : (if (s.layer k).isSome then .ok s else s.newRoot k basin p) = Except.error (e, t)) : t.dram = s.dram := by
  split at h
  · cases h
  · exact State.newRoot_dram_error h

theorem State.openBerth_dram {s t : State} {k o} (h : s.openBerth k o = .ok t) : t.dram = s.dram := by
  unfold State.openBerth at h
  dsimp only at h
  split at h
  · cases h
  · next hu =>
    split at h
    · cases h
    · split at h <;> cases h
      next hd => split <;> simp [takeDram_dram hd, State.rooted_dram hu]

theorem State.openAll_dram {s0 t : State} {o} (ks) (s : State) (h : s0.openAll o ks s = .ok t) : t.dram = s.dram := by
  induction ks generalizing s with
  | nil => unfold State.openAll at h; cases h; rfl
  | cons k ks ih =>
    unfold State.openAll at h
    split at h
    · exact ih s h
    · split at h
      · cases h
      · next hb => exact (ih _ h).trans (openBerth_dram hb)

theorem State.openAll_dram_error {s0 t : State} {o e} (ks) (s : State) (h : s0.openAll o ks s = .error (e, t)) : t.dram = s0.dram := by
  induction ks generalizing s with
  | nil => unfold State.openAll at h; cases h
  | cons k ks ih =>
    unfold State.openAll at h
    split at h
    · exact ih s h
    · split at h
      · cases h; (repeat' split) <;> simp
      · exact ih _ h

@[simp] theorem State.appended_dram (s : State) (o k lo hi job) : (s.appended o k lo hi job).dram = s.dram := by
  unfold State.appended; dsimp only; (repeat' split) <;> simp
@[simp] theorem State.writeJob_dram (s : State) (d) : (s.writeJob d).dram = s.dram := rfl

@[simp] theorem State.upsetBerth_dram (s : State) (k ups) : (s.upsetBerth k ups).dram = s.dram := by
  unfold State.upsetBerth; split <;> simp

/-! ### Machine/Compose -/

theorem State.takeHost_dram {s t : State} {k n} (h : s.takeHost k = .ok (t, n)) : t.dram = s.dram := by
  unfold State.takeHost at h
  split at h <;> cases h; simp

@[simp] theorem State.moveSlot_dram (s : State) (n) : (s.moveSlot n).dram = s.dram := by
  unfold State.moveSlot; dsimp only; (repeat' split) <;> simp
@[simp] theorem State.hostBarge_dram (s : State) (k) : (s.hostBarge k).dram = s.dram := by
  simp [State.hostBarge]
@[simp] theorem State.emptySlot_dram (s : State) (n) : (s.emptySlot n).dram = s.dram := by
  unfold State.emptySlot; dsimp only; (repeat' split) <;> simp
@[simp] theorem State.emptyRun_dram (s : State) (lo n) : (s.emptyRun lo n).dram = s.dram := by
  simp [State.emptyRun]

theorem State.tenantBit_dram {s t : State} {n b on} (h : s.tenantBit n b on = .ok t) : t.dram = s.dram := by
  unfold State.tenantBit at h
  dsimp only at h
  split at h
  · split at h <;> cases h
    next ha => simp [ldgAdd_dram ha]
  · cases h; (repeat' split) <;> simp

theorem State.tenantBit_dram_error {s t : State} {n b on e} (h : s.tenantBit n b on = .error (e, t)) : t.dram = s.dram := by
  unfold State.tenantBit at h
  dsimp only at h
  split at h
  · split at h <;> cases h
    next ha => exact ldgAdd_dram_error ha
  · cases h

@[simp] theorem State.freeBase_dram (s : State) (b object) : (s.freeBase b object).dram = s.dram := by
  simp [State.freeBase]

theorem State.setEpoch_dram {s t : State} {e} (h : s.setEpoch e = some t) : t.dram = s.dram := by
  unfold State.setEpoch at h
  split at h <;> cases h; simp

@[simp] theorem State.passCluster_dram (s : State) (c owner) : (s.passCluster c owner).dram = s.dram := by
  simp [State.passCluster]

@[simp] theorem State.epochWrite_dram (s : State) (val) : (s.epochWrite val).dram = s.dram := by
  unfold State.epochWrite
  dsimp only
  split
  · next h => rw [setEpoch_dram h]; (repeat' split) <;> simp
  · (repeat' split) <;> simp

/-! ### Machine/Barges -/

@[simp] theorem State.compact_dram (s : State) (ch) : (s.compact ch).dram = s.dram := by
  unfold State.compact
  dsimp only
  split
  · rfl
  · split
    · rfl
    · exact State.dram_foldl (fun s p => by split <;> simp) _ _

theorem State.takeAway_dram {s t : State} {k ch blk n} (h : s.takeAway k ch blk = .ok (t, n)) : t.dram = s.dram := by
  unfold State.takeAway at h
  dsimp only at h
  split at h <;> cases h; simp

@[simp] theorem State.unqueue_dram (s : State) (k) : (s.unqueue k).dram = s.dram := rfl

theorem State.bargeDest_dram {s t : State} {q p n} (h : s.bargeDest q p = .ok (t, n)) : t.dram = s.dram := by
  unfold State.bargeDest at h
  split at h
  · exact takeHost_dram h
  · split at h
    · split at h <;> cases h; simp
    · split at h
      · exact takeDram_dram h
      · split at h
        · exact takeAway_dram h
        · exact takeFlash_dram h

@[simp] theorem State.putShadow_dram (s : State) (k m) : (s.putShadow k m).dram = s.dram := by
  unfold State.putShadow
  split
  · split
    · rfl
    · split
      · simp
      · split
        · next h => simp [packPut_dram h]
        · rfl
  · rfl

@[simp] theorem State.dropShadow_dram (s : State) (k) : (s.dropShadow k).dram = s.dram := by
  unfold State.dropShadow; split <;> simp
@[simp] theorem State.makeHome_dram (s : State) (slot img) : (s.makeHome slot img).dram = s.dram := by
  simp [State.makeHome]
@[simp] theorem State.countRefusedBarge_dram (s : State) (t) : (s.countRefusedBarge t).dram = s.dram := by
  unfold State.countRefusedBarge; split <;> simp
@[simp] theorem State.moveOn_dram (s : State) (tenant object) : (s.moveOn tenant object).dram = s.dram := by
  unfold State.moveOn; (repeat' split) <;> simp
@[simp] theorem State.moveAgain_dram (s : State) (k) : (s.moveAgain k).dram = s.dram := by
  unfold State.moveAgain; split <;> simp
@[simp] theorem State.landed_dram (s : State) (k b src img) : (s.landed k b src img).dram = s.dram := by
  unfold State.landed; dsimp only; (repeat' split) <;> simp

@[simp] theorem State.arrive_dram (s : State) (k b img) : (s.arrive k b img).dram = s.dram := by
  unfold State.arrive
  split
  · dsimp only; split <;> split <;> simp
  · rfl

@[simp] theorem State.homeLess_dram (s : State) (k pkg) : (s.homeLess k pkg).dram = s.dram := by
  unfold State.homeLess; dsimp only; split <;> simp

/-! ### Machine/Scan -/

@[simp] theorem State.classMoves_dram (s : State) (k) : (s.classMoves k).dram = s.dram := by
  unfold State.classMoves; split <;> simp

@[simp] theorem State.dropPayload_dram (s : State) (k p) : (s.dropPayload k p).dram = s.dram := by
  unfold State.dropPayload
  dsimp only
  split
  · rfl
  · next h =>
    split at h
    · cases h; simp
    · split at h
      · cases h
      · obtain ⟨⟨t, n, i⟩, ht, rfl⟩ := Option.map_eq_some_iff.mp h
        simp [packPut_dram ht]

@[simp] theorem State.addShadow_dram (s : State) (k) : (s.addShadow k).dram = s.dram := by
  unfold State.addShadow; (repeat' split) <;> simp
@[simp] theorem State.scanBerth_dram (s : State) (k) : (s.scanBerth k).dram = s.dram := by
  unfold State.scanBerth; dsimp only; (repeat' split) <;> simp

@[simp] theorem State.spillGroup_dram (s : State) (ls) : (s.spillGroup ls).dram = s.dram := by
  unfold State.spillGroup
  split
  · rfl
  · split
    · rfl
    · exact State.dram_foldl (fun s e => by dsimp only; split <;> simp) _ _

/-- A recursion on a count leaves stacked DRAM alone where its body does, given that the recursive call does. -/
theorem brecOn_dram {F : (n : Nat) → Nat.below (motive := fun _ => State → State) n → State → State}
    (hzero : ∀ r s, (F 0 r s).dram = s.dram)
    (hsucc : ∀ n r s, (∀ t, (r.1 t).dram = t.dram) → (F (n + 1) r s).dram = s.dram) (k : Nat) (s : State) :
    (Nat.brecOn (motive := fun _ => State → State) k F s).dram = s.dram := by
  induction k generalizing s with
  | zero => exact hzero _ s
  | succ k ih => exact hsucc k _ s ih

/-- By the recursion itself, since the kernel cannot afford the equations of `State.spill`. -/
@[simp] theorem State.spill_dram (s : State) (k) : (s.spill k).dram = s.dram := by
  delta State.spill
  refine brecOn_dram (fun _ _ => rfl) (fun n rest t hrest => ?_) k s
  delta State.spill._f
  dsimp only
  split
  · rfl
  · split
    · rfl
    · simp [hrest]

/-! ### Machine/Moves -/

@[simp] theorem State.rekey_dram (s : State) (lk old new) : (s.rekey lk old new).dram = s.dram := rfl

@[simp] theorem State.switchBasin_dram (s : State) (tenant object o b) : (s.switchBasin tenant object o b).dram = s.dram := by
  unfold State.switchBasin
  simp only [plbInval_dram, setObj_dram]
  rw [State.dram_foldl fun s lk => by split <;> simp, State.dram_foldl (by simp)]

/-! ### Machine/Programs -/

@[simp] theorem State.setProg_dram (s : State) (b e p) : (s.setProg b e p).dram = s.dram := rfl
@[simp] theorem State.installImage_dram (s : State) (b e i) : (s.installImage b e i).dram = s.dram := rfl

/-! ### Machine/Tenancy -/

theorem State.placeBase_dram {s t : State} {b k p img} (h : s.placeBase b k p img = .ok t) : t.dram = s.dram := by
  unfold State.placeBase at h
  dsimp only at h
  split at h
  · cases h
  · next hu =>
    split at h
    · cases h
    · split at h <;> cases h
      simp [State.rooted_dram hu]

theorem State.foldl_ok_dram {α : Type} {f : Except Nat State → α → Except Nat State}
    (hf : ∀ a x u, f a x = .ok u → ∃ v, a = .ok v ∧ u.dram = v.dram) (l : List α) {a : Except Nat State} {u} (hu : l.foldl f a = .ok u) :
    ∃ v, a = .ok v ∧ u.dram = v.dram := by
  induction l generalizing a with
  | nil => exact ⟨u, hu, rfl⟩
  | cons x l ih =>
    obtain ⟨v, hv, huv⟩ := ih hu
    obtain ⟨w, hw, hvw⟩ := hf _ _ _ hv
    exact ⟨w, hw, huv.trans hvw⟩

theorem State.bindBase_dram {s t : State} {b p key data} (h : s.bindBase b p key data = .ok t) : t.dram = s.dram := by
  unfold State.bindBase at h
  dsimp only at h
  obtain ⟨v, hv, htv⟩ := State.foldl_ok_dram (fun a x u hu => by
    split at hu
    · cases hu
    · exact ⟨_, rfl, placeBase_dram hu⟩) _ h
  cases hv; rw [htv]; simp

theorem State.bindPackage_dram {s t : State} {b p} (h : s.bindPackage b p = .ok t) : t.dram = s.dram := by
  unfold State.bindPackage at h
  extract_lets tn kind data e bs at h
  split at h
  · cases h
  · split at h
    · cases h
    · split at h
      · cases h
      · split at h
        · cases h
        · split at h
          · repeat (split at h; · cases h)
            exact bindBase_dram h
          · split_ifs at h
            split at h <;> cases h
            simp

/-- Homes given up one after another leave stacked DRAM alone. -/
theorem State.dram_foldl_freeHome {α : Type} (slot : α → Nat) (l : List α) (s : State) :
    (l.foldl (fun s x => s.freeHome (slot x)) s).dram = s.dram :=
  State.dram_foldl (fun s x => s.freeHome_dram (slot x)) l s

@[simp] theorem State.dropTables_dram (s : State) : (s.dropTables).dram = s.dram :=
  State.dram_foldl_freeHome (fun p : Nat × FSlot => p.1 + 0x01000000) _ s

/-! ### Machine/Spdm -/

@[simp] theorem State.spdmOut_dram (s : State) (code body) : (s.spdmOut code body).dram = s.dram := rfl
@[simp] theorem State.spdmError_dram (s : State) (e) : (s.spdmError e).dram = s.dram := rfl
@[simp] theorem State.modSession_dram (s : State) (id f) : (s.modSession id f).dram = s.dram := rfl
@[simp] theorem State.vendor_dram (s : State) (code status more) : (s.vendor code status more).dram = s.dram := rfl

theorem State.command_dram {s : State} {f : Session → State} (hf : ∀ x, (f x).dram = s.dram) (sess code k) :
    (s.command sess code k f).dram = s.dram := by
  unfold State.command; (repeat' split) <;> simp [hf]

@[simp] theorem State.sendHeld_dram (s : State) (t) : (s.sendHeld t).dram = s.dram := by
  simp [State.sendHeld]
@[simp] theorem State.addOwner_dram (s : State) (h) : (s.addOwner h).dram = s.dram := rfl

@[simp] theorem State.tdispError_dram (s : State) : (s.tdispError).dram = s.dram := by
  simp [State.tdispError]

/-! ### Machine/Registers -/

@[simp] theorem State.regReadEffect_dram (s : State) (off) : (s.regReadEffect off).dram = s.dram := by
  simp [State.regReadEffect]
@[simp] theorem State.mburstWrite_dram (s : State) (val) : (s.mburstWrite val).dram = s.dram := rfl
@[simp] theorem State.wcfgWrite_dram (s : State) (val) : (s.wcfgWrite val).dram = s.dram := rfl
@[simp] theorem State.tbCtlWrite_dram (s : State) (val) : (s.tbCtlWrite val).dram = s.dram := by
  unfold State.tbCtlWrite; dsimp only; split <;> simp
@[simp] theorem State.msixWrite_dram (s : State) (off val) : (s.msixWrite off val).dram = s.dram := by
  simp [State.msixWrite]

@[simp] theorem State.regPut_dram (s : State) (off val) : (s.regPut off val).dram = s.dram := by
  simp [State.regPut]

/-! ### Machine/Debug -/

@[simp] theorem State.dbgRes_dram (s : State) (status shadow) : (s.dbgRes status shadow).dram = s.dram := rfl
@[simp] theorem State.dbgData_dram (s : State) (v) : (s.dbgData v).dram = s.dram := rfl
@[simp] theorem State.haltCore_dram (s : State) (c) : (s.haltCore c).dram = s.dram := by
  unfold State.haltCore; dsimp only; split <;> simp
@[simp] theorem State.forceCore_dram (s : State) (c) : (s.forceCore c).dram = s.dram := by
  unfold State.forceCore; split <;> simp
theorem State.onHalted_dram {s : State} {f : Core → State} (hf : ∀ x, (f x).dram = s.dram) : (s.onHalted f).dram = s.dram := by
  simp [State.onHalted, hf]
@[simp] theorem State.rdReg_dram (s : State) : (s.rdReg).dram = s.dram :=
  State.onHalted_dram fun x => by dsimp only; (repeat' split) <;> simp
@[simp] theorem State.wrReg_dram (s : State) : (s.wrReg).dram = s.dram :=
  State.onHalted_dram fun x => by dsimp only; (repeat' split) <;> simp
@[simp] theorem State.rdMem_dram (s : State) : (s.rdMem).dram = s.dram :=
  State.onHalted_dram fun x => by split <;> simp
@[simp] theorem State.wrMem_dram (s : State) : (s.wrMem).dram = s.dram :=
  State.onHalted_dram fun x => by split <;> simp
@[simp] theorem State.setBreak_dram (s : State) : (s.setBreak).dram = s.dram := by
  simp [State.setBreak]
@[simp] theorem State.quietRead_dram (s : State) : (s.quietRead).dram = s.dram := rfl
@[simp] theorem State.tap_dram (s : State) (code out) : (s.tap code out).dram = s.dram := rfl

@[simp] theorem State.tapDrive_dram (s : State) (code out) : (s.tapDrive code out).dram = s.dram := by
  simp [State.tapDrive]

/-! ### Machine/Boot -/

@[simp] theorem State.ibi_dram (s : State) (b) : (s.ibi b).dram = s.dram := by
  simp [State.ibi]
@[simp] theorem State.ibiFlush_dram (s : State) : (s.ibiFlush).dram = s.dram := by
  simp [State.ibiFlush]
@[simp] theorem State.toBackup_dram (s : State) : (s.toBackup).dram = s.dram := by
  simp [State.toBackup]
@[simp] theorem State.setBootStage_dram (s : State) (n) : (s.setBootStage n).dram = s.dram := rfl
@[simp] theorem State.bootResult_dram (s : State) (r) : (s.bootResult r).dram = s.dram := by
  simp [State.bootResult]
@[simp] theorem State.withdraw_dram (s : State) (ch) : (s.withdraw ch).1.dram = s.dram := by
  simp [State.withdraw]
@[simp] theorem State.lbsGo_dram (s : State) : (s.lbsGo).dram = s.dram := by
  unfold State.lbsGo; split <;> simp
@[simp] theorem State.lbsPush_dram (s : State) (op) : (s.lbsPush op).dram = s.dram := by
  simp [State.lbsPush]
@[simp] theorem State.attemptWrite_dram (s : State) (val) : (s.attemptWrite val).dram = s.dram := by
  simp [State.attemptWrite]
@[simp] theorem State.diagStart_dram (s : State) (sel) : (s.diagStart sel).dram = s.dram := by
  simp [State.diagStart]
@[simp] theorem State.setUpd_dram (s : State) (st res) : (s.setUpd st res).dram = s.dram := rfl
@[simp] theorem State.wdtEntry_dram (s : State) (k pc rollback) : (s.wdtEntry k pc rollback).dram = s.dram := by
  simp [State.wdtEntry]
@[simp] theorem State.switchKeeper_dram (s : State) (k) : (s.switchKeeper k).dram = s.dram := rfl
@[simp] theorem State.updSwitch_dram (s : State) : (s.updSwitch).dram = s.dram := by
  simp [State.updSwitch]
@[simp] theorem State.settingsSave_dram (s : State) (force) : (s.settingsSave force).dram = s.dram := by
  unfold State.settingsSave; split <;> simp
@[simp] theorem State.kprSetWrite_dram (s : State) (val) : (s.kprSetWrite val).dram = s.dram := by
  simp [State.kprSetWrite]

@[simp] theorem State.putCopies_dram (s : State) (f c fresh) : (s.putCopies f c fresh).dram = s.dram :=
  State.dram_foldl (fun s ch => by split; · rfl
                                   · split <;> rfl) _ _

/-! ### Machine/Lbs -/

@[simp] theorem State.lbsEnd_dram (s : State) (status) : (s.lbsEnd status).dram = s.dram := rfl
@[simp] theorem State.lbsXferWrite_dram (s : State) (val) : (s.lbsXferWrite val).dram = s.dram := by
  simp [State.lbsXferWrite]
@[simp] theorem State.clearOnce_dram (s : State) (sda sclHigh) : (s.clearOnce sda sclHigh).1.dram = s.dram := by
  simp [State.clearOnce]
@[simp] theorem State.clearDone_dram (s : State) : (s.clearDone).dram = s.dram := by
  simp [State.clearDone]

@[simp] theorem State.lbsCtlWrite_dram (s : State) (val) : (s.lbsCtlWrite val).dram = s.dram := by
  simp [State.lbsCtlWrite]

/-! ### Machine/Twin -/

@[simp] theorem State.programPage_dram (s : State) (t) : (s.programPage t).dram = s.dram := by
  unfold State.programPage; dsimp only; split <;> simp

theorem State.programImage_dram {s t : State} {k img covers upTo} (h : s.programImage k img covers upTo = some t) : t.dram = s.dram := by
  obtain ⟨f, -, rfl⟩ := Option.map_eq_some_iff.mp h
  simp

@[simp] theorem State.dropLogs_dram (s : State) (t) : (s.dropLogs t).dram = s.dram := by
  simp [State.dropLogs]
@[simp] theorem State.supersede_dram (s : State) (k q) : (s.supersede k q).dram = s.dram := by
  simp [State.supersede]

theorem State.getD_dram {s : State} {o : Option State} (h : ∀ t, o = some t → t.dram = s.dram) : (o.getD s).dram = s.dram := by
  cases o with
  | none => rfl
  | some t => exact h t rfl

@[simp] theorem State.takeWorking_dram (s : State) (k e) : (s.takeWorking k e).1.dram = s.dram := by
  unfold State.takeWorking; (repeat' split) <;> simp
@[simp] theorem State.freeWorking_dram (s : State) (e) : (s.freeWorking e).dram = s.dram := by
  unfold State.freeWorking; split <;> simp

@[simp] theorem State.programWorking_dram (s : State) (k) : (s.programWorking k).dram = s.dram := by
  unfold State.programWorking
  split
  · split
    · split
      · rfl
      · exact State.getD_dram fun t h => programImage_dram h
    · rfl
  · rfl

@[simp] theorem State.applyLines_dram (s : State) (r ls) : (s.applyLines r ls).dram = s.dram := by
  unfold State.applyLines
  dsimp only
  split
  · rfl
  · split <;> simp

@[simp] theorem State.dropEntry_dram (s : State) (k) : (s.dropEntry k).dram = s.dram := by
  unfold State.dropEntry; (repeat' split) <;> simp
@[simp] theorem State.applyRec_dram (s : State) (r) : (s.applyRec r).dram = s.dram := by
  unfold State.applyRec; dsimp only; (repeat' split) <;> simp

theorem State.logRec_dram {s t : State} {r} (h : s.logRec r = some t) : t.dram = s.dram := by
  unfold State.logRec at h
  dsimp only at h
  have hpage : (if (s.jsrc r.key.tenant).page.isEmpty then s else s.programPage r.key.tenant).dram = s.dram := by split <;> simp
  split at h
  · generalize (if (s.jsrc r.key.tenant).page.isEmpty then s else s.programPage r.key.tenant) = u at h hpage
    split at h
    · cases h
    · rw [programImage_dram h, hpage]
  · split at h
    · cases h; simp
    · generalize (if (s.jsrc r.key.tenant).page.isEmpty then s else s.programPage r.key.tenant) = u at h hpage
      split at h <;> cases h
      simp [hpage]

@[simp] theorem State.takeRec_dram (s : State) (r) : (s.takeRec r).1.dram = s.dram := by
  unfold State.takeRec
  dsimp only
  split
  · next h => simp [logRec_dram h]
  · simp

@[simp] theorem State.sendJack_dram (s : State) (t refused images index) : (s.sendJack t refused images index).dram = s.dram := by
  simp [State.sendJack]

@[simp] theorem State.takeRecs_dram (s : State) (t k) : (s.takeRecs t k).dram = s.dram := by
  induction k generalizing s with
  | zero => rfl
  | succ k ih => unfold State.takeRecs; dsimp only; (repeat' split) <;> simp [ih]

@[simp] theorem State.imageDone_dram (s : State) (k p) : (s.imageDone k p).dram = s.dram := by
  unfold State.imageDone; (repeat' split) <;> simp
@[simp] theorem State.pageDone_dram (s : State) (t p) : (s.pageDone t p).dram = s.dram := by
  simp [State.pageDone]

theorem State.homeIn_dram {s t : State} {k slot count gen img} (h : s.homeIn k slot count gen img = some t) : t.dram = s.dram := by
  unfold State.homeIn at h
  split at h
  · cases h
  · extract_lets rooted at h
    cases hr : rooted with
    | none => rw [hr] at h; cases h
    | some u =>
      have hus : u.dram = s.dram := by
        unfold rooted at hr
        split at hr
        · cases hr; rfl
        · split at hr <;> cases hr
          next h => exact newRoot_dram h
      rw [hr] at h
      dsimp -zeta only at h
      split at h
      · cases h
      · split at h
        · cases h
        · extract_lets man fresh old e0 e kap fs t1 t2 t3 at h
          have ht1 : t1.dram = u.dram := by unfold t1; (repeat' split) <;> simp
          have ht2 : t2.dram = u.dram := by simp [t2, ht1]
          have ht3 : t3.dram = u.dram := by unfold t3; split <;> simp [ht2]
          cases h
          split <;> simp [ht3, hus]

theorem State.placeBack_dram {s t : State} {k o n} (h : s.placeBack k o = some (t, n)) : t.dram = s.dram := by
  have hflash {n} (h : (s.flashPlace k (s.basin o.basin).flash).map (fun f => (s, f + 0x01000000)) = some (t, n)) : t.dram = s.dram := by
    obtain ⟨f, -, hf⟩ := Option.map_eq_some_iff.mp h
    cases hf; rfl
  unfold State.placeBack at h
  dsimp only at h
  split at h
  · exact hflash h
  · split at h
    · cases h; simp
    · exact hflash h

@[simp] theorem State.homeFetched_dram (s : State) (r) : (s.homeFetched r).dram = s.dram := by
  unfold State.homeFetched
  split
  · split
    · rfl
    · dsimp only
      split
      · next hp => exact (State.getD_dram fun t h => by rw [homeIn_dram h, placeBack_dram hp]).trans (by simp)
      · simp
  · rfl

@[simp] theorem State.claim_dram (s : State) (c) : (s.claim c).dram = s.dram := by
  unfold State.claim
  split
  · rfl
  · split
    · split
      · exact (State.getD_dram fun t h => by rw [homeIn_dram h]; simp).trans (by simp)
      · rfl
    · simp

@[simp] theorem State.staleHeld_dram (s : State) (p) : (s.staleHeld p).dram = s.dram :=
  State.dram_foldl_freeHome (fun x : Nat × FSlot => x.1 + 0x01000000) _ s
@[simp] theorem State.rejoinCheck_dram (s : State) : (s.rejoinCheck).dram = s.dram := by
  unfold State.rejoinCheck; dsimp only; (repeat' split) <;> simp
@[simp] theorem State.rejoinGo_dram (s : State) : (s.rejoinGo).dram = s.dram := by
  simp [State.rejoinGo]
@[simp] theorem State.takeIndex_dram (s : State) (t es) : (s.takeIndex t es).dram = s.dram := by
  simp [State.takeIndex]

@[simp] theorem State.resendImages_dram (s : State) (ks) : (s.resendImages ks).dram = s.dram := by
  simp [State.resendImages]

/-! ### Machine/Certs -/

@[simp] theorem State.certBad_dram (s : State) : (s.certBad).dram = s.dram := rfl
@[simp] theorem State.certEpoch_dram (s : State) (b) : (s.certEpoch b).dram = s.dram :=
  State.getD_dram fun _ h => setEpoch_dram h

@[simp] theorem State.takeBerth_dram (s : State) (k e) : (s.takeBerth k e).dram = s.dram := by
  unfold State.takeBerth
  split
  · split
    · rfl
    · split
      · split
        · next hp =>
          split
          · next hh => simp [homeIn_dram hh, packPut_dram hp]
          · rfl
        · rfl
      · dsimp only
        split
        · next hown =>
          refine State.getD_dram fun t h => ?_
          rw [homeIn_dram h]
          have hs1 : ∀ (o : Option Nat) (b : Bool), (match o, b with
              | some n, true => s.freeHome n
              | _, _ => s).dram = s.dram := fun o b => by split <;> simp
          split at hown
          · cases hown; exact hs1 _ _
          · split at hown
            · cases hown; exact hs1 _ _
            · exact (placeBack_dram hown).trans (hs1 _ _)
        · rfl
  · rfl

@[simp] theorem State.takeTenant_dram (s : State) (t j) : (s.takeTenant t j).dram = s.dram := by
  unfold State.takeTenant
  extract_lets b s1 s2 logs
  have hs1 : s1.dram = s.dram := State.dram_foldl (by simp) _ _
  have hs2 : s2.dram = s.dram := (State.dram_foldl (by simp) _ _).trans hs1
  rw [pressure_dram, State.dram_foldl_freeHome fun n => n, hs2]

/-! ### Machine/Reliability -/

@[simp] theorem State.returnRegion_dram (s : State) (r) : (s.returnRegion r).dram = s.dram := by
  obtain ⟨f, g, hf, hg, x, hl⟩ : ∃ f g : State → Nat → State, KeepsDram f ∧ KeepsDram g ∧ ∃ x, s.returnRegion r =
      ((List.range 2048).foldl g ((List.range 16).foldl f (s.setRegion r { midWindow := true }))).setChannel r x :=
    ⟨_, _, fun s i => by dsimp only; (repeat' split) <;> simp, fun s i => by simp, _, rfl⟩
  rw [hl, setChannel_dram, State.dram_foldl hg, State.dram_foldl hf, setRegion_dram]

@[simp] theorem State.stopRun_dram (s : State) (core) : (s.stopRun core).dram = s.dram := by
  unfold State.stopRun; split <;> simp
@[simp] theorem State.svcEnd_dram (s : State) (status count) : (s.svcEnd status count).dram = s.dram := rfl
@[simp] theorem State.svcBegin_dram (s : State) (op target) : (s.svcBegin op target).dram = s.dram := rfl

theorem State.moveFlash_dram {s t : State} {f k n} (h : s.moveFlash f k = some (t, n)) : t.dram = s.dram := by
  obtain ⟨g, -, hg⟩ := Option.map_eq_some_iff.mp h
  rw [← (Prod.mk.inj hg).1]; simp

@[simp] theorem State.moveJournal_dram (s : State) (f) : (s.moveJournal f).dram = s.dram := by
  unfold State.moveJournal
  dsimp only
  split
  · rfl
  · next h => simp [moveFlash_dram h]

@[simp] theorem State.moveTable_dram (s : State) (f) : (s.moveTable f).dram = s.dram := by
  unfold State.moveTable
  split
  · rfl
  · next h => simp [moveFlash_dram h]

@[simp] theorem State.queueOut_dram (s : State) (ks flash) : (s.queueOut ks flash).dram = s.dram := by
  simp [State.queueOut]
@[simp] theorem State.drainSlots_dram (s : State) (ch) : (s.drainSlots ch).dram = s.dram := by
  simp [State.drainSlots]

@[simp] theorem State.drainDram_dram (s : State) (ch) : (s.drainDram ch).dram = s.dram := by
  unfold State.drainDram
  dsimp only
  rw [State.dram_foldl fun s n => by split <;> simp]
  simp

@[simp] theorem State.recordRetired_dram (s : State) : (s.recordRetired).dram = s.dram := by
  simp [State.recordRetired]
@[simp] theorem State.svcOn_dram (s : State) : (s.svcOn).dram = s.dram := by
  unfold State.svcOn; dsimp only; (repeat' split) <;> simp

@[simp] theorem State.loseHome_dram (s : State) (k) : (s.loseHome k).1.dram = s.dram := by
  unfold State.loseHome
  extract_lets s1 s2 s3
  have hs1 : s1.dram = s.dram := by simp [s1]
  have hs2 : s2.dram = s.dram := by unfold s2; split <;> simp [hs1]
  split
  · simp [hs1]
  · dsimp only
    split <;> simp [s3, hs2]

@[simp] theorem State.loseJournal_dram (s : State) (ch) : (s.loseJournal ch).dram = s.dram := by
  unfold State.loseJournal
  extract_lets on
  refine State.dram_foldl (fun s x => ?_) _ _
  extract_lets j logged hit gone s1 j1 s2
  clear_value gone
  split
  · rfl
  · simp [s2, s1]

@[simp] theorem State.returnChannel_dram (s : State) (ch) : (s.returnChannel ch).dram = s.dram := by
  simp [State.returnChannel]
@[simp] theorem State.plbInvWrite_dram (s : State) (val) : (s.plbInvWrite val).dram = s.dram := rfl

/-! ### Machine/Access -/

@[simp] theorem State.readVia_dram (s : State) (path off) : (s.readVia path off).1.dram = s.dram := by
  unfold State.readVia; dsimp only; (repeat' split) <;> simp

/-! ### Machine/Target -/

@[simp] theorem State.yRead_dram (s : State) (a len) : (s.yRead a len).1.dram = s.dram := by
  unfold State.yRead; split <;> simp
@[simp] theorem State.refuseAs_dram (s : State) (n psn status) : (s.refuseAs n psn status).dram = s.dram := by
  simp [State.refuseAs]
@[simp] theorem State.enableTag_dram (s : State) (n tag) : (s.enableTag n tag).dram = s.dram := by
  unfold State.enableTag; dsimp only; split <;> simp
@[simp] theorem State.tagged_dram (s : State) (n h) : (s.tagged n h).dram = s.dram := by
  simp [State.tagged]
@[simp] theorem State.takeRead_dram (s : State) (n h r) : (s.takeRead n h r).dram = s.dram := by
  unfold State.takeRead; dsimp only; split <;> simp
@[simp] theorem State.takeChAdd_dram (s : State) (n h r) : (s.takeChAdd n h r).dram = s.dram := by
  simp [State.takeChAdd]
@[simp] theorem State.takeFlush_dram (s : State) (n h durable) : (s.takeFlush n h durable).dram = s.dram := by
  unfold State.takeFlush; dsimp only; (repeat' split) <;> simp
@[simp] theorem State.ackAfter_dram (s : State) (n now) : (s.ackAfter n now).dram = s.dram := by
  simp [State.ackAfter]

theorem State.headerBad_dram {s t : State} {h i} (hb : s.headerBad h i = some t) : t.dram = s.dram := by
  unfold State.headerBad at hb
  (repeat' split at hb) <;> cases hb <;> simp

@[simp] theorem State.retiredPkt_dram (s : State) (n h i) : (s.retiredPkt n h i).dram = s.dram := by
  unfold State.retiredPkt; dsimp only; (repeat' split) <;> simp

@[simp] theorem State.metered_dram (s : State) (n h) : (s.metered n h).1.dram = s.dram := by
  unfold State.metered; dsimp only; (repeat' split) <;> simp

/-! ### Machine/Towpath -/

theorem ccc_dram {f : State → State} (hf : ∀ s, (f s).dram = s.dram) (direct) (s : State) : (ccc direct f s).dram = s.dram := by
  simp [ccc, hf]
@[simp] theorem State.setDyn_dram (s : State) (a) : (s.setDyn a).dram = s.dram := by
  simp [State.setDyn]
@[simp] theorem State.frameIn_dram (s : State) (f) : (s.frameIn f).1.dram = s.dram := by
  unfold State.frameIn; dsimp only; split <;> simp
@[simp] theorem State.frameOut_dram (s : State) (f status data) : (s.frameOut f status data).dram = s.dram := rfl
@[simp] theorem State.frameFail_dram (s : State) (f status) : (s.frameFail f status).dram = s.dram := rfl
@[simp] theorem State.writeStatus_dram (s : State) (n) : (s.writeStatus n).dram = s.dram := rfl

@[simp] theorem State.sensor_dram (s : State) (i v) : (s.sensor i v).dram = s.dram := by
  simp [State.sensor]

/-! ### Machine/Step -/

@[simp] theorem State.withFetchWord_dram (s : State) (nbits w) : (s.withFetchWord nbits w).dram = s.dram := rfl

end Sys2Proof.Machine
end

section
/-! Stacked DRAM through the model's functions (R26, R155; log entry 8), second layer: the functions and commands that may write it write
through `memWriteL`, `memWrite` and `memZero`, which keep its canonical form (Laws/Memory), and so does each of them: `State.f_dram_wf` of a
function, `sem…_keepsWf` of an instruction's effect, `exec…_leavesWf` of a command. -/

namespace Sys2Proof.Machine

/-- An update that leaves stacked DRAM in canonical form. -/
def KeepsWf {α : Type} (f : State → α → State) : Prop := ∀ s x, s.dram.wf → (f s x).dram.wf

@[simp] theorem keepsWf_iff {α : Type} {f : State → α → State} : KeepsWf f ↔ ∀ s x, s.dram.wf → (f s x).dram.wf := ⟨id, id⟩

@[simp] theorem State.foldl_dram_wf {α : Type} {f : State → α → State} (hf : KeepsWf f) (l : List α) {s : State} (h : s.dram.wf) :
    (l.foldl f s).dram.wf := by
  induction l generalizing s with
  | nil => exact h
  | cons x l ih => exact ih (hf s x h)

@[simp] theorem wf_ite {p : Prop} [Decidable p] {m n : Memory} : Memory.wf (if p then m else n) = if p then m.wf else n.wf := apply_ite _ _ _ _

/-- The next state that a command answers has stacked DRAM in canonical form. -/
def LeavesWf : Host.Outcome State Fault Refusal → Prop
  | .next t => t.dram.wf
  | _ => True

@[simp] theorem leavesWf_next (t : State) : LeavesWf (.next t) ↔ t.dram.wf := Iff.rfl

/-- What an instruction does leaves stacked DRAM in canonical form. -/
def Res.DramWf : Res → Prop
  | .done s => s.dram.wf
  | .jump s _ => s.dram.wf
  | .ended s => s.dram.wf
  | .stay => True
  | .exc _ _ => True

@[simp] theorem Res.dramWf_done (s : State) : (Res.done s).DramWf ↔ s.dram.wf := Iff.rfl

@[simp] theorem Res.dramWf_jump (s : State) (ip) : (Res.jump s ip).DramWf ↔ s.dram.wf := Iff.rfl

@[simp] theorem Res.dramWf_ended (s : State) : (Res.ended s).DramWf ↔ s.dram.wf := Iff.rfl

@[simp] theorem Res.dramWf_stay : Res.stay.DramWf := trivial

@[simp] theorem Res.dramWf_exc (code detail) : (Res.exc code detail).DramWf := trivial

@[simp] theorem Res.dramWf_ite {p : Prop} [Decidable p] (a b : Res) : (if p then a else b).DramWf ↔ if p then a.DramWf else b.DramWf := by
  split <;> rfl

/-- An instruction whose effect leaves stacked DRAM in canonical form. -/
def SemKeepsWf (sem : Sem) : Prop := ∀ w c x r s, s.dram.wf → (sem w c x r s).DramWf

/-- Whether it succeeds or fails, what an operation answers has stacked DRAM in canonical form. -/
def SidesWf : Except State State → Prop
  | .ok t => t.dram.wf
  | .error t => t.dram.wf

@[simp] theorem sidesWf_ok (t : State) : SidesWf (.ok t) ↔ t.dram.wf := Iff.rfl

@[simp] theorem sidesWf_error (t : State) : SidesWf (.error t) ↔ t.dram.wf := Iff.rfl

/-! ### Machine/Ops -/

@[simp] theorem State.setDram_dram (s : State) (m) : (s.setDram m).dram = m := rfl
theorem logPut_dram_wf {s : State} {hostBase at_ r rec32} (h : s.dram.wf) : (logPut s hostBase at_ r rec32).1.dram.wf := by
  unfold logPut; split <;> simp [memWriteL_wf, h]

@[simp] theorem State.event_dram_wf {s : State} {b rec32} (h : s.dram.wf) : (s.event b rec32).dram.wf := by
  have hput := logPut_dram_wf (hostBase := (s.basin b).hostBase) (at_ := 0x10000) (r := (s.basin b).evt) (rec32 := rec32) h
  unfold State.event
  dsimp only
  split <;> simpa using hput

@[simp] theorem State.excLog_dram_wf {s : State} {b rec32} (h : s.dram.wf) : (s.excLog b rec32).dram.wf := by
  have hput := logPut_dram_wf (hostBase := (s.basin b).hostBase) (at_ := 0x18000) (r := (s.basin b).exc) (rec32 := rec32) h
  simpa [State.excLog] using hput

@[simp] theorem State.partEvent_dram_wf {s : State} {code unit count} (h : s.dram.wf) : (s.partEvent code unit count).dram.wf := by
  simp [State.partEvent, h]
@[simp] theorem State.unitEvent_dram_wf {s : State} {code unit} (h : s.dram.wf) : (s.unitEvent code unit).dram.wf := by
  simp [State.unitEvent, h]
@[simp] theorem cqWrite_dram_wf {s : State} {b c q e} (h : s.dram.wf) : (cqWrite s b c q e).dram.wf := by
  simp [memWriteL_wf, cqWrite, h]
@[simp] theorem State.postCq_dram_wf {s : State} {b ring e} (h : s.dram.wf) : (s.postCq b ring e).dram.wf := by
  unfold State.postCq; dsimp only; (repeat' split) <;> simp [h]

@[simp] theorem State.complete_dram_wf {s : State} {b ring wrid op cq status result} (h : s.dram.wf) :
    (s.complete b ring wrid op cq status result).dram.wf := by
  simp [State.complete, h]

@[simp] theorem State.finishJob_dram_wf {s : State} {id status result} (h : s.dram.wf) : (s.finishJob id status result).dram.wf := by
  unfold State.finishJob; split <;> simp [h]

/-! ### Machine/Tiers -/

@[simp] theorem State.berthEvent_dram_wf {s : State} {code tier line k detail} (h : s.dram.wf) : (s.berthEvent code tier line k detail).dram.wf := by
  simp [State.berthEvent, h]
theorem State.readManifest_dram_wf {s : State} {k} (h : s.dram.wf) : (s.readManifest k).1.dram.wf := by
  unfold State.readManifest; (repeat' split) <;> simp [h]

/-- The state a payload read leaves after its `i`-th line is in canonical form. -/
theorem State.payLine_dram_wf {s : State} {g k slot acc i} (h : acc.st.dram.wf) : (s.payLine g k slot acc i).st.dram.wf := by
  unfold State.payLine
  split
  · exact h
  · next img l _ =>
    extract_lets live r s1 again poison
    have hs1 : s1.dram.wf := by
      simp only [s1]
      split
      · exact h
      · split <;> simp [h]
    have hpoison (t : State) (code cnt : Nat) (ht : t.dram.wf) : (poison t code cnt).dram.wf := by
      simp only [poison]
      split <;> simp [ht]
    split <;> simp [h, hs1, hpoison]

theorem PayRead.foldl_dram_wf {f : PayRead → Nat → PayRead} (hf : ∀ acc i, acc.st.dram.wf → (f acc i).st.dram.wf) (l : List Nat) :
    ∀ acc : PayRead, acc.st.dram.wf → (l.foldl f acc).st.dram.wf := by
  induction l with
  | nil => exact fun _ h => h
  | cons x t ih => exact fun acc h => ih _ (hf acc x h)

@[simp] theorem State.readPayload_dram_wf {s : State} {g k slot count} (h : s.dram.wf) : (s.readPayload g k slot count).st.dram.wf := by
  unfold State.readPayload
  extract_lets n r
  have hr : r.st.dram.wf := PayRead.foldl_dram_wf (fun _ _ => State.payLine_dram_wf) (List.range n) { st := s, pay := some [] } h
  exact hr

/-! ### Machine/CoreRun -/

@[simp] theorem State.spareSettle_dram_wf {s : State} {cl} (h : s.dram.wf) : (s.spareSettle cl).dram.wf := by
  unfold State.spareSettle; dsimp only; split <;> simp [h]
@[simp] theorem State.noteUncorr_dram_wf {s : State} {core} (h : s.dram.wf) : (s.noteUncorr core).dram.wf := by
  simp [State.noteUncorr, h]
@[simp] theorem State.raise_dram_wf {s : State} {core code detail} (h : s.dram.wf) : (s.raise core code detail).dram.wf := by
  unfold State.raise; split <;> simp [h]

@[simp] theorem issue_dram_wf {o : CoreOp} {sem : Sem} {c} {s : State} (hsem : SemKeepsWf sem) (h : s.dram.wf) : (issue o sem c s).dram.wf := by
  unfold issue
  extract_lets x
  split
  · exact h
  · next r _ =>
    split
    · exact h
    · split
      · simp [h]
      · next w _ =>
        split
        · simp [h]
        · repeat (split; · simp [h])
          dsimp only
          split
          · simp [h]
          · have hres := hsem w c x r s h
            split <;> simp_all

@[simp] theorem put_dramWf (c x s) : (put c x s).DramWf ↔ s.dram.wf := by simp [put]
@[simp] theorem goTo_dramWf {s : State} {r t} (h : s.dram.wf) : (goTo r s t).DramWf := by
  unfold goTo; split <;> simp [h]

@[simp] theorem semBr_keepsWf : SemKeepsWf semBr := by
  intro w c x r s h
  simp [semBr, h]

@[simp] theorem semBrR_keepsWf : SemKeepsWf semBrR := by
  intro w c x r s h
  simp [semBrR, h]

@[simp] theorem semLoop_keepsWf : SemKeepsWf semLoop := by
  intro w c x r s h
  simp [semLoop, h]

@[simp] theorem semCall_keepsWf : SemKeepsWf semCall := by
  intro w c x r s h
  simp [semCall, h]

@[simp] theorem semRet_keepsWf : SemKeepsWf semRet := by
  intro w c x r s h
  unfold semRet; split <;> simp [h]

@[simp] theorem semHalt_keepsWf : SemKeepsWf semHalt := by
  intro w c x r s h
  simp [semHalt, h]

@[simp] theorem semNop_keepsWf : SemKeepsWf semNop := by
  intro w c x r s h
  simp [semNop, h]

@[simp] theorem semAlu_keepsWf (f) : SemKeepsWf (semAlu f) := by
  intro w c x r s h
  simp [semAlu, h]

@[simp] theorem semAluI_keepsWf (f) : SemKeepsWf (semAluI f) := by
  intro w c x r s h
  simp [semAluI, h]

@[simp] theorem semCmp_keepsWf (f) : SemKeepsWf (semCmp f) := by
  intro w c x r s h
  simp [semCmp, h]

@[simp] theorem semCmpI_keepsWf (f) : SemKeepsWf (semCmpI f) := by
  intro w c x r s h
  simp [semCmpI, h]

@[simp] theorem semMov_keepsWf : SemKeepsWf semMov := by
  intro w c x r s h
  simp [semMov, h]

@[simp] theorem semMovh_keepsWf : SemKeepsWf semMovh := by
  intro w c x r s h
  simp [semMovh, h]

@[simp] theorem semExt_keepsWf : SemKeepsWf semExt := by
  intro w c x r s h
  simp [semExt, h]

@[simp] theorem semPlog_keepsWf : SemKeepsWf semPlog := by
  intro w c x r s h
  simp [semPlog, h]

@[simp] theorem semLd_keepsWf (n memErr) : SemKeepsWf (semLd n memErr) := by
  intro w c x r s h
  simp [semLd, h]

@[simp] theorem semSt_keepsWf (n) : SemKeepsWf (semSt n) := by
  intro w c x r s h
  simp [semSt, h]

@[simp] theorem semVld_keepsWf (memErr) : SemKeepsWf (semVld memErr) := by
  intro w c x r s h
  simp [semVld, h]

@[simp] theorem semVst_keepsWf : SemKeepsWf semVst := by
  intro w c x r s h
  simp [semVst, h]

@[simp] theorem semHoldBegin_keepsWf : SemKeepsWf semHoldBegin := by
  intro w c x r s h
  unfold semHoldBegin; split <;> simp [h]

@[simp] theorem semHoldEnd_keepsWf : SemKeepsWf semHoldEnd := by
  intro w c x r s h
  unfold semHoldEnd; split <;> simp [h]

@[simp] theorem semBrk_keepsWf : SemKeepsWf semBrk := by
  intro w c x r s h
  simp [semBrk, h]

/-! ### Machine/CoreSync -/

@[simp] theorem holdChamber_dramWf {s : State} {c x r h pD ch op} (hs : s.dram.wf) : (holdChamber c x r h pD ch op s).DramWf := by
  unfold holdChamber; dsimp only; (repeat' split) <;> simp [hs]

@[simp] theorem semGate_keepsWf (o) : SemKeepsWf (semGate o) := by
  intro w c x r s h
  unfold semGate; dsimp only; (repeat' split) <;> simp [h]

@[simp] theorem semChWait_keepsWf : SemKeepsWf semChWait := by
  intro w c x r s h
  simp [semChWait, h]

@[simp] theorem semAt_keepsWf : SemKeepsWf semAt := by
  intro w c x r s h
  simp [semAt, h]

@[simp] theorem semUntil_keepsWf : SemKeepsWf semUntil := by
  intro w c x r s h
  simp [semUntil, h]

@[simp] theorem semFlightArm_keepsWf : SemKeepsWf semFlightArm := by
  intro w c x r s h
  unfold semFlightArm
  extract_lets a
  split
  · trivial
  · split
    · trivial
    · split
      · simp [h]
      · split
        · simp [h]
        · simp only [put_dramWf]
          exact h

@[simp] theorem semFlightCancel_keepsWf : SemKeepsWf semFlightCancel := by
  intro w c x r s h
  simp [semFlightCancel, h]

/-! ### Machine/CoreTile -/

@[simp] theorem semManNext_keepsWf : SemKeepsWf semManNext := by
  intro w c x r s h
  unfold semManNext; (repeat' split) <;> simp [h]

/-- A state a search for a berth waits in has the searched state's stacked DRAM. -/
def Found.KeepsDram (f : Found) (s : State) : Prop := ∀ t, f = .wait t → t.dram = s.dram

theorem State.findX_keepsDram (s : State) (core r m b) : (s.findX core r m b).KeepsDram s := by
  intro t
  unfold State.findX
  dsimp only
  (repeat' split) <;> rintro ⟨⟩ <;> simp

theorem State.findTicket_keepsDram (s : State) (core r m w) : (s.findTicket core r m w).KeepsDram s := by
  intro t
  unfold State.findTicket
  (repeat' split) <;> rintro ⟨⟩

theorem Found.KeepsDram.ite {p : Prop} [Decidable p] {f g : Found} {s : State} (hf : f.KeepsDram s) (hg : g.KeepsDram s) :
    (if p then f else g).KeepsDram s := by
  split
  · exact hf
  · exact hg

/-- A run that loads what a search finds, and else waits or faults, leaves stacked DRAM in canonical form if the load does. -/
theorem Found.dramWf {f : Found} {s : State} (hf : f.KeepsDram s) (h : s.dram.wf) {ip : Nat} {a : W64} {g : BerthView → Res} (hg :
    ∀ v, (g v).DramWf) :
    (match f with | .exc e => Res.exc e a | .wait t => .jump t ip | .view v => g v).DramWf := by
  cases f with
  | view v => exact hg v
  | wait t => simp [hf t rfl, h]
  | exc e => trivial

@[simp] theorem semTld_keepsWf (val : Bool) : SemKeepsWf (semTld val) := by
  intro w c x r s h
  unfold semTld
  extract_lets a
  split
  · trivial
  · next m _ =>
    have hfound := (s.findX_keepsDram c r m a.toNat).ite (p := imm w / 8 % 2 = 1) (s.findTicket_keepsDram c r m a)
    exact Found.dramWf hfound h fun v => by split <;> simp [h]

@[simp] theorem semTldMan_keepsWf : SemKeepsWf semTldMan := by
  intro w c x r s h
  unfold semTldMan
  extract_lets a
  split
  · trivial
  · next m _ =>
    have hfound := (s.findX_keepsDram c r m a.toNat).ite (p := imm w / 4 % 2 = 1) (s.findTicket_keepsDram c r m a)
    split
    · simp [h]
    · exact Found.dramWf hfound h fun v => by simp [h]

@[simp] theorem semRequeue_keepsWf (other) : SemKeepsWf (semRequeue other) := by
  intro w c x r s h
  unfold semRequeue; dsimp only; (repeat' split) <;> simp [h]

@[simp] theorem semTstLd_keepsWf (memErr) : SemKeepsWf (semTstLd memErr) := by
  intro w c x r s h
  simp [semTstLd, h]

@[simp] theorem semTstSt_keepsWf : SemKeepsWf semTstSt := by
  intro w c x r s h
  simp [semTstSt, h]

@[simp] theorem semDotQk_keepsWf : SemKeepsWf semDotQk := by
  intro w c x r s h
  unfold semDotQk; split <;> simp [h]

@[simp] theorem semAccPv_keepsWf : SemKeepsWf semAccPv := by
  intro w c x r s h
  unfold semAccPv; dsimp only; (repeat' split) <;> simp [h]

@[simp] theorem semScaleS_keepsWf : SemKeepsWf semScaleS := by
  intro w c x r s h
  simp [semScaleS, h]

@[simp] theorem semScaleO_keepsWf : SemKeepsWf semScaleO := by
  intro w c x r s h
  unfold semScaleO; split <;> simp [h]

@[simp] theorem semRope_keepsWf : SemKeepsWf semRope := by
  intro w c x r s h
  unfold semRope; split <;> simp [h]

theorem semMask_keepsWf (rule mark) : SemKeepsWf (semMask rule mark) := by
  intro w c x r s h
  unfold semMask
  split
  · trivial
  · dsimp only
    split <;> simp [h]

@[simp] theorem semMskCausal_keepsWf : SemKeepsWf semMskCausal := semMask_keepsWf _ _
@[simp] theorem semMskWin_keepsWf : SemKeepsWf semMskWin := semMask_keepsWf _ _
@[simp] theorem semMskTree_keepsWf : SemKeepsWf semMskTree := semMask_keepsWf _ _

/-! ### Machine/CoreSoftmax -/

@[simp] theorem semSmxUpd_keepsWf : SemKeepsWf semSmxUpd := by
  intro w c x r s h
  unfold semSmxUpd; dsimp only; (repeat' split) <;> simp [h]

@[simp] theorem semSmxExp_keepsWf : SemKeepsWf semSmxExp := by
  intro w c x r s h
  unfold semSmxExp; split <;> simp [h]

@[simp] theorem semApprox_keepsWf (skip) : SemKeepsWf (semApprox skip) := by
  intro w c x r s h
  unfold semApprox; dsimp only; (repeat' split) <;> simp [h]

@[simp] theorem semAbftAcc_keepsWf : SemKeepsWf semAbftAcc := by
  intro w c x r s h
  unfold semAbftAcc; dsimp only; (repeat' split) <;> simp [h]

@[simp] theorem semAbftChk_keepsWf (upset memErr) : SemKeepsWf (semAbftChk upset memErr) := by
  intro w c x r s h
  unfold semAbftChk; split <;> simp [h]

@[simp] theorem semMergePart_keepsWf : SemKeepsWf semMergePart := by
  intro w c x r s h
  unfold semMergePart; dsimp only; split <;> simp [h]

@[simp] theorem semMergeDrop_keepsWf : SemKeepsWf semMergeDrop := by
  intro w c x r s h
  simp [semMergeDrop, h]

@[simp] theorem semMergeR_keepsWf : SemKeepsWf semMergeR := by
  intro w c x r s h
  unfold semMergeR; split <;> simp [h]

@[simp] theorem semEmit_keepsWf : SemKeepsWf semEmit := by
  intro w c x r s h
  unfold semEmit; split <;> simp [h]

/-! ### Machine/Ledger -/

@[simp] theorem execHomeInsertRetry_leavesWf {s : State} (h : s.dram.wf) : LeavesWf (execHomeInsertRetry s) := by
  unfold execHomeInsertRetry
  split
  · exact h
  · dsimp only
    split
    · exact h
    · split
      · next ht => simp [State.ldgInsert_dram ht, h]
      · exact h

@[simp] theorem State.ldgRetire_dram_wf {s : State} {i} (h : s.dram.wf) : (s.ldgRetire i).dram.wf := by
  simp [State.ldgRetire, h]
@[simp] theorem State.ldgTest_dram_wf {s : State} {is} (h : s.dram.wf) : (s.ldgTest is).dram.wf := by
  simp +contextual [State.ldgTest, h]
@[simp] theorem State.lookupNow_dram_wf {s : State} {n key mask} (h : s.dram.wf) : (s.lookupNow n key mask).dram.wf := by
  unfold State.lookupNow; dsimp only; split <;> simp [h]
@[simp] theorem State.nextNow_dram_wf {s : State} {n} (h : s.dram.wf) : (s.nextNow n).dram.wf := by
  unfold State.nextNow; dsimp only; (repeat' split) <;> simp [h]
@[simp] theorem State.cursorLookup_dram_wf {s : State} {n key mask} (h : s.dram.wf) : (s.cursorLookup n key mask).dram.wf := by
  simp [State.cursorLookup, h]
@[simp] theorem State.cursorNext_dram_wf {s : State} {n} (h : s.dram.wf) : (s.cursorNext n).dram.wf := by
  simp [State.cursorNext, h]

@[simp] theorem cursorRow_leavesWf {s : State} {cur f} (hf : ∀ t n, t.dram.wf → (f t n).dram.wf) (h : s.dram.wf) :
    LeavesWf (.next (cursorRow cur f s)) := by
  unfold cursorRow
  split <;> simp [hf, h]

@[simp] theorem execLedgerCursorLookup_leavesWf {s : State} {cur key mask} (h : s.dram.wf) : LeavesWf (execLedgerCursorLookup cur key mask s) :=
  cursorRow_leavesWf (fun _ _ ht => by simp [ht]) h
@[simp] theorem execLedgerCursorNext_leavesWf {s : State} {cur} (h : s.dram.wf) : LeavesWf (execLedgerCursorNext cur s) :=
  cursorRow_leavesWf (fun _ _ ht => by simp [ht]) h
@[simp] theorem execLedgerCursorClose_leavesWf {s : State} {cur} (h : s.dram.wf) : LeavesWf (execLedgerCursorClose cur s) :=
  cursorRow_leavesWf (fun _ _ ht => by simp [ht]) h
@[simp] theorem execLdgRetireLogRead_leavesWf {s : State} (h : s.dram.wf) : LeavesWf (execLdgRetireLogRead s) := by
  simp [execLdgRetireLogRead, h]

@[simp] theorem execDredgeVisit_leavesWf {s : State} {ups} (h : s.dram.wf) : LeavesWf (execDredgeVisit ups s) := by
  unfold execDredgeVisit; split <;> simp [h]

/-! ### Machine/Share -/

theorem State.shareMan_dram_wf {s : State} {m b} (h : s.dram.wf) : (s.shareMan m b).1.dram.wf := by
  unfold State.shareMan; dsimp only; (repeat' split) <;> simp [h, State.readManifest_dram_wf]

theorem State.jline_dram_wf {s : State} {g k acc i} (h : acc.st.dram.wf) : (s.jline g k acc i).st.dram.wf := by
  unfold State.jline
  split
  · exact h
  · dsimp only
    split <;> simp [h]

@[simp] theorem State.sharePay_dram_wf {s : State} {m b slot} (h : s.dram.wf) : (s.sharePay m b slot).st.dram.wf := by
  unfold State.sharePay
  generalize List.range 256 = lines
  extract_lets k r
  split
  · exact PayRead.foldl_dram_wf (f := s.jline m.geo k) (fun _ _ => State.jline_dram_wf) lines { st := s, pay := some [] } h
  · exact State.readPayload_dram_wf h

/-! ### Machine/Sounding -/

@[simp] theorem execSoundingRoomGrant_leavesWf {s : State} (h : s.dram.wf) : LeavesWf (execSoundingRoomGrant s) := by
  unfold execSoundingRoomGrant; (repeat' split) <;> simp [h]

@[simp] theorem execGraphInsert_leavesWf {s : State} {k} (h : s.dram.wf) : LeavesWf (execGraphInsert k s) := by
  unfold execGraphInsert
  split
  · exact h
  · extract_lets tiers s0
    have hs0 : s0.dram.wf := h
    split
    · next l o e _ _ _ =>
      split
      · exact hs0
      · extract_lets withSlot g homed seeds
        have hslot (t : State) (ht : withSlot = some t) : t.dram.wf := by
          simp only [withSlot] at ht
          split at ht
          · cases ht
            exact hs0
          · split at ht
            · cases ht
            · split at ht
              · next hadd =>
                cases ht
                simp [State.ldgAdd_dram hadd, hs0]
              · cases ht
        clear_value withSlot
        split
        · next t man _ =>
          extract_lets start near s1 s2
          have ht := hslot t rfl
          have hs2 : s2.dram = t.dram := by
            refine (State.dram_foldl (fun s x => ?_) _ _).trans (State.setNbrs_dram ..)
            dsimp only
            (repeat' split) <;> simp
          simp [hs2, ht]
        · exact hs0
    · exact hs0

@[simp] theorem State.soundOne_dram_wf {s : State} {m b rows} (h : s.dram.wf) : (s.soundOne m b rows).1.dram.wf := by
  have hman := State.shareMan_dram_wf (m := m) (b := b) h
  unfold State.soundOne
  split
  · exact h
  · split
    · split <;> simp [h]
    · split
      · exact h
      · split <;> simp_all

@[simp] theorem execEngineEstimate_leavesWf {s : State} {gsid seq twin berth} (h : s.dram.wf) :
    LeavesWf (execEngineEstimate gsid seq twin berth s) := by
  unfold execEngineEstimate; (repeat' split) <;> simp [h]

@[simp] theorem execSelectionFixed_leavesWf {s : State} {gsid seq} (h : s.dram.wf) : LeavesWf (execSelectionFixed gsid seq s) := by
  unfold execSelectionFixed
  extract_lets one
  have hone (t : State) (twin : Bool) (ht : t.dram.wf) : (one t twin).dram.wf := by
    simp only [one]
    (repeat' split) <;> simp [ht]
  exact hone _ _ (hone _ _ h)

theorem scanShare_dram_wf {gsid seq twin rows n} (bs : List Nat) :
    ∀ {s : State} {at_ k}, s.dram.wf → (scanShare gsid seq twin rows bs n s at_ k).1.dram.wf := by
  induction bs with
  | nil => exact fun h => h
  | cons b bs ih =>
    intro s at_ k h
    unfold scanShare
    split
    · exact h
    · split
      · exact h
      · exact ih (State.soundOne_dram_wf h)

@[simp] theorem semSndScan_keepsWf : SemKeepsWf semSndScan := by
  intro w c x r s h
  unfold semSndScan
  split
  · trivial
  · split
    · simp [h]
    · split
      · trivial
      · split
        · trivial
        · split
          · trivial
          · extract_lets at_ rows
            split
            next s1 upTo k heq =>
              have hs1 : s1.dram.wf := by
                rw [show s1 = _ from (congrArg Prod.fst heq).symm]
                exact scanShare_dram_wf _ h
              dsimp only
              split <;> simp [hs1]

@[simp] theorem semSndTop_keepsWf : SemKeepsWf semSndTop := by
  intro w c x r s h
  unfold semSndTop; (repeat' split) <;> simp [h]

/-! ### Machine/Merge -/

@[simp] theorem State.showSweep_dram_wf {s : State} {a} (h : s.dram.wf) : (s.showSweep a).dram.wf := by
  simp [memWriteL_wf, State.showSweep, h]
@[simp] theorem State.sweepCompletion_dram_wf {s : State} {a status} (h : s.dram.wf) : (s.sweepCompletion a status).dram.wf := by
  simp [State.sweepCompletion, h]
@[simp] theorem State.endSweep_dram_wf {s : State} {a st code} (h : s.dram.wf) : (s.endSweep a st code).dram.wf := by
  simp [State.endSweep, h]

@[simp] theorem State.writePub_dram_wf {s : State} {a recs filled final} (h : s.dram.wf) : (s.writePub a recs filled final).dram.wf := by
  unfold State.writePub
  split
  · exact h
  · extract_lets same a1 a2 s1 s2
    have hs1 : s1.dram.wf := by
      simp only [s1]
      split <;> simp [memWriteL_wf, h]
    have hs2 : s2.dram.wf := by simp [s2, hs1]
    split <;> simp [hs2]

@[simp] theorem execPublicationArrival_leavesWf {s : State} {m} (h : s.dram.wf) : LeavesWf (execPublicationArrival m s) := by
  unfold execPublicationArrival; (repeat' split) <;> simp [h]

@[simp] theorem State.publish_dram_wf {s : State} {c recs final} (h : s.dram.wf) : (s.publish c recs final).dram.wf := by
  unfold State.publish
  (repeat' split) <;> simp [h]

@[simp] theorem State.publishMerge_dram_wf {s : State} {c final extra} (h : s.dram.wf) : (s.publishMerge c final extra).dram.wf := by
  unfold State.publishMerge
  dsimp only
  (repeat' split) <;> simp [h]

@[simp] theorem State.finish_dram_wf {s : State} {c unknown} (h : s.dram.wf) : (s.finish c unknown).dram.wf := by
  simp [State.finish, h]

@[simp] theorem State.finishIfFull_dram_wf {s : State} {gsid} (h : s.dram.wf) : (s.finishIfFull gsid).dram.wf := by
  unfold State.finishIfFull
  (repeat' split) <;> simp [h]

@[simp] theorem State.land_dram_wf {s : State} {m} (h : s.dram.wf) : (s.land m).dram.wf := by
  unfold State.land
  split
  · exact h
  · next c _ =>
    split
    · next x t _ _ =>
      extract_lets known drop key got recs clean x0 c0 x1 c1 s1 s2 s3 c2
      have hs2 : s2.dram = s.dram := by
        simp only [s2]
        (repeat' split) <;> simp [s1]
      have hs3 : s3.dram = s.dram := by
        simp only [s3]
        split <;> simp [hs2]
      (repeat' split) <;> simp [drop, hs3, h]
    · exact h

@[simp] theorem execPart_leavesWf {s : State} {m} (h : s.dram.wf) : LeavesWf (execPart m s) := by
  unfold execPart; (repeat' split) <;> simp [h]

@[simp] theorem execBackupPoint_leavesWf {s : State} {gsid seq} (h : s.dram.wf) : LeavesWf (execBackupPoint gsid seq s) := by
  unfold execBackupPoint
  split
  · exact h
  · split
    · exact h
    · split
      · exact h
      · refine State.foldl_dram_wf (fun s i hs => ?_) _ h
        (repeat' split) <;> simp [hs]

@[simp] theorem execMergeDeadline_leavesWf {s : State} {gsid seq} (h : s.dram.wf) : LeavesWf (execMergeDeadline gsid seq s) := by
  unfold execMergeDeadline; (repeat' split) <;> simp [h]

@[simp] theorem execMergeLostTimeout_leavesWf {s : State} {gsid} (h : s.dram.wf) : LeavesWf (execMergeLostTimeout gsid s) := by
  unfold execMergeLostTimeout; (repeat' split) <;> simp [h]

/-! ### Machine/Member -/

@[simp] theorem State.showLaunch_dram_wf {s : State} {gsid seq} (h : s.dram.wf) : (s.showLaunch gsid seq).dram.wf := by
  unfold State.showLaunch; (repeat' split) <;> simp [h]
@[simp] theorem State.launch_dram_wf {s : State} {gsid seq twin} (h : s.dram.wf) : (s.launch gsid seq twin).dram.wf := by
  unfold State.launch; split <;> simp [h]
@[simp] theorem State.ensureLaunched_dram_wf {s : State} {gsid seq twin} (h : s.dram.wf) : (s.ensureLaunched gsid seq twin).dram.wf := by
  unfold State.ensureLaunched; split <;> simp [h]

@[simp] theorem execRunStart_leavesWf {s : State} {core gsid seq twin group kind} (h : s.dram.wf) :
    LeavesWf (execRunStart core gsid seq twin group kind s) := by
  unfold execRunStart; dsimp only; (repeat' split) <;> simp [h]

@[simp] theorem execRunOverdue_leavesWf {s : State} {core} (h : s.dram.wf) : LeavesWf (execRunOverdue core s) := by
  unfold execRunOverdue; (repeat' split) <;> simp [h]

@[simp] theorem State.needMan_dram_wf {s : State} {m p} (h : s.dram.wf) : (s.needMan m p).dram.wf := by
  have hman := State.shareMan_dram_wf (m := m) (b := p.berth) h
  unfold State.needMan
  extract_lets k inFlash
  split
  · exact h
  · split
    · split <;> exact h
    · split <;> simp_all

@[simp] theorem execPageWalk_leavesWf {s : State} {core berth} (h : s.dram.wf) : LeavesWf (execPageWalk core berth s) := by
  unfold execPageWalk
  extract_lets c b cl basin
  split
  · exact h
  · split
    · exact h
    · next m _ =>
      extract_lets k t
      have ht : t.dram.wf := by
        simp only [t]
        split <;> simp [h]
      split
      · (repeat' split) <;> simp [ht]
      · split
        · exact ht
        · next p _ =>
          extract_lets back mayTake choice s1
          have hs1 : s1.dram.wf := State.needMan_dram_wf ht
          clear_value s1 choice mayTake
          split_ifs
          · exact ht
          · simp [ht]
          · exact ht
          · cases choice with
            | man mode =>
              dsimp only
              (repeat' split) <;> simp [hs1]
            | _ => simp [ht]

@[simp] theorem execLeafReadDone_leavesWf {s : State} {k leaf} (h : s.dram.wf) : LeavesWf (execLeafReadDone k leaf s) := by
  unfold execLeafReadDone; (repeat' split) <;> simp [h]

@[simp] theorem landBay_dram {cl i y pay man m r} : (landBay cl i y pay man m r).dram = man.1.dram := by
  unfold landBay
  dsimp only
  (repeat' split) <;> simp

@[simp] theorem State.finishBay_dram_wf {s : State} {cl i ups} (h : s.dram.wf) : (s.finishBay cl i ups).dram.wf := by
  unfold State.finishBay
  split
  · exact h
  · next y _ =>
    split
    · exact h
    · split
      · simp [h]
      · next r _ =>
        split
        · exact h
        · next m _ =>
          split
          · exact h
          · extract_lets b s0 pr s1
            have hs0 : s0.dram.wf := by simp [s0, h]
            split
            · next cp _ =>
              extract_lets x t prCopy back prBack man s2 all
              have ht : t.dram.wf := by simp [t, hs0]
              have hpr : prCopy.st.dram.wf := State.readPayload_dram_wf ht
              have hs2 : s2.dram.wf := by
                simp only [s2, landBay_dram]
                exact hpr
              split <;> simp [hs2]
            · have hpr : pr.st.dram.wf := State.sharePay_dram_wf hs0
              have hs1 : s1.dram.wf := by
                simp only [s1]
                split <;> simp [hpr]
              simpa using State.shareMan_dram_wf hs1

@[simp] theorem execStageComplete_leavesWf {s : State} {cluster bay ups} (h : s.dram.wf) : LeavesWf (execStageComplete cluster bay ups s) := by
  unfold execStageComplete; dsimp only; split <;> simp [h]

@[simp] theorem execFlashReadDone_leavesWf {s : State} {k payload ups} (h : s.dram.wf) : LeavesWf (execFlashReadDone k payload ups s) := by
  unfold execFlashReadDone
  split
  · exact h
  · next rd _ =>
    extract_lets tiers s0 gone s1
    have hs0 : s0.dram.wf := h
    have hs1 : s1.dram.wf := by
      simp only [s1, gone]
      (repeat' split) <;> simp [hs0]
    split
    · simp [hs0]
    · split
      · split
        · exact hs0
        · extract_lets one
          have hone (t : State) (twin : Bool) (ht : t.dram.wf) : (one t twin).dram.wf := by
            simp only [one]
            split
            · exact ht
            · next m _ =>
              split
              · exact ht
              · have hman := State.shareMan_dram_wf (m := m) (b := k.berth)
                  (s := t.upsetShare m k.berth (((t.pte k).map (·.slot)).getD 0) ups) (by simp [ht])
                split
                · exact ht
                · split <;> simp_all
          exact hone _ _ (hone _ _ hs0)
      · split
        · exact hs0
        · split
          · split
            · exact hs1
            · dsimp only
              split <;> simp [hs1]
          · exact hs1

@[simp] theorem execStagingCopyExpiry_leavesWf {s : State} {k} (h : s.dram.wf) : LeavesWf (execStagingCopyExpiry k s) := by
  unfold execStagingCopyExpiry; (repeat' split) <;> simp [h]
@[simp] theorem execBaseBerthExpiry_leavesWf {s : State} {cluster bay} (h : s.dram.wf) : LeavesWf (execBaseBerthExpiry cluster bay s) := by
  unfold execBaseBerthExpiry; (repeat' split) <;> simp [h]
@[simp] theorem execGraceExpiry_leavesWf {s : State} {gsid seq twin} (h : s.dram.wf) : LeavesWf (execGraceExpiry gsid seq twin s) := by
  unfold execGraceExpiry; dsimp only; (repeat' split) <;> simp [h]
@[simp] theorem execMemberCutoff_leavesWf {s : State} {gsid seq twin} (h : s.dram.wf) : LeavesWf (execMemberCutoff gsid seq twin s) := by
  unfold execMemberCutoff; dsimp only; (repeat' split) <;> simp [h]

@[simp] theorem execRegionPartialMerge_leavesWf {s : State} {gsid seq twin region group} (h : s.dram.wf) :
    LeavesWf (execRegionPartialMerge gsid seq twin region group s) := by
  unfold execRegionPartialMerge; dsimp only; (repeat' split) <;> simp [h]

@[simp] theorem State.sendRecs_dram_wf {s : State} {dst gsid seq member twin recs} (h : s.dram.wf) :
    (s.sendRecs dst gsid seq member twin recs).dram.wf := by
  refine State.foldl_dram_wf (fun s x hs => ?_) _ h
  dsimp only
  split <;> simp [hs]

@[simp] theorem execMemberRecordsSend_leavesWf {s : State} {gsid seq twin} (h : s.dram.wf) : LeavesWf (execMemberRecordsSend gsid seq twin s) := by
  unfold execMemberRecordsSend; dsimp only; (repeat' split) <;> simp [h]

@[simp] theorem execCancelMsg_leavesWf {s : State} {gsid seq} (h : s.dram.wf) : LeavesWf (execCancelMsg gsid seq s) := by
  unfold execCancelMsg; (repeat' split) <;> simp [h]

/-! ### Machine/HostRing -/

@[simp] theorem State.fin_dram_wf {s : State} {d status result} (h : s.dram.wf) : (s.fin d status result).dram.wf := by
  simp [State.fin, h]

theorem serve_dram_wf {op : Nat} {f : Dsc → State → State} {b r : Nat} {s : State} (hf : ∀ d t, t.dram.wf → (f d t).dram.wf) (h : s.dram.wf) :
    (serve op f b r s).dram.wf := by
  unfold serve
  (repeat' split) <;> simp [hf, h]

theorem tenantDsc_dram_wf {f : Dsc → State → State} {d : Dsc} {s : State} (hf : ∀ d t, t.dram.wf → (f d t).dram.wf) (h : s.dram.wf) :
    (tenantDsc f d s).dram.wf := by
  unfold tenantDsc
  split <;> simp [hf, h]

theorem serve_tenantDsc_dram_wf {op : Nat} {f : Dsc → State → State} {b r : Nat} {s : State} (hf : ∀ d t, t.dram.wf → (f d t).dram.wf)
    (h : s.dram.wf) : (serve op (tenantDsc f) b r s).dram.wf :=
  serve_dram_wf (fun _ _ => tenantDsc_dram_wf hf) h

@[simp] theorem execSqTail_leavesWf {s : State} {basin ring val} (h : s.dram.wf) : LeavesWf (execSqTail basin ring val s) := by
  unfold execSqTail
  dsimp only
  (repeat' split) <;> simp [h]

@[simp] theorem State.drainBack_dram_wf {b c k} : ∀ {s : State}, s.dram.wf → (s.drainBack b c k).dram.wf := by
  induction k with
  | zero => exact fun h => h
  | succ k ih =>
    intro s h
    unfold State.drainBack
    dsimp only
    (repeat' split) <;> simp [h, ih]

@[simp] theorem execCqHead_leavesWf {s : State} {basin ring val} (h : s.dram.wf) : LeavesWf (execCqHead basin ring val s) := by
  unfold execCqHead
  dsimp only
  (repeat' split) <;> simp [h]

@[simp] theorem execEvtHead_leavesWf {s : State} {basin val} (h : s.dram.wf) : LeavesWf (execEvtHead basin val s) := by
  unfold execEvtHead
  dsimp only
  (repeat' split) <;> simp [h]

@[simp] theorem execExcHead_leavesWf {s : State} {basin val} (h : s.dram.wf) : LeavesWf (execExcHead basin val s) := by
  unfold execExcHead
  dsimp only
  (repeat' split) <;> simp [h]

@[simp] theorem execCoalTimer_leavesWf {s : State} {basin ring} (h : s.dram.wf) : LeavesWf (execCoalTimer basin ring s) := by
  unfold execCoalTimer; dsimp only; (repeat' split) <;> simp [h]
@[simp] theorem State.zeroRings_dram_wf {s : State} {b} (h : s.dram.wf) : (s.zeroRings b).dram.wf := by
  simp [memZero_wf, State.zeroRings, h]

@[simp] theorem execServiceEntry_leavesWf {s : State} (h : s.dram.wf) : LeavesWf (execServiceEntry s) := by
  unfold execServiceEntry
  split
  · exact h
  · extract_lets s1 boot s2
    have hs1 : s1.dram.wf := by
      refine State.foldl_dram_wf (fun s b hs => ?_) _ h
      split <;> simp [hs]
    have hs2 : s2.dram.wf := State.foldl_dram_wf (fun _ _ hs => State.event_dram_wf hs) _ hs1
    simp [hs2]

/-! ### Machine/Objects -/

@[simp] theorem doUpdateObject_dram_wf {s : State} {d} (h : s.dram.wf) : (doUpdateObject d s).dram.wf := by
  unfold doUpdateObject; dsimp only; (repeat' split) <;> simp [h]
@[simp] theorem execUpdateObject_leavesWf {s : State} {basin ring} (h : s.dram.wf) : LeavesWf (execUpdateObject basin ring s) :=
  serve_tenantDsc_dram_wf (fun _ _ => doUpdateObject_dram_wf) h
@[simp] theorem doDestroyObject_dram_wf {s : State} {d} (h : s.dram.wf) : (doDestroyObject d s).dram.wf := by
  unfold doDestroyObject; dsimp only; split <;> simp [h]

@[simp] theorem execDestroyObject_leavesWf {s : State} {basin ring} (h : s.dram.wf) : LeavesWf (execDestroyObject basin ring s) :=
  serve_tenantDsc_dram_wf (fun _ _ => doDestroyObject_dram_wf) h

/-! ### Machine/Convoy -/

@[simp] theorem State.progMissing_dram_wf {s : State} {basin gsid prog} (h : s.dram.wf) : (s.progMissing basin gsid prog).dram.wf := by
  simp [State.progMissing, h]
@[simp] theorem State.ackConvoy_dram_wf {s : State} {a} (h : s.dram.wf) : (s.ackConvoy a).dram.wf := by
  unfold State.ackConvoy; dsimp only; (repeat' split) <;> simp [h]
@[simp] theorem State.sendAck_dram_wf {s : State} {dst a} (h : s.dram.wf) : (s.sendAck dst a).dram.wf := by
  simp [State.sendAck, h]
@[simp] theorem State.memberAck_dram_wf {s : State} {m} (h : s.dram.wf) : (s.memberAck m).dram.wf := by
  simp [State.memberAck, h]
@[simp] theorem execArmAck_leavesWf {s : State} {m} (h : s.dram.wf) : LeavesWf (execArmAck m s) := by
  unfold execArmAck; (repeat' split) <;> simp [h]
@[simp] theorem State.answerEmpty_dram_wf {s : State} {m o} (h : s.dram.wf) : (s.answerEmpty m o).dram.wf := by
  simp [State.answerEmpty, h]

@[simp] theorem State.armAgain_dram_wf {s : State} {x m} (h : s.dram.wf) : (s.armAgain x m).dram.wf := by
  unfold State.armAgain
  dsimp only
  (repeat' split) <;> simp [h]

@[simp] theorem State.armNow_dram_wf {s : State} {m bound} (h : s.dram.wf) : (s.armNow m bound).dram.wf := by
  unfold State.armNow
  extract_lets lk homes tombs coming pkgs epochOf stale
  have hstale (t : State) : (stale t).dram = t.dram := by simp [stale]
  split
  · split <;> simp [h]
  · split
    · split <;> simp [hstale, h]
    · split
      · simp [h]
      · split
        · simp [h]
        · extract_lets kap w0 w1 w2 s1 s2 s3
          have hs2 : s2.dram = s.dram := by
            simp only [s2]
            split <;> simp [hstale, s1]
          have hs3 : s3.dram.wf := by simp [s3, hs2, h]
          split <;> simp [hs3]

@[simp] theorem State.armReceive_dram_wf {s : State} {m bound} (h : s.dram.wf) : (s.armReceive m bound).dram.wf := by
  unfold State.armReceive
  dsimp only
  (repeat' split) <;> simp [h]

@[simp] theorem execArm_leavesWf {s : State} {m} (h : s.dram.wf) : LeavesWf (execArm m s) := by
  unfold execArm; split <;> simp [h]

@[simp] theorem State.armTo_dram_wf {s : State} {pkg m bound} (h : s.dram.wf) : (s.armTo pkg m bound).dram.wf := by
  unfold State.armTo
  split <;> simp [h]

@[simp] theorem State.sendArms_dram_wf {s : State} {a} (h : s.dram.wf) : (s.sendArms a).dram.wf := by
  unfold State.sendArms
  extract_lets delta g
  split
  next t late _ =>
    extract_lets s1 s2
    refine State.foldl_dram_wf (fun s x hs => State.armTo_dram_wf hs) _ ?_
    simp only [s2, s1]
    (repeat' split) <;> simp [h]

@[simp] theorem execMergeSlotReserve_leavesWf {s : State} {gsid} (h : s.dram.wf) : LeavesWf (execMergeSlotReserve gsid s) := by
  unfold execMergeSlotReserve; dsimp only; (repeat' split) <;> simp [h]
@[simp] theorem State.formConvoy_dram_wf {s : State} {a} (h : s.dram.wf) : (s.formConvoy a).dram.wf := by
  unfold State.formConvoy; split <;> simp [h]
@[simp] theorem State.acceptSweep_dram_wf {s : State} {d num} (h : s.dram.wf) : (s.acceptSweep d num).dram.wf := by
  unfold State.acceptSweep; dsimp only; (repeat' split) <;> simp [h]

@[simp] theorem execSweep_leavesWf {s : State} {basin ring} (h : s.dram.wf) : LeavesWf (execSweep basin ring s) := by
  unfold execSweep
  split
  · exact h
  · exact serve_dram_wf (fun _ _ ht => State.acceptSweep_dram_wf ht) h

@[simp] theorem State.acceptHanded_dram_wf {k} : ∀ {s : State}, s.dram.wf → (s.acceptHanded k).dram.wf := by
  induction k with
  | zero => exact fun h => h
  | succ k ih =>
    intro s h
    unfold State.acceptHanded
    split
    · exact ih (State.acceptSweep_dram_wf h)
    · exact h

@[simp] theorem execRelease_leavesWf {s : State} {basin val} (h : s.dram.wf) : LeavesWf (execRelease basin val s) := by
  unfold execRelease
  dsimp only
  (repeat' split) <;> simp [memWriteL_wf, h]

@[simp] theorem State.abandon_dram_wf {s : State} {a code} (h : s.dram.wf) : (s.abandon a code).dram.wf := by
  unfold State.abandon; dsimp only; (repeat' split) <;> simp [h]
@[simp] theorem doCancel_dram_wf {s : State} {d} (h : s.dram.wf) : (doCancel d s).dram.wf := by
  unfold doCancel; dsimp only; split <;> simp [h]
@[simp] theorem execCancel_leavesWf {s : State} {basin ring} (h : s.dram.wf) : LeavesWf (execCancel basin ring s) :=
  serve_tenantDsc_dram_wf (fun _ _ => doCancel_dram_wf) h

@[simp] theorem State.rearm_dram_wf {s : State} {a member pkg} (h : s.dram.wf) : (s.rearm a member pkg).dram.wf := by
  unfold State.rearm
  extract_lets g s1
  split
  · exact h
  · split
    · exact h
    · extract_lets late
      refine State.armTo_dram_wf ?_
      simp only [s1]
      (repeat' split) <;> simp [h]

@[simp] theorem execStaleMap_leavesWf {s : State} {gsid seq member ref} (h : s.dram.wf) : LeavesWf (execStaleMap gsid seq member ref s) := by
  unfold execStaleMap; dsimp only; (repeat' split) <;> simp [h]
@[simp] theorem execHomeQuery_leavesWf {s : State} {src tenant} (h : s.dram.wf) : LeavesWf (execHomeQuery src tenant s) := by
  unfold execHomeQuery; (repeat' split) <;> simp [h]

@[simp] theorem execHomeReply_leavesWf {s : State} {src blocks} (h : s.dram.wf) : LeavesWf (execHomeReply src blocks s) := by
  unfold execHomeReply
  extract_lets p tag takes fits ledger s1 s2
  have hs2 : s2.dram = s.dram := State.dram_foldl (fun s b => by split <;> simp) _ _
  split
  · exact h
  · refine State.foldl_dram_wf (fun s n hs => ?_) _ (hs2 ▸ h)
    split
    · exact hs
    · dsimp only
      (repeat' split) <;> simp [hs]

@[simp] theorem execHomeNote_leavesWf {s : State} {src epoch k block homed gain} (h : s.dram.wf) :
    LeavesWf (execHomeNote src epoch k block homed gain s) := by
  unfold execHomeNote; dsimp only; (repeat' split) <;> simp [h]

@[simp] theorem execRebuildDone_leavesWf {s : State} (h : s.dram.wf) : LeavesWf (execRebuildDone s) := by
  unfold execRebuildDone
  split
  · exact h
  · extract_lets found l1 s1 s2 looks arms l2 s3 s4 nexts s5 s6
    have hs2 : s2.dram = s.dram := State.dram_foldl (fun s b => by (repeat' split) <;> simp) _ _
    have hs4 : s4.dram.wf := by
      refine State.foldl_dram_wf (fun s q hs => ?_) _ (hs2 ▸ h)
      split <;> simp [hs]
    have hs5 : s5.dram.wf := State.foldl_dram_wf (fun s n hs => by simp [hs]) _ hs4
    have hs6 : s6.dram.wf := by
      refine State.foldl_dram_wf (fun s m hs => ?_) _ hs5
      split <;> simp [hs]
    refine State.foldl_dram_wf (fun s n hs => ?_) _ hs6
    (repeat' split) <;> simp [hs]

@[simp] theorem execBackup_leavesWf {s : State} {m} (h : s.dram.wf) : LeavesWf (execBackup m s) := by
  unfold execBackup; dsimp only; (repeat' split) <;> simp [h]

/-! ### Machine/Moorings -/

@[simp] theorem State.moorSettle_dram_wf {s : State} {i} (h : s.dram.wf) : (s.moorSettle i).dram.wf := by
  simp +contextual [State.moorSettle, h]
@[simp] theorem State.moorLeave_dram_wf {s : State} {i} (h : s.dram.wf) : (s.moorLeave i).dram.wf := by
  simp [State.moorLeave, h]

@[simp] theorem doMoorReg_dram_wf {s : State} {d} (h : s.dram.wf) : (doMoorReg d s).dram.wf := by
  unfold doMoorReg
  extract_lets conn mfl base len c
  split
  · simp [h]
  · split
    · simp [h]
    · split
      · simp [h]
      · extract_lets key gen
        split
        · next e he => simp [State.ldgAdd_dram_error he, h]
        · next t ht => simp [State.ldgAdd_dram ht, h]

@[simp] theorem execMoorReg_leavesWf {s : State} {basin ring} (h : s.dram.wf) : LeavesWf (execMoorReg basin ring s) :=
  serve_tenantDsc_dram_wf (fun _ _ => doMoorReg_dram_wf) h
@[simp] theorem doMoorRevoke_dram_wf {s : State} {d} (h : s.dram.wf) : (doMoorRevoke d s).dram.wf := by
  unfold doMoorRevoke; split <;> simp [h]
@[simp] theorem execMoorRevoke_leavesWf {s : State} {basin ring} (h : s.dram.wf) : LeavesWf (execMoorRevoke basin ring s) :=
  serve_tenantDsc_dram_wf (fun _ _ => doMoorRevoke_dram_wf) h
@[simp] theorem doMoorDereg_dram_wf {s : State} {d} (h : s.dram.wf) : (doMoorDereg d s).dram.wf := by
  unfold doMoorDereg; split <;> simp [h]

@[simp] theorem execMoorDereg_leavesWf {s : State} {basin ring} (h : s.dram.wf) : LeavesWf (execMoorDereg basin ring s) :=
  serve_tenantDsc_dram_wf (fun _ _ => doMoorDereg_dram_wf) h

/-! ### Machine/Pairing -/

@[simp] theorem State.endDurable_dram_wf {s : State} {p status} (h : s.dram.wf) : (s.endDurable p status).dram.wf := by
  simp +contextual [State.endDurable, h]
@[simp] theorem State.pairOut_dram_wf {s : State} {pair} (h : s.dram.wf) : (s.pairOut pair).dram.wf := by
  simp [State.pairOut, h]

@[simp] theorem State.pairLost_dram_wf {s : State} (h : s.dram.wf) : (s.pairLost).dram.wf := by
  simp [State.pairLost, h]

/-! ### Machine/Transport -/

@[simp] theorem State.connPut_dram_wf {s : State} {n e} (h : s.dram.wf) : (s.connPut n e).dram.wf := by
  simp [memWriteL_wf, State.connPut, h]
@[simp] theorem State.connCq_dram_wf {s : State} {n e} (h : s.dram.wf) : (s.connCq n e).dram.wf := by
  simp [State.connCq, h]

@[simp] theorem State.connDrain_dram_wf {n k} : ∀ {s : State}, s.dram.wf → (s.connDrain n k).dram.wf := by
  induction k with
  | zero => exact fun h => h
  | succ k ih =>
    intro s h
    unfold State.connDrain
    dsimp only
    (repeat' split) <;> simp [h, ih]

@[simp] theorem State.wrDone_dram_wf {s : State} {n id w status result data} (h : s.dram.wf) : (s.wrDone n id w status result data).dram.wf := by
  unfold State.wrDone; dsimp only; split <;> simp [h]
@[simp] theorem State.liveDone_dram_wf {s : State} {n id status result data} (h : s.dram.wf) : (s.liveDone n id status result data).dram.wf := by
  unfold State.liveDone; dsimp only; split <;> simp [h]

@[simp] theorem State.settleWrites_dram_wf {s : State} {n} (h : s.dram.wf) : (s.settleWrites n).dram.wf := by
  refine State.foldl_dram_wf (fun s l hs => ?_) _ h
  (repeat' split) <;> simp [hs]

@[simp] theorem State.ruled_dram_wf {s : State} {n psn status} (h : s.dram.wf) : (s.ruled n psn status).dram.wf := by
  unfold State.ruled
  dsimp only
  (repeat' split) <;> simp [h]

@[simp] theorem State.ackIn_dram_wf {s : State} {n apsn sack owd ece} (h : s.dram.wf) : (s.ackIn n apsn sack owd ece).dram.wf := by
  unfold State.ackIn
  extract_lets r c d s1
  have hs1 : s1.dram.wf := by
    simp only [s1]
    split <;> simp [r, h]
  simp [hs1]

@[simp] theorem State.establish_dram_wf {s : State} {n na nb key} (h : s.dram.wf) : (s.establish n na nb key).dram.wf := by
  unfold State.establish; dsimp only; (repeat' split) <;> simp [h]
@[simp] theorem State.dropInMsg_dram_wf {s : State} {n} (h : s.dram.wf) : (s.dropInMsg n).dram.wf := by
  unfold State.dropInMsg; (repeat' split) <;> simp [h]
@[simp] theorem State.failLive_dram_wf {s : State} {n status} (h : s.dram.wf) : (s.failLive n status).dram.wf := by
  simp +contextual [State.failLive, h]
@[simp] theorem State.reopen_dram_wf {s : State} {n} (h : s.dram.wf) : (s.reopen n).dram.wf := by
  simp [State.reopen, h]
@[simp] theorem State.loseConn_dram_wf {s : State} {n} (h : s.dram.wf) : (s.loseConn n).dram.wf := by
  simp [State.loseConn, h]
@[simp] theorem State.renew_dram_wf {s : State} {n} (h : s.dram.wf) : (s.renew n).dram.wf := by
  simp [State.renew, h]

@[simp] theorem State.failFirst_dram_wf {s : State} {n status} (h : s.dram.wf) : (s.failFirst n status).dram.wf := by
  unfold State.failFirst
  split
  · next ht => simp [State.popWr_dram ht, h]
  · exact h

@[simp] theorem State.failQueue_dram_wf {s : State} {n status} (h : s.dram.wf) : (s.failQueue n status).dram.wf :=
  State.foldl_dram_wf (fun _ _ => State.failFirst_dram_wf) _ (by simp [h])

@[simp] theorem State.connDown_dram_wf {s : State} {n} (h : s.dram.wf) : (s.connDown n).dram.wf := by
  unfold State.connDown
  dsimp only
  split <;> simp [h]

@[simp] theorem State.closeConn_dram_wf {s : State} {n status} (h : s.dram.wf) : (s.closeConn n status).dram.wf := by
  unfold State.closeConn
  extract_lets s1 s2
  have hfailed := State.failQueue_dram_wf (n := n) (status := status) (State.failLive_dram_wf (n := n) (status := status) h)
  have hs1 : s1.dram.wf := by simp [s1, hfailed]
  simp only [s2]
  split <;> simp [hs1]

@[simp] theorem execAckTimer_leavesWf {s : State} {conn} (h : s.dram.wf) : LeavesWf (execAckTimer conn s) := by
  unfold execAckTimer; (repeat' split) <;> simp [h]
@[simp] theorem execRetransmitTimeout_leavesWf {s : State} {conn} (h : s.dram.wf) : LeavesWf (execRetransmitTimeout conn s) := by
  unfold execRetransmitTimeout; dsimp only; (repeat' split) <;> simp [h]
@[simp] theorem execConnLossExpiry_leavesWf {s : State} {conn} (h : s.dram.wf) : LeavesWf (execConnLossExpiry conn s) := by
  unfold execConnLossExpiry; dsimp only; (repeat' split) <;> simp [h]
@[simp] theorem execTargetBusyRetry_leavesWf {s : State} {conn} (h : s.dram.wf) : LeavesWf (execTargetBusyRetry conn s) := by
  unfold execTargetBusyRetry; dsimp only; (repeat' split) <;> simp [h]
@[simp] theorem doConnOpen_dram_wf {s : State} {d} (h : s.dram.wf) : (doConnOpen d s).dram.wf := by
  simp [doConnOpen, h]
@[simp] theorem execConnOpen_leavesWf {s : State} {basin ring} (h : s.dram.wf) : LeavesWf (execConnOpen basin ring s) :=
  serve_tenantDsc_dram_wf (fun _ _ => doConnOpen_dram_wf) h

@[simp] theorem doConnClose_dram_wf {s : State} {d} (h : s.dram.wf) : (doConnClose d s).dram.wf := by
  unfold doConnClose
  dsimp only
  split <;> simp [h]

@[simp] theorem execConnClose_leavesWf {s : State} {basin ring} (h : s.dram.wf) : LeavesWf (execConnClose basin ring s) :=
  serve_tenantDsc_dram_wf (fun _ _ => doConnClose_dram_wf) h
@[simp] theorem execConnCloseMsg_leavesWf {s : State} {conn} (h : s.dram.wf) : LeavesWf (execConnCloseMsg conn s) := by
  unfold execConnCloseMsg; split <;> simp [h]

@[simp] theorem execConnReq_leavesWf {s : State} {m} (h : s.dram.wf) : LeavesWf (execConnReq m s) := by
  unfold execConnReq
  extract_lets n c s1 nb s2
  have hs1 : s1.dram.wf := by
    simp only [s1]
    split <;> simp [h]
  split
  · exact h
  · split
    · exact h
    · simp [s2, hs1]

@[simp] theorem execConnAcc_leavesWf {s : State} {m} (h : s.dram.wf) : LeavesWf (execConnAcc m s) := by
  unfold execConnAcc; dsimp only; (repeat' split) <;> simp [h]
@[simp] theorem execConnReqRetry_leavesWf {s : State} {conn} (h : s.dram.wf) : LeavesWf (execConnReqRetry conn s) := by
  unfold execConnReqRetry; dsimp only; (repeat' split) <;> simp [h]

@[simp] theorem execConnDbSend_leavesWf {s : State} {basin conn index} (h : s.dram.wf) : LeavesWf (execConnDbSend basin conn index s) := by
  unfold execConnDbSend
  dsimp only
  (repeat' split) <;> simp [h]

@[simp] theorem execConnDbRecv_leavesWf {s : State} {basin conn index} (h : s.dram.wf) : LeavesWf (execConnDbRecv basin conn index s) := by
  unfold execConnDbRecv
  dsimp only
  (repeat' split) <;> simp [h]

@[simp] theorem execConnDbCompletion_leavesWf {s : State} {basin conn index} (h : s.dram.wf) :
    LeavesWf (execConnDbCompletion basin conn index s) := by
  unfold execConnDbCompletion
  dsimp only
  (repeat' split) <;> simp [h]

/-! ### Machine/Chambers -/

@[simp] theorem execChAllocate_leavesWf {s : State} {basin blocks} (h : s.dram.wf) : LeavesWf (execChAllocate basin blocks s) := by
  simp [execChAllocate, h]
@[simp] theorem State.endWait_dram_wf {s : State} {src status} (h : s.dram.wf) : (s.endWait src status).dram.wf := by
  cases src <;> simp [State.endWait, h]
@[simp] theorem State.chEmpty_dram_wf {s : State} {ch status} (h : s.dram.wf) : (s.chEmpty ch status).dram.wf :=
  State.foldl_dram_wf (fun _ _ => State.endWait_dram_wf) _ (by simp [h])
@[simp] theorem State.freeBlocks_dram_wf {s : State} {b blocks} (h : s.dram.wf) : (s.freeBlocks b blocks).dram.wf :=
  State.foldl_dram_wf (fun _ _ hs => by simp [hs]) _ h

@[simp] theorem State.chFree_dram_wf {s : State} {basin n base} (h : s.dram.wf) : (s.chFree basin n base).dram.wf := by
  unfold State.chFree
  dsimp only
  (repeat' split) <;> simp [h]

@[simp] theorem execChFree_leavesWf {s : State} {basin blocks base} (h : s.dram.wf) : LeavesWf (execChFree basin blocks base s) := by
  simp [execChFree, h]
@[simp] theorem execChCfgWrite_leavesWf {s : State} {val} (h : s.dram.wf) : LeavesWf (execChCfgWrite val s) := by
  simp [execChCfgWrite, h]

@[simp] theorem execChamberWaitTimeout_leavesWf {s : State} (h : s.dram.wf) : LeavesWf (execChamberWaitTimeout s) := by
  refine State.foldl_dram_wf (fun s p hs => ?_) _ h
  dsimp only
  split
  · exact hs
  · exact State.foldl_dram_wf (fun _ _ ht => State.endWait_dram_wf ht) _ (by simp [hs])

@[simp] theorem doFlightArmDesc_dram_wf {s : State} {d} (h : s.dram.wf) : (doFlightArmDesc d s).dram.wf := by
  simp [doFlightArmDesc, h]
@[simp] theorem execFlightArmDesc_leavesWf {s : State} {basin ring} (h : s.dram.wf) : LeavesWf (execFlightArmDesc basin ring s) :=
  serve_tenantDsc_dram_wf (fun _ _ => doFlightArmDesc_dram_wf) h
@[simp] theorem doFlightCancel_dram_wf {s : State} {d} (h : s.dram.wf) : (doFlightCancel d s).dram.wf := by
  unfold doFlightCancel; split <;> simp [h]
@[simp] theorem execFlightCancel_leavesWf {s : State} {basin ring} (h : s.dram.wf) : LeavesWf (execFlightCancel basin ring s) :=
  serve_tenantDsc_dram_wf (fun _ _ => doFlightCancel_dram_wf) h

@[simp] theorem State.releaseHostFlight_dram_wf {s : State} {handle} (h : s.dram.wf) : (s.releaseHostFlight handle).dram.wf := by
  unfold State.releaseHostFlight
  dsimp only
  (repeat' split) <;> simp [h]

@[simp] theorem State.releaseConvoy_dram_wf {s : State} {gsid seq twin} (h : s.dram.wf) : (s.releaseConvoy gsid seq twin).dram.wf := by
  unfold State.releaseConvoy; split <;> simp [h]

@[simp] theorem execSluiceRelease_leavesWf {s : State} {which} (h : s.dram.wf) : LeavesWf (execSluiceRelease which s) := by
  unfold execSluiceRelease; split <;> simp [h]

/-! ### Machine/Clock -/

@[simp] theorem execSourceLoss_leavesWf {s : State} (h : s.dram.wf) : LeavesWf (execSourceLoss s) := by
  simp [execSourceLoss, h]
@[simp] theorem execHoldoverExpiry_leavesWf {s : State} (h : s.dram.wf) : LeavesWf (execHoldoverExpiry s) := by
  unfold execHoldoverExpiry; (repeat' split) <;> simp [h]
@[simp] theorem execTbSet_leavesWf {s : State} {val} (h : s.dram.wf) : LeavesWf (execTbSet val s) := by
  simp [execTbSet, h]
@[simp] theorem execStrandFrame_leavesWf {s : State} {bits spacing} (h : s.dram.wf) : LeavesWf (execStrandFrame bits spacing s) := by
  unfold execStrandFrame; dsimp only; (repeat' split) <;> simp [h]
@[simp] theorem execStrandNoSignal_leavesWf {s : State} (h : s.dram.wf) : LeavesWf (execStrandNoSignal s) := by
  simp [execStrandNoSignal, h]
@[simp] theorem execStrandTransitionsReturn_leavesWf {s : State} (h : s.dram.wf) : LeavesWf (execStrandTransitionsReturn s) := by
  unfold execStrandTransitionsReturn; split <;> simp [h]
@[simp] theorem execPtpSync_leavesWf {s : State} {m} (h : s.dram.wf) : LeavesWf (execPtpSync m s) := by
  unfold execPtpSync; dsimp only; (repeat' split) <;> simp [h]
@[simp] theorem execPtpFollowUp_leavesWf {s : State} {seqId origin corr} (h : s.dram.wf) : LeavesWf (execPtpFollowUp seqId origin corr s) := by
  unfold execPtpFollowUp; (repeat' split) <;> simp [h]
@[simp] theorem execPtpDelayReqTimer_leavesWf {s : State} (h : s.dram.wf) : LeavesWf (execPtpDelayReqTimer s) := by
  unfold execPtpDelayReqTimer; dsimp only; split <;> simp [h]
@[simp] theorem execPtpDelayResp_leavesWf {s : State} {seqId rx corr} (h : s.dram.wf) : LeavesWf (execPtpDelayResp seqId rx corr s) := by
  unfold execPtpDelayResp; (repeat' split) <;> simp [h]
@[simp] theorem execPtpPdelayResp_leavesWf {s : State} {seqId t2 t3 t4} (h : s.dram.wf) : LeavesWf (execPtpPdelayResp seqId t2 t3 t4 s) := by
  unfold execPtpPdelayResp; (repeat' split) <;> simp [h]

@[simp] theorem execPtpAnnounce_leavesWf {s : State} {m} (h : s.dram.wf) : LeavesWf (execPtpAnnounce m s) := by
  unfold execPtpAnnounce; (repeat' split) <;> simp [h]

/-! ### Machine/Ports -/

@[simp] theorem State.holdOver_dram_wf {s : State} {p} (h : s.dram.wf) : (s.holdOver p).dram.wf := by
  unfold State.holdOver
  refine State.foldl_dram_wf (fun s x hs => ?_) _ (by simp [h])
  dsimp only
  split <;> simp [hs]

@[simp] theorem State.portLost_dram_wf {s : State} {p} (h : s.dram.wf) : (s.portLost p).dram.wf := by
  unfold State.portLost
  dsimp only
  (repeat' split) <;> simp [h]

@[simp] theorem execPortDown_leavesWf {s : State} {port} (h : s.dram.wf) : LeavesWf (execPortDown port s) := by
  simp [execPortDown, h]
@[simp] theorem execPortUp_leavesWf {s : State} {port} (h : s.dram.wf) : LeavesWf (execPortUp port s) := by
  unfold execPortUp; dsimp only; (repeat' split) <;> simp [h]
@[simp] theorem execPortHoldExpiry_leavesWf {s : State} {port} (h : s.dram.wf) : LeavesWf (execPortHoldExpiry port s) := by
  unfold execPortHoldExpiry; (repeat' split) <;> simp [h]
@[simp] theorem State.portsLost_dram_wf {s : State} {l} (h : s.dram.wf) : (List.foldl State.portLost s l).dram.wf :=
  State.foldl_dram_wf (fun _ _ => State.portLost_dram_wf) l h
@[simp] theorem State.lanesDown_dram_wf {s : State} {e ls} (h : s.dram.wf) : (s.lanesDown e ls).dram.wf := by
  simp [State.lanesDown, h]
@[simp] theorem State.remapTo_dram_wf {s : State} {e l} (h : s.dram.wf) : (s.remapTo e l).dram.wf := by
  simp [State.remapTo, h]
@[simp] theorem execLaneRemap_leavesWf {s : State} {engine lane} (h : s.dram.wf) : LeavesWf (execLaneRemap engine lane s) := by
  unfold execLaneRemap; dsimp only; (repeat' split) <;> simp [h]

@[simp] theorem State.engCtlWrite_dram_wf {s : State} {e val} (h : s.dram.wf) : (s.engCtlWrite e val).dram.wf := by
  unfold State.engCtlWrite
  extract_lets r mode spare s1 s2 s3
  have hs1 : s1.dram.wf := by
    simp only [s1]
    split <;> simp [h]
  have hs3 : s3.dram.wf := by simp [s3, s2, hs1]
  split
  · simp [s2, hs1]
  · split <;> simp [hs3]

@[simp] theorem execPrtEngCtlWrite_leavesWf {s : State} {engine val} (h : s.dram.wf) : LeavesWf (execPrtEngCtlWrite engine val s) := by
  simp [execPrtEngCtlWrite, h]
@[simp] theorem execSakRekey_leavesWf {s : State} {port} (h : s.dram.wf) : LeavesWf (execSakRekey port s) := by
  unfold execSakRekey; dsimp only; split <;> simp [h]
@[simp] theorem execMkaFrame_leavesWf {s : State} {port ckn sak} (h : s.dram.wf) : LeavesWf (execMkaFrame port ckn sak s) := by
  unfold execMkaFrame; (repeat' split) <;> simp [h]

@[simp] theorem execLldpFrame_leavesWf {s : State} {port frame prot} (h : s.dram.wf) : LeavesWf (execLldpFrame port frame prot s) := by
  unfold execLldpFrame
  dsimp only
  split
  · exact h
  · split
    · next ht => simp [State.frameRefused_dram ht, h]
    · simp [h]

@[simp] theorem execPortFrameSelect_leavesWf {s : State} {port} (h : s.dram.wf) : LeavesWf (execPortFrameSelect port s) := by
  unfold execPortFrameSelect; dsimp only; (repeat' split) <;> simp [h]
@[simp] theorem execTrfCtlWrite_leavesWf {s : State} {val} (h : s.dram.wf) : LeavesWf (execTrfCtlWrite val s) := by
  simp [execTrfCtlWrite, h]

@[simp] theorem execTrfMrateWrite_leavesWf {s : State} {val} (h : s.dram.wf) : LeavesWf (execTrfMrateWrite val s) := by
  simp [execTrfMrateWrite, h]

/-! ### Machine/Berths -/

@[simp] theorem State.jobDone_dram_wf {s : State} {id result} (h : s.dram.wf) : (s.jobDone id result).dram.wf := by
  unfold State.jobDone; (repeat' split) <;> simp [h]

@[simp] theorem State.lineOf_dram_wf {s : State} {g k slot i} (h : s.dram.wf) : (s.lineOf g k slot i).1.dram.wf := by
  unfold State.lineOf
  exact State.payLine_dram_wf h

@[simp] theorem State.plainOf_dram_wf {s : State} {g k slot count} (h : s.dram.wf) : (s.plainOf g k slot count).1.dram.wf := by
  unfold State.plainOf
  refine List.foldlRecOn (motive := fun acc : State × List Byte => acc.1.dram.wf) _ _ h fun acc hacc i _ => ?_
  have hline := State.lineOf_dram_wf (g := g) (k := k) (slot := slot) (i := i) hacc
  dsimp only
  split <;> simp_all

@[simp] theorem State.refuseLine_dram_wf {s : State} {k slot i} (h : s.dram.wf) : (s.refuseLine k slot i).dram.wf := by
  unfold State.refuseLine; (repeat' split) <;> simp [h]

theorem State.appendBerth_sidesWf {s : State} {o k j n recs} (h : s.dram.wf) : SidesWf (s.appendBerth o k j n recs) := by
  unfold State.appendBerth
  split
  · exact h
  · next p _ =>
    extract_lets g lo edge t old pay is
    have ht : t.1.dram.wf := by
      simp only [t]
      split <;> simp [h]
    split
    · simp [ht]
    · simp [old, ht]

@[simp] theorem State.appendAll_dram_wf {s : State} {op o parts} (h : s.dram.wf) : (s.appendAll op o parts).dram.wf := by
  unfold State.appendAll
  extract_lets opKey key keys rp
  split
  · next e t he => simp [State.openAll_dram_error _ _ he, h]
  · next t ht =>
    extract_lets run
    have hrun : SidesWf run := by
      refine List.foldlRecOn (motive := SidesWf) _ _ (by simp [State.openAll_dram _ _ ht, h]) fun acc hacc q _ => ?_
      cases acc with
      | error v => exact hacc
      | ok u =>
        have happ := State.appendBerth_sidesWf (o := o) (k := key q.1) (j := q.2.1) (n := q.2.2.1) (recs := op.data.drop (q.2.2.2 * rp)) hacc
        dsimp only
        split <;> simp_all
    clear_value run
    cases run with
    | error u => simpa using State.finishJob_dram_wf (by simpa using hrun)
    | ok u => simpa using State.jobDone_dram_wf (by simpa using hrun)

@[simp] theorem State.runAppend_dram_wf {s : State} {op} (h : s.dram.wf) : (s.runAppend op).dram.wf := by
  unfold State.runAppend
  dsimp only
  (repeat' split) <;> simp [h]

theorem State.truncDropped_dram_wf {s : State} {k o p c} (h : s.dram.wf) : (s.truncDropped k o p c).dram.wf := by
  have hman := State.readManifest_dram_wf (k := k) h
  unfold State.truncDropped
  dsimp only
  split <;> simp_all

theorem State.cutBerth_sidesWf {s : State} {k o c job} (h : s.dram.wf) : SidesWf (s.cutBerth k o c job) := by
  unfold State.cutBerth
  split
  · exact h
  · next p _ =>
    split
    · exact h
    · split
      · split
        · exact h
        · have ht := State.truncDropped_dram_wf (k := k) (o := o) (p := p) (c := c) h
          dsimp only
          split <;> simp [ht]
      · extract_lets g lo t old is s1 s2 r
        have ht : t.1.dram.wf := by
          simp only [t]
          split <;> simp [h]
        split
        · simp [ht]
        · have hs2 : s2.dram.wf := by
            have hold : old.1.dram.wf := by simp [old, ht]
            simp only [s2]
            split <;> simp [s1, hold]
          split <;> simp [r, hs2]

@[simp] theorem State.runTruncate_dram_wf {s : State} {op} (h : s.dram.wf) : (s.runTruncate op).dram.wf := by
  unfold State.runTruncate
  extract_lets s0 opKey key
  have hs0 : s0.dram.wf := by simp [s0, h]
  split
  · simp [hs0]
  · simp [hs0]
  · next o l _ _ =>
    split
    · simp [hs0]
    · split
      · simp [hs0]
      · split
        · simp [hs0]
        · extract_lets b c gone
          have hcut := State.cutBerth_sidesWf (k := key b) (o := o) (c := c) (job := op.job) hs0
          split
          · next t ht => simp_all
          · next t ht =>
            have htwf : t.dram.wf := by simpa [ht] using hcut
            extract_lets seq0 u seq1 u1
            have hu1 : u1.dram.wf := by
              simp only [u1]
              split <;> simp [u, htwf]
            simp [hu1]

@[simp] theorem State.runWrites_dram_wf {k} : ∀ {s : State}, s.dram.wf → (s.runWrites k).dram.wf := by
  induction k with
  | zero => exact fun h => h
  | succ k ih =>
    intro s h
    unfold State.runWrites
    dsimp only
    split
    · exact h
    · split <;> exact ih (by simp [h])

@[simp] theorem State.queueOp_dram_wf {s : State} {o} (h : s.dram.wf) : (s.queueOp o).dram.wf := by
  simp [State.queueOp, h]

@[simp] theorem doAppend_dram_wf {s : State} {ups d} (h : s.dram.wf) : (doAppend ups d s).dram.wf := by
  unfold doAppend
  extract_lets object first count
  split
  · simp [h]
  · extract_lets n k s1
    (repeat' split) <;> simp [s1, h]

@[simp] theorem execAppend_leavesWf {s : State} {basin ring ups} (h : s.dram.wf) : LeavesWf (execAppend basin ring ups s) :=
  serve_tenantDsc_dram_wf (fun _ _ => doAppend_dram_wf) h

@[simp] theorem doTruncate_dram_wf {s : State} {ups d} (h : s.dram.wf) : (doTruncate ups d s).dram.wf := by
  unfold doTruncate
  dsimp only
  (repeat' split) <;> simp [h]

@[simp] theorem execTruncate_leavesWf {s : State} {basin ring ups} (h : s.dram.wf) : LeavesWf (execTruncate basin ring ups s) :=
  serve_tenantDsc_dram_wf (fun _ _ => doTruncate_dram_wf) h

@[simp] theorem execBerthWrite_leavesWf {s : State} {k} (h : s.dram.wf) : LeavesWf (execBerthWrite k s) := by
  unfold execBerthWrite; (repeat' split) <;> simp [h]

/-! ### Machine/Compose -/

@[simp] theorem State.composeStart_dram_wf {s : State} {o d} (h : s.dram.wf) : (s.composeStart o d).st.dram.wf := by
  unfold State.composeStart
  dsimp only
  (repeat' split) <;> simp [h]

@[simp] theorem State.composeTake_dram_wf {s : State} {o d} (h : s.dram.wf) : (s.composeTake o d).st.dram.wf := by
  unfold State.composeTake
  dsimp only
  (repeat' split) <;> simp [h]

@[simp] theorem State.composeEnd_dram_wf {s : State} {o d} (h : s.dram.wf) : (s.composeEnd o d).dram.wf := by
  unfold State.composeEnd
  extract_lets b dram b1
  have hdram : dram.wf := memZero_wf _ _ (memZero_wf _ _ h)
  simp [hdram]

@[simp] theorem State.resizeStart_dram_wf {s : State} {o d} (h : s.dram.wf) : (s.resizeStart o d).st.dram.wf := by
  unfold State.resizeStart
  dsimp only
  (repeat' split) <;> simp [h]

@[simp] theorem State.decomposeStart_dram_wf {s : State} {o d} (h : s.dram.wf) : (s.decomposeStart o d).st.dram.wf := by
  unfold State.decomposeStart
  dsimp only
  (repeat' split) <;> simp [h]

@[simp] theorem State.decomposeEnd_dram_wf {s : State} {o d} (h : s.dram.wf) : (s.decomposeEnd o d).dram.wf := by
  unfold State.decomposeEnd
  extract_lets b bs blocks s1 s2 sweeps s3 s4 s5
  have hs1 : s1.dram.wf := State.foldl_dram_wf (fun _ _ hs => State.freeBlocks_dram_wf hs) _ h
  have hs3 : s3.dram.wf := by simp [s3, s2, hs1]
  have hs5 : s5.dram.wf := by
    refine State.foldl_dram_wf (fun s t hs => ?_) _ (by simp [memZero_wf, s4, hs3])
    split
    · next ht => simp [State.tenantBit_dram ht, hs]
    · next ht => simp [State.tenantBit_dram_error ht, hs]
  simp [hs5]

@[simp] theorem State.basinTenant_dram_wf {s : State} {d} (h : s.dram.wf) : (s.basinTenant d).dram.wf := by
  have hbit (t b : Nat) (on : Bool) : (match s.tenantBit t b on with
      | .ok u => u.fin d stOk 0
      | .error e => e.2.fin d e.1 0).dram.wf := by
    split
    · next ht => simp [State.tenantBit_dram ht, h]
    · next ht => simp [State.tenantBit_dram_error ht, h]
  unfold State.basinTenant
  extract_lets b act t
  split
  · simp [h]
  · split
    · simp [h]
    · split
      · exact hbit t b true
      · split
        · simp [h]
        · exact hbit t b false

@[simp] theorem State.tenantReserve_dram_wf {s : State} {d} (h : s.dram.wf) : (s.tenantReserve d).dram.wf := by
  simp [State.tenantReserve, h]
@[simp] theorem State.drainTenant_dram_wf {s : State} {t} (h : s.dram.wf) : (s.drainTenant t).dram.wf := by
  simp +contextual [State.drainTenant, h]
@[simp] theorem State.removeEnd_dram_wf {s : State} {r d} (h : s.dram.wf) : (s.removeEnd r d).dram.wf := by
  simp [memWriteL_wf, State.removeEnd, h]

@[simp] theorem State.removeStart_dram_wf {s : State} {o d} (h : s.dram.wf) : (s.removeStart o d).st.dram.wf := by
  unfold State.removeStart
  dsimp only
  (repeat' split) <;> simp [h]

@[simp] theorem State.composeStep_dram_wf {s : State} {o} (h : s.dram.wf) : (s.composeStep o).st.dram.wf := by
  unfold State.composeStep
  extract_lets d passed wait start lo resize decompose
  have hstart : start.st.dram.wf := State.composeStart_dram_wf h
  have hresize : resize.st.dram.wf := State.resizeStart_dram_wf h
  have hdecompose : decompose.st.dram.wf := State.decomposeStart_dram_wf h
  split
  · split
    · exact hstart
    · split <;> simp [hstart]
  · split <;> simp [h]
  · split <;> simp [wait, h]
  · split
    · exact hresize
    · split <;> simp [hresize]
  · split <;> simp [wait, h]
  · split
    · exact hdecompose
    · split <;> simp [hdecompose]
  · split <;> simp [wait, h]
  · simp [h]
  · split
    · next ht => simp [State.setEpoch_dram ht, h]
    · simp [h]
  · simp [h]
  · simp [h]
  · exact h

@[simp] theorem State.composeGo_dram_wf {k} : ∀ {s : State}, s.dram.wf → (State.composeGo k s).dram.wf := by
  induction k with
  | zero => exact fun h => h
  | succ k ih =>
    intro s h
    unfold State.composeGo
    dsimp only
    (repeat' split) <;> simp [h, ih]

@[simp] theorem State.composeOn_dram_wf {s : State} (h : s.dram.wf) : s.composeOn.dram.wf := by
  simp [State.composeOn, h]

@[simp] theorem State.composeFail_dram_wf {s : State} {e} (h : s.dram.wf) : (s.composeFail e).dram.wf := by
  unfold State.composeFail
  split
  · exact h
  · simp [h]

@[simp] theorem doCompose_dram_wf {s : State} {d} (h : s.dram.wf) : (doCompose d s).dram.wf := by
  unfold doCompose
  dsimp only
  (repeat' split) <;> simp [h]

@[simp] theorem composeFrom_dram_wf {s : State} {op src} (h : s.dram.wf) : (composeFrom op src s).dram.wf := by
  cases src with
  | ring b r => exact serve_dram_wf (fun _ _ => doCompose_dram_wf) h
  | cmd =>
    simp only [composeFrom]
    (repeat' split) <;> simp [h]

@[simp] theorem execCompose_leavesWf {s : State} {src} (h : s.dram.wf) : LeavesWf (execCompose src s) := by
  simp [execCompose, h]
@[simp] theorem execResize_leavesWf {s : State} {src} (h : s.dram.wf) : LeavesWf (execResize src s) := by
  simp [execResize, h]
@[simp] theorem execDecompose_leavesWf {s : State} {src} (h : s.dram.wf) : LeavesWf (execDecompose src s) := by
  simp [execDecompose, h]
@[simp] theorem execBasinTenant_leavesWf {s : State} {src} (h : s.dram.wf) : LeavesWf (execBasinTenant src s) := by
  simp [execBasinTenant, h]
@[simp] theorem execMapEpoch_leavesWf {s : State} {src} (h : s.dram.wf) : LeavesWf (execMapEpoch src s) := by
  simp [execMapEpoch, h]
@[simp] theorem execTenantReserve_leavesWf {s : State} {src} (h : s.dram.wf) : LeavesWf (execTenantReserve src s) := by
  simp [execTenantReserve, h]
@[simp] theorem execTenantRemove_leavesWf {s : State} {src} (h : s.dram.wf) : LeavesWf (execTenantRemove src s) := by
  simp [execTenantRemove, h]
@[simp] theorem execClusterPass_leavesWf {s : State} {cluster} (h : s.dram.wf) : LeavesWf (execClusterPass cluster s) := by
  unfold execClusterPass; dsimp only; (repeat' split) <;> simp [h]

@[simp] theorem execBsnEpochWrite_leavesWf {s : State} {val} (h : s.dram.wf) : LeavesWf (execBsnEpochWrite val s) := by
  simp [execBsnEpochWrite, h]

/-! ### Machine/Barges -/

@[simp] theorem State.failOps_dram_wf {s : State} {k e} (h : s.dram.wf) : (s.failOps k e).dram.wf := by
  simp +contextual [State.failOps, h]

@[simp] theorem execLocalBargeStart_leavesWf {s : State} {k} (h : s.dram.wf) : LeavesWf (execLocalBargeStart k s) := by
  unfold execLocalBargeStart
  split
  · exact h
  · extract_lets s1
    have hs1 : s1.dram.wf := by simp [s1, h]
    split
    · exact hs1
    · split
      · exact hs1
      · split
        · exact h
        · extract_lets b0
          split
          · simp [hs1]
          · split
            · extract_lets s2
              have hs2 : s2.dram.wf := by
                simp only [s2]
                split <;> simp [hs1]
              (repeat' split) <;> simp [hs2]
            · next hd =>
              split <;> simp [State.bargeDest_dram hd, hs1]

@[simp] theorem State.correctAll_dram_wf {s : State} {k slot} (h : s.dram.wf) : (s.correctAll k slot).dram.wf := by
  refine State.foldl_dram_wf (fun s i hs => ?_) _ h
  (repeat' split) <;> simp [hs]

@[simp] theorem State.bargeManifest_dram_wf {s : State} {k o l p} (h : s.dram.wf) : (s.bargeManifest k o l p).1.dram.wf := by
  have hman := State.readManifest_dram_wf (k := k) h
  unfold State.bargeManifest
  dsimp only
  split <;> simp_all

@[simp] theorem State.switchBarge_dram_wf {s : State} {k b} (h : s.dram.wf) : (s.switchBarge k b).dram.wf := by
  unfold State.switchBarge
  split
  · extract_lets s1 p r gen
    have hr : r.1.dram.wf := by simp [r, s1, h]
    split
    · exact h
    · extract_lets label img1 s2 s3 s4
      have hs3 : s3.dram.wf := by simp [s3, s2, hr]
      have hs4 : s4.dram.wf := by
        simp only [s4]
        split <;> simp [hs3]
      simp [hs4]
  · exact h

@[simp] theorem execBargeSwitch_leavesWf {s : State} {k} (h : s.dram.wf) : LeavesWf (execBargeSwitch k s) := by
  unfold execBargeSwitch; (repeat' split) <;> simp [h]
@[simp] theorem execPlbInvalAcked_leavesWf {s : State} (h : s.dram.wf) : LeavesWf (execPlbInvalAcked s) := by
  unfold execPlbInvalAcked; split <;> simp [h]

@[simp] theorem execFlashBlockEraseDone_leavesWf {s : State} {channel block} (h : s.dram.wf) :
    LeavesWf (execFlashBlockEraseDone channel block s) := by
  unfold execFlashBlockEraseDone; dsimp only; (repeat' split) <;> simp [h]

@[simp] theorem execFlashProgramFail_leavesWf {s : State} {k} (h : s.dram.wf) : LeavesWf (execFlashProgramFail k s) := by
  unfold execFlashProgramFail; (repeat' split) <;> simp [h]

@[simp] theorem execBargeReserve_leavesWf {s : State} {src epoch k tier} (h : s.dram.wf) : LeavesWf (execBargeReserve src epoch k tier s) := by
  unfold execBargeReserve
  extract_lets s0 p refuse crossing
  have hs0 : s0.dram.wf := by simp [s0, h]
  have hrefuse (t : State) (e : Nat) : (refuse t e).dram = t.dram := by simp [refuse]
  split
  · exact h
  · split
    · simp [hs0]
    · split
      · simp [hrefuse, hs0]
      · next o _ =>
        split
        · simp [hs0]
        · split
          · simp [hrefuse, hs0]
          · split
            · simp [hrefuse, hs0]
            · extract_lets rooted
              have herror (e : Nat) (t : State) (ht : rooted = .error (e, t)) : t.dram = s0.dram := State.rooted_dram_error ht
              have hok (t : State) (ht : rooted = .ok t) : t.dram = s0.dram := State.rooted_dram ht
              clear_value rooted
              split
              · simp [hrefuse, herror _ _ rfl, hs0]
              · next t =>
                have ht : t.dram.wf := hok t rfl ▸ hs0
                split
                · simp [hrefuse, hs0]
                · split
                  · simp [hrefuse, ht]
                  · next u n htake =>
                    have hu : u.dram = t.dram := by
                      split at htake
                      · exact State.takeFlash_dram htake
                      · exact State.takeDram_dram htake
                    simp [hu, ht]

theorem State.cargo_dram_wf {s t : State} {pkg k img} (ht : s.cargo pkg k = some (t, img)) (h : s.dram.wf) : t.dram.wf := by
  unfold State.cargo at ht
  split at ht
  · next o l p0 _ _ _ =>
    extract_lets s1 at ht
    have hs1 : s1.dram.wf := by simp [s1, h]
    split at ht
    · cases ht
    · cases ht
      simp [hs1]
  · cases ht

@[simp] theorem execBargeGrant_leavesWf {s : State} {src k status} (h : s.dram.wf) : LeavesWf (execBargeGrant src k status s) := by
  unfold execBargeGrant
  extract_lets p s1
  split
  · exact h
  · split
    · exact h
    · split
      · exact h
      · split
        · (repeat' split) <;> simp [s1, h]
        · split
          · exact h
          · split
            · simp [h]
            · split
              · exact h
              · next hc => simp [State.cargo_dram_wf hc h]

@[simp] theorem execBargeData_leavesWf {s : State} {src k phase slot} (h : s.dram.wf) : LeavesWf (execBargeData src k phase slot s) := by
  unfold execBargeData; (repeat' split) <;> simp [h]
@[simp] theorem State.moveDone_dram_wf {s : State} {tenant object} (h : s.dram.wf) : (s.moveDone tenant object).dram.wf := by
  unfold State.moveDone; split <;> simp [h]
@[simp] theorem State.commitAway_dram_wf {s : State} {k pkg p} (h : s.dram.wf) : (s.commitAway k pkg p).dram.wf := by
  simp [State.commitAway, h]
@[simp] theorem State.tryCommit_dram_wf {s : State} {k b pkg} (h : s.dram.wf) : (s.tryCommit k b pkg).dram.wf := by
  unfold State.tryCommit; split <;> simp [h]
@[simp] theorem execBargeReady_leavesWf {s : State} {src k} (h : s.dram.wf) : LeavesWf (execBargeReady src k s) := by
  unfold execBargeReady; (repeat' split) <;> simp [h]
@[simp] theorem execBargeCommitAfterCutoff_leavesWf {s : State} {k} (h : s.dram.wf) : LeavesWf (execBargeCommitAfterCutoff k s) := by
  unfold execBargeCommitAfterCutoff; (repeat' split) <;> simp [h]
@[simp] theorem execBargeCommit_leavesWf {s : State} {src k} (h : s.dram.wf) : LeavesWf (execBargeCommit src k s) := by
  unfold execBargeCommit; (repeat' split) <;> simp [h]

@[simp] theorem execTombstoneExpiry_leavesWf {s : State} {k} (h : s.dram.wf) : LeavesWf (execTombstoneExpiry k s) := by
  unfold execTombstoneExpiry; (repeat' split) <;> simp [h]

/-! ### Machine/Scan -/

@[simp] theorem execEvictionScan_leavesWf {s : State} {k} (h : s.dram.wf) : LeavesWf (execEvictionScan k s) := by
  unfold execEvictionScan; dsimp only; (repeat' split) <;> simp [h]

@[simp] theorem execPrefetchLeadUpdate_leavesWf {s : State} {p99} (h : s.dram.wf) : LeavesWf (execPrefetchLeadUpdate p99 s) := by
  simp [execPrefetchLeadUpdate, h]

/-! ### Machine/Moves -/

@[simp] theorem doMoveObject_dram_wf {s : State} {d} (h : s.dram.wf) : (doMoveObject d s).dram.wf := by
  unfold doMoveObject; dsimp only; split <;> simp [h]
@[simp] theorem execMoveObject_leavesWf {s : State} {basin ring} (h : s.dram.wf) : LeavesWf (execMoveObject basin ring s) :=
  serve_tenantDsc_dram_wf (fun _ _ => doMoveObject_dram_wf) h
@[simp] theorem execMoveLedgerSwitch_leavesWf {s : State} {tenant object} (h : s.dram.wf) : LeavesWf (execMoveLedgerSwitch tenant object s) := by
  unfold execMoveLedgerSwitch; dsimp only; (repeat' split) <;> simp [h]

@[simp] theorem execBackgroundPull_leavesWf {s : State} {k} (h : s.dram.wf) : LeavesWf (execBackgroundPull k s) := by
  unfold execBackgroundPull; dsimp only; (repeat' split) <;> simp [h]

/-! ### Machine/Programs -/

@[simp] theorem doLoadProgram_dram_wf {s : State} {d} (h : s.dram.wf) : (doLoadProgram d s).dram.wf := by
  unfold doLoadProgram; split <;> simp [h]
@[simp] theorem execLoadProgram_leavesWf {s : State} {basin ring} (h : s.dram.wf) : LeavesWf (execLoadProgram basin ring s) :=
  serve_tenantDsc_dram_wf (fun _ _ => doLoadProgram_dram_wf) h

@[simp] theorem State.loadWaiting_dram_wf {b e k} : ∀ {s : State}, s.dram.wf → (s.loadWaiting b e k).dram.wf := by
  induction k with
  | zero => exact fun h => h
  | succ k ih =>
    intro s h
    unfold State.loadWaiting
    dsimp only
    split
    · exact ih (by simp [h])
    · exact h

@[simp] theorem execRetiringImageFree_leavesWf {s : State} {basin entry} (h : s.dram.wf) : LeavesWf (execRetiringImageFree basin entry s) := by
  unfold execRetiringImageFree; dsimp only; (repeat' split) <;> simp [h]
@[simp] theorem configSq_dram_wf {s : State} {d} (h : s.dram.wf) : (configSq d s).dram.wf := by
  simp [configSq, h]
@[simp] theorem configCq_dram_wf {s : State} {d} (h : s.dram.wf) : (configCq d s).dram.wf := by
  simp [memZero_wf, configCq, h]
@[simp] theorem doRingConfig_dram_wf {s : State} {d} (h : s.dram.wf) : (doRingConfig d s).dram.wf := by
  unfold doRingConfig; split <;> simp [h]

@[simp] theorem execRingConfig_leavesWf {s : State} {basin ring} (h : s.dram.wf) : LeavesWf (execRingConfig basin ring s) :=
  serve_tenantDsc_dram_wf (fun _ _ => doRingConfig_dram_wf) h

/-! ### Machine/Tenancy -/

@[simp] theorem doBind_dram_wf {s : State} {d} (h : s.dram.wf) : (doBind d s).dram.wf := by
  unfold doBind
  extract_lets n p
  split
  · simp [h]
  · split
    · next t ht => simp [State.bindPackage_dram ht, h]
    · split <;> simp [h]

@[simp] theorem execBind_leavesWf {s : State} {basin ring} (h : s.dram.wf) : LeavesWf (execBind basin ring s) :=
  serve_tenantDsc_dram_wf (fun _ _ => doBind_dram_wf) h
@[simp] theorem doUnbind_dram_wf {s : State} {d} (h : s.dram.wf) : (doUnbind d s).dram.wf := by
  simp [doUnbind, h]
@[simp] theorem execUnbind_leavesWf {s : State} {basin ring} (h : s.dram.wf) : LeavesWf (execUnbind basin ring s) :=
  serve_tenantDsc_dram_wf (fun _ _ => doUnbind_dram_wf) h

@[simp] theorem execRemovalFence_leavesWf {s : State} (h : s.dram.wf) : LeavesWf (execRemovalFence s) := by
  unfold execRemovalFence
  split
  · exact h
  · extract_lets t key mask s1 hits s2 moors s3 s4
    have hs2 : s2.dram.wf := by simp [s2, s1, h]
    have hs3 : s3.dram.wf := State.foldl_dram_wf (fun _ _ hs => by simp [hs]) _ hs2
    simp [s4, hs3]

@[simp] theorem State.zeroHalves_dram_wf {s : State} {a} (h : s.dram.wf) : (s.zeroHalves a).dram.wf := by
  simp [memZero_wf, State.zeroHalves, h]

@[simp] theorem execRemovalCancel_leavesWf {s : State} (h : s.dram.wf) : LeavesWf (execRemovalCancel s) := by
  unfold execRemovalCancel
  split
  · exact h
  · extract_lets t held s1 s2 keys s3
    have hs1 : s1.dram.wf := State.foldl_dram_wf (fun _ _ hs => by simp [hs]) _ h
    simp [s3, s2, hs1]

@[simp] theorem execRemovalScrub_leavesWf {s : State} (h : s.dram.wf) : LeavesWf (execRemovalScrub s) := by
  unfold execRemovalScrub
  split
  · exact h
  · extract_lets t s1 dram flash conns moors s2 s3 s4 s5 tiers ledger host twin s6 jobs s7
    have hs3 : s3.dram = s.dram := by
      simp only [s3, s2]
      rw [State.dram_foldl_freeHome fun n => n + 0x01000000, State.dram_foldl_freeHome fun n => n]
      rfl
    have hs4 : s4.dram.wf := State.foldl_dram_wf (fun s n hs => by simp [hs]) _ (hs3 ▸ h)
    have hs5 : s5.dram = s4.dram := by simp [s5]
    have hs7 : s7.dram.wf := State.foldl_dram_wf (fun s j hs => State.finishJob_dram_wf hs) _ (hs5 ▸ hs4)
    simp [hs7]

@[simp] theorem execRemovalReport_leavesWf {s : State} (h : s.dram.wf) : LeavesWf (execRemovalReport s) := by
  unfold execRemovalReport; split <;> simp [h]

/-! ### Machine/Spdm -/

@[simp] theorem execGetVersion_leavesWf {s : State} (h : s.dram.wf) : LeavesWf (execGetVersion s) := by
  unfold execGetVersion; split <;> simp [h]
@[simp] theorem execGetCapabilities_leavesWf {s : State} (h : s.dram.wf) : LeavesWf (execGetCapabilities s) := by
  unfold execGetCapabilities; split <;> simp [h]
@[simp] theorem execNegotiateAlgorithms_leavesWf {s : State} (h : s.dram.wf) : LeavesWf (execNegotiateAlgorithms s) := by
  unfold execNegotiateAlgorithms; split <;> simp [h]
@[simp] theorem execGetDigests_leavesWf {s : State} (h : s.dram.wf) : LeavesWf (execGetDigests s) := by
  unfold execGetDigests; split <;> simp [h]
@[simp] theorem execGetCertificate_leavesWf {s : State} {slot} (h : s.dram.wf) : LeavesWf (execGetCertificate slot s) := by
  unfold execGetCertificate; split <;> simp [h]
@[simp] theorem execChallenge_leavesWf {s : State} {slot nonce} (h : s.dram.wf) : LeavesWf (execChallenge slot nonce s) := by
  unfold execChallenge; split <;> simp [h]
@[simp] theorem execGetMeasurements_leavesWf {s : State} {index} (h : s.dram.wf) : LeavesWf (execGetMeasurements index s) := by
  unfold execGetMeasurements; dsimp only; (repeat' split) <;> simp [h]
@[simp] theorem execKeyExchange_leavesWf {s : State} {sess reqCert} (h : s.dram.wf) : LeavesWf (execKeyExchange sess reqCert s) := by
  unfold execKeyExchange; (repeat' split) <;> simp [h]
@[simp] theorem execFinish_leavesWf {s : State} {sess mutAuth} (h : s.dram.wf) : LeavesWf (execFinish sess mutAuth s) := by
  unfold execFinish; (repeat' split) <;> simp [h]
@[simp] theorem execKeyUpdate_leavesWf {s : State} {sess} (h : s.dram.wf) : LeavesWf (execKeyUpdate sess s) := by
  unfold execKeyUpdate; (repeat' split) <;> simp [h]
@[simp] theorem execHeartbeat_leavesWf {s : State} {sess} (h : s.dram.wf) : LeavesWf (execHeartbeat sess s) := by
  unfold execHeartbeat; (repeat' split) <;> simp [h]
@[simp] theorem execEndSession_leavesWf {s : State} {sess} (h : s.dram.wf) : LeavesWf (execEndSession sess s) := by
  unfold execEndSession; (repeat' split) <;> simp [h]

theorem State.command_leavesWf {s : State} {sess code k f} (hf : ∀ x, (f x).dram = s.dram) (h : s.dram.wf) :
    LeavesWf (if s.spdmOff then .next s else .next (s.command sess code k f)) := by
  split
  · exact h
  · simpa [State.command_dram hf] using h

@[simp] theorem execGetSlot_leavesWf {s : State} {sess tenant} (h : s.dram.wf) : LeavesWf (execGetSlot sess tenant s) :=
  State.command_leavesWf (fun _ => by split <;> simp) h
@[simp] theorem execKeyLoad_leavesWf {s : State} {sess tenant mem conn} (h : s.dram.wf) : LeavesWf (execKeyLoad sess tenant mem conn s) :=
  State.command_leavesWf (fun _ => by dsimp only; split <;> simp) h
@[simp] theorem execKeyConn_leavesWf {s : State} {sess tenant conn} (h : s.dram.wf) : LeavesWf (execKeyConn sess tenant conn s) :=
  State.command_leavesWf (fun _ => by dsimp only; split <;> simp) h
@[simp] theorem execOwnerClaim_leavesWf {s : State} {sess} (h : s.dram.wf) : LeavesWf (execOwnerClaim sess s) :=
  State.command_leavesWf (fun _ => by split <;> simp) h
@[simp] theorem execOwnerTransfer_leavesWf {s : State} {sess hash} (h : s.dram.wf) : LeavesWf (execOwnerTransfer sess hash s) :=
  State.command_leavesWf (fun _ => by split <;> simp) h

@[simp] theorem execSysKey_leavesWf {s : State} {sess kind peer port ckn key} (h : s.dram.wf) :
    LeavesWf (execSysKey sess kind peer port ckn key s) :=
  State.command_leavesWf (fun _ => by (repeat' split) <;> simp) h

@[simp] theorem execDebugUnlock_leavesWf {s : State} {sess basins} (h : s.dram.wf) : LeavesWf (execDebugUnlock sess basins s) :=
  State.command_leavesWf (fun _ => by simp) h
@[simp] theorem execTenant0Key_leavesWf {s : State} {sess mem conn} (h : s.dram.wf) : LeavesWf (execTenant0Key sess mem conn s) :=
  State.command_leavesWf (fun _ => by split <;> simp) h
@[simp] theorem execLockInterface_leavesWf {s : State} (h : s.dram.wf) : LeavesWf (execLockInterface s) := by
  unfold execLockInterface; split <;> simp [h]
@[simp] theorem execStartInterface_leavesWf {s : State} (h : s.dram.wf) : LeavesWf (execStartInterface s) := by
  unfold execStartInterface; split <;> simp [h]

@[simp] theorem execStopInterface_leavesWf {s : State} (h : s.dram.wf) : LeavesWf (execStopInterface s) := by
  unfold execStopInterface
  extract_lets held s1 s2
  have hs1 : s1.dram.wf := State.foldl_dram_wf (fun _ _ hs => State.abandon_dram_wf hs) _ h
  have hs2 : s2.dram.wf := by
    refine State.foldl_dram_wf (fun s p hs => ?_) _ hs1
    split <;> simp [memZero_wf, hs]
  split
  · exact h
  · simp [hs2]

@[simp] theorem execIdeKm_leavesWf {s : State} {sess stream key} (h : s.dram.wf) : LeavesWf (execIdeKm sess stream key s) := by
  unfold execIdeKm; (repeat' split) <;> simp [h]
@[simp] theorem execIdeIntegrityFail_leavesWf {s : State} (h : s.dram.wf) : LeavesWf (execIdeIntegrityFail s) := by
  simp [execIdeIntegrityFail, h]
@[simp] theorem execIdeKeyExpiry_leavesWf {s : State} (h : s.dram.wf) : LeavesWf (execIdeKeyExpiry s) := by
  simp [execIdeKeyExpiry, h]

@[simp] theorem execFrozenConfigChange_leavesWf {s : State} (h : s.dram.wf) : LeavesWf (execFrozenConfigChange s) := by
  simp [execFrozenConfigChange, h]

/-! ### Machine/Registers -/

theorem took_dram_wf {s : State} {r} (hr : LeavesWf r) (h : s.dram.wf) : (took s r).dram.wf := by
  cases r with
  | next t => exact hr
  | _ => exact h

/-! ### Machine/Debug -/

@[simp] theorem State.resumeCore_dram_wf {s : State} {c} (h : s.dram.wf) : (s.resumeCore c).dram.wf := by
  unfold State.resumeCore; dsimp only; split <;> simp [h]
@[simp] theorem State.stepCore_dram_wf {s : State} {c} (h : s.dram.wf) : (s.stepCore c).dram.wf := by
  unfold State.stepCore; dsimp only; split <;> simp [h]
@[simp] theorem State.dbgCmd_dram_wf {s : State} {op} (h : s.dram.wf) : (s.dbgCmd op).dram.wf := by
  simp [State.dbgCmd, h]
@[simp] theorem execDbgHalt_leavesWf {s : State} (h : s.dram.wf) : LeavesWf (execDbgHalt s) := by
  simp [execDbgHalt, h]
@[simp] theorem execForceHalt_leavesWf {s : State} (h : s.dram.wf) : LeavesWf (execForceHalt s) := by
  simp [execForceHalt, h]
@[simp] theorem execResume_leavesWf {s : State} (h : s.dram.wf) : LeavesWf (execResume s) := by
  simp [execResume, h]
@[simp] theorem execStepOne_leavesWf {s : State} (h : s.dram.wf) : LeavesWf (execStepOne s) := by
  simp [execStepOne, h]
@[simp] theorem execRdreg_leavesWf {s : State} (h : s.dram.wf) : LeavesWf (execRdreg s) := by
  simp [execRdreg, h]
@[simp] theorem execWrreg_leavesWf {s : State} (h : s.dram.wf) : LeavesWf (execWrreg s) := by
  simp [execWrreg, h]
@[simp] theorem execRdmem_leavesWf {s : State} (h : s.dram.wf) : LeavesWf (execRdmem s) := by
  simp [execRdmem, h]
@[simp] theorem execWrmem_leavesWf {s : State} (h : s.dram.wf) : LeavesWf (execWrmem s) := by
  simp [execWrmem, h]
@[simp] theorem execBreakSet_leavesWf {s : State} (h : s.dram.wf) : LeavesWf (execBreakSet s) := by
  simp [execBreakSet, h]
@[simp] theorem execQread_leavesWf {s : State} (h : s.dram.wf) : LeavesWf (execQread s) := by
  simp [execQread, h]
@[simp] theorem execHaltDeferLimit_leavesWf {s : State} {core} (h : s.dram.wf) : LeavesWf (execHaltDeferLimit core s) := by
  simp [execHaltDeferLimit, h]
@[simp] theorem execExtest_leavesWf {s : State} (h : s.dram.wf) : LeavesWf (execExtest s) := by
  simp [execExtest, h]
@[simp] theorem execSamplePreload_leavesWf {s : State} {pins preload} (h : s.dram.wf) : LeavesWf (execSamplePreload pins preload s) := by
  simp [execSamplePreload, h]
@[simp] theorem execIdcode_leavesWf {s : State} (h : s.dram.wf) : LeavesWf (execIdcode s) := by
  simp [execIdcode, h]
@[simp] theorem execClamp_leavesWf {s : State} (h : s.dram.wf) : LeavesWf (execClamp s) := by
  simp [execClamp, h]
@[simp] theorem execHighz_leavesWf {s : State} (h : s.dram.wf) : LeavesWf (execHighz s) := by
  simp [execHighz, h]
@[simp] theorem execBypass_leavesWf {s : State} (h : s.dram.wf) : LeavesWf (execBypass s) := by
  simp [execBypass, h]
@[simp] theorem State.dbgWrite_dram_wf {s : State} {off val} (h : s.dram.wf) : (s.dbgWrite off val).dram.wf := by
  simp [State.dbgWrite, h]

@[simp] theorem execDbgSel_leavesWf {s : State} {scan} (h : s.dram.wf) : LeavesWf (execDbgSel scan s) := by
  unfold execDbgSel; split <;> simp [h]

/-! ### Machine/Boot -/

/-- A reset of the part starts stacked DRAM anew. -/
@[simp] theorem State.resetPart_dram_wf (s : State) (cause) : (s.resetPart cause).dram.wf := by
  simp [State.resetPart, reset_dram_wf]

@[simp] theorem execPowerOn_leavesWf (s : State) {straps mainOk bkpOk} : LeavesWf (execPowerOn straps mainOk bkpOk s) := by
  simp [execPowerOn]
@[simp] theorem execPinReset_leavesWf {s : State} {widthNs} (h : s.dram.wf) : LeavesWf (execPinReset widthNs s) := by
  unfold execPinReset; dsimp only; (repeat' split) <;> simp [h]
@[simp] theorem execAonPowerLoss_leavesWf (s : State) : LeavesWf (execAonPowerLoss s) := by
  simp [execAonPowerLoss]
@[simp] theorem execVinMainLoss_leavesWf {s : State} (h : s.dram.wf) : LeavesWf (execVinMainLoss s) := by
  simp [execVinMainLoss, h]
@[simp] theorem execVinMainStable_leavesWf {s : State} (h : s.dram.wf) : LeavesWf (execVinMainStable s) := by
  simp [execVinMainStable, h]
@[simp] theorem execBrownOut_leavesWf (s : State) : LeavesWf (execBrownOut s) := by
  simp [execBrownOut]
@[simp] theorem execThermalTrip_leavesWf {s : State} (h : s.dram.wf) : LeavesWf (execThermalTrip s) := by
  unfold execThermalTrip; split <;> simp [h]
@[simp] theorem execThermalClear_leavesWf {s : State} (h : s.dram.wf) : LeavesWf (execThermalClear s) := by
  simp [execThermalClear, h]

@[simp] theorem State.rstCtlWrite_dram_wf {s : State} {val} (h : s.dram.wf) : (s.rstCtlWrite val).dram.wf := by
  unfold State.rstCtlWrite
  split <;> simp [h]

@[simp] theorem execSwrst_leavesWf {s : State} {val} (h : s.dram.wf) : LeavesWf (execSwrst val s) := by
  simp [execSwrst, h]
@[simp] theorem execRstCauseRead_leavesWf {s : State} (h : s.dram.wf) : LeavesWf (execRstCauseRead s) := by
  simp [execRstCauseRead, h]
@[simp] theorem execForceLw_leavesWf {s : State} {val} (h : s.dram.wf) : LeavesWf (execForceLw val s) := by
  simp [execForceLw, h]
@[simp] theorem execResetStretchEnd_leavesWf {s : State} (h : s.dram.wf) : LeavesWf (execResetStretchEnd s) := by
  unfold execResetStretchEnd; split <;> simp [h]
@[simp] theorem execDramReady_leavesWf {s : State} (h : s.dram.wf) : LeavesWf (execDramReady s) := by
  unfold execDramReady; split <;> simp [memZero_wf, h]
@[simp] theorem State.bootLoad_dram_wf {s : State} (h : s.dram.wf) : (s.bootLoad).dram.wf := by
  simp [memZero_wf, State.bootLoad, h]
@[simp] theorem execBootLoad_leavesWf {s : State} (h : s.dram.wf) : LeavesWf (execBootLoad s) := by
  simp [execBootLoad, h]
@[simp] theorem execImageVerifyDone_leavesWf {s : State} (h : s.dram.wf) : LeavesWf (execImageVerifyDone s) := by
  unfold execImageVerifyDone; (repeat' split) <;> simp [h]

@[simp] theorem State.bootPut_dram_wf {s : State} {off val} (h : s.dram.wf) : (s.bootPut off val).dram.wf := by
  unfold State.bootPut
  (repeat' split) <;> simp [h]

@[simp] theorem State.passIdle_dram_wf {s : State} (h : s.dram.wf) : s.passIdle.dram.wf := by
  refine State.foldl_dram_wf (fun s c hs => ?_) _ h
  (repeat' split) <;> simp [hs]

@[simp] theorem State.bootEntry_dram_wf {s : State} {d} (h : s.dram.wf) : (s.bootEntry d).dram.wf := by
  unfold State.bootEntry
  extract_lets keep s1 code s2
  have hs1 : s1.dram.wf := State.passIdle_dram_wf (doCompose_dram_wf h)
  have hs2 : s2.dram.wf := by simp [s2, hs1]
  split <;> simp [hs2]

@[simp] theorem State.applySettings_dram_wf {s : State} {c} (h : s.dram.wf) : (s.applySettings c).dram.wf := by
  unfold State.applySettings
  extract_lets s1 s2 s3
  have hs1 : s1.dram.wf := by
    simp only [s1]
    split <;> simp [h]
  have hs2 : s2.dram.wf := State.foldl_dram_wf (fun _ _ hs => State.bootPut_dram_wf hs) _ hs1
  have hs3 : s3.dram = s2.dram := by simp [s3]
  exact State.foldl_dram_wf (fun _ _ hs => State.bootEntry_dram_wf hs) _ (hs3 ▸ hs2)

@[simp] theorem execKeepersRunning_leavesWf {s : State} (h : s.dram.wf) : LeavesWf (execKeepersRunning s) := by
  unfold execKeepersRunning
  split
  · exact h
  · split
    · exact h
    · extract_lets s0 t boot s1
      have hs0 : s0.dram.wf := by
        simp only [s0]
        split
        · next ht => simp [State.tenantBit_dram ht, h]
        · next ht => simp [State.tenantBit_dram_error ht, h]
      have hs1 : s1.dram.wf := by
        simp only [s1]
        (repeat' split) <;> simp [t, hs0]
      simp [hs1]

@[simp] theorem execBootCountClear_leavesWf {s : State} (h : s.dram.wf) : LeavesWf (execBootCountClear s) := by
  unfold execBootCountClear; split <;> simp [h]
@[simp] theorem execAttemptClear_leavesWf {s : State} {val} (h : s.dram.wf) : LeavesWf (execAttemptClear val s) := by
  simp [execAttemptClear, h]
@[simp] theorem execDiagDramTest_leavesWf {s : State} (h : s.dram.wf) : LeavesWf (execDiagDramTest s) := by
  simp [execDiagDramTest, h]
@[simp] theorem execDiagFlashScan_leavesWf {s : State} (h : s.dram.wf) : LeavesWf (execDiagFlashScan s) := by
  simp [execDiagFlashScan, h]
@[simp] theorem execDiagOpticalLoopback_leavesWf {s : State} (h : s.dram.wf) : LeavesWf (execDiagOpticalLoopback s) := by
  simp [execDiagOpticalLoopback, h]
@[simp] theorem execDiagDone_leavesWf {s : State} {pass detail} (h : s.dram.wf) : LeavesWf (execDiagDone pass detail s) := by
  unfold execDiagDone; split <;> simp [h]
@[simp] theorem State.bootCmdWrite_dram_wf {s : State} {val} (h : s.dram.wf) : (s.bootCmdWrite val).dram.wf := by
  simp [State.bootCmdWrite, h]
@[simp] theorem execKeeperWatchdogExpiry_leavesWf {s : State} {keeper pc} (h : s.dram.wf) : LeavesWf (execKeeperWatchdogExpiry keeper pc s) := by
  unfold execKeeperWatchdogExpiry; dsimp only; (repeat' split) <;> simp [h]
@[simp] theorem State.updStage_dram_wf {s : State} (h : s.dram.wf) : (s.updStage).dram.wf := by
  simp [memZero_wf, State.updStage, h]
@[simp] theorem execUpdStage_leavesWf {s : State} (h : s.dram.wf) : LeavesWf (execUpdStage s) := by
  simp [execUpdStage, h]
@[simp] theorem execUpdateStaged_leavesWf {s : State} (h : s.dram.wf) : LeavesWf (execUpdateStaged s) := by
  unfold execUpdateStaged; dsimp only; (repeat' split) <;> simp [h]
@[simp] theorem execUpdSwitch_leavesWf {s : State} (h : s.dram.wf) : LeavesWf (execUpdSwitch s) := by
  simp [execUpdSwitch, h]
@[simp] theorem execKeeperSwitchNext_leavesWf {s : State} (h : s.dram.wf) : LeavesWf (execKeeperSwitchNext s) := by
  unfold execKeeperSwitchNext; dsimp only; (repeat' split) <;> simp [h]
@[simp] theorem State.kprUpdWrite_dram_wf {s : State} {val} (h : s.dram.wf) : (s.kprUpdWrite val).dram.wf := by
  simp [State.kprUpdWrite, h]
@[simp] theorem execSettingsSave_leavesWf {s : State} {force} (h : s.dram.wf) : LeavesWf (execSettingsSave force s) := by
  simp [execSettingsSave, h]

@[simp] theorem execSettingsSaveDone_leavesWf {s : State} (h : s.dram.wf) : LeavesWf (execSettingsSaveDone s) := by
  unfold execSettingsSaveDone; split <;> simp [h]

/-! ### Machine/Lbs -/

@[simp] theorem execLbsXfer_leavesWf {s : State} {val} (h : s.dram.wf) : LeavesWf (execLbsXfer val s) := by
  simp [execLbsXfer, h]
@[simp] theorem execLbsTransferDone_leavesWf {s : State} {ack data} (h : s.dram.wf) : LeavesWf (execLbsTransferDone ack data s) := by
  unfold execLbsTransferDone; split <;> simp [h]
@[simp] theorem execLbsTimeout_leavesWf {s : State} (h : s.dram.wf) : LeavesWf (execLbsTimeout s) := by
  unfold execLbsTimeout; split <;> simp [h]
@[simp] theorem State.lbsStuck_dram_wf {s : State} (h : s.dram.wf) : (s.lbsStuck).dram.wf := by
  simp [State.lbsStuck, h]
@[simp] theorem execLbsClear_leavesWf {s : State} {sda sclHigh} (h : s.dram.wf) : LeavesWf (execLbsClear sda sclHigh s) := by
  unfold execLbsClear; (repeat' split) <;> simp [h]
@[simp] theorem execLbsClearRetry_leavesWf {s : State} {sda sclHigh} (h : s.dram.wf) : LeavesWf (execLbsClearRetry sda sclHigh s) := by
  unfold execLbsClearRetry; split <;> simp [h]

@[simp] theorem execRegulatorPoll_leavesWf {s : State} (h : s.dram.wf) : LeavesWf (execRegulatorPoll s) := by
  unfold execRegulatorPoll; split <;> simp [h]

/-! ### Machine/Twin -/

@[simp] theorem State.twnCfgWrite_dram_wf {s : State} {val} (h : s.dram.wf) : (s.twnCfgWrite val).dram.wf := by
  unfold State.twnCfgWrite; dsimp only; (repeat' split) <;> simp [h]
@[simp] theorem execJournalRecords_leavesWf {s : State} {tenant recs} (h : s.dram.wf) : LeavesWf (execJournalRecords tenant recs s) := by
  unfold execJournalRecords; dsimp only; split <;> simp [h]
@[simp] theorem execJournalFetch_leavesWf {s : State} {k first last} (h : s.dram.wf) : LeavesWf (execJournalFetch k first last s) := by
  unfold execJournalFetch; split <;> simp [h]
@[simp] theorem execJournalIndex_leavesWf {s : State} {tenant} (h : s.dram.wf) : LeavesWf (execJournalIndex tenant s) := by
  unfold execJournalIndex; dsimp only; split <;> simp [h]
@[simp] theorem execJournalFlushTimer_leavesWf {s : State} {tenant} (h : s.dram.wf) : LeavesWf (execJournalFlushTimer tenant s) := by
  unfold execJournalFlushTimer; dsimp only; (repeat' split) <;> simp [h]
@[simp] theorem execWorkingCopyIdle_leavesWf {s : State} {k} (h : s.dram.wf) : LeavesWf (execWorkingCopyIdle k s) := by
  unfold execWorkingCopyIdle; (repeat' split) <;> simp [h]
@[simp] theorem execJournalPageProgrammed_leavesWf {s : State} {tenant} (h : s.dram.wf) : LeavesWf (execJournalPageProgrammed tenant s) := by
  unfold execJournalPageProgrammed; dsimp only; (repeat' split) <;> simp [h]
@[simp] theorem doCreateObject_dram_wf {s : State} {d} (h : s.dram.wf) : (doCreateObject d s).dram.wf := by
  unfold doCreateObject; dsimp only; (repeat' split) <;> simp [h]
@[simp] theorem execCreateObject_leavesWf {s : State} {basin ring} (h : s.dram.wf) : LeavesWf (execCreateObject basin ring s) :=
  serve_tenantDsc_dram_wf (fun _ _ => doCreateObject_dram_wf) h
@[simp] theorem State.jRefused_dram_wf {s : State} {t q} (h : s.dram.wf) : (s.jRefused t q).dram.wf := by
  unfold State.jRefused; dsimp only; (repeat' split) <;> simp [h]
@[simp] theorem State.jAcked_dram_wf {s : State} {t recv durable} (h : s.dram.wf) : (s.jAcked t recv durable).dram.wf := by
  simp [State.jAcked, h]
@[simp] theorem execJournalAck_leavesWf {s : State} {m} (h : s.dram.wf) : LeavesWf (execJournalAck m s) := by
  unfold execJournalAck; (repeat' split) <;> simp [h]

@[simp] theorem execJournalAckTimeout_leavesWf {s : State} (h : s.dram.wf) : LeavesWf (execJournalAckTimeout s) := by
  unfold execJournalAckTimeout; (repeat' split) <;> simp [h]

/-! ### Machine/Certs -/

@[simp] theorem execQset_leavesWf {s : State} {cert} (h : s.dram.wf) : LeavesWf (execQset cert s) := by
  unfold execQset; (repeat' split) <;> simp [h]

@[simp] theorem State.endDescriptors_dram_wf {s : State} (h : s.dram.wf) : s.endDescriptors.dram.wf := by
  unfold State.endDescriptors
  extract_lets s1 ops host s2 s3
  have hs1 : s1.dram.wf := State.foldl_dram_wf (fun _ _ hs => State.finishJob_dram_wf hs) _ h
  have hs2 : s2.dram.wf := State.foldl_dram_wf (fun _ _ hs => State.fin_dram_wf hs) _ hs1
  have hs3 : s3.dram.wf := State.foldl_dram_wf (fun _ _ hs => State.fin_dram_wf hs) _ hs2
  exact hs3

@[simp] theorem State.expelSelf_dram_wf {s : State} (h : s.dram.wf) : s.expelSelf.dram.wf := by
  unfold State.expelSelf
  extract_lets s1 s2 s3 s4 s5 sec s6 s7 twin s8
  have hs2 : s2.dram.wf := State.foldl_dram_wf (fun _ _ hs => State.abandon_dram_wf hs) _ (by simpa [s1] using h)
  have hs4 : s4.dram = s2.dram := by simp [s4, s3]
  have hs5 : s5.dram.wf := State.endDescriptors_dram_wf (hs4 ▸ hs2)
  have hs8 : s8.dram.wf := by simp [s8, s7, s6, hs5]
  simp [hs8]

@[simp] theorem State.cutConn_dram_wf {s : State} {n} (h : s.dram.wf) : (s.cutConn n).dram.wf := by
  have hfailed := State.failQueue_dram_wf (n := n) (status := stConnDown) (State.failLive_dram_wf (n := n) (status := stConnDown) h)
  simp [State.cutConn, hfailed]

@[simp] theorem State.expelOther_dram_wf {s : State} {x} (h : s.dram.wf) : (s.expelOther x).dram.wf := by
  unfold State.expelOther
  extract_lets ex twin s1 conns s2 homes s3 s4
  have hs2 : s2.dram.wf := State.foldl_dram_wf (fun _ _ hs => State.cutConn_dram_wf hs) _ h
  have hs4 : s4.dram.wf := by
    refine State.foldl_dram_wf (fun s p hs => State.foldl_dram_wf (fun s i hs => ?_) _ hs) _ (by simp [s3, hs2])
    (repeat' split) <;> simp [hs]
  split <;> simp [hs4]

@[simp] theorem execExpel_leavesWf {s : State} {cert} (h : s.dram.wf) : LeavesWf (execExpel cert s) := by
  unfold execExpel; (repeat' split) <;> simp [h]

@[simp] theorem execTakeover_leavesWf {s : State} {cert} (h : s.dram.wf) : LeavesWf (execTakeover cert s) := by
  unfold execTakeover
  extract_lets s1 lost s2 twin s3
  have hs3 : s3.dram.wf := by simp [s3, s2, s1, h]
  (repeat' split) <;> simp [hs3, h]

@[simp] theorem execRejoin_leavesWf {s : State} {cert} (h : s.dram.wf) : LeavesWf (execRejoin cert s) := by
  unfold execRejoin; (repeat' split) <;> simp [h]
@[simp] theorem execRequest_leavesWf {s : State} {cert} (h : s.dram.wf) : LeavesWf (execRequest cert s) := by
  unfold execRequest; split <;> simp [h]

@[simp] theorem execRequestTimer_leavesWf {s : State} (h : s.dram.wf) : LeavesWf (execRequestTimer s) := by
  unfold execRequestTimer; dsimp only; (repeat' split) <;> simp [h]

/-! ### Machine/Reliability -/

@[simp] theorem execSelfTestStart_leavesWf {s : State} {cluster} (h : s.dram.wf) : LeavesWf (execSelfTestStart cluster s) := by
  unfold execSelfTestStart; dsimp only; (repeat' split) <;> simp [h]
@[simp] theorem execSelfTestDone_leavesWf {s : State} {cluster pass} (h : s.dram.wf) : LeavesWf (execSelfTestDone cluster pass s) := by
  unfold execSelfTestDone; dsimp only; (repeat' split) <;> simp [h]

/-- Chamber `i` of region `r` emptied, and out with its region. -/
def State.loseChamber (r : Nat) (s : State) (i : Nat) : State :=
  let t := s.chEmpty (2048 * r + i) stChamberOut
  t.setChamber (2048 * r + i) { t.chamber (2048 * r + i) with out := true }

theorem State.loseChamber_dram_wf {r : Nat} : KeepsWf (State.loseChamber r) := fun s i h => by simp [State.loseChamber, h]

theorem State.bypassRegion_eq {s : State} {r : Nat} (hin : ¬ (s.region r).out = true) :
    ∃ (t : State) (c : Channel), t.dram = s.dram ∧
      s.bypassRegion r = (((List.range 2048).foldl (State.loseChamber r) t).setChannel r c).unitEvent 0x0604 r := by
  refine ⟨_, _, ?_, by unfold State.bypassRegion; rw [if_neg hin]; rfl⟩
  rfl

@[simp] theorem State.bypassRegion_dram_wf {s : State} {r} (h : s.dram.wf) : (s.bypassRegion r).dram.wf := by
  by_cases hin : (s.region r).out = true
  · rw [State.bypassRegion, if_pos hin]
    exact h
  · obtain ⟨t, c, ht, heq⟩ := State.bypassRegion_eq hin
    have hlost := State.foldl_dram_wf (State.loseChamber_dram_wf (r := r)) (List.range 2048) (ht ▸ h)
    rw [heq]
    refine State.unitEvent_dram_wf ?_
    rw [State.setChannel_dram]
    exact hlost

@[simp] theorem execSourceDrainFree_leavesWf {s : State} {slot} (h : s.dram.wf) : LeavesWf (execSourceDrainFree slot s) := by
  unfold execSourceDrainFree; dsimp only; (repeat' split) <;> simp [h]

@[simp] theorem State.isolate_dram_wf {s : State} {ch} (h : s.dram.wf) : (s.isolate ch).1.dram.wf := by
  unfold State.isolate
  extract_lets homes incoming s1 channel s2 r s3 on tiers nv s4
  have hs2 : s2.dram = s.dram := by simp [s2, s1]
  have hr : r.1.dram = s2.dram :=
    List.foldlRecOn (motive := fun acc : State × Nat => acc.1.dram = s2.dram) _ _ rfl fun acc hacc k _ => by simpa using hacc
  have hs4 : s4.dram.wf := by simp [s4, s3, hr, hs2, h]
  simp [hs4]

@[simp] theorem State.svcWrite_dram_wf {s : State} {op target} (h : s.dram.wf) : (s.svcWrite op target).dram.wf := by
  unfold State.svcWrite
  extract_lets s0 limit n channel r known tiers s1 n'
  have hs0 : s0.dram.wf := by simp [s0, h]
  have hback : (if (s0.region target).out = true then s0.returnRegion target else s0).dram = s0.dram := by simp
  clear_value n
  split
  · simp [hs0]
  · split
    · simp [hs0]
    · split
      · simp [hs0]
      · split
        · rw [State.svcEnd_dram, hback]
          exact hs0
        · split
          · simp [hs0]
          · split
            · simp [hs0]
            · split
              · simp [r, hs0]
              · split
                · simp [hs0]
                · split
                  · simp [s1, hs0]
                  · simp [hs0]

@[simp] theorem svcRow_dram_wf {s : State} {op target} (h : s.dram.wf) : (svcRow op target s).dram.wf := by
  unfold svcRow
  split <;> simp [h]

@[simp] theorem execRegionBypass_leavesWf {s : State} {region} (h : s.dram.wf) : LeavesWf (execRegionBypass region s) := by
  simp [execRegionBypass, h]
@[simp] theorem execRegionReturn_leavesWf {s : State} {region} (h : s.dram.wf) : LeavesWf (execRegionReturn region s) := by
  simp [execRegionReturn, h]
@[simp] theorem execFlashDrain_leavesWf {s : State} {channel} (h : s.dram.wf) : LeavesWf (execFlashDrain channel s) := by
  simp [execFlashDrain, h]
@[simp] theorem execFlashIsolate_leavesWf {s : State} {channel} (h : s.dram.wf) : LeavesWf (execFlashIsolate channel s) := by
  simp [execFlashIsolate, h]
@[simp] theorem execFlashReturn_leavesWf {s : State} {channel} (h : s.dram.wf) : LeavesWf (execFlashReturn channel s) := by
  simp [execFlashReturn, h]
@[simp] theorem execHbmRetire_leavesWf {s : State} {channel} (h : s.dram.wf) : LeavesWf (execHbmRetire channel s) := by
  simp [execHbmRetire, h]
@[simp] theorem execReleaseHeld_leavesWf {s : State} {tenant} (h : s.dram.wf) : LeavesWf (execReleaseHeld tenant s) := by
  simp [execReleaseHeld, h]
@[simp] theorem State.failCore_dram_wf {s : State} {core} (h : s.dram.wf) : (s.failCore core).dram.wf := by
  simp [State.failCore, h]

@[simp] theorem execRegionTest_leavesWf {s : State} {region failed} (h : s.dram.wf) : LeavesWf (execRegionTest region failed s) := by
  unfold execRegionTest
  extract_lets r on s1 bad
  have hs1 : s1.dram.wf := by
    simp only [s1]
    split <;> simp [h]
  split
  · exact hs1
  · simpa using State.foldl_dram_wf (fun _ _ hs => State.failCore_dram_wf hs) _ hs1

@[simp] theorem execRegionFaultBypass_leavesWf {s : State} {region} (h : s.dram.wf) : LeavesWf (execRegionFaultBypass region s) := by
  simp [execRegionFaultBypass, h]
@[simp] theorem execBypassRunTimeout_leavesWf {s : State} {core} (h : s.dram.wf) : LeavesWf (execBypassRunTimeout core s) := by
  unfold execBypassRunTimeout; dsimp only; (repeat' split) <;> simp [h]
@[simp] theorem execFlashChannelFailure_leavesWf {s : State} {channel} (h : s.dram.wf) : LeavesWf (execFlashChannelFailure channel s) := by
  simp [execFlashChannelFailure, h]
@[simp] theorem execPlbInvBasin_leavesWf {s : State} {val} (h : s.dram.wf) : LeavesWf (execPlbInvBasin val s) := by
  simp [execPlbInvBasin, h]

@[simp] theorem execPlbInvAll_leavesWf {s : State} {val} (h : s.dram.wf) : LeavesWf (execPlbInvAll val s) := by
  simp [execPlbInvAll, h]

/-! ### Machine/Access -/

@[simp] theorem State.cmdRun_dram_wf {s : State} {d} (h : s.dram.wf) : (s.cmdRun d).dram.wf := by
  unfold State.cmdRun
  split
  any_goals exact tenantDsc_dram_wf (fun _ _ hs => by simp [hs]) h
  all_goals simp [h]

@[simp] theorem State.cmdGo_dram_wf {s : State} {val} (h : s.dram.wf) : (s.cmdGo val).dram.wf := by
  unfold State.cmdGo
  split <;> simp [h]

@[simp] theorem execBsnCmdGo_leavesWf {s : State} {val} (h : s.dram.wf) : LeavesWf (execBsnCmdGo val s) := by
  simp [execBsnCmdGo, h]

@[simp] theorem State.pageWrite_dram_wf {s : State} {b o val} (h : s.dram.wf) : (s.pageWrite b o val).dram.wf := by
  unfold State.pageWrite
  extract_lets basin conn index
  split
  · exact took_dram_wf (execSqTail_leavesWf h) h
  split
  · exact h
  split
  · exact took_dram_wf (execCqHead_leavesWf h) h
  split
  · exact took_dram_wf (execRelease_leavesWf h) h
  split
  · exact took_dram_wf (execEvtHead_leavesWf h) h
  split
  · exact took_dram_wf (execExcHead_leavesWf h) h
  split
  · split
    · exact took_dram_wf (execConnDbSend_leavesWf h) h
    · exact took_dram_wf (execConnDbRecv_leavesWf h) h
    · exact took_dram_wf (execConnDbCompletion_leavesWf h) h
    · exact h
  · exact h

@[simp] theorem State.chAllocWrite_dram_wf {s : State} {val} (h : s.dram.wf) : (s.chAllocWrite val).dram.wf := by
  unfold State.chAllocWrite
  split <;> simp [h]

@[simp] theorem State.curCmdWrite_dram_wf {s : State} {n val} (h : s.dram.wf) : (s.curCmdWrite n val).dram.wf := by
  unfold State.curCmdWrite; split <;> simp [h]

@[simp] theorem State.regAct_dram_wf {s : State} {off val} (h : s.dram.wf) : (s.regAct off val).dram.wf := by
  unfold State.regAct
  split
  · exact h
  · split <;> (repeat' split) <;> simp [h]

@[simp] theorem State.writeVia_dram_wf {s : State} {path off val} (h : s.dram.wf) : (s.writeVia path off val).dram.wf := by
  unfold State.writeVia
  (repeat' split) <;> simp [h]

@[simp] theorem execRegisterWrite_leavesWf {s : State} {path off val} (h : s.dram.wf) : LeavesWf (execRegisterWrite path off val s) := by
  simp [execRegisterWrite, h]
@[simp] theorem execTwnCfgWrite_leavesWf {s : State} {path val} (h : s.dram.wf) : LeavesWf (execTwnCfgWrite path val s) := by
  simp [execTwnCfgWrite, h]
@[simp] theorem execRegisterRead_leavesWf {s : State} {path off} (h : s.dram.wf) : LeavesWf (execRegisterRead path off s) := by
  unfold execRegisterRead; split <;> simp [h]
@[simp] theorem execPaceWindowEnd_leavesWf {s : State} {counts} (h : s.dram.wf) : LeavesWf (execPaceWindowEnd counts s) := by
  unfold execPaceWindowEnd; split <;> simp [h]
@[simp] theorem execBar2Write_leavesWf {s : State} {off data ide} (h : s.dram.wf) : LeavesWf (execBar2Write off data ide s) := by
  unfold execBar2Write; dsimp only; (repeat' split) <;> simp [memWriteL_wf, h]

@[simp] theorem execPcieHotReset_leavesWf {s : State} (h : s.dram.wf) : LeavesWf (execPcieHotReset s) := by
  simp [execPcieHotReset, h]

/-! ### Machine/Target -/

@[simp] theorem State.yWrite_dram_wf {s : State} {a b} (h : s.dram.wf) : (s.yWrite a b).dram.wf := by
  unfold State.yWrite
  split <;> simp [memWriteL_wf, h]

@[simp] theorem State.yAtomic_dram_wf {s : State} {a x y} (h : s.dram.wf) : (s.yAtomic a x y).1.dram.wf := by
  unfold State.yAtomic
  split <;> simp [memWriteL_wf, h]

@[simp] theorem State.notify_dram_wf {s : State} {n value len} (h : s.dram.wf) : (s.notify n value len).dram.wf := by
  simp [memWriteL_wf, State.notify, h]

@[simp] theorem State.endWrite_dram_wf {s : State} {n p m} (h : s.dram.wf) : (s.endWrite n p m).dram.wf := by
  unfold State.endWrite
  extract_lets conn s1 s2 s3
  have hs2 : s2.dram.wf := by
    simp only [s2]
    split <;> simp [s1, h]
  have hs3 : s3.dram.wf := by
    simp only [s3]
    split <;> simp [hs2]
  split
  · exact h
  · simp [hs3]

@[simp] theorem State.takeWrite_dram_wf {s : State} {n p r data} (h : s.dram.wf) : (s.takeWrite n p r data).dram.wf := by
  unfold State.takeWrite
  extract_lets e i t msg conn u s1
  clear_value i
  have hs1 : s1.dram = s.dram := by
    have ht : t.dram = s.dram := by
      simp only [t]
      split <;> simp
    simp [s1, u, ht]
  split
  · simp [hs1, h]
  · extract_lets fits s2
    have hs2 : s2.dram.wf := by
      simp only [s2]
      split <;> simp [hs1, h]
    split <;> simp [hs2]

@[simp] theorem State.takeAtomic_dram_wf {s : State} {n p r isCas} (h : s.dram.wf) : (s.takeAtomic n p r isCas).dram.wf := by
  unfold State.takeAtomic
  dsimp only
  split <;> simp [h]

@[simp] theorem State.takeReadResp_dram_wf {s : State} {n r data} (h : s.dram.wf) : (s.takeReadResp n r data).dram.wf := by
  unfold State.takeReadResp; dsimp only; split <;> simp [memWriteL_wf, h]
@[simp] theorem State.takeAtomicResp_dram_wf {s : State} {n r} (h : s.dram.wf) : (s.takeAtomicResp n r).dram.wf := by
  unfold State.takeAtomicResp; dsimp only; split <;> simp [h]
@[simp] theorem State.takeFlushResp_dram_wf {s : State} {n r} (h : s.dram.wf) : (s.takeFlushResp n r).dram.wf := by
  unfold State.takeFlushResp; dsimp only; split <;> simp [h]

@[simp] theorem State.deliver_dram_wf {s : State} {n i} (h : s.dram.wf) : (s.deliver n i).dram.wf := by
  unfold State.deliver
  split <;> simp [h]

@[simp] theorem State.drainIn_dram_wf {n k} : ∀ {s : State}, s.dram.wf → (s.drainIn n k).dram.wf := by
  induction k with
  | zero => exact fun h => h
  | succ k ih =>
    intro s h
    unfold State.drainIn
    dsimp only
    (repeat' split) <;> simp [h, ih]

@[simp] theorem State.sequenced_dram_wf {s : State} {n p i} (h : s.dram.wf) : (s.sequenced n p i).dram.wf := by
  unfold State.sequenced
  extract_lets c d s1
  have hs1 : s1.dram.wf := h
  split
  · simp [h]
  · split
    · exact h
    · split
      · simp [h]
      · split
        · simp [h]
        · simp [hs1]

@[simp] theorem State.takeAck_dram_wf {s : State} {n p a} (h : s.dram.wf) : (s.takeAck n p a).dram.wf := by
  unfold State.takeAck
  dsimp only
  (repeat' split) <;> simp [h]

@[simp] theorem State.livePkt_dram_wf {s : State} {n p i} (h : s.dram.wf) : (s.livePkt n p i).dram.wf := by
  unfold State.livePkt
  extract_lets c t m s1
  have hm : m.1.dram.wf := by
    simp only [m]
    split <;> simp [t, h]
  split
  · simp [h]
  · split
    · simp [h]
    · split
      · exact hm
      · split
        · simp [hm]
        · have hs1 : s1.dram.wf := by simp [s1, hm]
          exact State.renew_dram_wf (State.sequenced_dram_wf (State.settleWrites_dram_wf (by simp [hs1])))

@[simp] theorem State.packetIn_dram_wf {s : State} {i} (h : s.dram.wf) : (s.packetIn i).dram.wf := by
  unfold State.packetIn
  split
  · exact h
  · split
    · next ht => simp [State.headerBad_dram ht, h]
    · dsimp only
      (repeat' split) <;> simp [h]

@[simp] theorem execReadReq_leavesWf {s : State} {h1 r} (h : s.dram.wf) : LeavesWf (execReadReq h1 r s) := by
  simp [execReadReq, h]
@[simp] theorem execReadResp_leavesWf {s : State} {h1 r data} (h : s.dram.wf) : LeavesWf (execReadResp h1 r data s) := by
  simp [execReadResp, h]
@[simp] theorem execWrite_leavesWf {s : State} {h1 r data} (h : s.dram.wf) : LeavesWf (execWrite h1 r data s) := by
  simp [execWrite, h]
@[simp] theorem execAtomicAdd_leavesWf {s : State} {h1 r} (h : s.dram.wf) : LeavesWf (execAtomicAdd h1 r s) := by
  simp [execAtomicAdd, h]
@[simp] theorem execCas_leavesWf {s : State} {h1 r} (h : s.dram.wf) : LeavesWf (execCas h1 r s) := by
  simp [execCas, h]
@[simp] theorem execAtomicResp_leavesWf {s : State} {h1 r} (h : s.dram.wf) : LeavesWf (execAtomicResp h1 r s) := by
  simp [execAtomicResp, h]
@[simp] theorem execFabricChAdd_leavesWf {s : State} {h1 r} (h : s.dram.wf) : LeavesWf (execFabricChAdd h1 r s) := by
  simp [execFabricChAdd, h]
@[simp] theorem execFlush_leavesWf {s : State} {h1 r durable} (h : s.dram.wf) : LeavesWf (execFlush h1 r durable s) := by
  simp [execFlush, h]
@[simp] theorem execFlushResp_leavesWf {s : State} {h1 r} (h : s.dram.wf) : LeavesWf (execFlushResp h1 r s) := by
  simp [execFlushResp, h]
@[simp] theorem execEnable_leavesWf {s : State} {h1 r tag} (h : s.dram.wf) : LeavesWf (execEnable h1 r tag s) := by
  simp [execEnable, h]
@[simp] theorem execAck_leavesWf {s : State} {h1 a} (h : s.dram.wf) : LeavesWf (execAck h1 a s) := by
  simp [execAck, h]

@[simp] theorem execContextLoadDone_leavesWf {s : State} {conn} (h : s.dram.wf) : LeavesWf (execContextLoadDone conn s) := by
  unfold execContextLoadDone
  extract_lets n c s1 ps net s2
  have hs1 : s1.dram.wf := by simp [s1, h]
  split
  · exact h
  · split
    · exact hs1
    · exact State.foldl_dram_wf (fun _ _ hs => State.packetIn_dram_wf hs) _ hs1

@[simp] theorem State.resumeAll_dram_wf {s : State} (h : s.dram.wf) : s.resumeAll.dram.wf := by
  refine State.foldl_dram_wf (fun s x hs => ?_) _ h
  split <;> simp [hs]

@[simp] theorem State.tick_dram_wf {s : State} (h : s.dram.wf) : s.tick.dram.wf := by
  unfold State.tick
  split <;> simp [h]

@[simp] theorem State.serveSelf_dram_wf {s : State} {n id w} (h : s.dram.wf) : (s.serveSelf n id w).dram.wf := by
  unfold State.serveSelf
  dsimp only
  (repeat' split) <;> simp [memWriteL_wf, h]

@[simp] theorem State.sendWr_dram_wf {s : State} {n id w} (h : s.dram.wf) : (s.sendWr n id w).dram.wf := by
  simp [State.sendWr, h]

@[simp] theorem State.wrWait_dram_wf {s : State} {n w} (h : s.dram.wf) : (s.wrWait n w).dram.wf := by
  unfold State.wrWait
  dsimp only
  (repeat' split) <;> simp [h]

@[simp] theorem State.wrGo_dram_wf {s : State} {n w} (h : s.dram.wf) : (s.wrGo n w).dram.wf := by
  unfold State.wrGo
  extract_lets e
  split
  · simp [h]
  · split
    · exact h
    · split
      · exact h
      · next ht => split <;> simp [State.popWr_dram ht, h]

@[simp] theorem execWrStart_leavesWf {s : State} {conn} (h : s.dram.wf) : LeavesWf (execWrStart conn s) := by
  unfold execWrStart; dsimp only; (repeat' split) <;> simp [h]

/-! ### Machine/Towpath -/

/-- A broadcast or direct command code leaves stacked DRAM as it is if what it does does. -/
theorem ccc_leavesWf {s : State} {direct : Bool} {f : State → State} (hf : ∀ s, (f s).dram = s.dram) (h : s.dram.wf) :
    LeavesWf (.next (ccc direct f s)) := by
  simpa [ccc_dram hf] using h

@[simp] theorem execEntdaa_leavesWf {s : State} {addr} (h : s.dram.wf) : LeavesWf (execEntdaa addr s) := by
  unfold execEntdaa
  split
  · exact h
  · exact ccc_leavesWf (fun _ => by simp) h

@[simp] theorem execSetdasa_leavesWf {s : State} (h : s.dram.wf) : LeavesWf (execSetdasa s) := by
  unfold execSetdasa
  split
  · exact h
  · exact ccc_leavesWf (fun _ => by simp) h

@[simp] theorem execSetnewda_leavesWf {s : State} {addr} (h : s.dram.wf) : LeavesWf (execSetnewda addr s) := ccc_leavesWf (fun _ => by simp) h
@[simp] theorem execRstdaa_leavesWf {s : State} (h : s.dram.wf) : LeavesWf (execRstdaa s) := ccc_leavesWf (fun _ => rfl) h
@[simp] theorem execEnec_leavesWf {s : State} (h : s.dram.wf) : LeavesWf (execEnec s) := ccc_leavesWf (fun _ => by simp) h
@[simp] theorem execDisec_leavesWf {s : State} (h : s.dram.wf) : LeavesWf (execDisec s) := ccc_leavesWf (fun _ => rfl) h
@[simp] theorem execGetpid_leavesWf {s : State} (h : s.dram.wf) : LeavesWf (execGetpid s) := ccc_leavesWf (fun _ => by simp) h
@[simp] theorem execGetbcr_leavesWf {s : State} (h : s.dram.wf) : LeavesWf (execGetbcr s) := ccc_leavesWf (fun _ => by simp) h
@[simp] theorem execGetdcr_leavesWf {s : State} (h : s.dram.wf) : LeavesWf (execGetdcr s) := ccc_leavesWf (fun _ => by simp) h
@[simp] theorem execGetstatus_leavesWf {s : State} (h : s.dram.wf) : LeavesWf (execGetstatus s) := ccc_leavesWf (fun _ => by simp) h
@[simp] theorem execGetmwl_leavesWf {s : State} (h : s.dram.wf) : LeavesWf (execGetmwl s) := ccc_leavesWf (fun _ => by simp) h
@[simp] theorem execGetmrl_leavesWf {s : State} (h : s.dram.wf) : LeavesWf (execGetmrl s) := ccc_leavesWf (fun _ => by simp) h
@[simp] theorem execSetmwl_leavesWf {s : State} {len} (h : s.dram.wf) : LeavesWf (execSetmwl len s) := ccc_leavesWf (fun _ => rfl) h
@[simp] theorem execSetmrl_leavesWf {s : State} {len} (h : s.dram.wf) : LeavesWf (execSetmrl len s) := ccc_leavesWf (fun _ => rfl) h

@[simp] theorem execRegRead_leavesWf {s : State} {f} (h : s.dram.wf) : LeavesWf (execRegRead f s) := by
  unfold execRegRead
  extract_lets r
  have hr : r.1.dram.wf := by simp [r, h]
  split
  · exact h
  · split
    · simp [hr]
    · split
      · simp [hr]
      · split
        · simp [hr]
        · extract_lets x
          have hx : x.1.dram.wf :=
            List.foldlRecOn (motive := fun a : State × List Byte => a.1.dram.wf) _ _ hr fun a ha off _ => by simp [ha]
          simp [hx]

@[simp] theorem execRegWrite_leavesWf {s : State} {f} (h : s.dram.wf) : LeavesWf (execRegWrite f s) := by
  unfold execRegWrite
  extract_lets r
  have hr : r.1.dram.wf := by simp [r, h]
  split
  · exact h
  · split
    · simp [hr]
    · split
      · simp [hr]
      · split
        · simp [hr]
        · simpa using State.foldl_dram_wf (fun _ _ hs => State.writeVia_dram_wf hs) _ hr

@[simp] theorem execImgWrite_leavesWf {s : State} {f} (h : s.dram.wf) : LeavesWf (execImgWrite f s) := by
  unfold execImgWrite; dsimp only; (repeat' split) <;> simp [memWriteL_wf, h]
@[simp] theorem execStatusRead_leavesWf {s : State} {f} (h : s.dram.wf) : LeavesWf (execStatusRead f s) := by
  unfold execStatusRead; split <;> simp [h]

@[simp] theorem execSensorUpdate_leavesWf {s : State} {vals} (h : s.dram.wf) : LeavesWf (execSensorUpdate vals s) := by
  unfold execSensorUpdate; split <;> simp [h]

/-! ### Every command and every step -/

/-- Every command: a command that issues a core's instruction by `issue_dram_wf`, any other by the lemma about it. -/
theorem exec_leavesWf (c : Instr) {s : State} (h : s.dram.wf) : LeavesWf (exec c s) := by
  cases c <;> simp [h,
    execBr, execBrR, execLoopI, execCall, execRet, execHalt, execNop, execAdd, execAddI, execSub, execSubI, execAndR, execAndI, execOrR,
    execOrI, execXorR, execXorI, execShl, execShlI, execShr, execShrI, execSra, execSraI, execMul, execMulI, execMov, execMovh, execCmpEq,
    execCmpEqI, execCmpNe, execCmpNeI, execCmpLt, execCmpLtI, execCmpLtu, execCmpLtuI, execExt, execPlog, execLdD, execLdW, execLdH, execLdB,
    execStD, execStW, execStH, execStB, execVld, execVst, execHoldBegin, execHoldEnd, execBrk, execChAdd, execChSet, execChSetThr, execChWait,
    execAtGate, execUntilTime, execFlightArm, execFlightArmCancel, execFxPut, execFxGet, execFxAdd, execFxCas, execFxFlush, execTldK,
    execTldV, execTldMan, execTldManNext, execTldManRequeue, execTstLd, execTstSt, execDotQk, execAccPv, execScaleS, execScaleO, execRope,
    execMskCausal, execMskWin, execMskTree, execSmxUpd, execSmxUpdMan, execSmxUpdSkip, execSmxExp, execAbftAcc, execAbftChk, execMergePart,
    execMergePartDrop, execMergePartR, execEmitPart, execSndScan, execSndTop]

/-- Settles O4: the queue's front is a command of `exec_leavesWf`, and on an empty queue a cycle passes. -/
theorem memoryStaysCanonical : Obligations.MemoryStaysCanonical := by
  unfold Obligations.MemoryStaysCanonical
  intro s t h hstep
  obtain ⟨hfront, hempty⟩ := stepRunsFrontCommand
  cases hp : s.pending with
  | nil =>
    rw [hempty s hp] at hstep
    obtain rfl := Host.Outcome.next.inj hstep
    exact State.tick_dram_wf h
  | cons c rest =>
    have hnext := exec_leavesWf c (s := { s with pending := rest }) h
    rwa [← hfront c rest s hp, hstep] at hnext

end Sys2Proof.Machine

end

section
/-! Operations on the planes of an accumulator: scores, scaling, masks and rotation (R36, R42, R44, R120, R130, R131). -/

namespace Sys2Proof.Machine

/-! ### A plane with each element changed -/

theorem plane_nil (i j : Nat) : plane [] i j = 0 := rfl

theorem plane_mapPlane (p : List F32) (f : Nat → Nat → F32 → F32) {i j : Nat} (hi : i < 32) (hj : j < 32) :
    plane (mapPlane p f) i j = f i j (plane p i j) := by
  have hlt : 32 * i + j < 1024 := by omega
  have hrow : (32 * i + j) / 32 = i := by omega
  have hcol : (32 * i + j) % 32 = j := by omega
  simp [plane, mapPlane, nthD, hlt, hrow, hcol]

section
variable {s : State} {c : Nat} {x : Core} {r : Run} {w : W64} {m : MSweep}

/-- An instruction that changes one accumulator and nothing else. -/
theorem issue_aPut {o : CoreOp} {sem : Sem} {f : Nat} {a : Acc} (h : Issues s c x r o w) (hs : sem w c x r s = put c (x.aPut f a) s) :
    issue o sem c s = s.setCore c (issued (x.aPut f a) r (r.ip + 1)) :=
  issue_put h hs h.run

/-! ### Scores (R36, R119) -/

/-- A score with the 32 products of row `i` of a query operand and row `j` of a key tile added. -/
def addDot (ta tb : Tile) : Nat → Nat → F32 → F32 := fun i j v =>
  fAdd .even v (fSum 0 ((List.range 32).map (fun e => (ta.num i e).mul (tb.num j e))))

theorem semDotQk_fromZero {mt : TMeta} (hm : s.memberOf r = some m) (ha : (x.tGet (srcA w)).tag = operandTag m.fmt)
    (hb : (x.tGet (srcB w)).tag = m.fmt) (hz : imm w % 2 = 1) (hmt : (x.tGet (srcB w)).tmeta = some mt) :
    semDotQk w c x r s = put c (x.aPut (dstF w) { x.aGet (dstF w) with
      score := mapPlane [] (addDot (x.tGet (srcA w)) (x.tGet (srcB w))), smeta := some { tmeta := mt } }) s := by
  unfold addDot
  simp [semDotQk, hm, ha, hb, hz, hmt]

theorem semDotQk_added {mt : TMeta} {q : SMeta} (hm : s.memberOf r = some m) (ha : (x.tGet (srcA w)).tag = operandTag m.fmt)
    (hb : (x.tGet (srcB w)).tag = m.fmt) (hz : imm w % 2 = 0) (hmt : (x.tGet (srcB w)).tmeta = some mt)
    (hq : (x.aGet (dstF w)).smeta = some q) (hsame : q.tmeta.same mt = true) (hscaled : q.scaled = false) :
    semDotQk w c x r s = put c (x.aPut (dstF w) { x.aGet (dstF w) with
      score := mapPlane (x.aGet (dstF w)).score (addDot (x.tGet (srcA w)) (x.tGet (srcB w))) }) s := by
  unfold addDot
  simp [semDotQk, hm, ha, hb, hz, hmt, hq, hsame, hscaled]

theorem semDotQk_wrongTag (hm : s.memberOf r = some m)
    (h : (x.tGet (srcA w)).tag ≠ operandTag m.fmt ∨ (x.tGet (srcB w)).tag ≠ m.fmt) : semDotQk w c x r s = .exc exTile w := by
  simp only [semDotQk, hm]
  exact if_pos (h.imp_right Or.inl)

/-! ### Scaling (R130) -/

theorem semScaleS_unscaled (h : ∀ q, (x.aGet (dstF w)).smeta = some q → q.scaled = false) :
    semScaleS w c x r s = put c (x.aPut (dstF w) { x.aGet (dstF w) with
      score := mapPlane (x.aGet (dstF w)).score (fun i _ y => fMul .even y (nthD 0 (x.vGet (srcA w)) i)) }) s := by
  have hno : ((x.aGet (dstF w)).smeta.map (·.scaled)).getD false = false := by
    cases hq : (x.aGet (dstF w)).smeta with
    | none => rfl
    | some q => exact h q hq
  simp [semScaleS, hno]

theorem semScaleO_eq (hm : s.memberOf r = some m) :
    semScaleO w c x r s = put c (x.aPut (dstF w) { x.aGet (dstF w) with
      val := mapPlane (x.aGet (dstF w)).val (fun i _ y => fMul .even y (nthD 0 (x.vGet (srcA w)) (i % groupRows m.d))) }) s := by
  simp only [semScaleO, hm]

/-! ### Masks (R44, R131) -/

/-- Whether a mask rule hides column `j` of the plane from row `i`. -/
def hides (r : Run) (q : SMeta) (vis : Nat → Nat → Bool) (i j : Nat) : Prop :=
  j < q.tmeta.count ∧ ∃ row, r.rows[i]? = some row ∧ vis row.qpos (q.tmeta.first + j) = false

/-- A score after a mask rule: −∞ in a valid column that the rule hides from the row. -/
def maskScore (r : Run) (q : SMeta) (vis : Nat → Nat → Bool) (i j : Nat) (v : F32) : F32 :=
  if j < q.tmeta.count then
    match r.rows[i]? with
    | some row => if vis row.qpos (q.tmeta.first + j) then v else negInf
    | none => v
  else v

theorem maskScore_hidden {r : Run} {q : SMeta} {vis : Nat → Nat → Bool} {i j : Nat} (v : F32) (h : hides r q vis i j) :
    maskScore r q vis i j v = negInf := by
  obtain ⟨hj, row, hrow, hvis⟩ := h
  simp [maskScore, hj, hrow, hvis]

theorem maskScore_seen {r : Run} {q : SMeta} {vis : Nat → Nat → Bool} {i j : Nat} (v : F32) (h : ¬ hides r q vis i j) :
    maskScore r q vis i j v = v := by
  unfold maskScore
  split
  case isFalse => rfl
  case isTrue hj =>
    split
    case h_2 => rfl
    case h_1 row hrow =>
      have hvis : vis row.qpos (q.tmeta.first + j) = true := by
        by_contra hno
        exact h ⟨hj, row, hrow, by simpa using hno⟩
      rw [if_pos hvis]

theorem semMask_marked {q : SMeta} (rule : MSweep → Nat → Nat → Bool) (mark : SMeta → SMeta) (hm : s.memberOf r = some m)
    (hq : (x.aGet (dstF w)).smeta = some q) :
    semMask rule mark w c x r s = put c (x.aPut (dstF w) { x.aGet (dstF w) with
      score := mapPlane (x.aGet (dstF w)).score (maskScore r q (rule m)), smeta := some (mark q) }) s := by
  simp only [semMask, hm, hq]
  rfl

/-- What a mask instruction leaves: the value plane, the rule noted, −∞ where the rule hides and every other score. -/
theorem issue_mask {q : SMeta} {o : CoreOp} (rule : MSweep → Nat → Nat → Bool) (mark : SMeta → SMeta) (h : Issues s c x r o w)
    (hm : s.memberOf r = some m) (hq : (x.aGet (dstF w)).smeta = some q) :
    ∃ a : Acc, issue o (semMask rule mark) c s = s.setCore c (issued (x.aPut (dstF w) a) r (r.ip + 1)) ∧
      a.val = (x.aGet (dstF w)).val ∧ a.smeta = some (mark q) ∧
      (∀ i < 32, ∀ j < 32, plane a.score i j =
        if j < q.tmeta.count ∧ (∃ row, r.rows[i]? = some row ∧ rule m row.qpos (q.tmeta.first + j) = false) then negInf
        else plane (x.aGet (dstF w)).score i j) := by
  refine ⟨_, issue_aPut h (semMask_marked rule mark hm hq), rfl, rfl, fun i hi j hj => ?_⟩
  rw [plane_mapPlane _ _ hi hj]
  split
  case isTrue hhid => exact maskScore_hidden _ hhid
  case isFalse hseen => exact maskScore_seen _ hseen

/-! ### Rotation (R42, R130) -/

theorem Run.markNonfinite_frame (rows : List Nat) (r : Run) : r.markNonfinite rows = { r with bl := (r.markNonfinite rows).bl } := by
  induction rows generalizing r with
  | nil => rfl
  | cons i rows ih => exact ih (r.setRow i { r.row i with nonfinite := true })

/-- Chunk `ch` of a query row as the operand: rotated at its position, then converted. -/
def ropeRow (m : MSweep) (ch : Nat) (q : RowInfo) : List Nat × Nat :=
  toOperand m.fmt (((rotate m.rope m.adjacent m.d q.qpos (queryVals m.desc.qfmt m.d q.q)).drop (32 * ch)).take 32)

/-- The query operand of one chunk of every row. -/
def ropeTile (m : MSweep) (ch : Nat) (rows : List RowInfo) : Tile :=
  { tag := operandTag m.fmt, elems := padTo 0 1024 ((rows.map (ropeRow m ch)).flatMap (·.1)),
    scales := padTo 0 32 ((rows.map (ropeRow m ch)).map (·.2)), src := .query }

theorem nthD_padTo {α : Type} (d : α) {n i : Nat} {l : List α} {a : α} (hl : l.length ≤ n) (h : l[i]? = some a) :
    nthD d (padTo d n l) i = a := by
  obtain ⟨hi, rfl⟩ := List.getElem?_eq_some_iff.mp h
  have hn : i < n := by omega
  simp [nthD, padTo, hn, hi]

theorem ropeTile_scale (m : MSweep) (ch : Nat) {rows : List RowInfo} {i : Nat} {q : RowInfo} (hlen : rows.length ≤ 32)
    (hq : rows[i]? = some q) : nthD 0 (ropeTile m ch rows).scales i = (ropeRow m ch q).2 :=
  nthD_padTo 0 (by simpa using hlen) (by simp [hq])

/-- Rows with a query element that is not finite. -/
def nonfiniteRows (m : MSweep) (rows : List RowInfo) : List Nat :=
  (rows.zipIdx.filter (fun p => (queryVals m.desc.qfmt m.d p.1.q).any (fun v => !isFinite v))).map (·.2)

theorem semRope_written (hm : s.memberOf r = some m) (hch : imm w % 8 < m.d / 32) :
    semRope w c x r s = put c { x.tPut (dstF w) (ropeTile m (imm w % 8) r.rows) with
      run := some (r.markNonfinite (nonfiniteRows m r.rows)) } s := by
  simp only [semRope, hm, if_neg (Nat.not_le.mpr hch)]
  rfl

/-- What `rope` leaves: the tile register written, and the run's marks. -/
theorem issue_rope (h : Issues s c x r .rope w) (hm : s.memberOf r = some m) (hch : imm w % 8 < m.d / 32) :
    issue .rope semRope c s = s.setCore c (issued (x.tPut (dstF w) (ropeTile m (imm w % 8) r.rows))
      (r.markNonfinite (nonfiniteRows m r.rows)) (r.ip + 1)) :=
  issue_put (x' := { x.tPut (dstF w) (ropeTile m (imm w % 8) r.rows) with run := some (r.markNonfinite (nonfiniteRows m r.rows)) }) h
    (semRope_written hm hch) rfl

theorem semRope_outside (hm : s.memberOf r = some m) (hch : m.d / 32 ≤ imm w % 8) : semRope w c x r s = .exc exStore w := by
  simp only [semRope, hm, if_pos hch]

end

/-- Settles O15: each instruction by the one accumulator or tile it writes, each plane element by `plane_mapPlane`. -/
theorem planeOperations : Obligations.PlaneOperations := by
  unfold Obligations.PlaneOperations
  refine ⟨fun s c x r w m hm => ⟨fun h ha hb hz mt hmt => ?dotZero, fun h ha hb hz mt q hmt hq hsame hscaled => ?dotAdd,
      fun h htag => ?dotWrong, fun h hno => ?scaleS⟩,
    fun s c x r w m q hm hq e he h => ?mask,
    fun s c x r w m hm => ⟨fun h hch hlen => ?rope, fun h hch => ?ropeOut, fun h => ?scaleO⟩⟩
  case dotZero =>
    rw [exec_dotQk, execDotQk, issue_aPut h (semDotQk_fromZero hm ha hb hz hmt)]
    exact ⟨_, rfl, rfl, rfl, fun i hi j hj => by rw [plane_mapPlane _ _ hi hj, plane_nil, addDot]⟩
  case dotAdd =>
    rw [exec_dotQk, execDotQk, issue_aPut h (semDotQk_added hm ha hb hz hmt hq hsame hscaled)]
    exact ⟨_, rfl, rfl, hq, fun i hi j hj => by rw [plane_mapPlane _ _ hi hj, addDot]⟩
  case dotWrong => rw [exec_dotQk, execDotQk, issue_exc h (semDotQk_wrongTag hm htag)]
  case scaleS =>
    rw [exec_scaleS, execScaleS, issue_aPut h (semScaleS_unscaled hno)]
    exact ⟨_, rfl, rfl, rfl, fun i hi j hj => by rw [plane_mapPlane _ _ hi hj]⟩
  case mask =>
    simp only [List.mem_cons, List.not_mem_nil, or_false] at he
    obtain rfl | rfl | rfl := he
    · obtain ⟨a, hstep, hleft⟩ := issue_mask _ _ h hm hq
      exact ⟨a, congrArg Host.Outcome.next hstep, hleft⟩
    · obtain ⟨a, hstep, hleft⟩ := issue_mask _ _ h hm hq
      exact ⟨a, congrArg Host.Outcome.next hstep, hleft⟩
    · obtain ⟨a, hstep, hleft⟩ := issue_mask _ _ h hm hq
      exact ⟨a, congrArg Host.Outcome.next hstep, hleft⟩
  case rope =>
    rw [exec_rope, execRope, issue_rope h hm hch]
    exact ⟨_, _, rfl, r.markNonfinite_frame _, rfl, rfl, rfl, fun i q hq => ropeTile_scale m _ hlen hq⟩
  case ropeOut => rw [exec_rope, execRope, issue_exc h (semRope_outside hm hch)]
  case scaleO =>
    rw [exec_scaleO, execScaleO, issue_aPut h (semScaleO_eq hm)]
    exact ⟨_, rfl, rfl, rfl, fun i hi j hj => by rw [plane_mapPlane _ _ hi hj]⟩

end Sys2Proof.Machine
end

section
/-! What the part that accepted a sweep does with a publication and with a merge point that is lost (R63, R67, R339, R340, R432). -/

namespace Sys2Proof.Machine

/-! ### Outputs leave the sweeps alone -/

@[simp] theorem State.sweeps_of_send (s : State) (m : OutMsg) : (s.send m).sweeps = s.sweeps := by
  unfold State.send
  split <;> rfl

@[simp] theorem State.sweeps_of_raiseMsix (s : State) (v : Nat) : (s.raiseMsix v).sweeps = s.sweeps := by
  unfold State.raiseMsix
  split <;> simp

@[simp] theorem cqWrite_sweeps (s : State) (b c : Nat) (q : CQ) (e : List Byte) : (cqWrite s b c q e).sweeps = s.sweeps := by
  unfold cqWrite
  dsimp only
  split <;> simp

@[simp] theorem State.sweeps_of_postCq (s : State) (b ring : Nat) (e : List Byte) : (s.postCq b ring e).sweeps = s.sweeps := by
  unfold State.postCq
  split
  case isTrue => rfl
  case isFalse =>
    dsimp only
    split
    case h_1 => rfl
    case h_2 => split <;> simp

/-! ### An accepted sweep under its numbers -/

theorem State.sweepNo_congr {s t : State} (h : t.sweeps = s.sweeps) (n : Nat) : t.sweepNo n = s.sweepNo n := by
  rw [State.sweepNo, h, State.sweepNo]

theorem State.sweepNo_showSweep (s : State) (a : ASweep) : (s.showSweep a).sweepNo a.num = some a :=
  alGet_alPut_self s.sweeps.accepted a.num a

theorem State.dram_showSweep (s : State) (a : ASweep) : (s.showSweep a).dram = memWriteL s.dram a.desc.slot a.header := by
  rw [State.showSweep, State.setDram_dram]

/-- The global identifier of a sweep of this part names it (R30). -/
theorem State.sweepOfGsid_gsidOf (s : State) {num : Nat} (hself : selfPkg < 1024) (hnum : num < 2 ^ 14) :
    s.sweepOfGsid (gsidOf selfPkg num) = s.sweepNo num := by
  have hpkg : gsidOf selfPkg num / 2 ^ 14 = selfPkg := by unfold gsidOf; omega
  have hlow : gsidOf selfPkg num % 2 ^ 14 = num := by unfold gsidOf; omega
  rw [State.sweepOfGsid, if_pos hpkg, hlow]

/-! ### Publications (R340) -/

/-- A sweep once a publication with other records than the last has been written, and another is to come. -/
def ASweep.published (a : ASweep) (recs : List Partial) (filled : Nat) : ASweep :=
  { a with
    filled := filled
    half := !a.half
    pub := (a.pub + 1) % 256
    lastRecs := recs
    susp := recs.any (fun r => flagHas r.flags flSuspect)
    approx := recs.any (fun r => decide (0 < r.nMan))
    skipped := recs.any (fun r => decide (0 < r.nSkip))
    state := 4 }

theorem State.writePub_final (s : State) {a : ASweep} (recs : List Partial) (filled : Nat) (final : Bool) (h : 5 ≤ a.state) :
    s.writePub a recs filled final = s := by
  rw [State.writePub, if_pos h]

theorem State.writePub_changed (s : State) {a : ASweep} {recs : List Partial} {filled : Nat} (hstate : a.state < 4)
    (hfilled : filled < a.members.length) (hrecs : recs ≠ a.lastRecs) :
    s.writePub a recs filled false =
      (s.setDram (memWriteL s.dram (a.desc.slot + 0x40 + (if a.half then 0 else a.rBytes)) (recs.flatMap recBytes))).showSweep
        (a.published recs filled) := by
  have hopen : ¬ 5 ≤ a.state := by omega
  unfold ASweep.published
  cases hhalf : a.half <;> simp [State.writePub, hopen, hrecs, hfilled, hstate, hhalf]

theorem execPublicationArrival_own {s : State} {a : ASweep} {m : PubMsg} (ha : s.sweepNo a.num = some a) (hnum : a.num < 2 ^ 14)
    (hself : selfPkg < 1024) (hhears : s.hears selfPkg = true) (hgsid : m.gsid = gsidOf selfPkg a.num) (hseq : a.seq = m.seq) :
    execPublicationArrival m s = .next (s.writePub a m.recs m.filled m.final) := by
  have hfound : s.sweepOfGsid m.gsid = some a := by rw [hgsid, s.sweepOfGsid_gsidOf hself hnum, ha]
  simp [execPublicationArrival, hhears, hfound, hseq]

/-! ### A merge point lost (R432) -/

/-- A sweep that ends as failed stands under its number with its cause. -/
theorem State.sweepNo_endSweep_failed (s : State) {a : ASweep} (code : Nat) (h : a.state < 5) :
    (s.endSweep a 6 code).sweepNo a.num = some { a with state := 6, code := code } := by
  have hopen : ¬ 5 ≤ a.state := by omega
  have hend : s.endSweep a 6 code = (s.showSweep { a with state := 6, code := code }).postCq a.basin a.ring
      (cqEntry a.wrid code 1 (gsidOf selfPkg a.num) (ASweep.word { a with state := 6, code := code }).toNat a.ring) := by
    simp [State.endSweep, State.sweepCompletion, hopen]
  rw [hend, State.sweepNo_congr (State.sweeps_of_postCq _ _ _ _)]
  exact s.sweepNo_showSweep { a with state := 6, code := code }

theorem execMergeLostTimeout_peer {s : State} {gsid : BitVec 24} {a : ASweep} {t : Times} (ha : s.sweepOfGsid gsid.toNat = some a)
    (ht : a.times = some t) (hmerge : a.desc.mergePoint ≠ 0x7FF) (hpeer : a.desc.mergePoint ≠ selfPkg) :
    execMergeLostTimeout gsid s = .next (if t.d + 2 ^ 24 ≤ s.now then s.endSweep a 6 stMergeLost else s) := by
  simp only [execMergeLostTimeout, ha, ht, ne_eq, hmerge, hpeer, not_false_eq_true, true_and]
  split <;> rfl

/-- Settles O29: a publication by what `writePub` does, a lost merge point by what `endSweep` leaves under the sweep's number. -/
theorem originEvents : Obligations.OriginEvents := by
  unfold Obligations.OriginEvents
  intro s a ha hnum hself
  refine ⟨fun m hhears hgsid hseq => ?publication, fun m hhears hgsid hseq hfinal => ?afterFinal,
    fun gsid t hgsid ht hstate hmerge hpeer => ?lost⟩
  case publication =>
    rw [exec_publicationArrival, execPublicationArrival_own ha hnum hself hhears hgsid hseq]
    refine ⟨rfl, fun hstate hmore hfilled hrecs => ?_⟩
    rw [hmore, s.writePub_changed hstate hfilled hrecs]
    refine ⟨_, a.published m.recs m.filled, rfl, State.sweepNo_showSweep _ _, rfl, rfl, rfl, rfl, ?_⟩
    rw [State.dram_showSweep, State.setDram_dram, ASweep.published]
  case afterFinal =>
    rw [exec_publicationArrival, execPublicationArrival_own ha hnum hself hhears hgsid hseq, s.writePub_final _ _ _ hfinal]
  case lost =>
    have hfound : s.sweepOfGsid gsid.toNat = some a := by rw [hgsid, s.sweepOfGsid_gsidOf hself hnum, ha]
    rw [exec_mergeLostTimeout, execMergeLostTimeout_peer hfound ht hmerge hpeer]
    refine ⟨fun hpast => ?_, fun hbefore => by rw [if_neg (by omega)]⟩
    rw [if_pos hpast]
    exact ⟨_, rfl, s.sweepNo_endSweep_failed stMergeLost hstate⟩

end Sys2Proof.Machine
end

section
/-! SUPPORT. The member work of a convoy: what reads it back after an update, and a launch that has been (R65). -/

namespace Sys2Proof.Machine

/-- Whether member work is that of a convoy's numbers, as a member or as a twin. -/
def MSweep.isOf (x : MSweep) (g q : Nat) (tw : Bool) : Bool := decide (x.gsid = g) && decide (x.seq = q) && decide (x.twin = tw)

theorem MSweep.isOf_iff (x : MSweep) (g q : Nat) (tw : Bool) : x.isOf g q tw = true ↔ x.gsid = g ∧ x.seq = q ∧ x.twin = tw := by
  simp [MSweep.isOf, and_assoc]

section
variable {s : State} {g q : Nat} {tw : Bool} {m : MSweep}

theorem State.member_eq_find (s : State) (g q : Nat) (tw : Bool) :
    s.member g q tw = s.sweeps.members.find? (fun x => x.isOf g q tw) := rfl

/-- Member work found under a convoy's numbers carries them. -/
theorem State.member_keys (h : s.member g q tw = some m) : m.gsid = g ∧ m.seq = q ∧ m.twin = tw := by
  rw [State.member_eq_find] at h
  have hof := List.find?_some h
  exact (m.isOf_iff g q tw).mp hof

theorem State.member_congr {s t : State} (h : t.sweeps = s.sweeps) (g q : Nat) (tw : Bool) : t.member g q tw = s.member g q tw := by
  rw [State.member, h, State.member]

/-- Member work replaced is found in the place of what it replaces. -/
theorem State.member_setMember {y : MSweep} (h : s.member g q tw = some m) (hg : y.gsid = m.gsid) (hq : y.seq = m.seq)
    (htw : y.twin = m.twin) : (s.setMember y).member g q tw = some y := by
  obtain ⟨hmg, hmq, hmtw⟩ := State.member_keys h
  have hm : m.isOf g q tw = true := (m.isOf_iff g q tw).mpr ⟨hmg, hmq, hmtw⟩
  have hy : y.isOf g q tw = true := (y.isOf_iff g q tw).mpr ⟨hg.trans hmg, hq.trans hmq, htw.trans hmtw⟩
  have hmap : (s.setMember y).sweeps.members = s.sweeps.members.map (fun x => if x.isOf g q tw then y else x) := by
    simp [State.setMember, MSweep.isOf_iff, hg, hq, htw, hmg, hmq, hmtw]
  have hkeep : (fun x : MSweep => x.isOf g q tw) ∘ (fun x => if x.isOf g q tw then y else x) = fun x => x.isOf g q tw := by
    funext x
    cases hx : x.isOf g q tw <;> simp [hx, hy]
  rw [State.member_eq_find] at h
  rw [State.member_eq_find, hmap, List.find?_map, hkeep, h, Option.map_some, if_pos hm]

/-- Work that has been launched is not launched again. -/
theorem State.ensureLaunched_launched (h : s.member g q tw = some m) (hstage : m.stage ≠ 0) : s.ensureLaunched g q tw = s := by
  simp [State.ensureLaunched, State.launch, h, hstage]

end

end Sys2Proof.Machine
end

section
/-! Runs started and overdue, and what a sluice, a flight and a twin's launch release (R74 to R106, R267 to R275). -/

namespace Sys2Proof.Machine

/-! ### Runs (R82 to R86, R104) -/

/-- The run of a group of a member's sweep as it starts. -/
def MSweep.startedRun (m : MSweep) (g : Nat) (kind : RunKind) : Run :=
  { gsid := m.gsid, seq := m.seq, twin := m.twin, group := g, kind := kind, order := m.nextOrder, prog := m.prog, image := m.image,
    iflags := m.iflags, ip := m.entry, rows := m.rows g, state := (m.rows g).map m.blank }

/-- The core that run starts on: all else at its reset value but its breakpoints. -/
def State.startedCore (s : State) (c : Nat) (m : MSweep) (g : Nat) (kind : RunKind) : Core :=
  { hdr := runHeader m g (m.rows g) kind, ls := s.runStore m, run := some (m.startedRun g kind), breaks := (s.core c).breaks }

section
variable {s : State} {c : BitVec 12} {gsid : BitVec 24} {seq : BitVec 32} {twin : Bool} {group : BitVec 16} {m : MSweep}

theorem execRunStart_first (hm : s.member gsid.toNat seq.toNat twin = some m) (hstage : m.stage = 1 ∨ m.stage = 2)
    (hgroup : group.toNat < m.groups) (hfree : s.coreFree c.toNat m.basin = true) (hdue : m.overdue = false) (hd : s.now < m.times.d) :
    execRunStart c gsid seq twin group .first s = .next ((s.setCore c.toNat (s.startedCore c.toNat m group.toNat .first)).setMember
      { m with nextOrder := m.nextOrder + 1, live := m.live ++ [c.toNat] }) := by
  have hlaunched : m.stage ≠ 0 := by omega
  have hopen : ¬ (m.stage ≠ 1 ∧ m.stage ≠ 2) := by omega
  simp only [execRunStart, State.ensureLaunched_launched hm hlaunched, hm]
  rw [if_neg (by simp [hopen, hgroup, hfree, hdue, hd])]
  rfl

theorem execRunStart_refused (kind : RunKind) (hm : s.member gsid.toNat seq.toNat twin = some m) (hstage : m.stage = 1 ∨ m.stage = 2)
    (hno : m.groups ≤ group.toNat ∨ s.coreFree c.toNat m.basin = false ∨ m.times.d ≤ s.now) :
    execRunStart c gsid seq twin group kind s = .next s := by
  have hlaunched : m.stage ≠ 0 := by omega
  simp only [execRunStart, State.ensureLaunched_launched hm hlaunched, hm]
  refine if_pos ?_
  obtain hgroup | hfree | hd := hno
  · exact .inr (.inl hgroup)
  · exact .inr (.inr (.inl (by simp [hfree])))
  · exact .inr (.inr (.inr (.inr (.inr hd))))

theorem execRunOverdue_member {r : Run} (hr : (s.core c.toNat).run = some r) (hm : s.memberOf r = some m) :
    execRunOverdue c s = .next (if m.times.d ≤ s.now then s.raise c.toNat exOverdue 0 else s) := by
  simp only [execRunOverdue, hr, hm]
  split <;> rfl

end

/-! ### A twin's launch (R65, R267) -/

theorem State.soundStart_noFlash {s : State} {m : MSweep} (hk : m.desc.k = 0)
    (hplan : m.plan.any (fun p => p.flash && decide (p.mode ≠ some 2)) = false) : s.soundStart m = s := by
  have hnone : m.plan.filter (fun p => p.flash && decide (p.mode ≠ some 2)) = [] := by
    simpa [List.filter_eq_nil_iff] using hplan
  simp only [State.soundStart, if_pos hk, hnone]
  rfl

theorem State.releaseConvoy_twin {s : State} {gsid seq : Nat} {m : MSweep} (hm : s.member gsid seq true = some m) (hstage : m.stage = 0)
    (hk : m.desc.k = 0) (hplan : (s.planOf m).any (fun p => p.flash && decide (p.mode ≠ some 2)) = false) :
    s.releaseConvoy gsid seq true = if m.times.t ≤ s.now then s.setMember { m with stage := 1, plan := s.planOf m } else s := by
  have hsound (u : State) : u.soundStart { m with stage := 1, plan := s.planOf m } = u := State.soundStart_noFlash hk hplan
  simp [State.releaseConvoy, State.passed, State.launch, hm, hstage, hsound]

/-! ### Chambers that no hold locks (R100) -/

/-- Whether an open hold of a core locks a chamber. -/
def Core.locks (x : Core) (ch : Nat) : Bool :=
  match x.run with
  | some r => match r.hold with | some h => h.locks.contains ch | none => false
  | none => false

theorem State.lockOwner_none_iff (s : State) (ch : Nat) : s.lockOwner ch = none ↔ ∀ p ∈ s.fab.cores, p.2.locks ch = false := by
  rw [State.lockOwner, Option.map_eq_none_iff, List.find?_eq_none]
  exact forall₂_congr fun p _ => Iff.of_eq (Bool.not_eq_true (p.2.locks ch))

theorem mem_of_alGet {κ α : Type} [DecidableEq κ] {l : AL κ α} {k : κ} {v : α} (h : alGet l k = some v) : (k, v) ∈ l := by
  induction l with
  | nil => simp at h
  | cons p t ih =>
    obtain ⟨a, w⟩ := p
    by_cases hk : a = k
    · simp only [alGet, if_pos hk, Option.some.injEq] at h
      simp [hk, h]
    · simp only [alGet, if_neg hk] at h
      exact List.mem_cons_of_mem _ (ih h)

theorem mem_alPut {κ α : Type} [DecidableEq κ] {l : AL κ α} {k : κ} {v : α} {p : κ × α} (h : p ∈ alPut l k v) :
    p = (k, v) ∨ p ∈ l := by
  induction l with
  | nil => simpa [alPut] using h
  | cons a t ih =>
    obtain ⟨x, w⟩ := a
    by_cases hk : x = k
    · simp only [alPut, if_pos hk, List.mem_cons] at h
      exact h.imp_right (List.mem_cons_of_mem _)
    · simp only [alPut, if_neg hk, List.mem_cons] at h
      obtain rfl | h := h
      · exact .inr List.mem_cons_self
      · exact (ih h).imp_right (List.mem_cons_of_mem _)

theorem State.core_locks_none {s : State} {ch : Nat} (h : s.lockOwner ch = none) (c : Nat) : (s.core c).locks ch = false := by
  unfold State.core alGetD
  cases hc : alGet s.fab.cores c with
  | none => rfl
  | some x => exact (s.lockOwner_none_iff ch).mp h (c, x) (mem_of_alGet hc)

/-- A core whose run is as before locks what it locked. -/
theorem State.lockOwner_setCore_none {s : State} {c ch : Nat} {x : Core} (h : s.lockOwner ch = none) (hrun : x.run = (s.core c).run) :
    (s.setCore c x).lockOwner ch = none := by
  rw [State.lockOwner_none_iff]
  intro p hp
  obtain rfl | hp := mem_alPut hp
  · have hlocks : x.locks ch = (s.core c).locks ch := by rw [Core.locks, hrun, Core.locks]
    rw [hlocks, State.core_locks_none h c]
  · exact (s.lockOwner_none_iff ch).mp h p hp

theorem State.chRemote_unlocked {s : State} {ch : Nat} (op : ChOp) (h : s.lockOwner ch = none) : s.chRemote ch op = s.chEffect ch op := by
  rw [State.chRemote, h]

/-! ### The sluice and flights of a core (R143, R144, R267) -/

section
variable {s : State} {c : Nat} {g : Gated} {gs : List Gated}

theorem State.releaseCore_head (h : (s.core c).sluice = g :: gs) :
    s.releaseCore c = if g.time ≤ s.now then (s.setCore c { s.core c with sluice := gs }).gateEffect c g else s := by
  simp [State.releaseCore, State.sluicePop, State.passed, h]

/-- A gated chamber operation that writes no register: performed where its basin may, else nothing. -/
theorem State.gateEffect_chamber {p ch : Nat} {op : ChOp} (hop : g.op = .chamber p ch op) (hquiet : g.results = false) :
    s.gateEffect c g = if (s.chRefuse ((s.basinOf c).getD 64) ch).isNone then s.chRemote ch op else s := by
  simp [State.gateEffect, hop, hquiet]

theorem State.releaseFlight_last {f : CoreFlight} {h : Nat} (hf : (s.core c).flights = [f]) (hh : f.handle = h) (hleft : f.left = [g]) :
    s.releaseFlight c h = if g.time ≤ s.now then (s.setCore c { s.core c with flights := [] }).gateEffect c g else s := by
  simp [State.releaseFlight, State.passed, hf, hh, hleft]

end

/-! ### Host flights (R269) -/

section
variable {s : State} {f : HostFlight} {h : Nat} {e : FlightEntry} {rest : List FlightEntry}

theorem State.releaseHostFlight_early (hf : s.sweeps.flights = [f]) (hh : f.handle = h) (hleft : f.left = e :: rest)
    (htime : s.now < e.time) : s.releaseHostFlight h = s := by
  simp [State.releaseHostFlight, State.passed, hf, hh, hleft, htime]

/-- A chamber's ADD of a flight, released on a chamber that no hold locks and that its basin may change. -/
theorem State.releaseHostFlight_add (hf : s.sweeps.flights = [f]) (hh : f.handle = h) (hleft : f.left = e :: rest)
    (htime : e.time ≤ s.now) (hkind : e.kind = 2) (hlock : s.lockOwner e.ch = none) (hmay : s.chRefuse f.basin e.ch = none) :
    s.releaseHostFlight h =
      ({ s with sweeps := { s.sweeps with flights := [{ f with left := rest, released := f.released + 1 }] } } : State).chEffect e.ch
        (.add e.value) := by
  have hlock' (fl : List HostFlight) : ({ s with sweeps := { s.sweeps with flights := fl } } : State).lockOwner e.ch = none := hlock
  have hmay' (fl : List HostFlight) : ({ s with sweeps := { s.sweeps with flights := fl } } : State).chRefuse f.basin e.ch = none := hmay
  simp [State.releaseHostFlight, State.passed, hf, hh, hleft, htime, hkind, hmay', State.chRemote_unlocked _ (hlock' _)]

end

/-- Settles O30: a run's start and end by what `RUN_START` and `RUN_OVERDUE` do, each release by the entry at its head. -/
theorem runsAndReleases : Obligations.RunsAndReleases := by
  unfold Obligations.RunsAndReleases
  refine ⟨fun s c => ⟨fun gsid seq twin g m hm hstage hgroup hfree hdue hd => ?start,
      fun gsid seq twin g kind m hm hstage hno => ?refused, fun r m hr hm => ?overdue⟩,
    fun s => ⟨fun gsid seq m hm hstage hk hplan => ?twin, fun c g gs hg => ?core, fun c g gs p ch op hg htime hop hquiet hlock => ?chamber,
      fun c h f g hf hh hleft => ?flight, fun h f e rest hf hh hleft => ?host⟩⟩
  case start =>
    rw [exec_runStart, execRunStart_first hm hstage hgroup hfree hdue hd]
    refine ⟨_, m.startedRun g.toNat .first, rfl, ?_, rfl, rfl, rfl, rfl, rfl, rfl, rfl, rfl, rfl, rfl, rfl, ?_, rfl, rfl, fun k hk => ?_⟩
    · exact State.core_setCore s c.toNat _
    · exact State.member_setMember (s := s.setCore c.toNat _) hm rfl rfl rfl
    · exact s.core_setCore_ne c.toNat _ hk.symm
  case refused => rw [exec_runStart, execRunStart_refused kind hm hstage hno]
  case overdue =>
    rw [exec_runOverdue, execRunOverdue_member hr hm]
    exact ⟨fun hd => by rw [if_pos hd], fun hd => by rw [if_neg (by omega)]⟩
  case twin =>
    rw [exec_sluiceRelease, execSluiceRelease, State.releaseConvoy_twin hm hstage hk hplan]
    exact ⟨fun ht => by rw [if_pos ht], fun ht => by rw [if_neg (by omega)]⟩
  case core =>
    rw [exec_sluiceRelease, execSluiceRelease, State.releaseCore_head hg]
    exact ⟨fun ht => by rw [if_pos ht], fun ht => by rw [if_neg (by omega)]⟩
  case chamber =>
    have hfree : (s.setCore c { s.core c with sluice := gs }).lockOwner ch = none := State.lockOwner_setCore_none hlock rfl
    have hrefuse : (s.setCore c { s.core c with sluice := gs }).chRefuse (((s.setCore c { s.core c with sluice := gs }).basinOf c).getD 64) ch =
        s.chRefuse ((s.basinOf c).getD 64) ch := rfl
    rw [exec_sluiceRelease, execSluiceRelease, State.releaseCore_head hg, if_pos htime, State.gateEffect_chamber hop hquiet, hrefuse,
      State.chRemote_unlocked op hfree]
    exact ⟨fun hmay => by rw [hmay]; rfl, fun e hno => by rw [hno]; rfl⟩
  case flight =>
    rw [exec_sluiceRelease, execSluiceRelease, State.releaseFlight_last hf hh hleft]
    exact ⟨fun ht => by rw [if_pos ht], fun ht => by rw [if_neg (by omega)]⟩
  case host =>
    rw [exec_sluiceRelease, execSluiceRelease]
    exact ⟨fun ht => by rw [State.releaseHostFlight_early hf hh hleft ht],
      fun ht hkind hlock hmay => by rw [State.releaseHostFlight_add hf hh hleft ht hkind hlock hmay]⟩

end Sys2Proof.Machine
end

section
/-! The points of a launched member: grace, cutoff, region partials, records, CANCEL (R55, R56, R60, R65, R78, R87, R191). -/

namespace Sys2Proof.Machine

section
variable {s : State} {gsid : BitVec 24} {seq : BitVec 32} {twin : Bool} {m : MSweep}

/-! ### T + grace (R191) -/

/-- A planned berth once grace has passed: MANIFEST where it is undecided and that is its choice now. -/
def State.graceFix (s : State) (m : MSweep) (p : PBerth) : PBerth :=
  if p.mode.isSome || (decide (m.desc.k ≠ 0) && p.selected.isNone && !p.prot) then p
  else match s.choose m p with
    | .man 1 => { p with mode := some 1 }
    | _ => p

theorem State.graceFix_cases (s : State) (m : MSweep) (p : PBerth) :
    s.graceFix m p = p ∨ (p.mode = none ∧ s.graceFix m p = { p with mode := some 1 }) := by
  unfold State.graceFix
  split
  case isTrue => exact .inl rfl
  case isFalse hopen =>
    split
    case h_1 =>
      have hnone : p.mode = none := by
        simp only [Bool.or_eq_true, not_or] at hopen
        simpa using hopen.1
      exact .inr ⟨hnone, rfl⟩
    case h_2 => exact .inl rfl

theorem execGraceExpiry_due (hm : s.member gsid.toNat seq.toNat twin = some m) (hstage : m.stage = 1) (hdone : m.graceDone = false)
    (hgrace : m.times.t + m.grace ≤ s.now) :
    execGraceExpiry gsid seq twin s =
      .next (s.setMember { m with graceDone := true, plan := m.plan.map (s.graceFix { m with graceDone := true }) }) := by
  simp only [execGraceExpiry, State.ensureLaunched_launched hm (by omega), hm]
  rw [if_neg (by simp [hstage, hdone, hgrace])]
  rfl

theorem execGraceExpiry_early (hm : s.member gsid.toNat seq.toNat twin = some m) (hstage : m.stage = 1)
    (hgrace : s.now < m.times.t + m.grace) : execGraceExpiry gsid seq twin s = .next s := by
  simp only [execGraceExpiry, State.ensureLaunched_launched hm (by omega), hm]
  exact if_pos (.inr (.inr hgrace))

/-! ### C (R65, R88) -/

theorem execMemberCutoff_due (hm : s.member gsid.toNat seq.toNat twin = some m) (hstage : m.stage = 1) (hc : m.times.c ≤ s.now) :
    execMemberCutoff gsid seq twin s =
      .next (if twin then m.live.foldl State.cutRun (s.setMember { m with stage := 2 })
        else (m.live.foldl State.cutRun (s.setMember { m with stage := 2 })).moveQueue m) := by
  simp only [execMemberCutoff, State.ensureLaunched_launched hm (by omega), hm]
  exact if_neg (by simp [hstage, hc])

theorem execMemberCutoff_early (hm : s.member gsid.toNat seq.toNat twin = some m) (hstage : m.stage = 1) (hc : s.now < m.times.c) :
    execMemberCutoff gsid seq twin s = .next s := by
  simp only [execMemberCutoff, State.ensureLaunched_launched hm (by omega), hm]
  exact if_pos (.inr hc)

/-- Nothing moves of an object that is not here. -/
theorem State.moveQueue_noObject (h : s.obj m.tenant m.desc.object = none) : s.moveQueue m = s := by
  rw [State.moveQueue, h]

/-! ### Records sent (R65) -/

theorem State.soundFree_none (h : m.snd = none) : s.soundFree m = s := by rw [State.soundFree, h]

/-- Messages to peers, all sent in order while the part is not expelled. -/
theorem State.foldl_send_peers {α : Type} (f : α → OutMsg) (l : List α) : ∀ s : State, s.expelled = false →
    l.foldl (fun s a => s.send (f a)) s = { s with sent := s.sent ++ l.map f } := by
  induction l with
  | nil => intro s _; simp
  | cons a l ih =>
    intro s h
    rw [List.foldl_cons, s.send_peer h, ih { s with sent := s.sent ++ [f a] } h]
    simp

/-- Records for the merge point of another part are sent there, row by row. -/
theorem State.sendRecs_peer {dst : Nat} (g q mem : Nat) (tw : Bool) (recs : List Partial) (hdst : dst ≠ selfPkg) (h : s.expelled = false) :
    s.sendRecs dst g q mem tw recs = { s with sent := s.sent ++ recs.zipIdx.map (fun p => OutMsg.part dst
      { gsid := g, seq := q, member := mem, src := selfPkg, twin := tw, row := p.2, body := p.1 }) } := by
  simp only [State.sendRecs, if_neg hdst]
  exact State.foldl_send_peers (fun p : Partial × Nat => OutMsg.part dst
    { gsid := g, seq := q, member := mem, src := selfPkg, twin := tw, row := p.2, body := p.1 }) recs.zipIdx s h

/-- A record with the part and the member that gave it, where no merge has set them. -/
def MSweep.signed (m : MSweep) (p : Partial) : Partial :=
  { p with part := if p.merged then p.part else selfPkg, member := if p.merged then p.member else m.member }

theorem execMemberRecordsSend_plain (hm : s.member gsid.toNat seq.toNat false = some m) (hstage : m.stage = 1 ∨ m.stage = 2)
    (hdue : m.overdue = false) (hin : m.regionsIn = true) (hfwd : m.fwd = []) (hincs : m.incs = []) (hsnd : m.snd = none) :
    execMemberRecordsSend gsid seq false s =
      .next ((s.setMember { m with stage := 3 }).sendRecs m.mergeTo m.gsid m.seq m.member false (m.ownRecs.map m.signed)) := by
  have hopen : ¬ (m.stage ≠ 1 ∧ m.stage ≠ 2) := by omega
  have hfwdIn : m.fwdIn = true := by rw [MSweep.fwdIn, hfwd]; rfl
  simp only [execMemberRecordsSend, State.ensureLaunched_launched hm (by omega), hm, hfwd, hincs, State.soundFree_none hsnd]
  rw [if_neg (by simp [hopen, hdue, hin, hfwdIn])]
  rfl

theorem execMemberRecordsSend_waits (hm : s.member gsid.toNat seq.toNat twin = some m) (hstage : m.stage = 1 ∨ m.stage = 2)
    (hin : m.regionsIn = false) : execMemberRecordsSend gsid seq twin s = .next s := by
  simp only [execMemberRecordsSend, State.ensureLaunched_launched hm (by omega), hm]
  exact if_pos (.inr (.inr (.inl (by simp [hin]))))

/-! ### Region partials (R78) -/

/-- The run records of a group in a region, in the order of R78. -/
def MSweep.recsOf (m : MSweep) (region g : Nat) : List RunRecs :=
  (m.runRecs.filter (fun r => decide (r.region = region) && decide (r.group = g))).foldr runInsert []

/-- The region partial of a group: the merge of those records. -/
def MSweep.partialOf (m : MSweep) (region g : Nat) : List Partial := mergeRows selfPkg ((m.recsOf region g).map (·.recs))

/-- Member work with that partial. -/
def MSweep.putPartial (m : MSweep) (region g : Nat) : MSweep :=
  { m with regionRecs := alPut m.regionRecs (region, g) (m.partialOf region g) }

theorem execRegionPartialMerge_merged {region : BitVec 5} {group : BitVec 16} (hm : s.member gsid.toNat seq.toNat twin = some m)
    (hstage : m.stage = 1 ∨ m.stage = 2) (hmine : m.recsOf region.toNat group.toNat ≠ [])
    (hnew : alGet m.regionRecs (region.toNat, group.toNat) = none) (hhanded : m.groupHanded group.toNat = true)
    (hruns : s.groupRuns m group.toNat (some region.toNat) = []) (hgroup : group.toNat < m.groups) :
    execRegionPartialMerge gsid seq twin region group s =
      .next ((s.setMember (m.putPartial region.toNat group.toNat)).finalScores m region.toNat group.toNat
        (m.partialOf region.toNat group.toNat)) := by
  have hopen : ¬ (m.stage ≠ 1 ∧ m.stage ≠ 2) := by omega
  unfold MSweep.recsOf at hmine
  simp only [execRegionPartialMerge, hm]
  exact if_neg (by simp [hopen, hmine, hnew, hhanded, hruns, hgroup])

/-- Member work found under the numbers of `m`, with region partials `recs`. -/
def State.HasRegions (s : State) (m : MSweep) (recs : AL (Nat × Nat) (List Partial)) : Prop :=
  ∃ y, s.member m.gsid m.seq m.twin = some y ∧ y.regionRecs = recs

/-- Scores added to member work leave its numbers and its region partials. -/
theorem MSweep.foldl_addInc_frame (val : ScoreEntry → F32) (cl : Nat) (l : List ScoreEntry) : ∀ m : MSweep,
    l.foldl (fun m e => m.addInc cl e.key.berth (val e)) m =
      { m with incs := (l.foldl (fun m e => m.addInc cl e.key.berth (val e)) m).incs } := by
  induction l with
  | nil => intro m; rfl
  | cons e l ih => intro m; exact ih (m.addInc cl e.key.berth (val e))

theorem State.finalScores_keeps_regions {recs : AL (Nat × Nat) (List Partial)} (region g : Nat) (parts : List Partial)
    (h : s.HasRegions m recs) : (s.finalScores m region g parts).HasRegions m recs := by
  unfold State.finalScores
  refine List.foldlRecOn (motive := fun t => State.HasRegions t m recs) _ _ h fun t ht i _ => ?_
  obtain ⟨y, hy, hrecs⟩ := ht
  dsimp only
  split
  case isTrue => exact ⟨y, hy, hrecs⟩
  case isFalse =>
    have hy' (cl : Nat) (x : Cluster) : (t.setCluster cl x).member m.gsid m.seq m.twin = some y := hy
    simp only [hy']
    rw [MSweep.foldl_addInc_frame (fun e => incMax e.rows parts)]
    exact ⟨_, State.member_setMember (hy' _ _) rfl rfl rfl, hrecs⟩

/-! ### CANCEL (R67, R71) -/

/-- Work with no run and no sounding is stopped by its stage alone. -/
theorem State.stopMember_idle (hm : s.member m.gsid m.seq m.twin = some m) (hlive : m.live = []) (hsnd : m.snd = none) :
    s.stopMember m = s.setMember { m with stage := 4, live := [] } := by
  simp [State.stopMember, hlive, State.soundFree_none hsnd, hm]

theorem execCancelMsg_twin (hm : s.member gsid.toNat seq.toNat true = some m) (hstage : m.stage < 3) (hhears : s.hears selfPkg = true) :
    execCancelMsg gsid seq s = .next (s.stopMember m) := by
  simp [execCancelMsg, hhears, hm, hstage]

theorem execCancelMsg_done (hm : s.member gsid.toNat seq.toNat false = some m) (htwin : s.member gsid.toNat seq.toNat true = none)
    (hstage : 3 ≤ m.stage) : execCancelMsg gsid seq s = .next s := by
  have hover : ¬ m.stage < 3 := by omega
  simp [execCancelMsg, hm, htwin, hover]

end

end Sys2Proof.Machine
end

section
/-! The points of a merge point: backup, deadline, a record that lands (R54, R64 to R71, R191). -/

namespace Sys2Proof.Machine

section
variable {s : State} {gsid : BitVec 24} {seq : BitVec 32} {c : Convoy} {t : Times} {x : MSlot}

theorem State.convoy_setConvoy (s : State) (c : Convoy) : (s.setConvoy c).convoy c.gsid = some c :=
  alGet_alPut_self s.sweeps.convoys c.gsid c

theorem State.convoy_congr {s t : State} (h : t.sweeps = s.sweeps) (n : Nat) : t.convoy n = s.convoy n := by
  rw [State.convoy, h, State.convoy]

/-! ### B (R67, R68) -/

theorem execBackupPoint_due (hc : s.convoy gsid.toNat = some c) (hseq : c.seq = seq.toNat) {b : Nat} (ht : c.times = some t)
    (hb : t.b = some b) (hpast : b ≤ s.now) (hopen : c.finished = false) (hslots : c.slots = [x]) (hst : x.st = 0)
    (hbackup : x.backup = false) : execBackupPoint gsid seq s = .next (s.sendBackup c 0) := by
  simp [execBackupPoint, hc, hseq, ht, hb, hpast, hopen, hslots, hst, hbackup]

theorem execBackupPoint_early (hc : s.convoy gsid.toNat = some c) {b : Nat} (ht : c.times = some t) (hb : t.b = some b)
    (hbefore : s.now < b) : execBackupPoint gsid seq s = .next s := by
  simp [execBackupPoint, hc, ht, hb, hbefore]

theorem State.sendBackup_twin {tw : Nat} (ht : c.times = some t) (hslots : c.slots = [x]) (htwin : Config.twinOf s.epoch x.pkg = some tw) :
    s.sendBackup c 0 = (s.setConvoy { c with slots := [{ x with backup := true }] }).send (.backup tw
      ⟨⟨c.gsid, c.seq, 0, c.origin, selfPkg, s.epoch, false, c.late, c.desc, c.qbuf, t⟩, x.ack⟩) := by
  simp [State.sendBackup, ht, hslots, htwin, setNth]

theorem State.sendBackup_noTwin (ht : c.times = some t) (hslots : c.slots = [x]) (htwin : Config.twinOf s.epoch x.pkg = none) :
    s.sendBackup c 0 = s.setConvoy { c with slots := [{ x with noTwin := true }] } := by
  simp [State.sendBackup, ht, hslots, htwin, setNth]

/-! ### D (R69) -/

theorem execMergeDeadline_due (hc : s.convoy gsid.toNat = some c) (hseq : c.seq = seq.toNat) (ht : c.times = some t) (hd : t.d ≤ s.now)
    (hopen : c.finished = false) :
    execMergeDeadline gsid seq s = .next (s.finish c (c.slots.map (fun x => s.ledgerCount c x.pkg))) := by
  simp [execMergeDeadline, hc, hseq, ht, hd, hopen]

theorem execMergeDeadline_early (hc : s.convoy gsid.toNat = some c) (ht : c.times = some t) (hd : s.now < t.d) :
    execMergeDeadline gsid seq s = .next s := by
  simp [execMergeDeadline, hc, ht, hd]

theorem execMergeDeadline_finished (hc : s.convoy gsid.toNat = some c) (hdone : c.finished = true) : execMergeDeadline gsid seq s = .next s := by
  cases ht : c.times <;> simp [execMergeDeadline, hc, ht, hdone]

/-- A convoy once finished, with the merge it published last. -/
def Convoy.done (c : Convoy) (last : List Partial) : Convoy := { c with finished := true, last := last }

/-- The finish of a convoy merged here for another part: its bytes given back, the convoy marked, its last publication sent. -/
theorem State.finish_peer (hopen : c.finished = false) (horigin : c.origin ≠ selfPkg) (hmerge : c.desc.mergePoint ≠ 0x7FF)
    (unknown : List Nat) : ∃ (last : List Partial) (m : OutMsg), s.finish c unknown =
      ((({ s with sweeps := { s.sweeps with poolUsed := s.sweeps.poolUsed - c.bytes } } : State).setConvoy
        { c with finished := true }).setConvoy (c.done last)).send m := by
  simp only [State.finish, State.freePool, State.publishMerge, State.publish, hopen, if_neg horigin, if_neg hmerge, Bool.not_true,
    Bool.false_and, Bool.false_eq_true, if_false]
  exact ⟨_, _, rfl⟩

/-! ### Records that land (R66) -/

theorem execPart_lands {m : PartMsg} (hhears : s.hears m.src = true) (hm : s.member m.gsid m.seq false = none) :
    execPart m s = .next (s.land m) := by
  simp [execPart, hhears, hm]

theorem State.land_finished {m : PartMsg} (hc : s.convoy m.gsid = some c) (ht : c.times = some t) (hx : c.slots[m.member]? = some x)
    (hdone : c.finished = true) : s.land m = s.setConvoy { c with discard := c.discard + 1 } := by
  simp [State.land, hc, hx, ht, hdone]

/-- The slot with a record of its member kept. -/
def MSlot.keep (x : MSlot) (m : PartMsg) : MSlot :=
  { x with landing := alPut x.landing (m.src, false) (alPut (alGetD x.landing (m.src, false) []) m.row m.body) }

theorem State.land_kept {m : PartMsg} (hc : s.convoy m.gsid = some c) (ht : c.times = some t) (hx : c.slots[m.member]? = some x)
    (hopen : c.finished = false) (hseq : m.seq = c.seq) (hsweep : m.body.sweep = c.gsid) (hbseq : m.body.seq = c.seq) (hpkg : x.pkg = m.src)
    (htwin : m.twin = false) (hrow : m.row < c.rows.length) (hd : s.now < t.d)
    (hmore : (alPut (alGetD x.landing (m.src, false) []) m.row m.body).length < c.rows.length) :
    s.land m = s.setConvoy { c with slots := setNth c.slots m.member (x.keep m) } := by
  simp [State.land, MSlot.keep, hc, hx, ht, hopen, hseq, hsweep, hbseq, hpkg, htwin, hrow, hd, hmore]

end

/-- Settles O28: each point of a member and of a merge point by what its command does when due, early, and on work that is over. -/
theorem memberAndMergePoint : Obligations.MemberAndMergePoint := by
  unfold Obligations.MemberAndMergePoint
  refine ⟨fun s gsid seq twin m hm => ⟨fun hstage hdone hgrace => ?grace, fun hstage hearly => ?graceEarly,
      fun hstage hc hlive hobj => ?cutIdle, fun hstage hc htwin => ?cutTwin, fun hstage hearly => ?cutEarly,
      fun hstage hdue hin hfwd hincs hsnd htwin hpeer hexp => ?records, fun hstage hin => ?sendWaits,
      fun region group hstage hmine hnew hhanded hruns hgroup => ?region, fun hstage htwin hhears => ?cancel,
      fun hstage hlive hsnd htwin hhears => ?cancelIdle, fun hstage htwin hnone => ?cancelDone⟩,
    fun s gsid seq c hc hgsid hseq => ⟨fun t x tw b ht hb hpast hopen hslots hst hbackup htwin hexp => ?backup,
      fun t x b ht hb hpast hopen hslots hst hbackup htwin => ?noTwin, fun t b ht hb hearly => ?backupEarly,
      fun t ht hd hopen => ?deadline, fun t ht hd hopen horigin hmerge => ?deadlinePeer, fun t ht hearly => ?deadlineEarly,
      fun hdone => ?deadlineDone, fun m hhears hnone hmg t x ht hx => ?part⟩⟩
  case grace =>
    rw [exec_graceExpiry, execGraceExpiry_due hm hstage hdone hgrace]
    refine ⟨_, _, rfl, State.member_setMember hm rfl rfl rfl, rfl, List.length_map _, fun i p q hp hq => ?_⟩
    obtain rfl : s.graceFix { m with graceDone := true } p = q := by simpa [List.getElem?_map, hp] using hq
    exact s.graceFix_cases _ p
  case graceEarly => rw [exec_graceExpiry, execGraceExpiry_early hm hstage hearly]
  case cutIdle =>
    have hobj' : (s.setMember { m with stage := 2 }).obj m.tenant m.desc.object = none := hobj
    have hnoRun (u : State) : m.live.foldl State.cutRun u = u := by rw [hlive, List.foldl_nil]
    rw [exec_memberCutoff, execMemberCutoff_due hm hstage hc, hnoRun, State.moveQueue_noObject hobj', ite_self]
  case cutTwin => rw [exec_memberCutoff, execMemberCutoff_due hm hstage hc, if_pos htwin]
  case cutEarly => rw [exec_memberCutoff, execMemberCutoff_early hm hstage hearly]
  case records =>
    subst htwin
    have hexp' : (s.setMember { m with stage := 3 }).expelled = false := hexp
    rw [exec_memberRecordsSend, execMemberRecordsSend_plain hm hstage hdue hin hfwd hincs hsnd, State.sendRecs_peer _ _ _ _ _ hpeer hexp']
    refine ⟨_, rfl, State.member_setMember hm rfl rfl rfl, ?_⟩
    simp [List.zipIdx_map, MSweep.signed]
  case sendWaits => rw [exec_memberRecordsSend, execMemberRecordsSend_waits hm hstage hin]
  case region =>
    obtain ⟨hg, hq, htw⟩ := State.member_keys hm
    have hregions : (s.setMember (m.putPartial region.toNat group.toNat)).HasRegions m
        (m.putPartial region.toNat group.toNat).regionRecs :=
      ⟨_, by rw [hg, hq, htw]; exact State.member_setMember hm rfl rfl rfl, rfl⟩
    obtain ⟨y, hy, hrecs⟩ := State.finalScores_keeps_regions region.toNat group.toNat (m.partialOf region.toNat group.toNat) hregions
    rw [hg, hq, htw] at hy
    rw [exec_regionPartialMerge, execRegionPartialMerge_merged hm hstage hmine hnew hhanded hruns hgroup]
    exact ⟨_, y, rfl, hy, by rw [hrecs]; exact alGet_alPut_self _ _ _⟩
  case cancel =>
    subst htwin
    rw [exec_cancelMsg, execCancelMsg_twin hm hstage hhears]
  case cancelIdle =>
    subst htwin
    have hkeys : s.member m.gsid m.seq m.twin = some m := by
      obtain ⟨hg, hq, htw⟩ := State.member_keys hm
      rw [hg, hq, htw, hm]
    rw [exec_cancelMsg, execCancelMsg_twin hm hstage hhears, State.stopMember_idle hkeys hlive hsnd]
  case cancelDone =>
    subst htwin
    rw [exec_cancelMsg, execCancelMsg_done hm hnone hstage]
  case backup =>
    have hexp' : (s.setConvoy { c with slots := [{ x with backup := true }] }).expelled = false := hexp
    rw [exec_backupPoint, execBackupPoint_due hc hseq ht hb hpast hopen hslots hst hbackup, State.sendBackup_twin ht hslots htwin,
      State.send_peer _ hexp']
    exact ⟨_, rfl, hgsid ▸ s.convoy_setConvoy { c with slots := [{ x with backup := true }] }, rfl⟩
  case noTwin =>
    rw [exec_backupPoint, execBackupPoint_due hc hseq ht hb hpast hopen hslots hst hbackup, State.sendBackup_noTwin ht hslots htwin]
  case backupEarly => rw [exec_backupPoint, execBackupPoint_early hc ht hb hearly]
  case deadline => rw [exec_mergeDeadline, execMergeDeadline_due hc hseq ht hd hopen]
  case deadlinePeer =>
    obtain ⟨last, msg, hfinish⟩ := State.finish_peer (s := s) hopen horigin hmerge (c.slots.map (fun x => s.ledgerCount c x.pkg))
    rw [exec_mergeDeadline, execMergeDeadline_due hc hseq ht hd hopen, hfinish]
    refine ⟨_, rfl, ⟨c.done last, ?_, rfl⟩, by rw [State.sweeps_of_send]; rfl⟩
    rw [State.convoy_congr (State.sweeps_of_send _ _), ← hgsid]
    exact State.convoy_setConvoy _ (c.done last)
  case deadlineEarly => rw [exec_mergeDeadline, execMergeDeadline_early hc ht hearly]
  case deadlineDone => rw [exec_mergeDeadline, execMergeDeadline_finished hc hdone]
  case part =>
    have hc' : s.convoy m.gsid = some c := hmg ▸ hc
    rw [exec_part, execPart_lands hhears hnone]
    exact ⟨fun hdone => by rw [State.land_finished hc' ht hx hdone],
      fun hopen hmseq hsweep hbseq hpkg htwin hrow hd hmore => by
        rw [State.land_kept hc' ht hx hopen hmseq hsweep hbseq hpkg htwin hrow hd hmore, MSlot.keep]⟩

end Sys2Proof.Machine
end

section
/-! The register files of a core, and the issue of an instruction that is not carried out: skipped, reserved, past the image
(R79, R81, R103, R115; log entries 15 and 16). -/

namespace Sys2Proof.Machine

/-! ### Register files (R79) -/

@[simp] theorem Core.sGet_zero (x : Core) : x.sGet 0 = 0 := rfl
@[simp] theorem Core.pGet_zero (x : Core) : x.pGet 0 = true := rfl
@[simp] theorem Core.sPut_zero (x : Core) (v : W64) : x.sPut 0 v = x := rfl
@[simp] theorem Core.pPut_zero (x : Core) (b : Bool) : x.pPut 0 b = x := rfl

theorem Core.sGet_sPut (x : Core) (n m : Nat) (v : W64) : (x.sPut n v).sGet m = if n = m ∧ n ≠ 0 then v else x.sGet m := by
  by_cases hn : n = 0
  · simp [hn]
  · by_cases hnm : n = m
    · subst hnm; simp [Core.sPut, Core.sGet, hn]
    · simp [Core.sPut, Core.sGet, hn, hnm, alGetD_alPut_ne _ hnm]

theorem Core.pGet_pPut (x : Core) (n m : Nat) (b : Bool) : (x.pPut n b).pGet m = if n = m ∧ n ≠ 0 then b else x.pGet m := by
  by_cases hn : n = 0
  · simp [hn]
  · by_cases hnm : n = m
    · subst hnm; simp [Core.pPut, Core.pGet, hn]
    · simp [Core.pPut, Core.pGet, hn, hnm, alGetD_alPut_ne _ hnm]

/-- Settles O6: a read after a write, for each of the two files. -/
theorem hardwiredRegisters : Obligations.HardwiredRegisters := by
  unfold Obligations.HardwiredRegisters
  intro x n m v b
  exact ⟨rfl, rfl, rfl, rfl, x.sGet_sPut n m v, x.pGet_pPut n m b⟩

/-! ### Words that are not carried out (R81, R103, R115) -/

/-- Every core command issues its instruction: only the meaning it hands to the issue is its own. -/
theorem exec_coreCommand (o : CoreOp) (c : BitVec 12) (e : Bool) (n : BitVec 12) (u : Option AccUpset) :
    ∃ sem : Sem, ∀ s : State, exec (coreCommand o c e n u) s = .next (issue o sem c.toNat s) := by
  cases o <;> exact ⟨_, fun _ => rfl⟩

section
variable {s : State} {c : Nat} {r : Run} {o : CoreOp} {sem : Sem}

theorem issue_pastImage (hr : (s.core c).run = some r) (hrun : (s.core c).halt = .running) (hwait : r.wait = none)
    (hip : r.image.length ≤ r.ip) : issue o sem c s = s.raise c exIfetch (BitVec.ofNat 64 r.ip) := by
  simp [issue, hr, hrun, hwait, List.getElem?_eq_none hip]

theorem issue_reserved {w : W64} (hr : (s.core c).run = some r) (hrun : (s.core c).halt = .running) (hwait : r.wait = none)
    (hw : r.image[r.ip]? = some w) (hop : coreOp w = none) : issue o sem c s = s.raise c exIllegal w := by
  simp [issue, hr, hrun, hwait, hw, hop]

end

/-- Settles O8: the outcomes of one issue that do not ask what the instruction means. -/
theorem predicationAndFetch : Obligations.PredicationAndFetch := by
  unfold Obligations.PredicationAndFetch
  refine ⟨fun s c n e u x r o w hmay hgate hpred => ?_, fun s c n e u r o hr hrun hwait => ⟨fun hip => ?_, fun w hw hop => ?_⟩⟩
  all_goals obtain ⟨sem, hexec⟩ := exec_coreCommand o c e n u
  · have hsame : { r with gate := none } = r := by cases r; cases hgate; rfl
    rw [hexec, issue_skipped hmay hpred, hsame, ← hmay.run]
  · rw [hexec, issue_pastImage hr hrun hwait hip]
  · rw [hexec, issue_reserved hr hrun hwait hw hop]

end Sys2Proof.Machine
end

section
/-! Local loads and stores (R82, R86, R117, R124), and where they trap (R103, R422; log entries 17 and 36). -/

namespace Sys2Proof.Machine

/-! ### Bytes of a number (R8) -/

@[simp] theorem length_leBytes (n x : Nat) : (leBytes n x).length = n := by
  induction n generalizing x with
  | zero => rfl
  | succ n ih => simp [leBytes, ih]

theorem getElem?_leBytes {n i : Nat} (x : Nat) (h : i < n) : (leBytes n x)[i]? = some (BitVec.ofNat 8 (x / 256 ^ i)) := by
  induction n generalizing x i with
  | zero => exact absurd h (Nat.not_lt_zero i)
  | succ n ih =>
    cases i with
    | zero => simp [leBytes]
    | succ i => rw [leBytes, List.getElem?_cons_succ, ih (x / 256) (by omega), Nat.div_div_eq_div_mul, Nat.pow_succ']

/-- The bytes of a vector register as a store lays them out: lane 0 lowest, each lane with its least significant byte first. -/
def laneBytes (v : List F32) : List Byte := v.flatMap (fun lane => leBytes 4 lane.toNat)

theorem length_laneBytes (v : List F32) : (laneBytes v).length = 4 * v.length := by
  simp [laneBytes, List.length_flatMap, Nat.mul_comm]

theorem getElem?_laneBytes {v : List F32} {i : Nat} (h : i < 4 * v.length) :
    (laneBytes v)[i]? = some (BitVec.ofNat 8 ((nthD 0 v (i / 4)).toNat / 256 ^ (i % 4))) := by
  induction v generalizing i with
  | nil => exact absurd h (Nat.not_lt_zero i)
  | cons lane v ih =>
    rw [laneBytes, List.flatMap_cons]
    by_cases hi : i < 4
    · rw [List.getElem?_append_left (by simpa using hi), getElem?_leBytes _ hi, Nat.div_eq_of_lt hi, Nat.mod_eq_of_lt hi]
      rfl
    · obtain ⟨j, rfl⟩ := Nat.exists_eq_add_of_le' (Nat.not_lt.mp hi)
      rw [List.getElem?_append_right (by simp), length_leBytes, Nat.add_sub_cancel, Nat.add_div_right j (by decide), Nat.add_mod_right]
      exact ih (by simp at h; omega)

/-! ### Stores and what is read back -/

theorem storeOk_iff {a n : Nat} : storeOk a n = true ↔ 0x7500 ≤ a ∧ (a + n ≤ 0x10000 ∨ 0x10000 ≤ a ∧ a + n ≤ 0x18000) := by
  simp [storeOk, localOk]

theorem Core.writeLocal_frame (x : Core) (a : Nat) (bs : List Byte) :
    x.writeLocal a bs = { x with ls := (x.writeLocal a bs).ls, scratch := (x.writeLocal a bs).scratch } := by
  unfold Core.writeLocal; split <;> rfl

theorem Core.run_writeLocal (x : Core) (a : Nat) (bs : List Byte) : (x.writeLocal a bs).run = x.run := by rw [x.writeLocal_frame]

section
variable {x : Core} {a : Nat} {bs : List Byte}

theorem Core.memOk_wf (h : x.memOk = true) : Memory.wf x.ls = true ∧ Memory.wf x.scratch = true := by
  simp only [Core.memOk, Bool.and_eq_true] at h
  exact h.1

/-- After a store in the range a program may store to, the byte `i` places in reads as the `i`-th byte stored. -/
theorem Core.byteAt_writeLocal_inside {i : Nat} {b : Byte} (hmem : x.memOk = true) (hok : storeOk a bs.length = true) (hb : bs[i]? = some b) :
    (x.writeLocal a bs).byteAt (a + i) = b := by
  obtain ⟨hls, hscratch⟩ := Core.memOk_wf hmem
  obtain ⟨hlow, hrange⟩ := storeOk_iff.mp hok
  obtain ⟨hi, rfl⟩ := List.getElem?_eq_some_iff.mp hb
  have h1 : ¬ a + i < 0x2500 := by omega
  have h2 : ¬ a + i < 0x7500 := by omega
  by_cases ha : a < 0x10000
  · have h3 : a + i < 0x10000 := by omega
    simp only [Core.byteAt, Core.writeLocal, if_neg h1, if_neg h2, if_pos h3, if_pos ha]
    exact memRead_memWriteL_inside a bs i hls hi
  · have h3 : ¬ a + i < 0x10000 := by omega
    simp only [Core.byteAt, Core.writeLocal, if_neg h1, if_neg h2, if_neg h3, if_neg ha, Nat.sub_add_comm (Nat.not_lt.mp ha)]
    exact memRead_memWriteL_inside (a - 0x10000) bs i hscratch hi

/-- Every other byte a program can read at a local address stays. -/
theorem Core.byteAt_writeLocal_outside {y : Nat} (hmem : x.memOk = true) (hok : storeOk a bs.length = true)
    (hy : y < a ∨ a + bs.length ≤ y) : (x.writeLocal a bs).byteAt y = x.byteAt y := by
  obtain ⟨hls, hscratch⟩ := Core.memOk_wf hmem
  obtain ⟨hlow, hrange⟩ := storeOk_iff.mp hok
  unfold Core.writeLocal
  by_cases ha : a < 0x10000
  · simp only [if_pos ha, Core.byteAt, memRead_memWriteL_outside a bs y hls hy]
  · by_cases hhigh : y < 0x10000
    · simp only [if_neg ha, Core.byteAt, if_pos hhigh]
    · simp only [if_neg ha, Core.byteAt, memRead_memWriteL_outside (a - 0x10000) bs (y - 0x10000) hscratch (by omega)]

end

/-! ### The meanings of the loads and stores -/

section
variable {s : State} {c : Nat} {x : Core} {r : Run} {w : W64}

theorem semLd_loaded {n : Nat} (hok : localOk (localAddr x w) n = true) (hal : localAddr x w % n = 0) :
    semLd n false w c x r s = put c (x.sPut (dstF w) (BitVec.ofNat 64 (leNat (x.readLocal (localAddr x w) n)))) s := by
  simp [semLd, hok, hal]

theorem semSt_stored {n : Nat} (hok : storeOk (localAddr x w) n = true) (hal : localAddr x w % n = 0) :
    semSt n w c x r s = put c (x.writeLocal (localAddr x w) (leBytes n (x.sGet (srcB w)).toNat)) s := by
  simp [semSt, hok, hal]

theorem semVld_loaded (hok : localOk (localAddr x w) 128 = true) (hal : localAddr x w % 128 = 0) :
    semVld false w c x r s = put c (x.vPut (dstF w)
      ((List.range 32).map (fun i => BitVec.ofNat 32 (leNat (x.readLocal (localAddr x w + 4 * i) 4))))) s := by
  simp [semVld, hok, hal]

theorem semVst_stored (hok : storeOk (localAddr x w) 128 = true) (hal : localAddr x w % 128 = 0) :
    semVst w c x r s = put c (x.writeLocal (localAddr x w) (laneBytes (x.vGet (srcB w)))) s := by
  simp [semVst, hok, hal, laneBytes]

theorem Core.run_sPut (f : Nat) (v : W64) : (x.sPut f v).run = x.run := by
  unfold Core.sPut; split <;> rfl

/-- A completed store of given bytes: what it leaves, as the statements say it. -/
theorem issue_stored {o : CoreOp} {sem : Sem} {bs : List Byte} {n : Nat} {byte : Nat → Byte} (h : Issues s c x r o w)
    (hs : sem w c x r s = put c (x.writeLocal (localAddr x w) bs) s) (hmem : x.memOk = true)
    (hlen : bs.length = n) (hok : storeOk (localAddr x w) n = true) (hbyte : ∀ i < n, bs[i]? = some (byte i)) :
    ∃ y : Core, issue o sem c s = s.setCore c (issued y r (r.ip + 1)) ∧ y = { x with ls := y.ls, scratch := y.scratch } ∧
      (∀ i < n, y.byteAt (localAddr x w + i) = byte i) ∧
      (∀ a, a < localAddr x w ∨ localAddr x w + n ≤ a → y.byteAt a = x.byteAt a) := by
  subst hlen
  exact ⟨_, issue_put h hs ((x.run_writeLocal _ _).trans h.run), x.writeLocal_frame _ _,
    fun i hi => Core.byteAt_writeLocal_inside hmem hok (hbyte i hi), fun a ha => Core.byteAt_writeLocal_outside hmem hok ha⟩

/-- What a load or store of `n` bytes answers where it may not be performed: the range is tested first, then the alignment, then,
for a load, the word itself. -/
structure Traps (sem : Sem) (w : W64) (c : Nat) (x : Core) (r : Run) (s : State) (inRange : Bool) (n : Nat) (uncorrectable : Bool) : Prop where
  outside : inRange = false → sem w c x r s = .exc exStore (BitVec.ofNat 64 (localAddr x w))
  misaligned : inRange = true → localAddr x w % n ≠ 0 → sem w c x r s = .exc exMisaligned (BitVec.ofNat 64 (localAddr x w))
  uncorr : inRange = true → localAddr x w % n = 0 → uncorrectable = true → sem w c x r s = .exc exMemUncorr (BitVec.ofNat 64 (localAddr x w))

theorem Traps.exec_eq {o : CoreOp} {sem : Sem} {i : Instr} {n : Nat} {ok unc : Bool} (ht : Traps sem w c x r s ok n unc)
    (h : Issues s c x r o w) (hi : exec i s = .next (issue o sem c s)) :
    (ok = false → exec i s = .next (s.raise c exStore (BitVec.ofNat 64 (localAddr x w)))) ∧
    (ok = true → localAddr x w % n ≠ 0 → exec i s = .next (s.raise c exMisaligned (BitVec.ofNat 64 (localAddr x w)))) ∧
    (ok = true → localAddr x w % n = 0 → unc = true → exec i s = .next (s.raise c exMemUncorr (BitVec.ofNat 64 (localAddr x w)))) := by
  rw [hi]
  exact ⟨fun hr => by rw [issue_exc h (ht.outside hr)], fun hr ha => by rw [issue_exc h (ht.misaligned hr ha)],
    fun hr ha hu => by rw [issue_exc h (ht.uncorr hr ha hu)]⟩

theorem Traps.exec_eq_store {o : CoreOp} {sem : Sem} {i : Instr} {n : Nat} {ok unc : Bool} (ht : Traps sem w c x r s ok n unc)
    (h : Issues s c x r o w) (hi : exec i s = .next (issue o sem c s)) :
    (ok = false → exec i s = .next (s.raise c exStore (BitVec.ofNat 64 (localAddr x w)))) ∧
    (ok = true → localAddr x w % n ≠ 0 → exec i s = .next (s.raise c exMisaligned (BitVec.ofNat 64 (localAddr x w)))) :=
  (ht.exec_eq h hi).imp_right And.left

theorem semLd_traps (n : Nat) (e : Bool) : Traps (semLd n e) w c x r s (localOk (localAddr x w) n) n e :=
  ⟨fun hr => by simp [semLd, hr], fun hr ha => by simp [semLd, hr, ha], fun hr ha he => by simp [semLd, hr, ha, he]⟩

theorem semVld_traps (e : Bool) : Traps (semVld e) w c x r s (localOk (localAddr x w) 128) 128 e :=
  ⟨fun hr => by simp [semVld, hr], fun hr ha => by simp [semVld, hr, ha], fun hr ha he => by simp [semVld, hr, ha, he]⟩

theorem semSt_traps (n : Nat) : Traps (semSt n) w c x r s (storeOk (localAddr x w) n) n false :=
  ⟨fun hr => by simp [semSt, hr], fun hr ha => by simp [semSt, hr, ha], nofun⟩
theorem semVst_traps : Traps semVst w c x r s (storeOk (localAddr x w) 128) 128 false :=
  ⟨fun hr => by simp [semVst, hr], fun hr ha => by simp [semVst, hr, ha], nofun⟩

end

/-- Settles O10: the four loads and the four stores by their width, the vector forms by their lanes, and the traps of all ten at once. -/
theorem localAccess : Obligations.LocalAccess := by
  unfold Obligations.LocalAccess
  refine ⟨fun s c x r w => ⟨?loads, ?vld⟩, fun s c x r w hmem => ⟨?stores, ?vst⟩, fun s c x r w e => ⟨?loadTraps, ?storeTraps⟩⟩
  case loads =>
    have hload {o : CoreOp} {n : Nat} (h : Issues s c.toNat x r o w) (hok : localOk (localAddr x w) n = true)
        (hal : localAddr x w % n = 0) :=
      issue_put h (semLd_loaded hok hal) ((x.run_sPut _ _).trans h.run)
    simp only [List.mem_cons, List.not_mem_nil, or_false]
    rintro i (rfl | rfl | rfl | rfl) <;> exact fun h hok hal => congrArg _ (hload h hok hal)
  case vld => exact fun h hok hal => congrArg _ (issue_put h (semVld_loaded hok hal) h.run)
  case stores =>
    have hstore {o : CoreOp} {n : Nat} (h : Issues s c.toNat x r o w) (hok : storeOk (localAddr x w) n = true)
        (hal : localAddr x w % n = 0) :=
      issue_stored h (semSt_stored hok hal) hmem (length_leBytes n _) hok (fun i hi => getElem?_leBytes _ hi)
    simp only [List.mem_cons, List.not_mem_nil, or_false]
    rintro i (rfl | rfl | rfl | rfl) <;> exact fun h hok hal =>
      (hstore h hok hal).imp fun y ⟨hissue, hrest⟩ => ⟨congrArg _ hissue, hrest⟩
  case vst =>
    intro h hok hal
    have hlanes : (x.vGet (srcB w)).length = 32 := by simp [Core.vGet, padTo]
    obtain ⟨y, hissue, hrest⟩ := issue_stored h (semVst_stored hok hal) hmem (by rw [length_laneBytes, hlanes]) hok
      (fun i hi => getElem?_laneBytes (by omega))
    exact ⟨y, congrArg _ hissue, hrest⟩
  case loadTraps =>
    simp only [List.mem_cons, List.not_mem_nil, or_false]
    rintro i (rfl | rfl | rfl | rfl | rfl) h
    case inr.inr.inr.inr => exact (semVld_traps e).exec_eq h rfl
    all_goals exact (semLd_traps _ e).exec_eq h rfl
  case storeTraps =>
    simp only [List.mem_cons, List.not_mem_nil, or_false]
    rintro i (rfl | rfl | rfl | rfl | rfl) h
    case inr.inr.inr.inr => exact semVst_traps.exec_eq_store h rfl
    all_goals exact (semSt_traps _).exec_eq_store h rfl

end Sys2Proof.Machine
end

section
/-! Hold sequences (R99, R100, R147), and the operation on a chamber that a closed hold makes visible (R261, R262). -/

namespace Sys2Proof.Machine

/-! ### An operation on a chamber nobody waits for -/

theorem State.core_congr {s t : State} (h : t.fab = s.fab) (c : Nat) : t.core c = s.core c := by
  unfold State.core; rw [h]

theorem State.chamber_congr {s t : State} (h : t.fab = s.fab) (ch : Nat) : t.chamber ch = s.chamber ch := by
  unfold State.chamber; rw [h]

@[simp] theorem State.fab_of_send (s : State) (m : OutMsg) : (s.send m).fab = s.fab := by
  unfold State.send; split <;> rfl

@[simp] theorem State.fab_of_raiseMsix (s : State) (v : Nat) : (s.raiseMsix v).fab = s.fab := by
  unfold State.raiseMsix; split <;> simp

/-- An operation changes counter, threshold and FIRED only. -/
theorem Chamber.apply_frame (k : Chamber) (op : ChOp) :
    k.apply op = { k with counter := (k.apply op).counter, threshold := (k.apply op).threshold, fired := (k.apply op).fired } := by
  unfold Chamber.apply
  cases op <;> dsimp only <;> (repeat' split) <;> rfl

theorem Chamber.waiters_apply (k : Chamber) (op : ChOp) : (k.apply op).waiters = k.waiters := by rw [k.apply_frame]
theorem Chamber.deferred_apply (k : Chamber) (op : ChOp) : (k.apply op).deferred = k.deferred := by rw [k.apply_frame]

theorem State.wakeAll_idle {s : State} {ch : Nat} (h : (s.chamber ch).waiters = []) : s.wakeAll ch = s.setChamber ch (s.chamber ch) := by
  have hsame : { s.chamber ch with waiters := [] } = s.chamber ch := by rw [← h]
  simp [State.wakeAll, h, hsame]

theorem State.fab_chEffect_idle {s : State} {ch : Nat} (op : ChOp) (h : (s.chamber ch).waiters = []) :
    (s.chEffect ch op).fab = (s.setChamber ch ((s.chamber ch).apply op)).fab := by
  have hidle : ((s.setChamber ch ((s.chamber ch).apply op)).chamber ch).waiters = [] := by simp [Chamber.waiters_apply, h]
  unfold State.chEffect
  dsimp only
  split
  · have hfab := (s.setChamber ch ((s.chamber ch).apply op)).fab_of_raiseMsix (s.chamber ch).vector
    rw [State.wakeAll_idle (by rw [State.chamber_congr hfab]; exact hidle), State.chamber_congr hfab, State.setChamber, hfab]
    simp [State.setChamber, State.chamber]
  · rw [State.wakeAll_idle hidle]
    simp

theorem State.chDrain_idle {s : State} {ch : Nat} (h : (s.chamber ch).deferred = []) : s.chDrain ch = s.setChamber ch (s.chamber ch) := by
  have hsame : { s.chamber ch with deferred := [] } = s.chamber ch := by rw [← h]
  simp [State.chDrain, h, hsame]

/-! ### hold.begin and hold.end -/

/-- Two cores that differ in their run at most are the same once an instruction has issued with a given run. -/
theorem issued_withRun (x : Core) (q : Option Run) (r : Run) (ip : Nat) : issued { x with run := q } r ip = issued x r ip := rfl

section
variable {s : State} {c : Nat} {x : Core} {r : Run} {w : W64}

/-- What a hold opened now keeps: what a restart brings back. -/
def State.newHold (s : State) (x : Core) (r : Run) : Hold :=
  { age := s.fab.holdAge, ip := r.ip, s := x.s, p := x.p, ls := x.ls, scratch := x.scratch }

theorem issue_holdBegin (h : Issues s c x r .holdBegin w) (hnone : r.hold = none) :
    issue .holdBegin semHoldBegin c s = ({ s with fab := { s.fab with holdAge := s.fab.holdAge + 1 } } : State).setCore c
      (issued x { r with hold := some (s.newHold x r) } (r.ip + 1)) := by
  have hsem : semHoldBegin w c x r s = .done (({ s with fab := { s.fab with holdAge := s.fab.holdAge + 1 } } : State).setCore c
      { x with run := some { r with hold := some (s.newHold x r) } }) := by
    simp only [semHoldBegin, hnone]; rfl
  rw [issue_done h hsem (State.core_setCore ..) rfl, State.setCore_setCore, issued_withRun]

theorem issue_holdBegin_second (h : Issues s c x r .holdBegin w) (hopen : r.hold ≠ none) :
    issue .holdBegin semHoldBegin c s = s.raise c exHold w := by
  obtain ⟨q, hq⟩ := Option.ne_none_iff_exists'.mp hopen
  exact issue_exc h (by simp only [semHoldBegin, hq])

theorem issue_holdEnd_outside (h : Issues s c x r .holdEnd w) (hnone : r.hold = none) :
    issue .holdEnd semHoldEnd c s = s.raise c exHold w :=
  issue_exc h (by simp only [semHoldEnd, hnone])

theorem issue_holdEnd_plain {q : Hold} (h : Issues s c x r .holdEnd w) (hq : r.hold = some q) (hops : q.ops = []) (hlocks : q.locks = []) :
    issue .holdEnd semHoldEnd c s = s.setCore c (issued x { r with hold := none } (r.ip + 1)) := by
  have hsem : semHoldEnd w c x r s = put c { x with run := some { r with hold := none } } s := by
    simp [semHoldEnd, put, State.unlock, hq, hops, hlocks]
  rw [issue_put h hsem rfl, issued_withRun]

theorem issue_holdEnd_chamber {q : Hold} {ch : Nat} {op : ChOp} (h : Issues s c x r .holdEnd w) (hq : r.hold = some q)
    (hops : q.ops = [(ch, op)]) (hlocks : q.locks = [ch]) (hwaiters : (s.chamber ch).waiters = [])
    (hdeferred : (s.chamber ch).deferred = []) :
    (issue .holdEnd semHoldEnd c s).chamber ch = (s.chamber ch).apply op ∧
      (issue .holdEnd semHoldEnd c s).core c = issued x { r with hold := none } (r.ip + 1) := by
  let u := s.setCore c { x with run := some { r with hold := none } }
  have hfab : (u.chEffect ch op).fab = (u.setChamber ch ((s.chamber ch).apply op)).fab := State.fab_chEffect_idle op hwaiters
  have hchamber : (u.chEffect ch op).chamber ch = (s.chamber ch).apply op := by
    rw [State.chamber_congr hfab, State.chamber_setChamber]
  have hcore : (u.chEffect ch op).core c = { x with run := some { r with hold := none } } := by
    rw [State.core_congr hfab, State.core_of_setChamber]; exact s.core_setCore c _
  have hsem : semHoldEnd w c x r s = .done ((u.chEffect ch op).setChamber ch ((s.chamber ch).apply op)) := by
    simp only [semHoldEnd, State.unlock, hq, hops, hlocks, List.foldl_cons, List.foldl_nil]
    rw [State.chDrain_idle (by rw [hchamber, Chamber.deferred_apply]; exact hdeferred), hchamber]
  rw [issue_done h hsem ((State.core_of_setChamber ..).trans hcore) rfl, issued_withRun]
  exact ⟨by rw [State.chamber_of_setCore, State.chamber_setChamber], State.core_setCore ..⟩

end

/-- Settles O12: each of the two instructions by whether a hold is open. -/
theorem holdSequence : Obligations.HoldSequence := by
  unfold Obligations.HoldSequence
  intro s c x r w
  simp only [exec_holdBegin, exec_holdEnd, execHoldBegin, execHoldEnd]
  refine ⟨fun h hnone => ?_, fun h hopen => ?_, fun h hnone => ?_, fun h q hq hops hlocks => ?_,
    fun h q ch op hq hops hlocks hwaiters hdeferred => ⟨_, rfl, issue_holdEnd_chamber h hq hops hlocks hwaiters hdeferred⟩⟩
  · rw [issue_holdBegin h hnone, State.newHold]
  · rw [issue_holdBegin_second h hopen]
  · rw [issue_holdEnd_outside h hnone]
  · rw [issue_holdEnd_plain h hq hops hlocks]

end Sys2Proof.Machine
end

section
/-! An exception taken (R103 to R105): the run ended, and the record at the tail of the basin's exception log. -/

namespace Sys2Proof.Machine

/-! ### What the end of a run leaves of the basins -/

theorem State.foldl_keeps {α β : Type} {g : State → β} {f : State → α → State} (h : ∀ s x, g (f s x) = g s) (l : List α) (s : State) :
    g (l.foldl f s) = g s := by
  induction l generalizing s with
  | nil => rfl
  | cons x l ih => rw [List.foldl_cons, ih, h]

@[simp] theorem State.host_of_send (s : State) (m : OutMsg) : (s.send m).host = s.host := by
  unfold State.send; split <;> rfl

@[simp] theorem State.host_of_raiseMsix (s : State) (v : Nat) : (s.raiseMsix v).host = s.host := by
  unfold State.raiseMsix; split <;> simp

@[simp] theorem State.host_of_wake (s : State) (src : WaitSrc) (ok : Bool) : (s.wake src ok).host = s.host := by
  unfold State.wake; dsimp only; (repeat' split) <;> rfl

@[simp] theorem State.host_of_wakeAll (s : State) (ch : Nat) : (s.wakeAll ch).host = s.host :=
  State.foldl_keeps (g := State.host) (f := fun t (w : Waiter) => t.wake w.src true) (fun t w => t.host_of_wake w.src true) _ _

@[simp] theorem State.host_of_chEffect (s : State) (ch : Nat) (op : ChOp) : (s.chEffect ch op).host = s.host := by
  unfold State.chEffect; dsimp only; split <;> simp

@[simp] theorem State.host_of_chRemote (s : State) (ch : Nat) (op : ChOp) : (s.chRemote ch op).host = s.host := by
  unfold State.chRemote; split <;> simp

@[simp] theorem State.host_of_chDrain (s : State) (ch : Nat) : (s.chDrain ch).host = s.host :=
  State.foldl_keeps (fun s op => s.host_of_chRemote ch op) _ _

@[simp] theorem State.host_of_unlock (s : State) (chs : List Nat) : (s.unlock chs).host = s.host :=
  State.foldl_keeps State.host_of_chDrain _ _

@[simp] theorem State.host_of_modMember (s : State) (r : Run) (f : MSweep → MSweep) : (s.modMember r f).host = s.host := by
  unfold State.modMember; split <;> rfl

@[simp] theorem State.host_of_clearRun (s : State) (c : Nat) : (s.clearRun c).host = s.host := by
  unfold State.clearRun; dsimp only; (repeat' split) <;> simp [State.dropBays]

theorem State.basin_congr {s t : State} (h : t.host = s.host) (b : Nat) : t.basin b = s.basin b := by
  unfold State.basin; rw [h]

/-! ### A core without a run stays without one -/

theorem State.idle_wake {s : State} {c : Nat} (src : WaitSrc) (ok : Bool) (h : (s.core c).run = none) :
    ((s.wake src ok).core c).run = none := by
  cases src with
  | core c' =>
    by_cases hc : c' = c
    · subst hc; simp [State.wake, h]
    · simp only [State.wake]
      (repeat' split) <;> simp [State.core_setCore_ne _ _ _ hc, h]
  | wr n => exact h

theorem State.idle_wakeAll {s : State} {c : Nat} (ch : Nat) (h : (s.core c).run = none) : ((s.wakeAll ch).core c).run = none :=
  List.foldlRecOn _ _ (motive := fun t : State => (t.core c).run = none) h fun _ ht w _ => State.idle_wake w.src true ht

theorem State.idle_chEffect {s : State} {c : Nat} (ch : Nat) (op : ChOp) (h : (s.core c).run = none) :
    ((s.chEffect ch op).core c).run = none := by
  unfold State.chEffect
  dsimp only
  split
  · exact State.idle_wakeAll ch (by rw [State.core_congr (State.fab_of_raiseMsix _ _)]; exact h)
  · exact State.idle_wakeAll ch h

theorem State.idle_chRemote {s : State} {c : Nat} (ch : Nat) (op : ChOp) (h : (s.core c).run = none) :
    ((s.chRemote ch op).core c).run = none := by
  unfold State.chRemote
  split
  · exact h
  · exact State.idle_chEffect ch op h

theorem State.idle_chDrain {s : State} {c : Nat} (ch : Nat) (h : (s.core c).run = none) : ((s.chDrain ch).core c).run = none :=
  List.foldlRecOn _ _ (motive := fun t : State => (t.core c).run = none) h fun _ ht op _ => State.idle_chRemote ch op ht

theorem State.idle_unlock {s : State} {c : Nat} (chs : List Nat) (h : (s.core c).run = none) : ((s.unlock chs).core c).run = none :=
  List.foldlRecOn _ _ (motive := fun t : State => (t.core c).run = none) h fun _ ht ch _ => State.idle_chDrain ch ht

@[simp] theorem State.core_of_modMember (s : State) (r : Run) (f : MSweep → MSweep) (c : Nat) : (s.modMember r f).core c = s.core c := by
  unfold State.modMember; split <;> rfl

/-- The run taken off a core is off it. -/
theorem State.idle_clearRun (s : State) (c : Nat) : ((s.clearRun c).core c).run = none := by
  unfold State.clearRun
  dsimp only
  split
  · assumption
  · refine State.idle_unlock _ ?_
    rw [State.core_of_modMember]
    split <;> simp [State.dropBays]

/-! ### Events of the part leave the exception logs (R343, R435) -/

@[simp] theorem logPut_host (s : State) (hostBase at_ : Nat) (q : LogRing) (rec32 : List Byte) : (logPut s hostBase at_ q rec32).1.host = s.host := by
  unfold logPut; split <;> rfl

@[simp] theorem logPut_fab (s : State) (hostBase at_ : Nat) (q : LogRing) (rec32 : List Byte) : (logPut s hostBase at_ q rec32).1.fab = s.fab := by
  unfold logPut; split <;> rfl

theorem State.event_exc (s : State) (b' : Nat) (rec32 : List Byte) (b : Nat) : ((s.event b' rec32).basin b).exc = (s.basin b).exc := by
  have hput (q : LogRing) :
      (((logPut s (s.basin b').hostBase 0x10000 (s.basin b').evt rec32).1.setBasin b' { s.basin b' with evt := q }).basin b).exc =
      (s.basin b).exc := by
    by_cases hb : b' = b
    · subst hb; simp
    · rw [State.basin_setBasin_ne _ _ _ hb, State.basin_congr (logPut_host ..)]
  unfold State.event
  dsimp only
  split
  · rw [State.basin_congr (State.host_of_raiseMsix _ _), hput]
  · exact hput _

@[simp] theorem State.event_fab (s : State) (b : Nat) (rec32 : List Byte) : (s.event b rec32).fab = s.fab := by
  unfold State.event; dsimp only; split <;> simp

@[simp] theorem State.unitEvent_exc (s : State) (code unit b : Nat) : ((s.unitEvent code unit).basin b).exc = (s.basin b).exc :=
  s.drawn.event_exc ..

@[simp] theorem State.unitEvent_fab (s : State) (code unit : Nat) : (s.unitEvent code unit).fab = s.fab := s.drawn.event_fab ..

/-- The count of uncorrectable words, and the spare core it may bring in, leave the exception logs and the cores' runs (R425). -/
theorem State.noteUncorr_leaves (s : State) (c b c' : Nat) :
    ((s.noteUncorr c).basin b).exc = (s.basin b).exc ∧ (s.noteUncorr c).core c' = s.core c' := by
  have hcore (t : State) (code unit : Nat) : (t.unitEvent code unit).core c' = t.core c' := State.core_congr (t.unitEvent_fab code unit) c'
  unfold State.noteUncorr State.spareSettle
  dsimp only
  (repeat' split) <;> simp [hcore]

/-! ### The exception log (R105, R327, R343) -/

theorem State.excLog_room {s : State} {b : Nat} (rec32 : List Byte) (h : ((s.basin b).exc.tail + 1) % 1024 ≠ (s.basin b).exc.head) :
    s.excLog b rec32 = (s.setDram (memWriteL s.dram ((s.basin b).hostBase * 0x14000 + 0x18000 + 32 * (s.basin b).exc.tail) rec32)).setBasin b
      { s.basin b with exc := { (s.basin b).exc with tail := ((s.basin b).exc.tail + 1) % 1024 } } := by
  simp only [State.excLog, logPut, if_neg h]

theorem State.excLog_full {s : State} {b : Nat} (rec32 : List Byte) (h : ((s.basin b).exc.tail + 1) % 1024 = (s.basin b).exc.head) :
    s.excLog b rec32 = s.setBasin b { s.basin b with exc := { (s.basin b).exc with lost := satAdd 16 (s.basin b).exc.lost 1 } } := by
  simp only [State.excLog, logPut, if_pos h]

theorem memReadN_eq {m : Memory} {a : Nat} {bs : List Byte} (h : ∀ i (hi : i < bs.length), memRead m (a + i) = bs[i]) :
    memReadN m a bs.length = bs := by
  induction bs generalizing a with
  | nil => rfl
  | cons b bs ih =>
    have hrest : ∀ i (hi : i < bs.length), memRead m (a + 1 + i) = bs[i] := fun i hi => by
      rw [Nat.add_assoc, Nat.add_comm 1 i]
      exact h (i + 1) (Nat.succ_lt_succ hi)
    rw [List.length_cons, memReadN, ih hrest]
    exact congrArg (· :: bs) (h 0 (Nat.succ_pos _))

/-- Bytes written are read back. -/
theorem memReadN_memWriteL {m : Memory} (h : Memory.wf m = true) (a : Nat) (bs : List Byte) : memReadN (memWriteL m a bs) a bs.length = bs :=
  memReadN_eq fun i hi => memRead_memWriteL_inside a bs i h hi

/-- A record put while the log has room is read back from the place of the tail. -/
theorem State.excLog_recorded {s : State} {b n : Nat} {rec32 : List Byte} (hwf : Memory.wf s.dram = true)
    (h : ((s.basin b).exc.tail + 1) % 1024 ≠ (s.basin b).exc.head) (hlen : rec32.length = n) :
    memReadN (s.excLog b rec32).dram ((s.basin b).hostBase * 0x14000 + 0x18000 + 32 * (s.basin b).exc.tail) n = rec32 := by
  rw [State.excLog_room _ h, State.setBasin_dram, State.setDram_dram, ← hlen, memReadN_memWriteL hwf]

theorem length_excRec (code core sweep group prog attempt ip time : Nat) (detail : W64) :
    (excRec code core sweep group prog attempt ip time detail).length = 32 := rfl

/-! ### The exception -/

section
variable {s : State} {c b : Nat} {r : Run}

/-- The record of an exception of a run (R105): a replacement's attempt is the second. -/
def State.excOf (s : State) (c code : Nat) (d : W64) (r : Run) : List Byte :=
  excRec code c r.gsid r.group r.prog (if r.kind = .replacement then 2 else 1) r.ip s.now d

/-- The state once an exception is logged, the run ended and its berths dealt with; an uncorrectable word is counted besides. -/
def State.stopped (s : State) (c b code : Nat) (d : W64) (r : Run) : State :=
  ((s.excLog b (s.excOf c code d r)).clearRun c).modMember r (fun m => m.afterFail c r s.now code)

theorem State.raise_eq (code : Nat) (d : W64) (hr : (s.core c).run = some r) (hb : s.basinOf c = some b) :
    s.raise c code d = if code = exMemUncorr then (s.stopped c b code d r).noteUncorr c else s.stopped c b code d r := by
  simp [State.raise, State.stopped, State.excOf, hr, hb]

/-- Of what an exception does, its run's end and the log it wrote are what count; nothing later in it touches them. -/
theorem State.raise_effect (code : Nat) (d : W64) (hr : (s.core c).run = some r) (hb : s.basinOf c = some b) :
    ((s.raise c code d).core c).run = none ∧
    ((s.raise c code d).basin b).exc = ((s.excLog b (s.excOf c code d r)).basin b).exc ∧
    (code ≠ exMemUncorr → (s.raise c code d).dram = (s.excLog b (s.excOf c code d r)).dram) := by
  have hidle : ((s.stopped c b code d r).core c).run = none := by
    rw [State.stopped, State.core_of_modMember]; exact State.idle_clearRun _ c
  have hexc : ((s.stopped c b code d r).basin b).exc = ((s.excLog b (s.excOf c code d r)).basin b).exc := by
    rw [State.stopped, State.basin_congr (State.host_of_modMember _ _ _), State.basin_congr (State.host_of_clearRun _ _)]
  rw [State.raise_eq code d hr hb]
  split
  · next hcode =>
    obtain ⟨hbasin, hcore⟩ := (s.stopped c b code d r).noteUncorr_leaves c b c
    exact ⟨by rw [hcore]; exact hidle, hbasin.trans hexc, fun hne => absurd hcode hne⟩
  · exact ⟨hidle, hexc, fun _ => by simp [State.stopped]⟩

end

/-- Settles O9: the exception's record, by whether the log has room. -/
theorem exceptionTaken : Obligations.ExceptionTaken := by
  unfold Obligations.ExceptionTaken
  intro s c code d r b hr hb att bs
  obtain ⟨hidle, hexc, hdram⟩ := State.raise_effect code d hr hb
  refine ⟨hidle, fun hroom => ⟨?_, fun hwf _ hcode => ?_⟩, fun hfull => ?_⟩
  · rw [hexc, State.excLog_room _ hroom, State.basin_setBasin]
  · rw [hdram hcode]
    exact State.excLog_recorded hwf hroom (length_excRec ..)
  · rw [hexc, State.excLog_full _ hfull, State.basin_setBasin]
    exact ⟨rfl, rfl⟩

end Sys2Proof.Machine
end

section
/-! Tickets taken and handed back, and the manifest latch (R87 to R91, R127, R128; log entry 42). -/

namespace Sys2Proof.Machine

section
variable {s : State} {c : Nat} {x : Core} {r : Run} {w : W64} {m : MSweep}

/-! ### What an issued instruction leaves of its core -/

theorem run_issued (x : Core) (r : Run) (ip : Nat) : (issued x r ip).run =
    some { r with ip := ip, steps := r.steps + 1, hold := r.hold.map (fun h => { h with count := h.count + 1 }) } := by
  unfold issued; dsimp only; split <;> rfl

theorem pGet_issued (x : Core) (r : Run) (ip n : Nat) : (issued x r ip).pGet n = x.pGet n := by
  unfold issued; dsimp only; split <;> rfl

theorem issued_sPut_withRun (x : Core) (n : Nat) (v : W64) (q : Option Run) (r : Run) (ip : Nat) :
    issued { x.sPut n v with run := q } r ip = issued (x.sPut n v) r ip := rfl

/-! ### The next ticket (R87 to R89, R128) -/

/-- A ticket as it is taken: COUNT captured from the page table. -/
def Ticket.taken (t : Ticket) (p : Pte) : Ticket := { t with count := p.count }

theorem issue_manNext_taken {t : Ticket} {rest : List Ticket} {p : Pte} (h : Issues s c x r .tldManNext w) (hm : s.memberOf r = some m)
    (hq : r.queue = t :: rest) (hheld : r.held.length < 2) (htwin : r.twin = false) (hp : s.pte (m.key t.berth) = some p) :
    issue .tldManNext semManNext c s =
      (s.setMember (m.modBerth t.berth (fun b => { b with started := b.started ++ [r.group], count := p.count }))).setCore c
        (issued (x.sPut (dstF w) (ticketWord (t.taken p))) { r with queue := rest, held := r.held ++ [t.taken p] } (r.ip + 1)) := by
  have hsem : semManNext w c x r s = .done ((s.setMember (m.modBerth t.berth (fun b =>
      { b with started := b.started ++ [r.group], count := p.count }))).setCore c
        { x.sPut (dstF w) (ticketWord (t.taken p)) with run := some { r with queue := rest, held := r.held ++ [t.taken p] } }) := by
    simp [semManNext, hm, hq, htwin, hp, Nat.not_le.mpr hheld, Ticket.taken]
  rw [issue_done h hsem (State.core_setCore ..) rfl, State.setCore_setCore, issued_sPut_withRun]

theorem semManNext_twoHeld {t : Ticket} {rest : List Ticket} (hm : s.memberOf r = some m) (hq : r.queue = t :: rest)
    (hheld : 2 ≤ r.held.length) : semManNext w c x r s = .exc exTicket (ticketWord t) := by
  simp [semManNext, hm, hq, hheld]

theorem semManNext_end (hm : s.memberOf r = some m) (hq : r.queue = []) (hmore : moreToCome c r m = false) :
    semManNext w c x r s = put c { x.sPut (dstF w) (ticketWord { berth := 0, first := 0, mode := 5 }) with
      run := some { r with endTaken := true } } s := by
  simp [semManNext, hm, hq, hmore]

theorem semManNext_waits (hm : s.memberOf r = some m) (hq : r.queue = []) (hmore : moreToCome c r m = true) :
    semManNext w c x r s = .stay := by
  simp [semManNext, hm, hq, hmore]

/-! ### The manifest latch (R127) -/

/-- `tld.man` writes the latch and nothing else, where its ticket is END or names a berth that is found. -/
theorem issue_tldMan_latched {l : Option Latch} (h : Issues s c x r .tldMan w)
    (hs : semTldMan w c x r s = put c { x with run := some { r with latch := l } } s) :
    issue .tldMan semTldMan c s = s.setCore c (issued x { r with latch := l } (r.ip + 1)) := by
  rw [issue_put h hs rfl, issued_withRun]

theorem semTldMan_end (hm : s.memberOf r = some m) (hform : imm w / 4 % 2 = 0) (hend : fld (x.sGet (srcA w)) 41 3 = 5) :
    semTldMan w c x r s = put c { x with run := some { r with latch := none } } s := by
  simp [semTldMan, hm, hform, hend]

theorem semTldMan_found {v : BerthView} (hm : s.memberOf r = some m) (hform : imm w / 4 % 2 = 0) (hend : fld (x.sGet (srcA w)) 41 3 ≠ 5)
    (hv : s.findTicket c r m (x.sGet (srcA w)) = .view v) :
    semTldMan w c x r s = put c { x with run := some { r with latch := some ⟨v.berth, v.mode, v.first, v.count, v.man⟩ } } s := by
  simp [semTldMan, hm, hform, hend, hv]

theorem semTldMan_notHeld (hm : s.memberOf r = some m) (hform : imm w / 4 % 2 = 0) (hend : fld (x.sGet (srcA w)) 41 3 ≠ 5)
    (ht : r.ticket (x.sGet (srcA w)) = none) : semTldMan w c x r s = .exc exStore (x.sGet (srcA w)) := by
  simp [semTldMan, State.findTicket, hm, hform, hend, ht]

theorem State.findTicket_exact {a : W64} {t : Ticket} {y : Bay} (ht : r.ticket a = some t) (hmode : t.mode = 0) (hy : s.bayOf c t = some y) :
    s.findTicket c r m a = .view ⟨t.berth, t.first, t.count, 0, y.payload, some y.man⟩ := by
  simp [State.findTicket, ht, hmode, hy]

theorem State.findTicket_other {a : W64} {t : Ticket} (ht : r.ticket a = some t) (hmode : t.mode ≠ 0) :
    s.findTicket c r m a = .view ⟨t.berth, t.first, t.count, t.mode, [], if t.mode = 4 then none else (m.berth? t.berth).bind (·.man)⟩ := by
  simp [State.findTicket, ht, hmode]

/-! ### Tickets handed back (R91, R128) -/

/-- The run once a ticket is handed back: the ticket and its berth are no longer its own, its berth-local state starts anew. -/
def Run.without (r : Run) (t : Ticket) : Run :=
  { r with bl := {}, handed := r.handed.filter (fun b => decide (b ≠ t.berth)), held := r.held.filter (fun h => decide (h.berth ≠ t.berth)) }

theorem Run.held_without {t h : Ticket} (hh : h ∈ (r.without t).held) : h.berth ≠ t.berth := by
  simpa using (List.mem_filter.mp hh).2

/-- The core once its run hands a ticket back: the predicate is 1. -/
def Core.handsBack (x : Core) (r : Run) (w : W64) (t : Ticket) : Core :=
  { (x.resetLocal (srcB w) (vlF .tldManRequeue w)).pPut (dstF w) true with run := some (r.without t) }

theorem Core.run_handsBack (t : Ticket) : (x.handsBack r w t).run = some (r.without t) := rfl

theorem Core.pGet_handsBack (t : Ticket) (h : 0 < dstF w) : (x.handsBack r w t).pGet (dstF w) = true := by
  have hne : dstF w ≠ 0 := by omega
  show ((x.resetLocal (srcB w) (vlF .tldManRequeue w)).pPut (dstF w) true).pGet (dstF w) = true
  rw [Core.pGet_pPut, if_pos ⟨rfl, hne⟩]

theorem Core.resetLocal_run (x : Core) (vM vL : Nat) : (x.resetLocal vM vL).run = x.run.map (fun r => { r with bl := {} }) := rfl

theorem Core.run_pPut (x : Core) (f : Nat) (b : Bool) : (x.pPut f b).run = x.run := by
  unfold Core.pPut; split <;> rfl

/-- The run that takes a berth back is another core's, and is found whatever becomes of the core that hands it back. -/
theorem State.takesBack_setCore (s : State) (c n : Nat) (r : Run) (y : Core) : (s.setCore c y).takesBack c n r = s.takesBack c n r := by
  unfold State.takesBack
  by_cases hn : n = c
  · simp [hn]
  · simp [hn, State.core_setCore_ne s c y (Ne.symm hn)]

theorem State.takesBack_ne {n : Nat} {q : Run} (h : s.takesBack c n r = some q) : n ≠ c := by
  intro hn
  simp [State.takesBack, hn] at h

/-- The meaning of a ticket handed back: its core is as `Core.handsBack` says, and where the command names a run that takes it back,
that run's queue ends with it. -/
theorem semRequeue_handsBack {n : Nat} {t : Ticket} (hr : x.run = some r) (hm : s.memberOf r = some m)
    (ht : r.ticket (x.sGet (srcA w)) = some t) (hmode : t.mode = 0) (hfirst : t.requeued = false) (hc : s.now < m.times.c) :
    ∃ u, semRequeue n w c x r s = .done u ∧ u.core c = x.handsBack r w t ∧
      ∀ q, s.takesBack c n r = some q →
        (u.core n).run = some { q with queue := q.queue ++ [{ t with requeued := true }], handed := q.handed ++ [t.berth] } := by
  have hcore : ({ (x.resetLocal (srcB w) (vlF .tldManRequeue w)).pPut (dstF w) true with
      run := ((x.resetLocal (srcB w) (vlF .tldManRequeue w)).pPut (dstF w) true).run.map (fun q =>
        { q with handed := q.handed.filter (fun b => decide (b ≠ t.berth)), held := q.held.filter (fun h => decide (h.berth ≠ t.berth)) }) } :
        Core) = x.handsBack r w t := by
    rw [Core.run_pPut, Core.resetLocal_run, hr]; rfl
  simp only [semRequeue, hm, ht, hmode, hfirst, hc, Bool.not_false, and_self, if_true, hcore, State.takesBack_setCore]
  cases hq : s.takesBack c n r with
  | none => exact ⟨_, rfl, by simp [State.freeBay, hmode], nofun⟩
  | some q =>
    have hne := State.takesBack_ne hq
    refine ⟨_, rfl, ?_, fun q' hq' => ?_⟩
    · simp [State.setRun, State.core_setCore_ne _ _ _ hne]
    · cases hq'
      simp [State.setRun]

theorem semRequeue_refused {n : Nat} {t : Ticket} (hm : s.memberOf r = some m) (ht : r.ticket (x.sGet (srcA w)) = some t)
    (h : t.mode ≠ 0 ∨ t.requeued = true ∨ m.times.c ≤ s.now) :
    semRequeue n w c x r s = put c (x.pPut (dstF w) false) s := by
  have hnot : ¬ (t.mode = 0 ∧ t.requeued = false ∧ s.now < m.times.c) := by
    rintro ⟨hmode, hfirst, hc⟩
    rcases h with h | h | h
    · exact h hmode
    · simp [hfirst] at h
    · omega
  simp [semRequeue, hm, ht, hnot]

end

/-- Settles O13: each instruction by the ticket it meets. -/
theorem berthTickets : Obligations.BerthTickets := by
  unfold Obligations.BerthTickets
  simp only [exec_tldManNext, exec_tldMan, exec_tldManRequeue, execTldManNext, execTldMan, execTldManRequeue]
  refine ⟨fun s c x r w m h hm => ⟨?taken, ?limit, ?ending, ?waits⟩, fun s c x r w m h hm hform => ⟨?manEnd, ?manTicket, ?manNone⟩,
    fun s c n x r w m t h hm ht => ⟨?back, ?refused⟩⟩
  case taken =>
    intro t rest p hq hheld htwin hp
    rw [issue_manNext_taken h hm hq hheld htwin hp]
    exact ⟨_, rfl, State.core_setCore .., rfl, rfl, rfl⟩
  case limit => exact fun t rest hq hheld => by rw [issue_exc h (semManNext_twoHeld hm hq hheld)]
  case ending => exact fun hq hmore => by rw [issue_put h (semManNext_end hm hq hmore) rfl, issued_sPut_withRun]
  case waits => exact fun hq hmore => by rw [issue_stay h (semManNext_waits hm hq hmore)]
  case manEnd => exact fun hend => by rw [issue_tldMan_latched h (semTldMan_end hm hform hend)]
  case manTicket =>
    intro hend t ht
    refine ⟨fun y hmode hy => ?_, fun hmode hskip => ?_, fun hskip => ?_⟩
    · rw [issue_tldMan_latched h (semTldMan_found hm hform hend (State.findTicket_exact ht hmode hy))]
    · rw [issue_tldMan_latched h (semTldMan_found hm hform hend (State.findTicket_other ht hmode)), if_neg hskip]
    · rw [issue_tldMan_latched h (semTldMan_found hm hform hend (State.findTicket_other ht (by omega))), if_pos hskip]
  case manNone => exact fun hend ht => by rw [issue_exc h (semTldMan_notHeld hm hform hend ht)]
  case back =>
    intro hmode hfirst hc hdst _
    obtain ⟨u, hsem, hcore, hback⟩ := semRequeue_handsBack (n := n.toNat) (x := x) (w := w) (c := c.toNat) h.run hm ht hmode hfirst hc
    refine ⟨_, _, congrArg _ (issue_done h hsem hcore (Core.run_handsBack t)), (congrArg Core.run (State.core_setCore ..)).trans (run_issued ..),
      ?_, fun q hq => Run.held_without hq, rfl, fun q hq => ?_⟩
    · rw [State.core_setCore, pGet_issued, Core.pGet_handsBack t hdst]
    · rw [State.core_setCore_ne _ _ _ (State.takesBack_ne hq).symm]
      exact ⟨_, hback q hq, rfl⟩
  case refused => exact fun hno => by rw [issue_put h (semRequeue_refused hm ht hno) ((x.run_pPut _ _).trans h.run)]

end Sys2Proof.Machine
end

section
/-! Programs and rings of a basin (R106 to R109, R327, R332, R375; log entries 122 and 123). -/

namespace Sys2Proof.Machine

/-! ### A tenant's descriptor taken from its ring -/

theorem serve_of_submitted {s : State} {b r op : Nat} {d : Dsc} (f : Dsc → State → State) (h : Submits s b r op d)
    (hmeant : reservedOp op = false) : serve op (tenantDsc f) b r s = f d (s.takeEntry b r) := by
  rw [serve_of_op _ h.front h.names hmeant, tenantDsc, h.tenant]

/-! ### Completions leave the program table (R331, R336) -/

theorem State.progEntry_congr {s t : State} (h : t.host = s.host) (b e : Nat) : t.progEntry b e = s.progEntry b e := by
  unfold State.progEntry; rw [State.basin_congr h]

theorem State.progEntry_putCqs (s : State) (b' : Nat) (cqs : AL Nat CQ) (b e : Nat) :
    (s.setBasin b' { s.basin b' with cqs := cqs }).progEntry b e = s.progEntry b e := by
  unfold State.progEntry
  by_cases hb : b' = b
  · subst hb; rw [State.basin_setBasin]
  · rw [State.basin_setBasin_ne _ _ _ hb]

theorem State.progEntry_cqWrite (s : State) (b' c : Nat) (q : CQ) (bs : List Byte) (b e : Nat) :
    (cqWrite s b' c q bs).progEntry b e = s.progEntry b e := by
  unfold cqWrite
  dsimp only
  split
  · rw [State.progEntry_congr (State.host_of_raiseMsix _ _)]
    exact (s.setDram _).progEntry_putCqs ..
  · exact (s.setDram _).progEntry_putCqs ..

theorem State.progEntry_postCq (s : State) (b' ring : Nat) (bs : List Byte) (b e : Nat) :
    (s.postCq b' ring bs).progEntry b e = s.progEntry b e := by
  unfold State.postCq
  dsimp only
  (repeat' split)
  · rfl
  · rfl
  · exact s.progEntry_putCqs ..
  · exact s.progEntry_cqWrite ..

@[simp] theorem State.progEntry_fin (s : State) (d : Dsc) (status result b e : Nat) :
    (s.fin d status result).progEntry b e = s.progEntry b e := by
  unfold State.fin State.complete
  split
  · exact s.progEntry_postCq ..
  · rfl

/-! ### LOAD_PROGRAM (R106, R107, R375) -/

theorem State.progEntry_setProg (s : State) (b e : Nat) (p : ProgEntry) : (s.setProg b e p).progEntry b e = p := by
  simp [State.progEntry, State.setProg]

theorem State.ready_installImage (s : State) (b e : Nat) (i : Image) : ((s.installImage b e i).progEntry b e).ready = some i := by
  rw [State.installImage, State.progEntry_setProg]

section
variable {u : State} {d : Dsc}

theorem doLoadProgram_wrongEntry (h : d.f 0x10 1 = 0 ∨ 15 < d.f 0x10 1) : doLoadProgram d u = u.fin d stInvalidField 0 := if_pos h

/-- What a LOAD_PROGRAM must name before its image is looked at: an entry of the table, and bytes of the host area. -/
structure NamesImage (u : State) (d : Dsc) : Prop where
  low : 1 ≤ d.f 0x10 1
  high : d.f 0x10 1 ≤ 15
  inHost : u.inHost d.basin (d.f 0x18 8) (d.f 0x20 4) = true

theorem NamesImage.entry (h : NamesImage u d) : ¬ (d.f 0x10 1 = 0 ∨ 15 < d.f 0x10 1) := by
  obtain ⟨hlow, hhigh, -⟩ := h
  omega

theorem doLoadProgram_outside (hlow : 1 ≤ d.f 0x10 1) (hhigh : d.f 0x10 1 ≤ 15)
    (hin : u.inHost d.basin (d.f 0x18 8) (d.f 0x20 4) = false) : doLoadProgram d u = u.fin d stAccessDenied 0 := by
  have hentry : ¬ (d.f 0x10 1 = 0 ∨ 15 < d.f 0x10 1) := by omega
  simp [doLoadProgram, hentry, hin]

theorem doLoadProgram_noKey (h : NamesImage u d) (hkey : (u.basin d.basin).pkey = none) : doLoadProgram d u = u.fin d stNoKey 0 := by
  simp [doLoadProgram, h.entry, h.inHost, hkey]

/-- The bytes a LOAD_PROGRAM names, and whether their signature is that of a key over the rest (R106). -/
def Dsc.image (d : Dsc) (u : State) : List Byte := u.buffer (d.f 0x18 8) (d.f 0x20 4)
def Dsc.signed (d : Dsc) (u : State) (key : List Byte) : Bool :=
  Config.mldsaVerify key ((d.image u).take (d.f 0x20 4 - sigLen)) ((d.image u).drop (d.f 0x20 4 - sigLen))

variable {key : List Byte}

theorem doLoadProgram_badSignature (h : NamesImage u d) (hkey : (u.basin d.basin).pkey = some key)
    (hsig : d.f 0x20 4 < sigLen ∨ d.signed u key = false) : doLoadProgram d u = u.fin d stBadSignature 0 := by
  unfold Dsc.signed Dsc.image at hsig
  simp [doLoadProgram, h.entry, h.inHost, hkey, hsig]

theorem doLoadProgram_badImage (h : NamesImage u d) (hkey : (u.basin d.basin).pkey = some key) (hlen : sigLen ≤ d.f 0x20 4)
    (hsig : d.signed u key = true)
    (hbad : u.imageOk (d.image u) = false ∨ ((u.basin d.basin).projOf (d.f 0x10 1) = true ∧ 31488 < dsc (d.image u) 0xC 4)) :
    doLoadProgram d u = u.fin d stBadImage 0 := by
  unfold Dsc.signed Dsc.image at hsig
  unfold Dsc.image at hbad
  simp [doLoadProgram, h.entry, h.inHost, hkey, Nat.not_lt.mpr hlen, hsig, hbad]

theorem doLoadProgram_installed (h : NamesImage u d) (hkey : (u.basin d.basin).pkey = some key) (hlen : sigLen ≤ d.f 0x20 4)
    (hsig : d.signed u key = true) (hok : u.imageOk (d.image u) = true)
    (hsize : (u.basin d.basin).projOf (d.f 0x10 1) = false ∨ dsc (d.image u) 0xC 4 ≤ 31488)
    (hfree : (u.progEntry d.basin (d.f 0x10 1)).retiring = none) :
    doLoadProgram d u = (u.installImage d.basin (d.f 0x10 1) (imageOf (d.image u))).fin d stOk 0 := by
  have hgood : ¬ (u.imageOk (d.image u) = false ∨ ((u.basin d.basin).projOf (d.f 0x10 1) = true ∧ 31488 < dsc (d.image u) 0xC 4)) := by
    rintro (hno | ⟨hproj, hlarge⟩)
    · simp [hok] at hno
    · rcases hsize with hno | hsmall
      · simp [hproj] at hno
      · omega
  unfold Dsc.signed Dsc.image at hsig
  unfold Dsc.image at hgood ⊢
  simp [doLoadProgram, h.entry, h.inHost, hkey, Nat.not_lt.mpr hlen, hsig, hgood, hfree]

/-! ### RETIRING_IMAGE_FREE (R107) -/

section
variable {s : State} {b : BitVec 6} {e : BitVec 4} {i : Image}

theorem execRetiringImageFree_none (h : (s.progEntry b.toNat e.toNat).retiring = none) : execRetiringImageFree b e s = .next s := by
  simp [execRetiringImageFree, h]

theorem execRetiringImageFree_used (h : (s.progEntry b.toNat e.toNat).retiring = some i) (hused : s.imageUsed b.toNat e.toNat i = true) :
    execRetiringImageFree b e s = .next s := by
  simp [execRetiringImageFree, h, hused]

theorem execRetiringImageFree_unused (h : (s.progEntry b.toNat e.toNat).retiring = some i)
    (hused : s.imageUsed b.toNat e.toNat i = false) : execRetiringImageFree b e s =
      .next ((s.setProg b.toNat e.toNat { s.progEntry b.toNat e.toNat with retiring := none }).loadWaiting b.toNat e.toNat
        (s.progEntry b.toNat e.toNat).waiting.length) := by
  simp [execRetiringImageFree, h, hused]

end

/-! ### RING_CONFIG (R327, R332) -/

theorem doRingConfig_submission (h : d.f 0x10 1 = 0) : doRingConfig d u = configSq d u := by simp [doRingConfig, h]
theorem doRingConfig_completion (h : d.f 0x10 1 = 1) : doRingConfig d u = configCq d u := by simp [doRingConfig, h]

theorem doRingConfig_reserved (h : 1 < d.f 0x10 1) : doRingConfig d u = u.fin d stInvalidField 0 := by
  unfold doRingConfig
  split
  · omega
  · omega
  · rfl

theorem configSq_ringZero (h : d.f 0x11 1 = 0) : configSq d u = u.fin d stRingInUse 0 := by simp [configSq, h]
theorem configCq_ringZero (h : d.f 0x11 1 = 0) : configCq d u = u.fin d stRingInUse 0 := by simp [configCq, h]

theorem configSq_busy {q : SQ} (hq : alGet (u.basin d.basin).sqs (d.f 0x11 1) = some q) (hbusy : q.head ≠ q.tail) :
    configSq d u = u.fin d stRingInUse 0 := by
  simp [configSq, hq, hbusy]

/-- The submission ring a RING_CONFIG describes. -/
def Dsc.ringSq (d : Dsc) : SQ := { base := d.f 0x20 8, log2 := d.f 0x12 1, cq := d.f 0x13 1 }

theorem configSq_removed (hring : d.f 0x11 1 ≠ 0) (hidle : ∀ q, alGet (u.basin d.basin).sqs (d.f 0x11 1) = some q → q.head = q.tail)
    (hk : d.f 0x12 1 = 0) :
    configSq d u = (u.setBasin d.basin { u.basin d.basin with sqs := alDel (u.basin d.basin).sqs (d.f 0x11 1) }).fin d stOk 0 := by
  cases hq : alGet (u.basin d.basin).sqs (d.f 0x11 1) with
  | none => simp [configSq, hring, hq, hk]
  | some q => simp [configSq, hring, hq, hidle q hq, hk]

theorem configSq_created (hring : d.f 0x11 1 ≠ 0) (hidle : ∀ q, alGet (u.basin d.basin).sqs (d.f 0x11 1) = some q → q.head = q.tail)
    (hlow : 4 ≤ d.f 0x12 1) (hhigh : d.f 0x12 1 ≤ 12) (hcq : (alGet (u.basin d.basin).cqs (d.f 0x13 1)).isSome = true)
    (halign : d.f 0x20 8 % (128 * 2 ^ d.f 0x12 1) = 0) (hin : u.inHost d.basin (d.f 0x20 8) (128 * 2 ^ d.f 0x12 1) = true) :
    configSq d u = (u.setBasin d.basin { u.basin d.basin with sqs := alPut (u.basin d.basin).sqs (d.f 0x11 1) d.ringSq }).fin d stOk 0 := by
  have hk : d.f 0x12 1 ≠ 0 := by omega
  obtain ⟨c, hc⟩ := Option.isSome_iff_exists.mp hcq
  cases hq : alGet (u.basin d.basin).sqs (d.f 0x11 1) with
  | none => simp [configSq, Dsc.ringSq, hring, hq, hk, hc, halign, hin, Nat.not_lt.mpr hlow, Nat.not_lt.mpr hhigh]
  | some q => simp [configSq, Dsc.ringSq, hring, hq, hidle q hq, hk, hc, halign, hin, Nat.not_lt.mpr hlow, Nat.not_lt.mpr hhigh]

/-- The completion ring a RING_CONFIG describes. -/
def Dsc.ringCq (d : Dsc) : CQ :=
  { base := d.f 0x20 8, log2 := d.f 0x12 1, vector := d.f 0x14 1, ien := decide (d.f 0x15 1 = 1), coalN := d.f 0x16 2, coalUs := d.f 0x18 2 }

theorem configCq_created (hring : d.f 0x11 1 ≠ 0) (hnew : alGet (u.basin d.basin).cqs (d.f 0x11 1) = none) (hlow : 4 ≤ d.f 0x12 1)
    (hhigh : d.f 0x12 1 ≤ 14) (hvector : d.f 0x14 1 ≤ 63) (hien : d.f 0x15 1 ≤ 1) (halign : d.f 0x20 8 % (32 * 2 ^ d.f 0x12 1) = 0)
    (hin : u.inHost d.basin (d.f 0x20 8) (32 * 2 ^ d.f 0x12 1) = true) :
    configCq d u = ((u.setBasin d.basin { u.basin d.basin with cqs := alPut (u.basin d.basin).cqs (d.f 0x11 1) d.ringCq }).setDram
      (memZero u.dram (d.f 0x20 8) (32 * 2 ^ d.f 0x12 1))).fin d stOk 0 := by
  have hk : d.f 0x12 1 ≠ 0 := by omega
  have hfields : ¬ (d.f 0x12 1 < 4 ∨ 14 < d.f 0x12 1 ∨ 63 < d.f 0x14 1 ∨ 1 < d.f 0x15 1 ∨ d.f 0x20 8 % (32 * 2 ^ d.f 0x12 1) ≠ 0) := by omega
  simp only [configCq, hnew, hring, hk, hfields, hin, false_and, or_self, if_false, Bool.not_true, Bool.false_eq_true]
  rfl

end

/-- Settles O46: each outcome of LOAD_PROGRAM, of RETIRING_IMAGE_FREE and of RING_CONFIG. -/
theorem programAndRingCommands : Obligations.ProgramAndRingCommands := by
  unfold Obligations.ProgramAndRingCommands
  intro s b r d u
  refine ⟨fun h => ?load, fun e i hi => ⟨fun hused => ?used, fun hused hwait => ?lone, fun img job rest hused hwait => ?next⟩,
    fun e hnone => ?noRetiring, fun h => ?ring⟩
  case load =>
    dsimp only
    have hexec : exec (.loadProgram b r) s = .next (doLoadProgram d u) := congrArg _ (serve_of_submitted doLoadProgram h rfl)
    rw [hexec]
    refine ⟨fun he => ?_, fun hlow hhigh => ⟨fun hin => ?_, fun hin => ?_⟩⟩
    · rw [doLoadProgram_wrongEntry he]
    · rw [doLoadProgram_outside hlow hhigh hin]
    have hnames : NamesImage u d := ⟨hlow, hhigh, hin⟩
    refine ⟨fun hkey => ?_, fun key hkey => ⟨fun hsig => ?_, fun hlen hsig => ⟨fun hbad => ?_, fun hok hsize hfree => ?_⟩⟩⟩
    · rw [doLoadProgram_noKey hnames hkey]
    · rw [doLoadProgram_badSignature hnames hkey hsig]
    · rw [doLoadProgram_badImage hnames hkey hlen hsig hbad]
    · rw [doLoadProgram_installed hnames hkey hlen hsig hok hsize hfree]
      exact ⟨_, rfl, rfl, by rw [State.progEntry_fin]; exact u.ready_installImage ..⟩
  case used => rw [exec_retiringImageFree, execRetiringImageFree_used hi hused]
  case lone => rw [exec_retiringImageFree, execRetiringImageFree_unused hi hused, hwait]; rfl
  case next => rw [exec_retiringImageFree, execRetiringImageFree_unused hi hused, hwait]; exact ⟨_, rfl, rfl⟩
  case noRetiring => rw [exec_retiringImageFree, execRetiringImageFree_none hnone]
  case ring =>
    dsimp only
    have hexec : exec (.ringConfig b r) s = .next (doRingConfig d u) := congrArg _ (serve_of_submitted doRingConfig h rfl)
    rw [hexec]
    refine ⟨fun hkind => ?_, fun hkind hn => ?_, fun hkind hn hidle => ⟨fun hk => ?_, fun hlow hhigh hcq halign hin => ?_⟩,
      fun q hkind hn hq hbusy => ?_, fun hkind hn hnew hlow hhigh hvector hien halign hin => ?_⟩
    · rw [doRingConfig_reserved hkind]
    · obtain hkind | hkind : d.f 0x10 1 = 0 ∨ d.f 0x10 1 = 1 := by omega
      · rw [doRingConfig_submission hkind, configSq_ringZero hn]
      · rw [doRingConfig_completion hkind, configCq_ringZero hn]
    · rw [doRingConfig_submission hkind, configSq_removed hn hidle hk]
      exact ⟨_, rfl, rfl⟩
    · rw [doRingConfig_submission hkind, configSq_created hn hidle hlow hhigh hcq halign hin]
      rfl
    · rw [doRingConfig_submission hkind, configSq_busy hq hbusy]
    · rw [doRingConfig_completion hkind, configCq_created hn hnew hlow hhigh hvector hien halign hin]
      exact ⟨_, _, rfl, rfl, rfl⟩

end Sys2Proof.Machine
end

section
/-! The towpath target's common command codes (R437, R438, R441, R444; log entries 139 and 179). -/

namespace Sys2Proof.Machine

/-! ### Codes taken and not taken -/

section
variable {s : State} {direct : Bool} {f : State → State}

theorem ccc_off (h : s.i3cOn = false) : ccc direct f s = s := by simp [ccc, h]

theorem ccc_unaddressed (h : s.towpath.dyn = 0) : ccc true f s = s := by simp [ccc, h]

/-- The target once a transfer has come by I3C, or by I²C. -/
def State.heard (s : State) (i3c : Bool) : State := s.setTow { s.towpath with i3c := i3c }

theorem ccc_broadcast (hon : s.i3cOn = true) : ccc false f s = f (s.heard true) := by simp [ccc, hon, State.heard]

theorem ccc_direct (hon : s.i3cOn = true) (hdyn : s.towpath.dyn ≠ 0) : ccc true f s = f (s.heard true) := by
  simp [ccc, hon, hdyn, State.heard]

end

/-! ### Interrupts that waited (R441) -/

theorem State.ibiFlush_on {s : State} (h : s.ibiOn = true) :
    s.ibiFlush = { s with towpath := { s.towpath with waiting := [] }, sent := s.sent ++ s.towpath.waiting.map OutMsg.ibi } := by
  have hlocal : ∀ m ∈ s.towpath.waiting.map OutMsg.ibi, m.fabric = false := by
    intro m hm
    obtain ⟨b, -, rfl⟩ := List.mem_map.mp hm
    rfl
  rw [State.ibiFlush, if_pos h, State.sends_local _ _ hlocal]

theorem State.ibiFlush_off {s : State} (h : s.ibiOn = false) : s.ibiFlush = s := by simp [State.ibiFlush, h]

/-- A dynamic address taken: interrupts that waited may go out with it, and nothing else changes. -/
theorem State.setDyn_facts (s : State) (a : Nat) :
    (s.setDyn a).towpath.dyn = a ∧ (s.setDyn a).towpath.i3c = s.towpath.i3c ∧ (∃ l, (s.setDyn a).sent = s.sent ++ l) ∧
      s.setDyn a = { s with towpath := (s.setDyn a).towpath, sent := (s.setDyn a).sent } := by
  unfold State.setDyn
  cases hon : (s.setTow { s.towpath with dyn := a }).ibiOn with
  | true => rw [State.ibiFlush_on hon]; exact ⟨rfl, rfl, ⟨_, rfl⟩, rfl⟩
  | false => rw [State.ibiFlush_off hon]; exact ⟨rfl, rfl, ⟨[], (List.append_nil _).symm⟩, rfl⟩

/-! ### Each code -/

section
variable {s : State}

theorem execEntdaa_taken (a : BitVec 7) (hon : s.i3cOn = true) (hdyn : s.towpath.dyn = 0) :
    ∃ t, execEntdaa a s = .next t ∧ t.towpath.dyn = a.toNat ∧ (.i3c (s.provisionalId ++ [twpBcr, twpDcr])) ∈ t.sent ∧ t.towpath.i3c = true ∧
      t = { s with towpath := t.towpath, sent := t.sent } := by
  have hsend := (s.heard true).send_local (OutMsg.fabric_i3c ((s.heard true).provisionalId ++ [twpBcr, twpDcr]))
  obtain ⟨hdyn', hi3c, ⟨l, hl⟩, hframe⟩ := ((s.heard true).send (.i3c ((s.heard true).provisionalId ++ [twpBcr, twpDcr]))).setDyn_facts a.toNat
  rw [hsend] at hi3c hl hframe hdyn'
  rw [execEntdaa, if_neg (not_not_intro hdyn), ccc_broadcast hon, hsend]
  exact ⟨_, rfl, hdyn', by rw [hl]; exact List.mem_append_left _ (List.mem_append_right _ (List.mem_singleton_self _)), hi3c, hframe⟩

theorem execSetdasa_taken (hon : s.i3cOn = true) (hdyn : s.towpath.dyn = 0) :
    ∃ t, execSetdasa s = .next t ∧ t.towpath.dyn = 0x60 + s.aon.straps.toNat / 8 ∧ t.towpath.i3c = true ∧
      t = { s with towpath := t.towpath, sent := t.sent } := by
  obtain ⟨hdyn', hi3c, -, hframe⟩ := (s.heard true).setDyn_facts (s.heard true).staticAddr
  rw [execSetdasa, if_neg (not_not_intro hdyn), ccc_broadcast hon]
  exact ⟨_, rfl, hdyn', hi3c, hframe⟩

theorem execSetnewda_taken (a : BitVec 7) (hon : s.i3cOn = true) (hdyn : s.towpath.dyn ≠ 0) :
    ∃ t, execSetnewda a s = .next t ∧ t.towpath.dyn = a.toNat ∧ t = { s with towpath := t.towpath, sent := t.sent } := by
  obtain ⟨hdyn', -, -, hframe⟩ := (s.heard true).setDyn_facts a.toNat
  rw [execSetnewda, ccc_direct hon hdyn]
  exact ⟨_, rfl, hdyn', hframe⟩

theorem execEnec_taken (hon : s.i3cOn = true) :
    ∃ t, execEnec s = .next t ∧ t.towpath.ibi = true ∧
      (s.towpath.dyn ≠ 0 → t.towpath.waiting = [] ∧ t.sent = s.sent ++ s.towpath.waiting.map OutMsg.ibi) ∧
      t = { s with towpath := t.towpath, sent := t.sent } := by
  rw [execEnec, ccc_broadcast hon]
  refine ⟨_, rfl, ?_⟩
  cases hibi : ((s.heard true).setTow { (s.heard true).towpath with ibi := true }).ibiOn with
  | true => rw [State.ibiFlush_on hibi]; exact ⟨rfl, fun _ => ⟨rfl, rfl⟩, rfl⟩
  | false =>
    rw [State.ibiFlush_off hibi]
    refine ⟨rfl, fun hdyn => absurd hibi ?_, rfl⟩
    have hctl : s.fld rTwpCtl 0 1 = 0 := by simp [State.i3cOn] at hon; exact hon.2
    show (true && decide (s.towpath.dyn ≠ 0) && decide (s.fld rTwpCtl 0 1 = 0)) ≠ false
    simp [hdyn, hctl]

/-- A value the target answers with, to a code addressed to it. -/
theorem ccc_answers {f : State → List Byte} (hon : s.i3cOn = true) (hdyn : s.towpath.dyn ≠ 0) :
    ccc true (fun s => s.send (.i3c (f s))) s =
      { s with towpath := { s.towpath with i3c := true }, sent := s.sent ++ [.i3c (f (s.heard true))] } := by
  rw [ccc_direct hon hdyn, State.send_local _ (OutMsg.fabric_i3c _)]
  rfl

theorem execGetstatus_taken (hon : s.i3cOn = true) (hdyn : s.towpath.dyn ≠ 0) :
    ∃ b, b.length = 2 ∧ execGetstatus s =
      .next { s with towpath := { s.towpath with i3c := true }, sent := s.sent ++ [.i3c b], fresh := s.fresh + 1 } := by
  rw [execGetstatus, ccc_direct hon hdyn, State.send_local _ (OutMsg.fabric_i3c _)]
  exact ⟨_, length_leBytes _ _, rfl⟩

end

/-! ### Command frames (R439, R440) -/

section
variable {s : State} {f : TwpFrame}

/-- The target once a frame's PEC was wrong. -/
def State.badFrame (s : State) (f : TwpFrame) : State :=
  { s with towpath := { s.towpath with i3c := f.i3c, pecErr := satAdd 8 s.towpath.pecErr 1 } }

theorem State.frameIn_bad (h : crc8 0 (twpBytes f) ≠ f.pec.toNat) : s.frameIn f = (s.badFrame f, false) := by
  rw [State.frameIn, if_neg h]; rfl

theorem State.frameIn_good (h : crc8 0 (twpBytes f) = f.pec.toNat) : s.frameIn f = (s.heard f.i3c, true) := by
  rw [State.frameIn, if_pos h]; rfl

theorem State.frameOut_eq (s : State) (f : TwpFrame) (status : Nat) (data : List Byte) :
    ∃ pec, s.frameOut f status data = { s with sent := s.sent ++ [.i3c (BitVec.ofNat 8 status :: (data ++ [pec]))] } :=
  ⟨_, s.send_local (OutMsg.fabric_i3c _)⟩

/-- A read frame that fails: its STATUS, as many open bytes as it asked for, and the PEC. -/
theorem State.frameFail_eq (s : State) (f : TwpFrame) (status : Nat) :
    ∃ body, body.length = f.len.toNat + 1 ∧
      s.frameFail f status = { s with fresh := s.fresh + f.len.toNat, sent := s.sent ++ [.i3c (BitVec.ofNat 8 status :: body)] } := by
  obtain ⟨pec, hout⟩ := ({ s with fresh := s.fresh + f.len.toNat } : State).frameOut_eq f status (freeBytes s.fresh f.len.toNat)
  exact ⟨_, by simp [freeBytes], hout⟩

/-- A frame whose PEC is wrong: a write keeps STATUS 1, a read answers it. -/
theorem execFrame_bad (ha : s.addressed f = true) (h : crc8 0 (twpBytes f) ≠ f.pec.toNat) :
    execRegWrite f s = .next ((s.badFrame f).writeStatus 1) ∧ execImgWrite f s = .next ((s.badFrame f).writeStatus 1) ∧
      execRegRead f s = .next ((s.badFrame f).frameFail f 1) ∧ execStatusRead f s = .next ((s.badFrame f).frameFail f 1) := by
  simp [execRegWrite, execImgWrite, execRegRead, execStatusRead, ha, State.frameIn_bad h]

/-- A register frame that names no register words. -/
theorem execFrame_noWords (ha : s.addressed f = true) (hpec : crc8 0 (twpBytes f) = f.pec.toNat) (h : twpWords f = none) :
    execRegRead f s = .next ((s.heard f.i3c).frameFail f 2) ∧ execRegWrite f s = .next ((s.heard f.i3c).writeStatus 2) := by
  simp [execRegRead, execRegWrite, ha, State.frameIn_good hpec, h]

theorem execStatusRead_last (ha : s.addressed f = true) (hpec : crc8 0 (twpBytes f) = f.pec.toNat) (haddr : f.addr = 0) :
    execStatusRead f s = .next ((s.heard f.i3c).frameFail f s.towpath.status) := by
  simp [execStatusRead, ha, State.frameIn_good hpec, haddr]

theorem twpWords_none (h : f.addr.toNat % 8 ≠ 0 ∨ f.len.toNat % 8 ≠ 0 ∨ f.len = 0 ∨ 240 < f.len.toNat) : twpWords f = none := by
  have hlen : f.len = 0 → f.len.toNat = 0 := fun h => by rw [h]; rfl
  have hnot : ¬ (f.addr.toNat % 8 = 0 ∧ f.len.toNat % 8 = 0 ∧ 1 ≤ f.len.toNat ∧ f.len.toNat ≤ 240) := by
    rintro ⟨h1, h2, h3, h4⟩
    rcases h with h | h | h | h
    · exact h h1
    · exact h h2
    · have := hlen h; omega
    · omega
  exact if_neg hnot

theorem twpWords_one (hlen : f.len = 8) (haddr : f.addr.toNat % 8 = 0) : twpWords f = some [f.addr.toNat] := by
  simp [twpWords, hlen, haddr]

theorem execRegRead_word (ha : s.addressed f = true) (hpec : crc8 0 (twpBytes f) = f.pec.toNat) (hlen : f.len = 8)
    (haddr : f.addr.toNat % 8 = 0) (hreads : towReads f.addr.toNat = true) :
    execRegRead f s = .next (((s.heard f.i3c).svcOn.regReadEffect f.addr.toNat).frameOut f 0
      (leBytes 8 ((s.heard f.i3c).svcOn.regShown f.addr.toNat).toNat)) := by
  simp [execRegRead, ha, State.frameIn_good hpec, twpWords_one hlen haddr, hreads, State.readVia]

theorem bytesAt_whole {l : List Byte} {n : Nat} (h : l.length = n) : bytesAt l 0 n = l := by
  simp [bytesAt, padTo, ← h]

theorem execRegWrite_word (ha : s.addressed f = true) (hpec : crc8 0 (twpBytes f) = f.pec.toNat) (hlen : f.len = 8)
    (hdata : f.data.length = 8) (haddr : f.addr.toNat % 8 = 0) :
    execRegWrite f s = .next (if towWrites f.addr.toNat
      then ((s.heard f.i3c).writeVia .towpath f.addr.toNat (BitVec.ofNat 64 (leNat f.data))).writeStatus 0
      else (s.heard f.i3c).writeStatus 2) := by
  cases hw : towWrites f.addr.toNat with
  | true => simp [execRegWrite, ha, State.frameIn_good hpec, twpWords_one hlen haddr, hw, hdata, hlen, bytesAt_whole hdata]
  | false => simp [execRegWrite, ha, State.frameIn_good hpec, twpWords_one hlen haddr, hw]

/-- An image chunk of a permitted length that lies inside the buffer. -/
structure ImageChunk (f : TwpFrame) : Prop where
  some : 1 ≤ f.len.toNat
  most : f.len.toNat ≤ 240
  data : f.data.length = f.len.toNat
  inside : f.addr.toNat + f.len.toNat ≤ 0x800000

theorem ImageChunk.fits (h : ImageChunk f) :
    ¬ (f.len.toNat = 0 ∨ 240 < f.len.toNat ∨ f.data.length ≠ f.len.toNat ∨ 0x800000 < f.addr.toNat + f.len.toNat) := by
  obtain ⟨h1, h2, h3, h4⟩ := h
  omega

theorem execImgWrite_notAwaited (ha : s.addressed f = true) (hpec : crc8 0 (twpBytes f) = f.pec.toNat) (hchunk : ImageChunk f)
    (hstage : s.bootStage ≠ 1) : execImgWrite f s = .next ((s.heard f.i3c).writeStatus 3) := by
  simp only [execImgWrite, ha, State.frameIn_good hpec, hchunk.fits, hstage, Bool.not_true, Bool.false_eq_true, if_false, ne_eq,
    not_false_eq_true, if_true]

theorem execImgWrite_placed (ha : s.addressed f = true) (hpec : crc8 0 (twpBytes f) = f.pec.toNat) (hchunk : ImageChunk f)
    (hstage : s.bootStage = 1) (hplaced : s.towpath.placeUntil ≤ s.now) :
    execImgWrite f s = .next { s with
      dram := memWriteL s.dram (imageAt + f.addr.toNat) f.data
      towpath := { s.towpath with i3c := f.i3c, status := 0, placeUntil := s.now + ticksUs 375 } } := by
  have hpassed : s.passed s.towpath.placeUntil = true := decide_eq_true hplaced
  simp only [execImgWrite, ha, State.frameIn_good hpec, hchunk.fits, hstage, hpassed, Bool.not_true, Bool.false_eq_true, if_false, ne_eq,
    not_true_eq_false, false_and, if_true]
  rfl

end

end Sys2Proof.Machine
end

section
/-! The board: sensors and supplies (R386, R441, R442), and the local bus controller (R445 to R447). -/

namespace Sys2Proof.Machine

/-! ### Sensors -/

theorem sext16_toNat (v : BitVec 16) : sext 16 v.toNat = v.toInt := by
  have hlt := v.isLt
  rw [sext, BitVec.toInt_eq_toNat_cond, Nat.mod_eq_of_lt hlt]
  split <;> split <;> omega

/-- A sensor shows a value: a temperature sensor has its alarm set from 105 °C, and any clears it below 100 °C. -/
def Towpath.Shows (t : Towpath) (i v : Nat) : Prop :=
  ∃ alarm, alGet t.sensors i = some (v, alarm) ∧ (i ≤ 16 → 840 ≤ sext 16 v → alarm = true) ∧ (sext 16 v < 800 → alarm = false)

theorem State.ibi_frame (s : State) (b : Byte) :
    ∃ waiting sent, s.ibi b = { s with towpath := { s.towpath with waiting := waiting }, sent := sent } := by
  unfold State.ibi
  split
  · rw [State.send_local _ (OutMsg.fabric_ibi _)]; exact ⟨_, _, rfl⟩
  · exact ⟨_, _, rfl⟩

/-- A measurement sets the sensor; an alarm that comes up is reported. -/
theorem State.sensor_frame (s : State) (i v : Nat) :
    ∃ alarm waiting sent, ((i ≤ 16 → 840 ≤ sext 16 v → alarm = true) ∧ (sext 16 v < 800 → alarm = false)) ∧
      s.sensor i v = { s with towpath := { s.towpath with sensors := alPut s.towpath.sensors i (v, alarm), waiting := waiting }, sent := sent } := by
  unfold State.sensor
  dsimp only
  set alarm := decide (i ≤ 16) && (decide (840 ≤ sext 16 v) || (((alGet s.towpath.sensors i).map (·.2)).getD false && decide (800 ≤ sext 16 v)))
    with halarm
  have hrule : (i ≤ 16 → 840 ≤ sext 16 v → alarm = true) ∧ (sext 16 v < 800 → alarm = false) := by
    refine ⟨fun hi hv => by simp [halarm, hi, hv], fun hv => ?_⟩
    simp [halarm, show ¬ 840 ≤ sext 16 v by omega, show ¬ 800 ≤ sext 16 v by omega]
  split
  · obtain ⟨waiting, sent, hibi⟩ := (s.setTow { s.towpath with sensors := alPut s.towpath.sensors i (v, alarm) }).ibi_frame 0x03
    exact ⟨alarm, waiting, sent, hrule, hibi⟩
  · exact ⟨alarm, s.towpath.waiting, s.sent, hrule, rfl⟩

theorem State.sensor_shows (s : State) (i v : Nat) : (s.sensor i v).towpath.Shows i v := by
  obtain ⟨alarm, waiting, sent, ⟨hset, hclear⟩, heq⟩ := s.sensor_frame i v
  rw [heq]
  exact ⟨alarm, alGet_alPut_self _ _ _, hset, hclear⟩

theorem State.sensor_keeps {s : State} {j u : Nat} (i v : Nat) (hne : i ≠ j) (h : s.towpath.Shows j u) : (s.sensor i v).towpath.Shows j u := by
  obtain ⟨alarm, waiting, sent, -, heq⟩ := s.sensor_frame i v
  obtain ⟨b, hget, hrule⟩ := h
  rw [heq]
  exact ⟨b, by rw [alGet_alPut, if_neg hne, hget], hrule⟩

/-- The first `n` sensors measured in order. -/
def State.measured (s : State) (vs : List (BitVec 16)) (n : Nat) : State :=
  (List.range n).foldl (fun t i => t.sensor i (nthD 0 vs i).toNat) s

theorem State.measured_succ (s : State) (vs : List (BitVec 16)) (n : Nat) :
    s.measured vs (n + 1) = (s.measured vs n).sensor n (nthD 0 vs n).toNat := by
  simp [State.measured, List.range_succ]

theorem State.measured_shows (s : State) (vs : List (BitVec 16)) {n i : Nat} (h : i < n) :
    (s.measured vs n).towpath.Shows i (nthD 0 vs i).toNat := by
  induction n with
  | zero => exact absurd h (Nat.not_lt_zero i)
  | succ n ih =>
    rw [State.measured_succ]
    by_cases hi : n = i
    · subst hi; exact State.sensor_shows _ n _
    · exact State.sensor_keeps n _ hi (ih (by omega))

theorem State.measured_frame (s : State) (vs : List (BitVec 16)) (n : Nat) :
    ∃ tow sent, s.measured vs n = { s with towpath := tow, sent := sent } := by
  induction n with
  | zero => exact ⟨s.towpath, s.sent, rfl⟩
  | succ n ih =>
    obtain ⟨tow, sent, hn⟩ := ih
    obtain ⟨alarm, waiting, sent', -, heq⟩ := (s.measured vs n).sensor_frame n (nthD 0 vs n).toNat
    rw [State.measured_succ, heq, hn]
    exact ⟨_, _, rfl⟩

/-- All sensors measured: the twenty-first shows the part pace. -/
def State.allMeasured (s : State) (vs : List (BitVec 16)) : State := (s.measured vs 20).sensor 20 (s.fld rHubPaceStat 0 16)

theorem State.allMeasured_frame (s : State) (vs : List (BitVec 16)) :
    ∃ tow sent, s.allMeasured vs = { s with towpath := tow, sent := sent } := by
  obtain ⟨tow, sent, hmeasured⟩ := s.measured_frame vs 20
  obtain ⟨alarm, waiting, sent', -, hlast⟩ := (s.measured vs 20).sensor_frame 20 (s.fld rHubPaceStat 0 16)
  rw [State.allMeasured, hlast, hmeasured]
  exact ⟨_, _, rfl⟩

theorem State.allMeasured_shows (s : State) (vs : List (BitVec 16)) :
    (∀ i < 20, (s.allMeasured vs).towpath.Shows i (nthD 0 vs i).toNat) ∧ (s.allMeasured vs).towpath.Shows 20 (s.fld rHubPaceStat 0 16) :=
  ⟨fun _ hi => State.sensor_keeps 20 _ (by omega) (s.measured_shows vs hi), State.sensor_shows _ 20 _⟩

/-- The supplies as sensors 17 and 18 show them. -/
def State.suppliesRead (s : State) (vs : List (BitVec 16)) : State :=
  { s with aon := { s.aon with mainOk := vinOk (nthD 0 vs 17).toNat, bkpOk := vinOk (nthD 0 vs 18).toNat } }

theorem State.toBackup_frame (s : State) :
    ∃ onBackup switchEvt, s.toBackup = { s with aon := { s.aon with onBackup := onBackup, switchEvt := switchEvt } } := by
  unfold State.toBackup
  split
  · exact ⟨_, _, rfl⟩
  · exact ⟨s.aon.onBackup, s.aon.switchEvt, rfl⟩

theorem execSensorUpdate_eq {s : State} {vs : List (BitVec 16)} (hreset : s.boot.inReset = false) (hlen : vs.length = 20) :
    execSensorUpdate vs s = .next ((s.allMeasured vs).suppliesRead vs).toBackup := by
  simp only [execSensorUpdate, hreset, hlen]; rfl

theorem execSensorUpdate_measured {s : State} {vs : List (BitVec 16)} (hreset : s.boot.inReset = false) (hlen : vs.length = 20) :
    ∃ t, execSensorUpdate vs s = .next t ∧ (∀ i < 20, t.towpath.Shows i (nthD 0 vs i).toNat) ∧ t.towpath.Shows 20 (s.fld rHubPaceStat 0 16) ∧
      t.aon.mainOk = vinOk (nthD 0 vs 17).toNat ∧ t = { s with towpath := t.towpath, aon := t.aon, sent := t.sent } := by
  obtain ⟨hshows, hpace⟩ := s.allMeasured_shows vs
  obtain ⟨tow, sent, hall⟩ := s.allMeasured_frame vs
  obtain ⟨onBackup, switchEvt, hback⟩ := ((s.allMeasured vs).suppliesRead vs).toBackup_frame
  rw [hall] at hshows hpace hback
  rw [execSensorUpdate_eq hreset hlen, hall, hback]
  exact ⟨_, rfl, hshows, hpace, rfl, rfl⟩

theorem vinOk_iff (mv : Nat) : vinOk mv = true ↔ 10800 ≤ mv ∧ mv ≤ 13200 := by simp [vinOk]

end Sys2Proof.Machine
end

section
/-! The local bus controller (R445 to R447; log entries 176 to 182). -/

namespace Sys2Proof.Machine

/-! ### The bus queue -/

section
variable {s : State}

theorem State.lbsGo_nothing (h : s.lbs.queue = []) : s.lbsGo = s := by
  unfold State.lbsGo; rw [h]; split <;> simp_all

theorem State.lbsPush_idle (op : LbsOp) (h : s.lbs = {}) : s.lbsPush op = { s with lbs := { cur := some op }, sent := s.sent ++ [.lbs op] } := by
  simp only [State.lbsPush, State.lbsGo, State.setLbs, h, List.nil_append]
  exact State.send_local _ (OutMsg.fabric_lbs op)

theorem State.lbsPush_busy (op : LbsOp) (h : s.lbs.cur.isSome = true) :
    s.lbsPush op = s.setLbs { s.lbs with queue := s.lbs.queue ++ [op] } := by
  obtain ⟨q, hq⟩ := Option.isSome_iff_exists.mp h
  simp [State.lbsPush, State.lbsGo, State.setLbs, hq]

/-- What waits may go onto the bus: only the transfers and the messages change. -/
theorem State.lbsGo_frame (s : State) :
    ∃ cur queue sent, s.lbsGo = { s with lbs := { s.lbs with cur := cur, queue := queue }, sent := s.sent ++ sent } := by
  have hstay : ∃ cur queue sent, s = { s with lbs := { s.lbs with cur := cur, queue := queue }, sent := s.sent ++ sent } :=
    ⟨s.lbs.cur, s.lbs.queue, [], by rw [List.append_nil]⟩
  unfold State.lbsGo
  split
  · split
    · exact hstay
    · rw [State.send_local _ (OutMsg.fabric_lbs _)]; exact ⟨_, _, _, rfl⟩
  · exact hstay

/-! ### LBS_STAT -/

theorem State.fld_lbsEnd_status (s : State) {k : Nat} (h : k < 4) : (s.lbsEnd k).fld rLbsStat 2 2 = k := by
  rw [State.lbsEnd, State.fld_setFld_apart _ _ _ (by omega) (by omega), State.fld_setFld _ _ _ (by omega)]
  exact Nat.mod_eq_of_lt h

theorem State.fld_lbsEnd_busy (s : State) (k : Nat) : (s.lbsEnd k).fld rLbsStat 1 1 = 0 := State.fld_setFld _ _ _ (by omega)

theorem State.fld_lbsEnd_apart (s : State) (k : Nat) {lo w : Nat} (h : 4 ≤ lo ∨ lo + w ≤ 1) :
    (s.lbsEnd k).fld rLbsStat lo w = s.fld rLbsStat lo w := by
  rw [State.lbsEnd, State.fld_setFld_apart _ _ _ (by omega) (by omega), State.fld_setFld_apart _ _ _ (by omega) (by omega)]

theorem State.reg_lbsEnd_ne (s : State) (k : Nat) {off : Nat} (h : rLbsStat ≠ off) : (s.lbsEnd k).reg off = s.reg off := by
  rw [State.lbsEnd, State.reg_setFld_ne _ _ _ _ h, State.reg_setFld_ne _ _ _ _ h]

/-! ### LBS_XFER (R445) -/

section
variable {v : W64}

theorem lbsXferWrite_ignored (h : fld v 16 1 = 0 ∨ s.fld rLbsStat 1 1 = 1 ∨ 8 < fld v 8 4 ∨ 8 < fld v 12 4) : s.lbsXferWrite v = s :=
  if_pos h

/-- The transfer a write of LBS_XFER asks for. -/
def State.xferOp (s : State) (v : W64) : LbsOp :=
  { host := true, addr := Sys2Proof.fld v 0 7, pec := decide (Sys2Proof.fld v 7 1 = 1), wlen := Sys2Proof.fld v 8 4, rlen := Sys2Proof.fld v 12 4,
    wdata := s.reg rLbsWdata }

theorem lbsXferWrite_taken (hgo : fld v 16 1 = 1) (hbusy : s.fld rLbsStat 1 1 = 0) (hw : fld v 8 4 ≤ 8) (hr : fld v 12 4 ≤ 8) :
    s.lbsXferWrite v = if s.fld rLbsStat 0 1 = 1 then s.lbsEnd 3 else (s.setFld rLbsStat 1 1 1).lbsPush (s.xferOp v) := by
  have hnot : ¬ (fld v 16 1 = 0 ∨ s.fld rLbsStat 1 1 = 1 ∨ 8 < fld v 8 4 ∨ 8 < fld v 12 4) := by omega
  exact if_neg hnot

theorem lbsXferWrite_started (hgo : fld v 16 1 = 1) (hbusy : s.fld rLbsStat 1 1 = 0) (hw : fld v 8 4 ≤ 8) (hr : fld v 12 4 ≤ 8)
    (hstuck : s.fld rLbsStat 0 1 = 0) (hidle : s.lbs = {}) :
    s.lbsXferWrite v = { s.setFld rLbsStat 1 1 1 with lbs := { cur := some (s.xferOp v) }, sent := s.sent ++ [.lbs (s.xferOp v)] } := by
  rw [lbsXferWrite_taken hgo hbusy hw hr, if_neg (by omega)]
  exact State.lbsPush_idle (s := s.setFld rLbsStat 1 1 1) _ hidle

end

/-! ### A transfer that ends (R445) -/

/-- The controller once its transfer has ended: the keepers' read of the EEPROM makes the board known. -/
def Lbs.ended (l : Lbs) (op : LbsOp) (ack : Bool) : Lbs :=
  { l with cur := none, known := l.known || (!op.host && decide (op.addr = 0x50) && ack) }

section
variable {op : LbsOp} {d : W64}

/-- Nothing waits, so the bus stays idle once the transfer has ended. -/
theorem execLbsTransferDone_idle (ack : Bool) (hcur : s.lbs.cur = some op) (hq : s.lbs.queue = []) :
    let t := s.setLbs (s.lbs.ended op ack)
    execLbsTransferDone ack d s = .next (match op.host, ack with
      | true, true => (t.setReg rLbsRdata (BitVec.ofNat 64 (d.toNat % 2 ^ (8 * op.rlen)))).lbsEnd 0
      | true, false => (t.bump rLbsStat 16 16 1).lbsEnd 1
      | false, true => t
      | false, false => t.bump rLbsStat 16 16 1) := by
  simp only [execLbsTransferDone, hcur]
  cases hhost : op.host <;> cases ack <;>
    simp only [Bool.not_true, Bool.not_false, Bool.false_eq_true, if_true, if_false, Lbs.ended, hhost] <;>
    exact congrArg _ (State.lbsGo_nothing hq)

theorem execLbsTimeout_ends (hcur : s.lbs.cur = some op) :
    execLbsTimeout s = .next (if op.host then (s.setLbs { s.lbs with cur := none, clearing := true, repeats := 0 }).lbsEnd 2
      else s.setLbs { s.lbs with cur := none, clearing := true, repeats := 0 }) := by
  simp only [execLbsTimeout, hcur]

end

/-! ### Clears (R446) -/

/-- The state after a run of pulses: their number is shown. -/
def State.pulsed (s : State) (p : Nat) : State := { s.setFld rLbsStat 4 4 p with sent := s.sent ++ [.lbsClear] }

theorem State.clearOnce_eq (s : State) (sda : List Bool) (scl : Bool) :
    ∃ p, s.clearOnce sda scl = (s.pulsed p, decide (true ∈ sda.take 9) && scl) := by
  have hany : (sda.take 9).any id = decide (true ∈ sda.take 9) := by
    rw [Bool.eq_iff_iff, List.any_eq_true, decide_eq_true_eq]
    exact ⟨fun ⟨x, hx, hid⟩ => by rwa [← show x = true from hid], fun h => ⟨true, h, rfl⟩⟩
  rw [State.clearOnce, State.send_local _ OutMsg.fabric_lbsClear, hany]
  exact ⟨_, rfl⟩

/-- A clear that frees the bus. -/
theorem State.clearDone_facts (s : State) :
    s.clearDone.lbs.clearing = false ∧ s.clearDone.fld rLbsStat 0 1 = 0 ∧
      (∀ lo w, 1 ≤ lo → s.clearDone.fld rLbsStat lo w = s.fld rLbsStat lo w) ∧ (∀ m ∈ s.sent, m ∈ s.clearDone.sent) := by
  obtain ⟨cur, queue, sent, hgo⟩ := ((s.setLbs { s.lbs with clearing := false, repeats := 0 }).setFld rLbsStat 0 1 0).lbsGo_frame
  rw [State.clearDone, hgo]
  refine ⟨rfl, ?_, fun lo w hlo => ?_, fun m hm => List.mem_append_left _ hm⟩
  · exact State.fld_setFld (s.setLbs _) rLbsStat 0 (by omega)
  · exact State.fld_setFld_apart (s.setLbs _) rLbsStat 0 (by omega) (.inl (by omega))

theorem logPut_regs (s : State) (hostBase at_ : Nat) (q : LogRing) (rec32 : List Byte) : (logPut s hostBase at_ q rec32).1.regs = s.regs := by
  unfold logPut; split <;> rfl

theorem logPut_lbs (s : State) (hostBase at_ : Nat) (q : LogRing) (rec32 : List Byte) : (logPut s hostBase at_ q rec32).1.lbs = s.lbs := by
  unfold logPut; split <;> rfl

theorem State.lbs_of_raiseMsix (s : State) (v : Nat) : (s.raiseMsix v).lbs = s.lbs := by
  unfold State.raiseMsix State.send
  (repeat' split) <;> rfl

/-- An event of the part leaves the local bus and every register but the pending bits. -/
theorem State.event_bus (s : State) (b : Nat) (rec32 : List Byte) {off : Nat} (h : rMsixPba ≠ off) :
    (s.event b rec32).lbs = s.lbs ∧ (s.event b rec32).reg off = s.reg off := by
  have hreg (q : LogRing) (hostBase : Nat) : (logPut s hostBase 0x10000 q rec32).1.reg off = s.reg off := by
    unfold State.reg; rw [logPut_regs]
  unfold State.event
  dsimp only
  split
  · rw [State.lbs_of_raiseMsix, State.reg_raiseMsix_ne _ _ h]
    exact ⟨logPut_lbs .., hreg _ _⟩
  · exact ⟨logPut_lbs .., hreg _ _⟩

/-- A bus that stays stuck. -/
theorem State.lbsStuck_facts (s : State) : s.lbsStuck.fld rLbsStat 0 1 = 1 ∧ s.lbsStuck.lbs.queue = [] ∧ s.lbsStuck.lbs.known = false := by
  let u := (s.setLbs { s.lbs with clearing := false, repeats := 0, queue := [], known := false }).setFld rLbsStat 0 1 1
  have hu : u.fld rLbsStat 0 1 = 1 := State.fld_setFld _ _ _ (by omega)
  have hevent (t : State) : (t.unitEvent 0x0701 0).lbs = t.lbs ∧ (t.unitEvent 0x0701 0).reg rLbsStat = t.reg rLbsStat :=
    t.drawn.event_bus _ _ (by decide)
  have hstuck : s.lbsStuck = (if s.lbs.queue.any (·.host) then u.lbsEnd 3 else u).unitEvent 0x0701 0 := rfl
  obtain ⟨hlbs, hreg⟩ := hevent (if s.lbs.queue.any (·.host) then u.lbsEnd 3 else u)
  rw [hstuck, hlbs, State.fld, hreg]
  split
  · exact ⟨(u.fld_lbsEnd_apart 3 (.inr (by omega))).trans hu, rfl, rfl⟩
  · exact ⟨hu, rfl, rfl⟩

theorem State.fld_pulsed (s : State) (p : Nat) {lo w : Nat} (h : 8 ≤ lo) : (s.pulsed p).fld rLbsStat lo w = s.fld rLbsStat lo w :=
  State.fld_setFld_apart _ _ _ (by omega) (.inl h)

section
variable {sda : List Bool} {scl : Bool}

theorem execLbsClear_first (hreset : s.boot.inReset = false) (hcur : s.lbs.cur = none) (hfirst : s.lbs.repeats = 0) :
    ∃ p, execLbsClear sda scl s = .next (if decide (true ∈ sda.take 9) && scl then ((s.bump rLbsStat 8 8 1).pulsed p).clearDone
      else ((s.bump rLbsStat 8 8 1).pulsed p).setLbs { s.lbs with clearing := true, repeats := 1 }) := by
  obtain ⟨p, hp⟩ := (s.bump rLbsStat 8 8 1).clearOnce_eq sda scl
  have hlbs : ((s.bump rLbsStat 8 8 1).pulsed p).lbs = s.lbs := rfl
  refine ⟨p, ?_⟩
  simp only [execLbsClear, hreset, hcur, hfirst, hp, hlbs, Bool.false_eq_true, if_false, Option.isSome_none, Nat.lt_irrefl, and_false, or_self]

theorem execLbsClearRetry_run (hclearing : s.lbs.clearing = true) (hrepeats : 0 < s.lbs.repeats) :
    ∃ p, execLbsClearRetry sda scl s = .next (if decide (true ∈ sda.take 9) && scl then (s.pulsed p).clearDone
      else if 3 ≤ s.lbs.repeats then (s.pulsed p).lbsStuck else (s.pulsed p).setLbs { s.lbs with repeats := s.lbs.repeats + 1 }) := by
  obtain ⟨p, hp⟩ := s.clearOnce_eq sda scl
  have hlbs : (s.pulsed p).lbs = s.lbs := rfl
  refine ⟨p, ?_⟩
  simp only [execLbsClearRetry, hclearing, hp, hlbs, Nat.ne_of_gt hrepeats, Bool.not_true, Bool.false_eq_true, or_self, if_false]

end

end

end Sys2Proof.Machine
end

section
/-! JTAG (R448 to R450) and the commands of the debug path (R99, R451 to R455). -/

namespace Sys2Proof.Machine

/-! ### Instructions of the test access port -/

section
variable {s : State}

/-- An instruction selected, and what it shifts out. -/
def State.selected (s : State) (code : Nat) (out : BitVec 128) (j : Jtag) : State :=
  { s with jtag := { j with ir := code, out := out }, sent := s.sent ++ [.tap out] }

theorem State.tap_eq (s : State) (code : Nat) (out : BitVec 128) : s.tap code out = s.selected code out s.jtag :=
  State.send_local _ (OutMsg.fabric_tap out)

theorem execSamplePreload_eq (pins preload : BitVec 128) :
    execSamplePreload pins preload s = .next (s.selected 0x01 pins { s.jtag with bound := preload }) := by
  rw [execSamplePreload, State.tap_eq]; rfl

theorem State.tapDrive_taken (code : Nat) (out : BitVec 128) (h : s.mode = 3 ∨ s.bootStage = 1) :
    s.tapDrive code out = s.selected code out { s.jtag with blocked := true } := by
  rw [State.tapDrive, ← State.bootStage, if_pos h, State.tap_eq]; rfl

theorem State.tapDrive_refused (code : Nat) (out : BitVec 128) (hmode : s.mode ≠ 3) (hstage : s.bootStage ≠ 1) :
    s.tapDrive code out = (s.selected 0xFF 0 s.jtag).setFld rDbgStat 1 1 1 := by
  rw [State.tapDrive, ← State.bootStage, if_neg (not_or.mpr ⟨hmode, hstage⟩), State.tap_eq]

end

/-! ### DBG_SEL -/

section
variable {s : State} {scan : BitVec 96}

theorem execDbgSel_read (h : scan.getLsbD 4 = false) :
    execDbgSel scan s = .next (s.selected 0x20 (BitVec.ofNat 128 (if regFields (rDbgStat + 8 * (scan.toNat % 16)) = [] then 0
      else (s.regValue (rDbgStat + 8 * (scan.toNat % 16))).toNat)) s.jtag) := by
  simp only [execDbgSel, h, State.tap_eq, Bool.false_eq_true, if_false, List.isEmpty_iff]

theorem execDbgSel_write (h : scan.getLsbD 4 = true) :
    execDbgSel scan s = .next ((if rDbgStat + 8 * (scan.toNat % 16) = rDbgCmd then s.dbgCmd (scan.toNat / 32 % 16)
      else s.regPut (rDbgStat + 8 * (scan.toNat % 16)) (BitVec.ofNat 64 (scan.toNat / 32))).tap 0x20 0) := by
  have hop : vfld (BitVec.ofNat 64 (scan.toNat / 32)) 0 4 = scan.toNat / 32 % 16 := by
    simp [vfld, fld]
  simp only [execDbgSel, h, State.dbgWrite, hop, if_true]

end

/-! ### A debug command, by what is unlocked (R450, R451) -/

section
variable {s : State}

theorem State.dbgCmd_locked {op : Nat} (hop : 1 ≤ op) (hop' : op ≤ 10) (h : s.sec.dbgMask = 0) : s.dbgCmd op = s.dbgRes 1 false := by
  simp [State.dbgCmd, State.dbgOpen, h, show ¬ (op = 0 ∨ 10 < op) by omega]

theorem State.dbgOpen_of_coreOpen (h : s.dbgCoreOpen = true) : s.dbgOpen = true := by
  unfold State.dbgCoreOpen at h
  split at h
  · refine decide_eq_true fun hmask => ?_
    simp [hmask] at h
  · cases h

theorem State.dbgCmd_coreLocked {op : Nat} (hop : 1 ≤ op) (hop' : op ≤ 9) (h : s.dbgCoreOpen = false) : s.dbgCmd op = s.dbgRes 1 false := by
  simp [State.dbgCmd, h, show ¬ (op = 0 ∨ 10 < op) by omega, show op ≠ 10 by omega]

theorem State.dbgCmd_qread (h : s.sec.dbgMask ≠ 0) : s.dbgCmd 10 = s.quietRead := by
  have hopen : s.dbgOpen = true := decide_eq_true h
  simp [State.dbgCmd, hopen]

/-- With the core's basin unlocked every core command is carried out. -/
theorem exec_dbgCommand (h : s.dbgCoreOpen = true) :
    exec .dbgHalt s = .next ((s.haltCore s.dbgCore).dbgRes 0 false) ∧ exec .forceHalt s = .next ((s.forceCore s.dbgCore).dbgRes 0 false) ∧
      exec .resume s = .next ((s.resumeCore s.dbgCore).dbgRes 0 false) ∧ exec .stepOne s = .next ((s.stepCore s.dbgCore).dbgRes 0 false) ∧
      exec .rdreg s = .next s.rdReg ∧ exec .wrreg s = .next s.wrReg ∧ exec .rdmem s = .next s.rdMem ∧ exec .wrmem s = .next s.wrMem ∧
      exec .breakSet s = .next s.setBreak := by
  have hcmd (op : Nat) : s.dbgCmd op = if op = 0 ∨ 10 < op then s else if op = 10 then s.quietRead
      else if op = 1 then (s.haltCore s.dbgCore).dbgRes 0 false else if op = 2 then (s.forceCore s.dbgCore).dbgRes 0 false
      else if op = 3 then (s.resumeCore s.dbgCore).dbgRes 0 false else if op = 4 then (s.stepCore s.dbgCore).dbgRes 0 false
      else if op = 5 then s.rdReg else if op = 6 then s.wrReg else if op = 7 then s.rdMem else if op = 8 then s.wrMem else s.setBreak := by
    simp only [State.dbgCmd, State.dbgOpen_of_coreOpen h, h, Bool.not_true, Bool.false_eq_true, if_false]
  exact ⟨congrArg _ (hcmd 1), congrArg _ (hcmd 2), congrArg _ (hcmd 3), congrArg _ (hcmd 4), congrArg _ (hcmd 5), congrArg _ (hcmd 6),
    congrArg _ (hcmd 7), congrArg _ (hcmd 8), congrArg _ (hcmd 9)⟩

end

/-! ### Halting and going on (R99, R451, R452) -/

section
variable {s : State} {c : Nat}

theorem State.haltCore_running (h : (s.core c).halt = .running) :
    s.haltCore c = s.setCore c { s.core c with halt := if (s.core c).run.any (fun r => r.hold.isSome) then .requested else .halted } := by
  simp only [State.haltCore, h]
  cases (s.core c).run <;> rfl

theorem State.haltCore_stopped (h : (s.core c).halt ≠ .running) : s.haltCore c = s := by
  unfold State.haltCore
  dsimp only
  split
  · exact absurd ‹_› h
  · rfl

/-- A core whose hold is aborted: it stands as before `hold.begin`. -/
def Core.holdAborted (x : Core) (r : Run) (h : Hold) : Core :=
  { x with s := h.s, p := h.p, ls := h.ls, scratch := h.scratch, run := some { r with hold := none, ip := h.ip }, halt := .forced }

theorem State.forceCore_hold {r : Run} {h : Hold} (hr : (s.core c).run = some r) (hh : r.hold = some h) (hlocks : h.locks = []) :
    s.forceCore c = s.setCore c ((s.core c).holdAborted r h) := by
  simp [State.forceCore, State.restartHold, hr, hh, hlocks, State.unlock, State.setCore_setCore]
  rfl

theorem State.forceCore_noHold {r : Run} (hr : (s.core c).run = some r) (hh : r.hold = none) (hx : (s.core c).halt = .running) :
    s.forceCore c = s.setCore c { s.core c with halt := .halted } := by
  simp [State.forceCore, hr, hh, State.haltCore_running hx]

theorem State.resumeCore_halted (h : (s.core c).halt = .halted) :
    s.resumeCore c = s.setCore c { s.core c with halt := .running, stepOnce := false } := by simp only [State.resumeCore, h]

theorem State.resumeCore_forced (h : (s.core c).halt = .forced) :
    s.resumeCore c = (s.setCore c { s.core c with halt := .running }).raise c exHaltHold 0 := by simp only [State.resumeCore, h]

theorem State.stepCore_forced (h : (s.core c).halt = .forced) : s.stepCore c = s.resumeCore c := by simp only [State.stepCore, h]

theorem State.stepCore_whole (h : (s.core c).halt ≠ .forced) :
    s.stepCore c = s.setCore c { s.core c with halt := .running, stepOnce := true } := by
  unfold State.stepCore
  dsimp only
  split
  · exact absurd ‹_› h
  · rfl

end

/-! ### Registers and memory of a halted core (R453, R454) -/

section
variable {s : State} {f : Core → State}

theorem State.onHalted_stopped (h : (s.core s.dbgCore).halt = .halted ∨ (s.core s.dbgCore).halt = .forced) :
    s.onHalted f = f (s.core s.dbgCore) := if_pos h

theorem State.onHalted_runs (h : (s.core s.dbgCore).halt = .running ∨ (s.core s.dbgCore).halt = .requested) : s.onHalted f = s.dbgRes 3 false := by
  refine if_neg ?_
  rcases h with h | h <;> simp [h]

theorem Core.dbgGet_scalar (x : Core) {n : Nat} (i : Nat) (h : n < 0x20) : x.dbgGet n i = some (x.sGet n) := if_pos h

theorem Core.dbgGet_lane (x : Core) {n i : Nat} (h1 : 0x20 ≤ n) (h2 : n < 0x30) (hi : i < 32) :
    x.dbgGet n i = some (BitVec.ofNat 64 (nthD 0 (x.vGet n) i).toNat) := by
  rw [Core.dbgGet, if_neg (by omega), if_pos h2, if_pos hi]

theorem Core.dbgPut_scalar (x : Core) {n : Nat} (i : Nat) (v : W64) (h : n < 0x20) : x.dbgPut n i v = some (x.sPut n v) := if_pos h

theorem Core.dbgPut_lane (x : Core) {n i : Nat} (v : W64) (h1 : 0x20 ≤ n) (h2 : n < 0x30) (hi : i < 32) :
    x.dbgPut n i v = some (x.vPut n (setNth (x.vGet n) i (BitVec.ofNat 32 v.toNat))) := by
  rw [Core.dbgPut, if_neg (by omega), if_pos h2, if_pos hi]

theorem State.rdReg_beyond (h : (s.core s.dbgCore).halt = .halted ∨ (s.core s.dbgCore).halt = .forced) (hn : 0x3C ≤ vfld s.dbgAddr 0 6) :
    s.rdReg = s.dbgRes 4 false := by
  rw [State.rdReg, State.onHalted_stopped h]
  exact if_pos hn

theorem State.wrReg_beyond (h : (s.core s.dbgCore).halt = .halted ∨ (s.core s.dbgCore).halt = .forced) (hn : 0x3C ≤ vfld s.dbgAddr 0 6) :
    s.wrReg = s.dbgRes 4 false := by
  rw [State.wrReg, State.onHalted_stopped h]
  exact if_pos hn

theorem State.rdReg_got (h : (s.core s.dbgCore).halt = .halted ∨ (s.core s.dbgCore).halt = .forced) (hn : vfld s.dbgAddr 0 6 < 0x3C) {v : W64}
    (hget : (s.core s.dbgCore).dbgGet (vfld s.dbgAddr 0 6) (vfld s.dbgAddr 8 8) = some v) : s.rdReg = (s.setReg rDbgData v).dbgRes 0 false := by
  rw [State.rdReg, State.onHalted_stopped h]
  simp only [if_neg (Nat.not_le.mpr hn), hget]
  rfl

theorem State.wrReg_put (h : (s.core s.dbgCore).halt = .halted ∨ (s.core s.dbgCore).halt = .forced) (hn : vfld s.dbgAddr 0 6 < 0x3C) {y : Core}
    (hput : (s.core s.dbgCore).dbgPut (vfld s.dbgAddr 0 6) (vfld s.dbgAddr 8 8) (s.reg rDbgData) = some y) :
    s.wrReg = (s.setCore s.dbgCore y).dbgRes 0 false := by
  rw [State.wrReg, State.onHalted_stopped h]
  simp only [if_neg (Nat.not_le.mpr hn), hput]

theorem State.rdMem_eq (h : (s.core s.dbgCore).halt = .halted ∨ (s.core s.dbgCore).halt = .forced) :
    s.rdMem = if localOk s.dbgAddr.toNat 8 then
      (s.setReg rDbgData (BitVec.ofNat 64 (leNat ((s.core s.dbgCore).readLocal s.dbgAddr.toNat 8)))).dbgRes 0 false else s.dbgRes 2 false := by
  rw [State.rdMem, State.onHalted_stopped h]; rfl

theorem State.wrMem_eq (h : (s.core s.dbgCore).halt = .halted ∨ (s.core s.dbgCore).halt = .forced) :
    s.wrMem = if storeOk s.dbgAddr.toNat 8 then
      (s.setCore s.dbgCore ((s.core s.dbgCore).writeLocal s.dbgAddr.toNat (leBytes 8 (s.reg rDbgData).toNat))).dbgRes 0 false
    else s.dbgRes 2 false := by
  rw [State.wrMem, State.onHalted_stopped h]

/-! ### Breakpoints (R452) -/

theorem State.setBreak_eq (h1 : vfld s.dbgAddr 11 5 = 0) (h2 : vfld s.dbgAddr 18 2 = 0) (h3 : vfld s.dbgAddr 21 43 = 0) :
    s.setBreak = (s.setCore s.dbgCore { s.core s.dbgCore with
      breaks := if vfld s.dbgAddr 20 1 = 1 then alDel (s.core s.dbgCore).breaks (vfld s.dbgAddr 16 2)
        else alPut (s.core s.dbgCore).breaks (vfld s.dbgAddr 16 2) (vfld s.dbgAddr 0 11) }).dbgRes 0 false := by
  have hok : ¬ (vfld s.dbgAddr 11 5 ≠ 0 ∨ vfld s.dbgAddr 18 2 ≠ 0 ∨ vfld s.dbgAddr 21 43 ≠ 0) := by simp [h1, h2, h3]
  exact if_neg hok

end

end Sys2Proof.Machine
end

section
/-! The board's management and debug paths as a whole. -/

namespace Sys2Proof.Machine

/-- Settles O60: common command codes, command frames, the board, JTAG and debug commands, each from what its command does. -/
theorem managementAndDebug : Obligations.ManagementAndDebug := by
  unfold Obligations.ManagementAndDebug
  refine ⟨?codes, ?frames, ?board, ?jtag, ?debug⟩
  case codes =>
    intro s a n
    refine ⟨fun hoff => ?off, fun hon hdyn => ?unaddressed, fun hdyn => ?held, fun hon => ?taken⟩
    case off =>
      have hbroadcast (f : State → State) : Host.Outcome.next (ccc false f s) = (.next s : Host.Outcome State Fault Refusal) :=
        congrArg _ (ccc_off hoff)
      have hdirect (f : State → State) : Host.Outcome.next (ccc true f s) = (.next s : Host.Outcome State Fault Refusal) :=
        congrArg _ (ccc_off hoff)
      have hassign (f : State → State) :
          Host.Outcome.next (if s.towpath.dyn ≠ 0 then s else ccc false f s) = (.next s : Host.Outcome State Fault Refusal) := by
        rw [ccc_off hoff, ite_self]
      simp only [List.forall_mem_cons, List.not_mem_nil, false_imp_iff, implies_true, and_true]
      exact ⟨hassign _, hassign _, hdirect _, hbroadcast _, hbroadcast _, hbroadcast _, hdirect _, hdirect _, hdirect _, hdirect _,
        hdirect _, hdirect _, hbroadcast _, hbroadcast _⟩
    case unaddressed =>
      have hdirect (f : State → State) : Host.Outcome.next (ccc true f s) = (.next s : Host.Outcome State Fault Refusal) :=
        congrArg _ (ccc_unaddressed hdyn)
      simp only [List.forall_mem_cons, List.not_mem_nil, false_imp_iff, implies_true, and_true]
      exact ⟨hdirect _, hdirect _, hdirect _, hdirect _, hdirect _, hdirect _, hdirect _⟩
    case held =>
      exact ⟨congrArg _ (if_pos hdyn), congrArg _ (if_pos hdyn)⟩
    case taken =>
      refine ⟨fun hdyn => ⟨execEntdaa_taken a hon hdyn, execSetdasa_taken hon hdyn⟩, fun hdyn => execSetnewda_taken a hon hdyn,
        congrArg _ (ccc_broadcast hon), execEnec_taken hon, congrArg _ (ccc_broadcast hon), congrArg _ (ccc_broadcast hon),
        congrArg _ (ccc_broadcast hon), fun hdyn => ?_, fun hdyn => execGetstatus_taken hon hdyn⟩
      simp only [List.forall_mem_cons, List.not_mem_nil, false_imp_iff, implies_true, and_true]
      exact ⟨congrArg _ (ccc_answers hon hdyn), congrArg _ (ccc_answers hon hdyn), congrArg _ (ccc_answers hon hdyn),
        congrArg _ (ccc_answers hon hdyn), congrArg _ (ccc_answers hon hdyn)⟩
  case frames =>
    intro s f
    dsimp only
    refine ⟨fun ha => ?elsewhere, fun ha hpec => ?badPec, fun ha hpec => ⟨?word, fun hbad => ?noWords, ?written, ?image, fun haddr => ?status⟩⟩
    case elsewhere =>
      have hnot : (!s.addressed f) = true := by rw [ha]; rfl
      simp only [List.forall_mem_cons, List.not_mem_nil, false_imp_iff, implies_true, and_true]
      exact ⟨if_pos hnot, if_pos hnot, if_pos hnot, if_pos hnot⟩
    case badPec =>
      obtain ⟨hregWrite, himgWrite, hregRead, hstatusRead⟩ := execFrame_bad ha hpec
      obtain ⟨body, hlen, hfail⟩ := (s.badFrame f).frameFail_eq f 1
      rw [hfail] at hregRead hstatusRead
      simp only [List.forall_mem_cons, List.not_mem_nil, false_imp_iff, implies_true, and_true]
      exact ⟨⟨hregWrite, himgWrite⟩, ⟨_, body, hregRead, rfl, hlen, rfl, rfl⟩, ⟨_, body, hstatusRead, rfl, hlen, rfl, rfl⟩⟩
    case word =>
      exact fun hlen haddr hreads => execRegRead_word ha hpec hlen haddr hreads
    case noWords =>
      obtain ⟨hread, hwrite⟩ := execFrame_noWords ha hpec (twpWords_none hbad)
      obtain ⟨body, hlen, hfail⟩ := (s.heard f.i3c).frameFail_eq f 2
      rw [hfail] at hread
      exact ⟨⟨_, body, hread, rfl, hlen⟩, hwrite⟩
    case written =>
      intro hlen hdata haddr
      have hwrite := execRegWrite_word ha hpec hlen hdata haddr
      exact ⟨fun hw => hwrite.trans (congrArg _ (if_pos hw)), fun hw => hwrite.trans (congrArg _ (if_neg (Bool.eq_false_iff.mp hw)))⟩
    case image =>
      intro h1 h2 hdata h3
      have hchunk : ImageChunk f := ⟨h1, h2, hdata, h3⟩
      refine ⟨execImgWrite_notAwaited ha hpec hchunk, fun hstage hplaced hwf =>
        ⟨_, execImgWrite_placed ha hpec hchunk hstage hplaced, fun i hi => ?_, fun a hapart => ?_, rfl⟩⟩
      · rw [← hdata] at hi
        rw [memRead_memWriteL_inside _ _ _ hwf hi, nthD, List.getElem?_eq_getElem hi, Option.getD_some]
      · rw [← hdata] at hapart
        exact memRead_memWriteL_outside _ _ _ hwf hapart
    case status =>
      obtain ⟨body, hlen, hfail⟩ := (s.heard f.i3c).frameFail_eq f s.towpath.status
      have hread := execStatusRead_last ha hpec haddr
      rw [hfail] at hread
      exact ⟨_, body, hread, rfl, hlen, rfl⟩
  case board =>
    intro s
    refine ⟨fun vs hreset hlen => ?sensors, fun vs hreset => if_pos (.inl hreset), fun v => ⟨?away, ?ignored, ?xfer⟩, fun ack d op hcur hq => ?done,
      fun hcur => ?idle, fun op hcur => ?timeout, fun sda scl hreset hcur hfirst => ?clear, fun sda scl hclearing hrepeats => ?retry,
      fun hnone sda scl => ?noRetry, fun hon hfree hknown hbusy => ?poll, fun hoff => ?noPoll⟩
    case sensors =>
      obtain ⟨t, ht, hshows, hpace, hmain, hframe⟩ := execSensorUpdate_measured hreset hlen
      refine ⟨t, ht, fun i hi => ?_, ?_, fun i hi hv => ?_, fun i hi hv => ?_, ?_, hframe⟩
      · obtain ⟨alarm, hget, -⟩ := hshows i hi
        rw [hget]; rfl
      · obtain ⟨alarm, hget, -⟩ := hpace
        rw [hget]; rfl
      · obtain ⟨alarm, hget, hset, -⟩ := hshows i (by omega)
        rw [hget, Option.map_some, hset (by omega) (by rwa [sext16_toNat])]
      · obtain ⟨alarm, hget, -, hclear⟩ := hshows i (by omega)
        rw [hget, Option.map_some, hclear (by rwa [sext16_toNat])]
      · rw [hmain, vinOk_iff]
    case away =>
      exact fun hservice => congrArg _ (if_neg (Bool.eq_false_iff.mp hservice))
    case ignored =>
      exact fun hservice h => congrArg _ ((if_pos hservice).trans (lbsXferWrite_ignored h))
    case xfer =>
      intro hservice hgo hbusy hw hr
      have hexec : exec (.lbsXfer v) s = .next (s.lbsXferWrite v) := congrArg _ (if_pos hservice)
      refine ⟨fun hstuck => ?_, fun hfree hidle => ?_⟩
      · rw [hexec, lbsXferWrite_taken hgo hbusy hw hr, if_pos hstuck]; rfl
      · rw [hexec, lbsXferWrite_started hgo hbusy hw hr hfree hidle]
        exact ⟨_, s.xferOp v, rfl, rfl, rfl, rfl, rfl, rfl, rfl, rfl, State.fld_setFld s rLbsStat 1 (by decide), rfl⟩
    case done =>
      have hend := execLbsTransferDone_idle (d := d) ack hcur hq
      rw [exec_lbsTransferDone, hend]
      cases hhost : op.host <;> cases ack
      case true.true =>
        exact ⟨_, rfl, rfl, fun _ _ => ⟨(State.reg_lbsEnd_ne _ 0 (by decide)).trans (State.reg_setReg _ _ _), State.fld_lbsEnd_status _ (by decide),
          State.fld_lbsEnd_busy _ _⟩, nofun, nofun, rfl⟩
      case true.false =>
        exact ⟨_, rfl, rfl, nofun, fun _ _ => ⟨(State.reg_lbsEnd_ne _ 1 (by decide)).trans (State.reg_setFld_ne _ _ _ _ (by decide)),
          State.fld_lbsEnd_status _ (by decide), State.fld_lbsEnd_busy _ _⟩,
          fun _ => (State.fld_lbsEnd_apart _ 1 (.inl (by decide))).trans (State.fld_bump _ _ 1 (by decide)), rfl⟩
      case false.true => exact ⟨_, rfl, rfl, nofun, nofun, nofun, rfl⟩
      case false.false => exact ⟨_, rfl, rfl, nofun, nofun, fun _ => State.fld_bump _ _ 1 (by decide), rfl⟩
    case idle =>
      refine ⟨?_, fun ack d => ?_⟩
      · rw [exec_lbsTimeout, execLbsTimeout, hcur]
      · rw [exec_lbsTransferDone, execLbsTransferDone, hcur]
    case timeout =>
      rw [exec_lbsTimeout, execLbsTimeout_ends hcur]
      cases hhost : op.host with
      | true => exact ⟨_, rfl, rfl, fun _ => ⟨State.fld_lbsEnd_status _ (by decide), State.fld_lbsEnd_busy _ _⟩, rfl⟩
      | false => exact ⟨_, rfl, rfl, nofun, rfl⟩
    case clear =>
      obtain ⟨p, hclear⟩ := execLbsClear_first (sda := sda) (scl := scl) hreset hcur hfirst
      have hcount : ((s.bump rLbsStat 8 8 1).pulsed p).fld rLbsStat 8 8 = satAdd 8 (s.fld rLbsStat 8 8) 1 :=
        (State.fld_pulsed _ p (by decide)).trans (State.fld_bump _ _ 1 (by decide))
      have hsent : OutMsg.lbsClear ∈ ((s.bump rLbsStat 8 8 1).pulsed p).sent := List.mem_append_right _ (List.mem_singleton_self _)
      rw [exec_lbsClear, hclear]
      by_cases hhigh : true ∈ sda.take 9 ∧ scl = true
      · obtain ⟨hclearing, hstuck, hother, hkept⟩ := ((s.bump rLbsStat 8 8 1).pulsed p).clearDone_facts
        rw [if_pos (by simp [hhigh])]
        exact ⟨_, rfl, (hother 8 8 (by decide)).trans hcount, hkept _ hsent, fun _ _ => ⟨hclearing, hstuck⟩,
          fun hlow => absurd hhigh (by rcases hlow with h | h <;> simp [h])⟩
      · rw [if_neg (by simpa using hhigh)]
        exact ⟨_, rfl, hcount, hsent, fun h1 h2 => absurd ⟨h2, h1⟩ hhigh, fun _ => rfl⟩
    case retry =>
      obtain ⟨p, hretry⟩ := execLbsClearRetry_run (sda := sda) (scl := scl) hclearing hrepeats
      rw [exec_lbsClearRetry, hretry]
      refine ⟨fun hscl hsda => ?_, fun hscl hfew => ?_, fun hscl hmany => ?_⟩
      · obtain ⟨hclear, hstuck, -, -⟩ := (s.pulsed p).clearDone_facts
        rw [if_pos (by simp [hscl, hsda])]
        exact ⟨_, rfl, hclear, hstuck⟩
      · rw [if_neg (by simp [hscl]), if_neg (by omega)]
        exact ⟨_, rfl, rfl⟩
      · rw [if_neg (by simp [hscl]), if_pos hmany]
        exact ⟨_, rfl, (s.pulsed p).lbsStuck_facts⟩
    case noRetry =>
      have hnot : (!s.lbs.clearing) = true ∨ s.lbs.repeats = 0 := hnone.imp (fun h => by rw [h]; rfl) id
      exact if_pos hnot
    case poll =>
      have hrun : ¬ (s.fld rLbsCtl 3 1 = 0 ∨ s.fld rLbsStat 0 1 = 1 ∨ (!s.lbs.known) = true) := by simp [hon, hfree, hknown]
      exact ⟨_, _, (if_neg hrun).trans (congrArg _ (State.lbsPush_busy _ hbusy)), rfl, rfl, rfl, rfl⟩
    case noPoll =>
      have hnot : s.fld rLbsCtl 3 1 = 0 ∨ s.fld rLbsStat 0 1 = 1 ∨ (!s.lbs.known) = true := hoff.imp_right (Or.imp_right fun h => by rw [h]; rfl)
      exact if_pos hnot
  case jtag =>
    intro s
    dsimp only
    refine ⟨congrArg Host.Outcome.next (s.tap_eq _ _), congrArg Host.Outcome.next (s.tap_eq _ _), execSamplePreload_eq, ?drive,
      fun scan off hoff => ?scan⟩
    case drive =>
      simp only [List.forall_mem_cons, List.not_mem_nil, false_imp_iff, implies_true, and_true]
      exact ⟨⟨fun h => congrArg _ (State.tapDrive_taken _ _ h), fun h1 h2 => congrArg _ (State.tapDrive_refused _ _ h1 h2)⟩,
        ⟨fun h => congrArg _ (State.tapDrive_taken _ _ h), fun h1 h2 => congrArg _ (State.tapDrive_refused _ _ h1 h2)⟩,
        ⟨fun h => congrArg _ (State.tapDrive_taken _ _ h), fun h1 h2 => congrArg _ (State.tapDrive_refused _ _ h1 h2)⟩⟩
    case scan =>
      subst hoff
      refine ⟨fun hread hreg => ?_, fun hread hreg => ?_, fun hwrite hcmd => ?_, fun hwrite hcmd => ?_⟩
      · exact (execDbgSel_read hread).trans (by rw [if_neg hreg]; rfl)
      · exact (execDbgSel_read hread).trans (by rw [if_pos hreg]; rfl)
      · exact (execDbgSel_write hwrite).trans (by rw [if_pos hcmd])
      · exact (execDbgSel_write hwrite).trans (by rw [if_neg hcmd])
  case debug =>
    intro s
    dsimp only
    refine ⟨fun hmask => ?locked, fun hcore => ?coreLocked, fun hmask => congrArg _ (State.dbgCmd_qread hmask), fun hcore => ?core, fun k => ?defer⟩
    case locked =>
      have hlocked {op : Nat} (h1 : 1 ≤ op) (h10 : op ≤ 10) :
          Host.Outcome.next (s.dbgCmd op) = (.next (s.dbgRes 1 false) : Host.Outcome State Fault Refusal) :=
        congrArg _ (State.dbgCmd_locked h1 h10 hmask)
      simp only [List.forall_mem_cons, List.not_mem_nil, false_imp_iff, implies_true, and_true]
      refine ⟨hlocked ?_ ?_, hlocked ?_ ?_, hlocked ?_ ?_, hlocked ?_ ?_, hlocked ?_ ?_, hlocked ?_ ?_, hlocked ?_ ?_, hlocked ?_ ?_,
        hlocked ?_ ?_, hlocked ?_ ?_⟩ <;> decide
    case coreLocked =>
      have hlocked {op : Nat} (h1 : 1 ≤ op) (h9 : op ≤ 9) :
          Host.Outcome.next (s.dbgCmd op) = (.next (s.dbgRes 1 false) : Host.Outcome State Fault Refusal) :=
        congrArg _ (State.dbgCmd_coreLocked h1 h9 hcore)
      simp only [List.forall_mem_cons, List.not_mem_nil, false_imp_iff, implies_true, and_true]
      refine ⟨hlocked ?_ ?_, hlocked ?_ ?_, hlocked ?_ ?_, hlocked ?_ ?_, hlocked ?_ ?_, hlocked ?_ ?_, hlocked ?_ ?_, hlocked ?_ ?_,
        hlocked ?_ ?_⟩ <;> decide
    case core =>
      obtain ⟨hhalt, hforce, hresume, hstep, hrdReg, hwrReg, hrdMem, hwrMem, hbreak⟩ := exec_dbgCommand hcore
      refine ⟨fun hx => ?_, fun hx => ?_, fun r h hr hh hlocks => ?_, fun r hr hh hx => ?_, fun hx => ?_, fun hx => ?_, fun hx => ?_,
        fun hx => ?_, fun hx => ⟨fun hn => ?_, fun hn => ?_, fun hn1 hn2 hi => ?_, fun ha => ?_, fun ha => ?_, fun ha => ?_, fun ha => ?_⟩,
        fun h1 h2 h3 hclear => ?_, fun h1 h2 h3 hclear => ?_⟩
      · rw [hhalt, State.haltCore_running hx]
      · rw [hhalt, State.haltCore_stopped hx]
      · rw [hforce, State.forceCore_hold hr hh hlocks]; rfl
      · rw [hforce, State.forceCore_noHold hr hh hx]
      · rw [hresume, State.resumeCore_halted hx]
      · simp only [List.forall_mem_cons, List.not_mem_nil, false_imp_iff, implies_true, and_true]
        rw [hresume, hstep, State.stepCore_forced hx, State.resumeCore_forced hx]
        exact ⟨rfl, rfl⟩
      · rw [hstep, State.stepCore_whole hx]
      · simp only [List.forall_mem_cons, List.not_mem_nil, false_imp_iff, implies_true, and_true]
        rw [hrdReg, hwrReg, hrdMem, hwrMem]
        exact ⟨congrArg _ (State.onHalted_runs hx), congrArg _ (State.onHalted_runs hx), congrArg _ (State.onHalted_runs hx),
          congrArg _ (State.onHalted_runs hx)⟩
      · rw [hrdReg, hwrReg, State.rdReg_beyond hx hn, State.wrReg_beyond hx hn]
        exact ⟨rfl, rfl⟩
      · have hn' : vfld s.dbgAddr 0 6 < 0x3C := Nat.lt_trans hn (by decide)
        rw [hrdReg, hwrReg, State.rdReg_got hx hn' (Core.dbgGet_scalar _ _ hn), State.wrReg_put hx hn' (Core.dbgPut_scalar _ _ _ hn)]
        exact ⟨rfl, rfl⟩
      · have hn' : vfld s.dbgAddr 0 6 < 0x3C := Nat.lt_trans hn2 (by decide)
        rw [hrdReg, hwrReg, State.rdReg_got hx hn' (Core.dbgGet_lane _ hn1 hn2 hi), State.wrReg_put hx hn' (Core.dbgPut_lane _ _ hn1 hn2 hi)]
        exact ⟨rfl, rfl⟩
      · rw [hrdMem, State.rdMem_eq hx, if_pos ha]
      · rw [hrdMem, State.rdMem_eq hx, if_neg (Bool.eq_false_iff.mp ha)]
      · rw [hwrMem, State.wrMem_eq hx, if_pos ha]
      · rw [hwrMem, State.wrMem_eq hx, if_neg (Bool.eq_false_iff.mp ha)]
      · rw [hbreak, State.setBreak_eq h1 h2 h3, if_neg (show vfld s.dbgAddr 20 1 ≠ 1 by rw [vfld, hclear]; decide)]; rfl
      · rw [hbreak, State.setBreak_eq h1 h2 h3, if_pos (show vfld s.dbgAddr 20 1 = 1 from hclear)]; rfl
    case defer =>
      refine ⟨fun hreq r h hr hh hlocks => ?_, fun hnot => congrArg _ (if_neg hnot)⟩
      exact congrArg _ ((if_pos hreq).trans (State.forceCore_hold hr hh hlocks))

end Sys2Proof.Machine
end

section
/-! The core's instruction word and its fields, both ways (R113, R115). -/

namespace Sys2Proof.Machine

/-! ### The word of six fields (R113) -/

theorem toNat_coreWord {op pred dst a b im : Nat} (hop : op < 2 ^ 8) (hpred : pred < 2 ^ 4) (hdst : dst < 2 ^ 6) (ha : a < 2 ^ 6)
    (hb : b < 2 ^ 6) (him : im < 2 ^ 34) :
    (coreWord op pred dst a b im).toNat = op * 2 ^ 56 + pred * 2 ^ 52 + dst * 2 ^ 46 + a * 2 ^ 40 + b * 2 ^ 34 + im := by
  rw [coreWord, BitVec.toNat_ofNat, Nat.mod_eq_of_lt (by omega)]

/-- Each field of the word of six fields reads back. -/
theorem coreWord_fields {op pred dst a b im : Nat} (hop : op < 2 ^ 8) (hpred : pred < 2 ^ 4) (hdst : dst < 2 ^ 6) (ha : a < 2 ^ 6)
    (hb : b < 2 ^ 6) (him : im < 2 ^ 34) :
    let w := coreWord op pred dst a b im
    opc w = op ∧ predF w = pred ∧ dstF w = dst ∧ srcA w = a ∧ srcB w = b ∧ imm w = im := by
  simp only [opc, predF, dstF, srcA, srcB, imm, fld, toNat_coreWord hop hpred hdst ha hb him]
  omega

/-- A word is the word of its own fields. -/
theorem coreWord_of_fields (w : W64) : coreWord (opc w) (predF w) (dstF w) (srcA w) (srcB w) (imm w) = w := by
  have hw := w.isLt
  apply BitVec.eq_of_toNat_eq
  refine (toNat_coreWord (fld_lt w 56 8) (fld_lt w 52 4) (fld_lt w 46 6) (fld_lt w 40 6) (fld_lt w 34 6) (fld_lt w 0 34)).trans ?_
  simp only [fld]
  omega

/-! ### The instruction a word names (R115) -/

theorem CoreOp.opcode_lt (o : CoreOp) : o.code.1 < 2 ^ 8 := by cases o <;> decide

theorem CoreOp.formOk_iff (o : CoreOp) (im : Nat) :
    o.formOk im = true ↔ im % o.code.2.1 = o.code.2.2 ∧ (o = .tstLd → im / 2 % 4 ≠ 3) := by
  cases o <;> simp [CoreOp.formOk]

/-- A word with an instruction's opcode, and IMM of its form, names it: only where several forms share an opcode does IMM matter. -/
theorem coreOp_of_code {o : CoreOp} {w : W64} (hop : opc w = o.code.1) (hform : o.formOk (imm w) = true) : coreOp w = some o := by
  obtain ⟨hmod, hfmt⟩ := (o.formOk_iff _).mp hform
  rw [coreOp, hop]
  cases o
  case tldMan | tldManNext | tldManRequeue | tstSt | scaleS | scaleO | smxUpd | smxUpdMan | smxUpdSkip | mergePart | mergePartDrop |
      mergePartR | chSet | chSetThr | flightArm | flightArmCancel =>
    simp only [CoreOp.code] at hmod
    rw [hmod]
    rfl
  case tstLd =>
    simp only [CoreOp.code] at hmod
    rw [hmod]
    exact if_neg (hfmt rfl)
  all_goals rfl

/-- A word that names an instruction has its opcode, and IMM of its form. -/
theorem code_of_coreOp {o : CoreOp} {w : W64} (h : coreOp w = some o) : opc w = o.code.1 ∧ o.formOk (imm w) = true := by
  rw [CoreOp.formOk_iff]
  unfold coreOp at h
  split at h
  -- an opcode that several forms share is split once more, by IMM
  all_goals (repeat' split at h)
  -- a reserved opcode or form names nothing; every other branch names its instruction
  all_goals cases h
  all_goals simp_all [CoreOp.code, Nat.mod_one]

/-- Settles O5: the six fields of a word by arithmetic, the instruction it names by its opcode and form. -/
theorem coreWordRoundTrip : Obligations.CoreWordRoundTrip := by
  unfold Obligations.CoreWordRoundTrip
  refine ⟨fun o pred dst a b im hpred hdst ha hb him hform => ?written, fun o w hw => ?read⟩
  case written =>
    obtain ⟨hop, hfields⟩ := coreWord_fields o.opcode_lt hpred hdst ha hb him
    obtain ⟨-, -, -, -, him'⟩ := id hfields
    exact ⟨coreOp_of_code hop (by rwa [him']), hfields⟩
  case read =>
    obtain ⟨hop, hform⟩ := code_of_coreOp hw
    exact ⟨hform, by rw [← hop, coreWord_of_fields]⟩

end Sys2Proof.Machine
end

section
/-! Scalar, immediate, compare and predicate instructions (R124). -/

namespace Sys2Proof.Machine

section
variable {s : State} {c : Nat} {x : Core} {r : Run} {o : CoreOp} {sem : Sem} {w : W64}

/-- An instruction that writes one scalar register and nothing else. -/
theorem issue_sPut {n : Nat} {v : W64} (h : Issues s c x r o w) (hs : sem w c x r s = put c (x.sPut n v) s) :
    issue o sem c s = s.setCore c (issued (x.sPut n v) r (r.ip + 1)) :=
  issue_put h hs ((x.run_sPut n v).trans h.run)

/-- An instruction that writes one predicate and nothing else. -/
theorem issue_pPut {n : Nat} {b : Bool} (h : Issues s c x r o w) (hs : sem w c x r s = put c (x.pPut n b) s) :
    issue o sem c s = s.setCore c (issued (x.pPut n b) r (r.ip + 1)) :=
  issue_put h hs ((x.run_pPut n b).trans h.run)

theorem issue_alu (f : W64 → W64 → W64) (h : Issues s c x r o w) :
    issue o (semAlu f) c s = s.setCore c (issued (x.sPut (dstF w) (f (x.sGet (srcA w)) (x.sGet (srcB w)))) r (r.ip + 1)) :=
  issue_sPut h rfl

theorem issue_aluI (f : W64 → W64 → W64) (h : Issues s c x r o w) :
    issue o (semAluI f) c s = s.setCore c (issued (x.sPut (dstF w) (f (x.sGet (srcA w)) (simm w))) r (r.ip + 1)) :=
  issue_sPut h rfl

/-- A compare of two registers writes whether the relation it decides holds of them. -/
theorem exec_cmp {i : Instr} {f : W64 → W64 → Bool} {holds : W64 → W64 → Prop} (h : Issues s c x r o w)
    (hi : exec i s = .next (issue o (semCmp f) c s)) (hf : ∀ a b, f a b = true ↔ holds a b) :
    ∃ b : Bool, (b = true ↔ holds (x.sGet (srcA w)) (x.sGet (srcB w))) ∧
      exec i s = .next (s.setCore c (issued (x.pPut (dstF w) b) r (r.ip + 1))) :=
  ⟨_, hf _ _, by rw [hi, issue_pPut h rfl]⟩

/-- The same of a register and the immediate. -/
theorem exec_cmpI {i : Instr} {f : W64 → W64 → Bool} {holds : W64 → W64 → Prop} (h : Issues s c x r o w)
    (hi : exec i s = .next (issue o (semCmpI f) c s)) (hf : ∀ a b, f a b = true ↔ holds a b) :
    ∃ b : Bool, (b = true ↔ holds (x.sGet (srcA w)) (simm w)) ∧
      exec i s = .next (s.setCore c (issued (x.pPut (dstF w) b) r (r.ip + 1))) :=
  ⟨_, hf _ _, by rw [hi, issue_pPut h rfl]⟩

theorem issue_plog (h : Issues s c x r .plog w) :
    issue .plog semPlog c s = s.setCore c (issued (x.pPut (dstF w) ((imm w).testBit
      ((if x.pGet (srcA w) then 2 else 0) + (if x.pGet (srcB w) then 1 else 0)))) r (r.ip + 1)) := by
  rw [Nat.testBit_eq_decide_div_mod_eq]
  exact issue_pPut h rfl

end

/-- Settles O7: the two-register, the immediate and the compare forms each by one lemma over the function they compute. -/
theorem scalarAndPredicateForms : Obligations.ScalarAndPredicateForms := by
  unfold Obligations.ScalarAndPredicateForms
  refine ⟨fun s c x r w => ?alu, fun s c x r w => ?aluI, fun s c x r w => ⟨?cmp, ?cmpI, fun h => congrArg _ (issue_plog h)⟩⟩
  all_goals simp only [List.mem_cons, List.not_mem_nil, or_false]
  case alu =>
    rintro e (rfl | rfl | rfl | rfl | rfl | rfl | rfl | rfl | rfl) h <;> exact congrArg _ (issue_alu _ h)
  case aluI =>
    rintro e (rfl | rfl | rfl | rfl | rfl | rfl | rfl | rfl | rfl | rfl | rfl | rfl) h
    case inr.inr.inr.inr.inr.inr.inr.inr.inr.inl => exact congrArg _ (issue_sPut (sem := semMov) h rfl)
    case inr.inr.inr.inr.inr.inr.inr.inr.inr.inr.inl => exact congrArg _ (issue_sPut (sem := semMovh) h rfl)
    case inr.inr.inr.inr.inr.inr.inr.inr.inr.inr.inr => exact congrArg _ (issue_sPut (sem := semExt) h rfl)
    all_goals exact congrArg _ (issue_aluI _ h)
  case cmp =>
    rintro e (rfl | rfl | rfl | rfl) h
    · exact exec_cmp h rfl (fun _ _ => beq_iff_eq)
    · exact exec_cmp h rfl (fun _ _ => bne_iff_ne)
    · exact exec_cmp h rfl (fun _ _ => BitVec.slt_iff_toInt_lt)
    · exact exec_cmp h rfl (fun _ _ => BitVec.ult_iff_toNat_lt)
  case cmpI =>
    rintro e (rfl | rfl | rfl | rfl) h
    · exact exec_cmpI h rfl (fun _ _ => beq_iff_eq)
    · exact exec_cmpI h rfl (fun _ _ => bne_iff_ne)
    · exact exec_cmpI h rfl (fun _ _ => BitVec.slt_iff_toInt_lt)
    · exact exec_cmpI h rfl (fun _ _ => BitVec.ult_iff_toNat_lt)

end Sys2Proof.Machine
end

section
/-! Tile loads and stores (R119, R125, R126, R129). -/

namespace Sys2Proof.Machine

/-! ### Rows laid end to end -/

/-- Element `e` of row `i` of rows of `n` elements each, laid end to end. -/
theorem getElem?_flatMap_row {α β : Type} {f : α → List β} {n e : Nat} (hlen : ∀ a, (f a).length = n) (he : e < n) (l : List α) (i : Nat) :
    (l.flatMap f)[n * i + e]? = l[i]?.bind (fun a => (f a)[e]?) := by
  induction l generalizing i with
  | nil => rfl
  | cons a l ih =>
    rw [List.flatMap_cons]
    cases i with
    | zero => simp [List.getElem?_append_left, hlen, he]
    | succ i =>
      rw [Nat.mul_succ, Nat.add_right_comm, List.getElem?_append_right (by rw [hlen]; omega), hlen, Nat.add_sub_cancel, ih,
        List.getElem?_cons_succ]

/-! ### Tiles of a berth (R119, R125, R126) -/

/-- The positions of tile `p` of a berth that hold a token. -/
def BerthView.valid (v : BerthView) (p : Nat) : Nat := min 32 (v.count - 32 * p)

/-- Row `i` of tile `p`, chunk `ch` of a head, with its scale code at each element: 0 past the valid positions. -/
def BerthView.tileRow (v : BerthView) (g : Geo) (h p ch : Nat) (val : Bool) (i : Nat) : List (Nat × Nat) :=
  if i < v.valid p then (List.range 32).map (fun e => g.code v.payload (g.off (32 * p + i) h val) (32 * ch + e))
  else List.replicate 32 (0, 0)

/-- The tile a load makes of a berth. -/
def BerthView.tile (v : BerthView) (g : Geo) (h p ch : Nat) (val : Bool) : Tile :=
  { tag := g.fmt
    elems := ((List.range 32).map (v.tileRow g h p ch val)).flatMap (·.map (·.1))
    scales := ((List.range 32).map (v.tileRow g h p ch val)).map (fun row => (row.headD (0, 0)).2)
    tmeta := some ⟨v.berth, h, ch, v.first + 32 * p, v.valid p⟩
    src := if val then .value else .key }

theorem BerthView.length_tileRow (v : BerthView) (g : Geo) (h p ch : Nat) (val : Bool) (i : Nat) : (v.tileRow g h p ch val i).length = 32 := by
  unfold BerthView.tileRow
  split <;> simp

theorem BerthView.tile_elem (v : BerthView) (g : Geo) (h p ch : Nat) (val : Bool) {i e : Nat} (hi : i < 32) (he : e < 32) :
    nthD 0 (v.tile g h p ch val).elems (32 * i + e) =
      if i < v.valid p then (g.code v.payload (g.off (32 * p + i) h val) (32 * ch + e)).1 else 0 := by
  have hlen (i : Nat) : ((v.tileRow g h p ch val i).map (·.1)).length = 32 := by rw [List.length_map, v.length_tileRow]
  have hrow : (v.tile g h p ch val).elems[32 * i + e]? = ((v.tileRow g h p ch val i).map (·.1))[e]? := by
    rw [BerthView.tile, List.flatMap_map, getElem?_flatMap_row hlen he, List.getElem?_range hi, Option.bind_some]
  rw [nthD, hrow, BerthView.tileRow]
  split
  case isTrue => simp [he]
  case isFalse => simp only [List.map_replicate, List.getElem?_replicate, if_pos he, Option.getD_some]

section
variable {s : State} {c : Nat} {x : Core} {r : Run} {w : W64} {m : MSweep}

/-- A load of a berth found writes its tile; of a value tile, the largest magnitude is kept too (R138). -/
theorem semTld_loaded {val : Bool} {v : BerthView} (hm : s.memberOf r = some m) (hform : imm w / 8 % 2 = 0)
    (hv : s.findTicket c r m (x.sGet (srcA w)) = .view v) (hmode : v.mode = 0) (hh : (x.sGet (srcB w)).toNat % 256 < m.nkv)
    (hch : imm w % 8 < m.d / 32) :
    ∃ vmax : F32, (val = false → vmax = r.bl.vmax) ∧ semTld val w c x r s =
      put c { x.tPut (dstF w) (v.tile m.geo ((x.sGet (srcB w)).toNat % 256) ((x.sGet (srcB w)).toNat / 256 % 8) (imm w % 8) val) with
        run := some { r with bl := { r.bl with vmax := vmax } } } s := by
  have hexact : ¬ (v.mode ≠ 0 ∨ m.geo.nkv ≤ (x.sGet (srcB w)).toNat % 256 ∨ m.geo.d / 32 ≤ imm w % 8 ∨
      256 ≤ (x.sGet (srcB w)).toNat / 256 % 8 * 32) := by
    rintro (hne | hhead | hchunk | hpos)
    · exact hne hmode
    · exact absurd hh (Nat.not_lt.mpr hhead)
    · exact absurd hch (Nat.not_lt.mpr hchunk)
    · omega
  have hX : ¬ imm w / 8 % 2 = 1 := by omega
  simp only [semTld, hm, if_neg hX, hv, if_neg hexact]
  exact ⟨_, fun hkey => if_neg (Bool.eq_false_iff.mp hkey), rfl⟩

theorem issue_tld {o : CoreOp} {val : Bool} {v : BerthView} (h : Issues s c x r o w) (hm : s.memberOf r = some m) (hform : imm w / 8 % 2 = 0)
    (hv : s.findTicket c r m (x.sGet (srcA w)) = .view v) (hmode : v.mode = 0) (hh : (x.sGet (srcB w)).toNat % 256 < m.nkv)
    (hch : imm w % 8 < m.d / 32) :
    ∃ vmax : F32, (val = false → vmax = r.bl.vmax) ∧ issue o (semTld val) c s = s.setCore c (issued
      (x.tPut (dstF w) (v.tile m.geo ((x.sGet (srcB w)).toNat % 256) ((x.sGet (srcB w)).toNat / 256 % 8) (imm w % 8) val))
      { r with bl := { r.bl with vmax := vmax } } (r.ip + 1)) := by
  obtain ⟨vmax, hkey, hsem⟩ := semTld_loaded (val := val) hm hform hv hmode hh hch
  exact ⟨vmax, hkey, by rw [issue_put h hsem rfl, issued_withRun]⟩

/-! ### Tiles in local store (R129) -/

theorem semTstLd_loaded (hal : imm w / 2 ^ 16 % 32 = 0) (hok : localOk (tstAddr x w) (tileSize (imm w / 2 % 4)) = true) :
    semTstLd false w c x r s = put c (x.tPut (dstF w)
      (tileOf (imm w / 2 % 4) (x.readLocal (tstAddr x w) (tileSize (imm w / 2 % 4))))) s := by
  simp only [semTstLd, if_neg (not_not.mpr hal), hok]
  rfl

theorem semTstLd_misaligned (e : Bool) (hal : imm w / 2 ^ 16 % 32 ≠ 0) :
    semTstLd e w c x r s = .exc exMisaligned (BitVec.ofNat 64 (tstAddr x w)) :=
  if_pos hal

theorem semTstSt_stored (hal : imm w / 2 ^ 16 % 32 = 0) (hok : storeOk (tstAddr x w) (tileSize (x.tGet (srcB w)).tag) = true) :
    semTstSt w c x r s = put c (x.writeLocal (tstAddr x w) (tileBytes (x.tGet (srcB w)))) s := by
  simp only [semTstSt, if_neg (not_not.mpr hal), hok]
  rfl

theorem semTstSt_outside (hal : imm w / 2 ^ 16 % 32 = 0) (hok : storeOk (tstAddr x w) (tileSize (x.tGet (srcB w)).tag) = false) :
    semTstSt w c x r s = .exc exStore (BitVec.ofNat 64 (tstAddr x w)) := by
  simp only [semTstSt, if_neg (not_not.mpr hal), hok]
  rfl

end

/-- Settles O14: a load of a berth by the tile it makes and each element's row, a `tst` by whether its address and range allow it. -/
theorem tileTransfers : Obligations.TileTransfers := by
  unfold Obligations.TileTransfers
  refine ⟨fun s c x r w m t y val h hm hform ht hmode hy hh hch => ?tld,
    fun s c x r w => ⟨fun h hal hok => ?ld, fun h hal hok => ?st, fun e h hal => ?misaligned, fun h hal hok => ?outside⟩⟩
  case tld =>
    obtain ⟨vmax, hkey, hissue⟩ := issue_tld (val := val) h hm hform (State.findTicket_exact ht hmode hy) rfl hh hch
    have hexec : exec (if val then .tldV c else .tldK c) s = .next (issue (if val then .tldV else .tldK) (semTld val) c.toNat s) := by
      cases val <;> rfl
    exact ⟨_, vmax, hexec.trans (congrArg _ hissue), rfl, rfl, rfl, hkey, fun i hi e he => BerthView.tile_elem _ _ _ _ _ _ hi he⟩
  case ld => exact congrArg _ (issue_put h (semTstLd_loaded hal hok) h.run)
  case st => exact congrArg _ (issue_put h (semTstSt_stored hal hok) ((x.run_writeLocal _ _).trans h.run))
  case misaligned => exact congrArg _ (issue_exc h (semTstLd_misaligned e hal))
  case outside => exact congrArg _ (issue_exc h (semTstSt_outside hal hok))

end Sys2Proof.Machine
end

section
/-! Weights formed and values accumulated (R119, R120, R130, R134). -/

namespace Sys2Proof.Machine

/-! ### One element of a value plane changed (R120) -/

theorem nthD_setNth {α : Type} (d : α) (l : List α) (n k : Nat) (v : α) :
    nthD d (setNth l n v) k = if n = k ∧ k < l.length then v else nthD d l k := by
  induction l generalizing n k with
  | nil => simp [setNth]
  | cons a l ih =>
    cases n <;> cases k
    case zero.zero => simp [setNth, nthD]
    case zero.succ => simp [setNth, nthD]
    case succ.zero => simp [setNth, nthD]
    case succ.succ n k => simpa [setNth, nthD] using ih n k

theorem length_padTo {α : Type} (d : α) (n : Nat) (l : List α) : (padTo d n l).length = n := by
  rw [padTo, List.length_take, List.length_append, List.length_replicate]
  omega

theorem nthD_padTo_lt {α : Type} (d : α) {n k : Nat} (l : List α) (h : k < n) : nthD d (padTo d n l) k = nthD d l k := by
  rw [nthD, padTo, List.getElem?_take_of_lt h, List.getElem?_append]
  split
  case isTrue => rfl
  case isFalse hk =>
    have hpad : k - l.length < n := by omega
    rw [List.getElem?_replicate, if_pos hpad, nthD, List.getElem?_eq_none (Nat.not_lt.mp hk)]
    rfl

/-- Element `n` of the value plane of accumulator `f` changed. -/
def Core.modVal (x : Core) (f n : Nat) (u : F32 → F32) : Core :=
  x.aPut f { x.aGet f with val := setNth (padTo 0 1024 (x.aGet f).val) n (u (nthD 0 (x.aGet f).val n)) }

theorem Core.aGet_aPut (x : Core) (f : Nat) (a : Acc) : (x.aPut f a).aGet f = a := alGetD_alPut_self ..

theorem Core.aGet_aPut_ne (x : Core) {f g : Nat} (a : Acc) (h : f - 0x38 ≠ g - 0x38) : (x.aPut f a).aGet g = x.aGet g :=
  alGetD_alPut_ne _ h _ _

theorem Core.score_modVal (x : Core) (f n : Nat) (u : F32 → F32) (g : Nat) : ((x.modVal f n u).aGet g).score = (x.aGet g).score := by
  by_cases h : f - 0x38 = g - 0x38
  · have hget (y : Core) : y.aGet g = y.aGet f := by rw [Core.aGet, Core.aGet, h]
    rw [hget, hget, Core.modVal, Core.aGet_aPut]
  · rw [Core.modVal, Core.aGet_aPut_ne x _ h]

theorem Core.val_modVal (x : Core) (f n k : Nat) (u : F32 → F32) (hk : k < 1024) :
    nthD 0 ((x.modVal f n u).aGet f).val k = if n = k then u (nthD 0 (x.aGet f).val k) else nthD 0 (x.aGet f).val k := by
  have hlen : (padTo 0 1024 (x.aGet f).val).length = 1024 := length_padTo ..
  rw [Core.modVal, Core.aGet_aPut, nthD_setNth, hlen, nthD_padTo_lt 0 _ hk]
  by_cases h : n = k
  · simp [h, hk]
  · simp [h]

/-! ### Elements of a value plane changed one after another -/

/-- The elements at the places `pos b` of one value plane changed in turn. -/
def Core.modVals {β : Type} (x : Core) (f : Nat) (pos : β → Nat) (u : β → F32 → F32) (bs : List β) : Core :=
  bs.foldl (fun x b => x.modVal f (pos b) (u b)) x

section
variable {β : Type} {f : Nat} {pos : β → Nat} {u : β → F32 → F32}

theorem Core.modVals_frame (bs : List β) (x : Core) : x.modVals f pos u bs = { x with a := (x.modVals f pos u bs).a } := by
  induction bs generalizing x with
  | nil => rfl
  | cons b bs ih => exact (ih (x.modVal f (pos b) (u b))).trans rfl

theorem Core.score_modVals (bs : List β) (x : Core) (g : Nat) : ((x.modVals f pos u bs).aGet g).score = (x.aGet g).score := by
  induction bs generalizing x with
  | nil => rfl
  | cons b bs ih => exact (ih (x.modVal f (pos b) (u b))).trans (x.score_modVal f (pos b) (u b) g)

theorem Core.val_modVals_apart {k : Nat} (hk : k < 1024) (bs : List β) (x : Core) (hapart : ∀ b ∈ bs, pos b ≠ k) :
    nthD 0 ((x.modVals f pos u bs).aGet f).val k = nthD 0 (x.aGet f).val k := by
  induction bs generalizing x with
  | nil => rfl
  | cons b bs ih =>
    obtain ⟨hb, hbs⟩ := List.forall_mem_cons.mp hapart
    exact (ih (x.modVal f (pos b) (u b)) hbs).trans ((x.val_modVal f (pos b) k (u b) hk).trans (if_neg hb))

/-- With no place named twice, each place holds its own change of what stood there. -/
theorem Core.val_modVals {b : β} (hk : pos b < 1024) (bs : List β) (x : Core) (hnodup : (bs.map pos).Nodup) (hb : b ∈ bs) :
    nthD 0 ((x.modVals f pos u bs).aGet f).val (pos b) = u b (nthD 0 (x.aGet f).val (pos b)) := by
  induction bs generalizing x with
  | nil => exact absurd hb List.not_mem_nil
  | cons a bs ih =>
    obtain ⟨hfresh, hnodup⟩ := List.nodup_cons.mp hnodup
    obtain rfl | hb := List.mem_cons.mp hb
    · have hapart : ∀ a ∈ bs, pos a ≠ pos b := fun a ha hab => hfresh (List.mem_map.mpr ⟨a, ha, hab⟩)
      exact (Core.val_modVals_apart hk bs (x.modVal f (pos b) (u b)) hapart).trans ((x.val_modVal f (pos b) (pos b) (u b) hk).trans (if_pos rfl))
    · have hne : pos a ≠ pos b := fun hab => hfresh (List.mem_map.mpr ⟨b, hb, hab.symm⟩)
      refine (ih (x.modVal f (pos a) (u a)) hnodup hb).trans ?_
      rw [x.val_modVal f (pos a) (pos b) (u a) hk, if_neg hne]

end

/-! ### Values accumulated (R119, R120, R130) -/

/-- Where element `e` of chunk `ch` of row `i` lies in its value plane. -/
def chunkPlace (d ch : Nat) (b : Nat × Nat) : Nat := 32 * (b.1 + groupRows d * (ch / 4)) + b.2

/-- A value element with the 32 products of row `i` of a weight tile and column `e` of a value tile added. -/
def addWeighted (ta tb : Tile) (b : Nat × Nat) : F32 → F32 := fun v =>
  fAdd .even v (fSum 1 ((List.range 32).map (fun q => (ta.num b.1 q).mul (tb.num q b.2))))

theorem nodup_chunkPlaces (d ch n : Nat) : ((List.range n ×ˢ List.range 32).map (chunkPlace d ch)).Nodup := by
  refine List.Nodup.map_on ?_ (List.nodup_range.product List.nodup_range)
  rintro ⟨i, e⟩ hb ⟨j, q⟩ hc heq
  obtain ⟨-, he⟩ := List.mem_product.mp hb
  obtain ⟨-, hq⟩ := List.mem_product.mp hc
  simp only [List.mem_range, chunkPlace] at he hq heq
  rw [Prod.mk.injEq]
  omega

section
variable {s : State} {c : Nat} {x : Core} {r : Run} {w : W64} {m : MSweep} {ma mb : TMeta}

/-- The core once the products of a weight and a value tile are added to the value elements of the value tile's chunk. -/
def Core.accumulated (x : Core) (d ch : Nat) (ta tb : Tile) : Core :=
  x.modVals (0x38 + ch % 4) (chunkPlace d ch) (addWeighted ta tb) (List.range (min 32 (groupRows d)) ×ˢ List.range 32)

/-- The products added row by row are those of every row and column at once. -/
theorem Core.accumulated_eq (x : Core) (d ch : Nat) (ta tb : Tile) :
    (List.range (min 32 (groupRows d))).foldl (fun x i => (List.range 32).foldl (fun x e =>
      x.modVal (valPlace d i (32 * ch + e)).1 (32 * (valPlace d i (32 * ch + e)).2.1 + (valPlace d i (32 * ch + e)).2.2)
        (addWeighted ta tb (i, e))) x) x = x.accumulated d ch ta tb := by
  have hproduct (rows cols : List Nat) : rows ×ˢ cols = rows.flatMap (fun i => cols.map (Prod.mk i)) := rfl
  rw [Core.accumulated, Core.modVals, hproduct, List.foldl_flatMap]
  refine List.foldl_ext _ _ _ fun x i _ => ?_
  rw [List.foldl_map]
  refine List.foldl_ext _ _ _ fun x e he => ?_
  have he : e < 32 := List.mem_range.mp he
  have hplane : (32 * ch + e) / 32 % 4 = ch % 4 := by omega
  have hrow : (32 * ch + e) / 128 = ch / 4 := by omega
  have hcol : (32 * ch + e) % 32 = e := by omega
  simp only [valPlace, hplane, hrow, hcol, chunkPlace]

theorem Core.run_accumulated (x : Core) (d ch : Nat) (ta tb : Tile) : (x.accumulated d ch ta tb).run = x.run := by
  rw [Core.accumulated, Core.modVals_frame]

theorem semAccPv_matched (hm : s.memberOf r = some m) (hma : (x.tGet (srcA w)).tmeta = some ma) (hmb : (x.tGet (srcB w)).tmeta = some mb)
    (hweight : (x.tGet (srcA w)).src = .weight) (hvalue : (x.tGet (srcB w)).src = .value) (hsame : ma.same mb = true)
    (hdst : dstF w = 0x38 + mb.chunk % 4) (hown : r.foreign mb.berth = false) :
    ∃ r1 : Run, r1 = { r with bl := r1.bl } ∧ r1.bl.berth = some mb.berth ∧ semAccPv w c x r s =
      put c { x.accumulated m.d mb.chunk (x.tGet (srcA w)) (x.tGet (srcB w)) with run := some r1 } s := by
  have hmatch : ¬ ((x.tGet (srcA w)).src ≠ .weight ∨ (x.tGet (srcB w)).src ≠ .value ∨ (!ma.same mb) = true ∨
      dstF w ≠ 0x38 + mb.chunk % 4 ∨ r.foreign mb.berth = true) := by simp [hweight, hvalue, hsame, hdst, hown]
  simp only [semAccPv, hm, hma, hmb, if_neg hmatch]
  refine ⟨_, ?_, ?_, congrArg (fun y : Core => put c { y with run := _ } s) (x.accumulated_eq m.d mb.chunk _ _)⟩
  · split
    · rw [Run.markNonfinite_frame]
    · rfl
  · rfl

theorem semAccPv_unmatched (hm : s.memberOf r = some m) (hma : (x.tGet (srcA w)).tmeta = some ma) (hmb : (x.tGet (srcB w)).tmeta = some mb)
    (hbad : (x.tGet (srcA w)).src ≠ .weight ∨ (x.tGet (srcB w)).src ≠ .value ∨ ma.same mb = false ∨ r.foreign mb.berth = true) :
    semAccPv w c x r s = .exc exTile w := by
  simp only [semAccPv, hm, hma, hmb]
  refine if_pos ?_
  obtain h | h | h | h := hbad <;> simp [h]

/-- The value elements of the chunk's plane hold what stood there with their products added. -/
theorem Core.plane_accumulated {d ch i e : Nat} (ta tb : Tile) (hplane : groupRows d * (ch / 4 + 1) ≤ 32) (hi : i < groupRows d) (he : e < 32) :
    plane ((x.accumulated d ch ta tb).aGet (0x38 + ch % 4)).val (i + groupRows d * (ch / 4)) e =
      fAdd .even (plane (x.aGet (0x38 + ch % 4)).val (i + groupRows d * (ch / 4)) e)
        (fSum 1 ((List.range 32).map (fun q => (ta.num i q).mul (tb.num q e)))) := by
  rw [Nat.mul_succ] at hplane
  have hplace : chunkPlace d ch (i, e) < 1024 := by rw [chunkPlace]; dsimp only; omega
  have hmem : (i, e) ∈ List.range (min 32 (groupRows d)) ×ˢ List.range 32 :=
    List.mem_product.mpr ⟨List.mem_range.mpr (by omega), List.mem_range.mpr he⟩
  exact Core.val_modVals (u := addWeighted ta tb) hplace _ x (nodup_chunkPlaces d ch _) hmem

/-! ### Weights formed (R134) -/

/-- The weight operand of a scaled plane: the exponentials of the rows of its head, converted, and 0 in the others. -/
def weightTile (x : Core) (r : Run) (w : W64) (m : MSweep) (q : SMeta) : Tile :=
  let row (i : Nat) : List Nat × Nat :=
    if (r.rowsOfHead q.tmeta.head).contains i then toOperand m.fmt ((List.range 32).map (fun j =>
      expSmx (fDiff (plane (x.aGet (srcA w)).score i j) (nthD 0 (x.vGet (srcB w)) i))))
    else (List.replicate 32 0, 0)
  { tag := operandTag m.fmt, elems := ((List.range 32).map row).flatMap (·.1), scales := ((List.range 32).map row).map (·.2),
    tmeta := some q.tmeta, src := .weight }

/-- The lanes of the rows given with the sum of their converted weights added. -/
def addWeights (t : Tile) (rows : List Nat) (l : List F32) : List F32 :=
  l.mapIdx (fun i v => if rows.contains i then fAdd .even v (fSum 2 ((List.range 32).map (t.num i))) else v)

theorem addWeights_lane (t : Tile) (rows : List Nat) {l : List F32} {i : Nat} (hi : i < l.length) :
    nthD 0 (addWeights t rows l) i = if i ∈ rows then fAdd .even (nthD 0 l i) (fSum 2 ((List.range 32).map (t.num i))) else nthD 0 l i := by
  simp [addWeights, nthD, hi]

theorem issue_smxExp_scaled {q : SMeta} (h : Issues s c x r .smxExp w) (hm : s.memberOf r = some m) (hq : (x.aGet (srcA w)).smeta = some q)
    (hscaled : q.scaled = true) :
    ∃ bad, issue .smxExp semSmxExp c s = s.setCore c (issued ((x.tPut (dstF w) (weightTile x r w m q)).vPut (imm w % 64)
      (addWeights (weightTile x r w m q) (r.rowsOfHead q.tmeta.head) (x.vGet (imm w % 64)))) (r.markNonfinite bad) (r.ip + 1)) := by
  have hsem : ∃ bad, semSmxExp w c x r s = put c { (x.tPut (dstF w) (weightTile x r w m q)).vPut (imm w % 64)
      (addWeights (weightTile x r w m q) (r.rowsOfHead q.tmeta.head) (x.vGet (imm w % 64))) with run := some (r.markNonfinite bad) } s := by
    simp only [semSmxExp, hm, hq, hscaled]
    exact ⟨_, rfl⟩
  obtain ⟨bad, hsem⟩ := hsem
  exact ⟨bad, by rw [issue_put h hsem rfl, issued_withRun]⟩

theorem semSmxExp_unscaled {q : SMeta} (hm : s.memberOf r = some m) (hq : (x.aGet (srcA w)).smeta = some q) (hscaled : q.scaled = false) :
    semSmxExp w c x r s = .exc exTile w := by
  simp only [semSmxExp, hm, hq, hscaled]
  rfl

end

/-- Settles O16: `acc.pv` by the elements of one plane that it changes, each once; `smx.exp` by its tile and its lanes. -/
theorem weightsAndValues : Obligations.WeightsAndValues := by
  unfold Obligations.WeightsAndValues
  refine ⟨fun s c x r w m ma mb h hm hma hmb => ⟨fun hweight hvalue hsame hdst hown hplane => ?added, fun hbad => ?unmatched⟩,
    fun s c x r w m q h hm hq => ⟨fun hscaled => ?weights, fun hscaled => ?unscaled⟩⟩
  case added =>
    obtain ⟨r1, hframe, hberth, hsem⟩ := semAccPv_matched (s := s) (c := c.toNat) hm hma hmb hweight hvalue hsame hdst hown
    refine ⟨x.accumulated m.d mb.chunk (x.tGet (srcA w)) (x.tGet (srcB w)), r1, ?_, hframe, hberth, ?_, ?_, ?_⟩
    · rw [exec_accPv, execAccPv, issue_put h hsem rfl, issued_withRun]
    · rw [Core.run_accumulated]
      exact Core.modVals_frame _ x
    · exact Core.score_modVals _ x
    · rw [hdst]
      exact fun i hi e he => Core.plane_accumulated _ _ hplane hi he
  case unmatched => rw [exec_accPv, execAccPv, issue_exc h (semAccPv_unmatched hm hma hmb hbad)]
  case weights =>
    obtain ⟨bad, hissue⟩ := issue_smxExp_scaled h hm hq hscaled
    have hlanes : (x.vGet (imm w % 64)).length = 32 := length_padTo ..
    exact ⟨_, _, _, congrArg _ hissue, r.markNonfinite_frame bad, rfl, rfl, rfl, fun i hi => addWeights_lane _ _ (by rwa [hlanes])⟩
  case unscaled => rw [exec_smxExp, execSmxExp, issue_exc h (semSmxExp_unscaled hm hq hscaled)]

end Sys2Proof.Machine
end


section
/-! Chamber, time and flight instructions outside a hold (R142 to R144, R260 to R263, R266). -/

namespace Sys2Proof.Machine

section
variable {s : State} {c : Nat} {x : Core} {r : Run} {w : W64}

/-! ### Chamber operations (R142, R260 to R262) -/

theorem State.gateEffect_taken {b p ch : Nat} {op : ChOp} (time : Nat) (hb : s.basinOf c = some b) (hmay : s.chRefuse b ch = none) :
    s.gateEffect c { time := time, op := .chamber p ch op } = (s.chRemote ch op).setCore c (((s.chRemote ch op).core c).pPut p true) := by
  simp [State.gateEffect, hb, hmay]

theorem State.gateEffect_refused {b p ch : Nat} {op : ChOp} (time : Nat) (hb : s.basinOf c = some b) (hnot : s.chRefuse b ch ≠ none) :
    s.gateEffect c { time := time, op := .chamber p ch op } = s.setCore c ((s.core c).pPut p false) := by
  obtain ⟨e, he⟩ := Option.ne_none_iff_exists'.mp hnot
  simp [State.gateEffect, hb, he]

/-- A chamber instruction that nothing gates and no hold holds takes effect at once. -/
theorem semGate_chamber {o : CoreOp} {p ch : Nat} {op : ChOp} (hop : gateOpOf o w x = .chamber p ch op) (h : Issues s c x r o w)
    (hsluice : x.sluice = []) (hgate : r.gate = none) (hhold : r.hold = none) (hlock : s.lockOwner ch = none) :
    semGate o w c x r s = .done ((s.setCore c x).gateEffect c { time := 0, op := .chamber p ch op }) := by
  have hrun : { r with gate := none } = r := by rw [← hgate]
  have hcore : { x with run := some { r with gate := none } } = x := by rw [hrun, ← h.run]
  have hsem : semGate o w c x r s = .done ((s.setCore c { x with run := some { r with gate := none } }).gateEffect c
      { time := 0, op := .chamber p ch op }) := by
    simp [semGate, hop, gateExc, gateChamber, hsluice, hgate, hhold, hlock]
  rw [hsem, hcore]

theorem issue_chamber_taken {o : CoreOp} {b p ch : Nat} {op : ChOp} (hop : gateOpOf o w x = .chamber p ch op) (h : Issues s c x r o w)
    (hb : s.basinOf c = some b) (hsluice : x.sluice = []) (hgate : r.gate = none) (hhold : r.hold = none) (hlock : s.lockOwner ch = none)
    (hmay : s.chRefuse b ch = none) (hwaiters : (s.chamber ch).waiters = []) :
    (issue o (semGate o) c s).chamber ch = (s.chamber ch).apply op ∧
      (issue o (semGate o) c s).core c = issued (x.pPut p true) r (r.ip + 1) ∧ (issue o (semGate o) c s).dram = s.dram := by
  let u := (s.setCore c x).chEffect ch op
  have hfab : u.fab = ((s.setCore c x).setChamber ch ((s.chamber ch).apply op)).fab := State.fab_chEffect_idle op hwaiters
  have hcore : u.core c = x := by rw [State.core_congr hfab, State.core_of_setChamber, State.core_setCore]
  have hunlocked : (s.setCore c x).lockOwner ch = none := State.lockOwner_setCore_none hlock (by rw [h.core])
  have hsem : semGate o w c x r s = .done (u.setCore c (x.pPut p true)) := by
    rw [semGate_chamber hop h hsluice hgate hhold hlock, State.gateEffect_taken (s := s.setCore c x) 0 hb hmay,
      State.chRemote_unlocked op hunlocked, hcore]
  rw [issue_done h hsem (State.core_setCore ..) ((x.run_pPut p true).trans h.run), State.setCore_setCore]
  refine ⟨?_, State.core_setCore .., State.chEffect_dram ..⟩
  rw [State.chamber_of_setCore, State.chamber_congr hfab, State.chamber_setChamber]

theorem issue_chamber_refused {o : CoreOp} {b p ch : Nat} {op : ChOp} (hop : gateOpOf o w x = .chamber p ch op) (h : Issues s c x r o w)
    (hb : s.basinOf c = some b) (hsluice : x.sluice = []) (hgate : r.gate = none) (hhold : r.hold = none) (hlock : s.lockOwner ch = none)
    (hnot : s.chRefuse b ch ≠ none) :
    issue o (semGate o) c s = s.setCore c (issued (x.pPut p false) r (r.ip + 1)) := by
  refine issue_pPut h ?_
  rw [semGate_chamber hop h hsluice hgate hhold hlock, State.gateEffect_refused (s := s.setCore c x) 0 hb hnot, State.core_setCore,
    State.setCore_setCore, put]

/-- A gated instruction whose time has not come enters the core's sluice of eight. -/
theorem issue_gated {o : CoreOp} {due : Nat} (h : Issues s c x r o w) (hexc : gateExc (gateOpOf o w x) = none) (hgate : r.gate = some due)
    (hdue : s.now < due) (hroom : x.sluice.length < 8) (hhold : r.hold = none) :
    issue o (semGate o) c s = s.setCore c (issued { x with sluice := x.sluice ++ [{ time := due, op := gateOpOf o w x }] }
      { r with gate := none } (r.ip + 1)) := by
  have hsem : semGate o w c x r s = put c { x with
      run := some { r with gate := none }, sluice := x.sluice ++ [{ time := due, op := gateOpOf o w x }] } s := by
    simp [semGate, put, State.passed, hexc, hgate, hhold, Nat.not_le.mpr hdue, Nat.not_le.mpr hroom]
  rw [issue_put h hsem rfl]
  rfl

/-! ### A wait for a chamber (R142, R261, R263) -/

/-- The value a `ch.wait` waits for. -/
def waitValue (x : Core) (w : W64) : BitVec 32 := BitVec.ofNat 32 ((x.sGet (srcB w)).toNat + imm w % 2 ^ 32)

/-- The run while it waits for chamber `ch`. -/
def State.waiting (s : State) (r : Run) (x : Core) (w : W64) (ch : Nat) : Run :=
  { r with wait := some { ch := ch, v := waitValue x w, until_ := s.chDeadline, pD := dstF w } }

/-- The chamber while the core waits in it. -/
def State.awaited (s : State) (c : Nat) (x : Core) (w : W64) (ch : Nat) : Chamber :=
  { s.chamber ch with waiters := (s.chamber ch).waiters ++ [{ src := .core c, v := waitValue x w, until_ := s.chDeadline }] }

theorem semChWait_refused {b : Nat} (hb : s.basinOf c = some b) (hsluice : x.sluice = []) (hlock : s.lockOwner (x.sGet (srcA w)).toNat = none)
    (hnot : s.chRefuse b (x.sGet (srcA w)).toNat ≠ none) : semChWait w c x r s = put c (x.pPut (dstF w) false) s :=
  (if_neg (by simp [hsluice])).trans ((if_neg (by simp [hlock])).trans (if_pos (by simp [hb, Option.isSome_iff_ne_none, hnot])))

/-- On a chamber it may wait for, `ch.wait` turns on whether the counter has reached its value. -/
theorem semChWait_owned {b : Nat} (hb : s.basinOf c = some b) (hsluice : x.sluice = []) (hlock : s.lockOwner (x.sGet (srcA w)).toNat = none)
    (hmay : s.chRefuse b (x.sGet (srcA w)).toNat = none) :
    semChWait w c x r s = if reached (s.chamber (x.sGet (srcA w)).toNat).counter (waitValue x w) then put c (x.pPut (dstF w) true) s
      else .jump ((s.setCore c { x with run := some (s.waiting r x w (x.sGet (srcA w)).toNat) }).setChamber (x.sGet (srcA w)).toNat
        (s.awaited c x w (x.sGet (srcA w)).toNat)) r.ip :=
  (if_neg (by simp [hsluice])).trans ((if_neg (by simp [hlock])).trans (if_neg (by simp [hb, hmay])))

theorem issue_chWait_waits {b ch : Nat} (h : Issues s c x r .chWait w) (hb : s.basinOf c = some b) (hch : ch = (x.sGet (srcA w)).toNat)
    (hsluice : x.sluice = []) (hlock : s.lockOwner ch = none) (hmay : s.chRefuse b ch = none)
    (hv : reached (s.chamber ch).counter (waitValue x w) = false) :
    issue .chWait semChWait c s = (s.setChamber ch (s.awaited c x w ch)).setCore c (issued x (s.waiting r x w ch) r.ip) := by
  subst hch
  have hsem := (semChWait_owned (r := r) hb hsluice hlock hmay).trans (if_neg (Bool.eq_false_iff.mp hv))
  rw [issue_jump h hsem ((State.core_of_setChamber ..).trans (State.core_setCore ..)) rfl, issued_withRun]
  exact State.setCore_setCore (s.setChamber _ _) c _ _

/-! ### Time and flights (R143, R144) -/

theorem issue_atGate (h : Issues s c x r .atGate w) :
    issue .atGate semAt c s = s.setCore c (issued x { r with gate := some (x.sGet (srcA w) + simm w).toNat } (r.ip + 1)) := by
  rw [issue_put (x' := { x with run := some { r with gate := some (x.sGet (srcA w) + simm w).toNat } }) h rfl rfl, issued_withRun]

theorem semUntil_passed (h : (x.sGet (srcA w)).toNat ≤ s.now) :
    semUntil w c x r s = put c (x.sPut (dstF w) (BitVec.ofNat 64 s.now)) s :=
  if_pos (decide_eq_true h)

theorem semUntil_waits (h : s.now < (x.sGet (srcA w)).toNat) : semUntil w c x r s = .stay :=
  if_neg (by simpa [State.passed] using h)

/-- A table that may be read, of which `flight.arm` makes nothing. -/
theorem semFlightArm_refused (h16 : localOk (x.sGet (srcA w)).toNat 16 = true)
    (hall : localOk (x.sGet (srcA w)).toNat (16 + 16 * min 16 (leNat (x.readLocal (x.sGet (srcA w)).toNat 4))) = true)
    (hnot : flightTable x r.iflags (x.sGet (srcA w)).toNat (x.sGet (srcB w)).toNat = none ∨ 4 ≤ x.flights.length) :
    semFlightArm w c x r s = put c (x.sPut (dstF w) 0) s := by
  cases htable : flightTable x r.iflags (x.sGet (srcA w)).toNat (x.sGet (srcB w)).toNat with
  | none => simp [semFlightArm, h16, hall, htable]
  | some es =>
    have hfull : 4 ≤ x.flights.length := hnot.resolve_left (by simp [htable])
    simp [semFlightArm, h16, hall, htable, hfull]

/-- The core once a flight is armed under a handle. -/
def Core.armed (x : Core) (handle : Nat) (es : List Gated) (dst : Nat) : Core :=
  Core.sPut { x with flights := x.flights ++ [{ handle := handle, left := es }] } dst (BitVec.ofNat 64 handle)

theorem issue_flightArm_armed {es : List Gated} (h : Issues s c x r .flightArm w) (h16 : localOk (x.sGet (srcA w)).toNat 16 = true)
    (hall : localOk (x.sGet (srcA w)).toNat (16 + 16 * min 16 (leNat (x.readLocal (x.sGet (srcA w)).toNat 4))) = true)
    (htable : flightTable x r.iflags (x.sGet (srcA w)).toNat (x.sGet (srcB w)).toNat = some es) (hroom : x.flights.length < 4) :
    issue .flightArm semFlightArm c s = ({ s with fab := { s.fab with handles := s.fab.handles + 1 } } : State).setCore c
      (issued (x.armed (s.fab.handles + 1) es (dstF w)) r (r.ip + 1)) := by
  have hsem : semFlightArm w c x r s = put c (x.armed (s.fab.handles + 1) es (dstF w))
      { s with fab := { s.fab with handles := s.fab.handles + 1 } } := by
    simp [semFlightArm, h16, hall, htable, Nat.not_le.mpr hroom, Core.armed]
  rw [put] at hsem
  rw [issue_done h hsem (State.core_setCore ..) ((Core.run_sPut _ _).trans h.run), State.setCore_setCore]

end

/-- Settles O19: a chamber operation by whether the chamber refuses it, a wait by whether the counter has reached its value, and the
time and flight instructions by their outcomes. -/
theorem chamberAndTimedInstructions : Obligations.ChamberAndTimedInstructions := by
  unfold Obligations.ChamberAndTimedInstructions
  refine ⟨fun s c x r w b ch hb hch hsluice hgate hhold hlock => ⟨?operation, fun h v hv => ⟨fun hnot => ?refused, fun hmay hr => ?reached,
      fun hmay hr => ?waits⟩⟩,
    fun s c x r w => ⟨fun h => congrArg _ (issue_atGate h), fun h ht => congrArg _ (issue_sPut h (semUntil_passed ht)),
      fun h ht => congrArg _ (issue_stay h (semUntil_waits ht)), fun h due hgate hdue hroom hhold => ?gated, fun h a ha h16 hall => ?arm,
      fun h id hid => ?cancel⟩⟩
  case operation =>
    have hboth {i : Instr} {o : CoreOp} {op : ChOp} (hi : exec i s = .next (issue o (semGate o) c.toNat s))
        (hop : gateOpOf o w x = .chamber (dstF w) ch op) (h : Issues s c.toNat x r o w) :
        (s.chRefuse b ch = none → (s.chamber ch).waiters = [] →
          ∃ t, exec i s = .next t ∧ t.chamber ch = (s.chamber ch).apply op ∧
            t.core c.toNat = issued (x.pPut (dstF w) true) r (r.ip + 1) ∧ t.dram = s.dram) ∧
        (s.chRefuse b ch ≠ none → exec i s = .next (s.setCore c.toNat (issued (x.pPut (dstF w) false) r (r.ip + 1)))) :=
      ⟨fun hmay hwaiters => ⟨_, hi, issue_chamber_taken hop h hb hsluice hgate hhold hlock hmay hwaiters⟩,
        fun hnot => hi.trans (congrArg _ (issue_chamber_refused hop h hb hsluice hgate hhold hlock hnot))⟩
    subst hch
    simp only [List.mem_cons, List.not_mem_nil, or_false]
    rintro e (rfl | rfl | rfl) h <;> exact hboth rfl rfl h
  case refused =>
    subst hch
    exact congrArg _ (issue_pPut h (semChWait_refused hb hsluice hlock hnot))
  case reached =>
    subst hch hv
    exact congrArg _ (issue_pPut h ((semChWait_owned hb hsluice hlock hmay).trans (if_pos (decide_eq_true hr))))
  case waits =>
    subst hv
    have hnot : reached (s.chamber ch).counter (waitValue x w) = false := decide_eq_false (Nat.not_lt.mpr hr)
    have hissue := issue_chWait_waits h hb hch hsluice hlock hmay hnot
    have hrun := (congrArg Core.run ((s.setChamber ch (s.awaited c.toNat x w ch)).core_setCore c.toNat _)).trans
      (run_issued x (s.waiting r x w ch) r.ip)
    exact ⟨_, _, congrArg Host.Outcome.next hissue, hrun, rfl, rfl, congrArg Chamber.waiters (s.chamber_setChamber ch (s.awaited c.toNat x w ch))⟩
  case gated => exact ⟨_, congrArg _ (issue_gated h rfl hgate hdue hroom hhold)⟩
  case arm =>
    subst ha
    exact ⟨fun es htable hroom => congrArg _ (issue_flightArm_armed h h16 hall htable hroom),
      fun hnot => congrArg _ (issue_sPut h (semFlightArm_refused h16 hall hnot))⟩
  case cancel =>
    subst hid
    exact congrArg _ (issue_put h (sem := semFlightCancel) rfl ((Core.run_pPut _ _ _).trans h.run))

end Sys2Proof.Machine
end


section
/-! Objects: what CREATE_OBJECT, UPDATE_OBJECT, DESTROY_OBJECT, APPEND and TRUNCATE do (R157, R172, R173, R195, R332, R346). -/

namespace Sys2Proof.Machine

/-! ### Completions leave the tiers (R331, R335) -/

@[simp] theorem State.tiers_of_send (s : State) (m : OutMsg) : (s.send m).tiers = s.tiers := by
  unfold State.send; split <;> rfl

@[simp] theorem State.tiers_of_raiseMsix (s : State) (v : Nat) : (s.raiseMsix v).tiers = s.tiers := by
  unfold State.raiseMsix; split <;> simp

theorem State.tiers_of_cqWrite (s : State) (b c : Nat) (q : CQ) (e : List Byte) : (cqWrite s b c q e).tiers = s.tiers := by
  unfold cqWrite; dsimp only; split <;> simp

theorem State.tiers_of_postCq (s : State) (b ring : Nat) (e : List Byte) : (s.postCq b ring e).tiers = s.tiers := by
  unfold State.postCq
  dsimp only
  split
  case isTrue => rfl
  case isFalse =>
    split
    case h_1 => rfl
    case h_2 => split <;> simp [State.tiers_of_cqWrite]

@[simp] theorem State.tiers_of_fin (s : State) (d : Dsc) (status result : Nat) : (s.fin d status result).tiers = s.tiers := by
  unfold State.fin State.complete
  split
  · exact s.tiers_of_postCq ..
  · rfl

section
variable {u : State} {d : Dsc} {o : Obj}

/-! ### CREATE_OBJECT (R157, R195, R346) -/

/-- The attributes a descriptor gives, and those attributes with their defaults once the lists are read (R157). -/
abbrev Dsc.attrBytes (d : Dsc) : List Byte := bytesAt d.bytes 0x10 0x50
abbrev Dsc.resolved (d : Dsc) (full : List Byte) : List Byte := resolveAttrs (full.take 0x50) (d.f 0x58 8) ++ full.drop 0x50

/-- A create descriptor whose lists lie in the host area and whose attributes lie in their ranges. -/
structure DescribesObject (u : State) (d : Dsc) (full : List Byte) : Prop where
  lists : u.withLists d.basin d.attrBytes true true true [] = some full
  geo : geoOk d.attrBytes = true
  attrs : attrsOk (d.resolved full) (d.f 0x58 8) true = true
  mask : d.f 0x58 8 < 2 ^ 10

variable {full : List Byte}

theorem doCreateObject_outside (h : u.withLists d.basin d.attrBytes true true true [] = none) :
    doCreateObject d u = u.fin d stAccessDenied 0 := by
  simp [doCreateObject, h]

theorem doCreateObject_wrongField (hlists : u.withLists d.basin d.attrBytes true true true [] = some full)
    (h : geoOk d.attrBytes = false ∨ attrsOk (d.resolved full) (d.f 0x58 8) true = false ∨ 2 ^ 10 ≤ d.f 0x58 8) :
    doCreateObject d u = u.fin d stInvalidField 0 := by
  simp only [doCreateObject, hlists, Bool.not_eq_true', if_pos h]

theorem DescribesObject.inRange (h : DescribesObject u d full) : ¬ ((!geoOk d.attrBytes) = true ∨
    (!attrsOk (d.resolved full) (d.f 0x58 8) true) = true ∨ 2 ^ 10 ≤ d.f 0x58 8) := by
  simp only [h.geo, h.attrs, Nat.not_le.mpr h.mask, Bool.not_true, Bool.false_eq_true, or_self, not_false_eq_true]

theorem doCreateObject_taken (h : DescribesObject u d full) (hold : (u.obj d.tenant (d.f 0x10 4)).isSome = true) :
    doCreateObject d u = u.fin d stObjectExists 0 := by
  simp only [doCreateObject, h.lists, if_neg h.inRange, if_pos hold]

/-- A new object whose geometry fits is refused where its base is, else entered. -/
theorem doCreateObject_new (h : DescribesObject u d full) (hnew : u.obj d.tenant (d.f 0x10 4) = none)
    (hfits : fitsGeo (attrGeo (d.resolved full)) = true) (hp : attrN (d.resolved full) 0x1A 2 ≠ 0) : doCreateObject d u =
      (u.baseRefuse d.basin (d.resolved full)).elim
        ((((u.setObj d.tenant (d.f 0x10 4) (objOf d.basin (d.resolved full))).journalObj d.tenant (d.f 0x10 4)
          (objOf d.basin (d.resolved full)) false).rejoinGo).fin d stOk 0)
        (fun e => u.fin d e 0) := by
  simp only [doCreateObject, h.lists, if_neg h.inRange, hnew, hfits, hp, Option.isSome_none, Bool.not_true, Bool.false_eq_true, or_self, if_false]
  cases u.baseRefuse d.basin (d.resolved full) <;> rfl

/-! ### UPDATE_OBJECT (R157, R332) -/

/-- The attributes an update leaves: the rows of UMASK, and the addresses of the new lists. -/
def Dsc.newAttrs (d : Dsc) (o : Obj) : List Byte :=
  attrSet (attrSet (updateAttrs (o.attrBytes.take 0x50) d.attrBytes (d.f 0x58 8)) 0x40 8 (attrN d.attrBytes 0x40 8)) 0x50 8
    (attrN d.attrBytes 0x50 8)

/-- The object after an update: new attributes, its lead within their bounds; its launches and its move go on (R157, R190, R355). -/
def Obj.updated (o : Obj) (full : List Byte) : Obj :=
  let n := objOf o.basin full
  { n with lead := min n.leadMax (max n.leadMin o.lead), interval := o.interval, lastLaunch := o.lastLaunch, launched := o.launched,
           moving := o.moving, moveEffect := o.moveEffect, moveBasin := o.moveBasin, touched := o.touched }

theorem doUpdateObject_absent (h : u.obj d.tenant (d.f 0x10 4) = none) : doUpdateObject d u = u.fin d stNotFound 0 := by
  simp [doUpdateObject, h]

/-- An object of the basin's own is updated where the attributes that result are in their ranges. -/
theorem doUpdateObject_own (ho : u.obj d.tenant (d.f 0x10 4) = some o) (hbasin : o.basin = d.basin) (hbase : o.isBase = false)
    (hmask : d.f 0x58 8 < 2 ^ 10)
    (hlists : u.withLists d.basin (d.newAttrs o) false ((d.f 0x58 8).testBit 2) ((d.f 0x58 8).testBit 1) o.attrBytes = some full) :
    doUpdateObject d u = if attrsOk full (d.f 0x58 8) true then
      ((u.setObj d.tenant (d.f 0x10 4) (o.updated full)).journalObj d.tenant (d.f 0x10 4) (o.updated full) false).fin d stOk 0
      else u.fin d stInvalidField 0 := by
  unfold Dsc.newAttrs at hlists
  have hown : ¬ (o.basin ≠ d.basin ∨ o.isBase = true) := by simp [hbasin, hbase]
  simp only [doUpdateObject, ho, if_neg hown, if_neg (Nat.not_le.mpr hmask), hlists]
  cases attrsOk full (d.f 0x58 8) true <;> rfl

/-! ### DESTROY_OBJECT (R332) -/

theorem doDestroyObject_absent (h : u.obj d.tenant (d.f 0x10 4) = none) : doDestroyObject d u = u.fin d stNotFound 0 := by
  simp [doDestroyObject, h]

theorem doDestroyObject_own (ho : u.obj d.tenant (d.f 0x10 4) = some o) (hbasin : o.basin = d.basin) : doDestroyObject d u =
    (u.destroyObj d.tenant (d.f 0x10 4) o).fin d stOk (u.homesOf d.tenant (d.f 0x10 4)).length := by
  simp [doDestroyObject, ho, hbasin]

theorem State.obj_destroyObj (s : State) (tenant object : Nat) (o : Obj) : (s.destroyObj tenant object o).obj tenant object = none := by
  simp [State.destroyObj, State.obj, alGet_alDel]

theorem State.obj_fin (s : State) (d : Dsc) (status result tenant object : Nat) :
    (s.fin d status result).obj tenant object = s.obj tenant object := by
  simp [State.obj]

/-! ### APPEND and TRUNCATE (R172, R173, R346) -/

section
variable (ups : List Upset) (ho : u.obj d.tenant (d.f 0x10 4) = some o) (hbasin : o.basin = d.basin)
include ho hbasin

theorem doAppend_wrongField (h : d.f 0x1C 4 = 0 ∨ 65536 < d.f 0x1C 4 ∨ 2 ^ 25 * o.p < d.f 0x18 4 + d.f 0x1C 4) :
    doAppend ups d u = u.fin d stInvalidField 0 := by
  simp only [doAppend, ho, if_neg (not_not_intro hbasin), if_pos h]

/-- An append of positions the object can have is refused where its records lie outside the host area, else queued. -/
theorem doAppend_inRange (hsome : d.f 0x1C 4 ≠ 0) (hmost : d.f 0x1C 4 ≤ 65536) (hend : d.f 0x18 4 + d.f 0x1C 4 ≤ 2 ^ 25 * o.p) :
    doAppend ups d u = if u.inHost d.basin (d.f 0x20 8) (d.f 0x1C 4 * o.geo.rp) then
      ((u.upsetBerth ⟨d.tenant, d.f 0x10 4, d.f 0x14 2, d.f 0x18 4 / o.p⟩ ups).writeJob d).queueOp
        ⟨⟨d.tenant, d.f 0x10 4, d.f 0x14 2, d.f 0x18 4 / o.p⟩, d.basin, d.f 0x18 4, d.f 0x1C 4,
          ((u.upsetBerth ⟨d.tenant, d.f 0x10 4, d.f 0x14 2, d.f 0x18 4 / o.p⟩ ups).writeJob d).buffer (d.f 0x20 8) (d.f 0x1C 4 * o.geo.rp),
          false, u.host.nextJob⟩
      else u.fin d stAccessDenied 0 := by
  have hrange : ¬ (d.f 0x1C 4 = 0 ∨ 65536 < d.f 0x1C 4 ∨ 2 ^ 25 * o.p < d.f 0x18 4 + d.f 0x1C 4) := by omega
  simp only [doAppend, ho, if_neg (not_not_intro hbasin), if_neg hrange]
  cases u.inHost d.basin (d.f 0x20 8) (d.f 0x1C 4 * o.geo.rp) <;> rfl

theorem doTruncate_moved {pkg : Nat} (h : o.movedTo = some pkg) : doTruncate ups d u = u.fin d stStaleMap pkg := by
  simp [doTruncate, ho, hbasin, h]

theorem doTruncate_here (h : o.movedTo = none) : doTruncate ups d u =
    ((u.upsetBerth ⟨d.tenant, d.f 0x10 4, d.f 0x14 2, d.f 0x18 4 / o.p⟩ ups).writeJob d).queueOp
      ⟨⟨d.tenant, d.f 0x10 4, d.f 0x14 2, d.f 0x18 4 / o.p⟩, d.basin, d.f 0x18 4, 0, [], true, u.host.nextJob⟩ := by
  simp [doTruncate, ho, hbasin, h]

end
end

/-- Settles O45: each command's outcomes in the order in which its refusals are tested. -/
theorem objectCommands : Obligations.ObjectCommands := by
  unfold Obligations.ObjectCommands
  intro s b r d u object
  refine ⟨fun h => ?create, fun h => ?update, fun h => ?destroy, fun ups h o ho hbasin => ?append, fun ups h o ho hbasin => ?truncate⟩
  case create =>
    have hexec : exec (.createObject b r) s = .next (doCreateObject d u) := congrArg _ (serve_of_submitted doCreateObject h rfl)
    dsimp only
    rw [hexec]
    refine ⟨fun hlists => ?_, fun full hlists => ⟨fun hwrong => ?_, fun hgeo hattrs hmask => ?_⟩⟩
    · rw [doCreateObject_outside hlists]
    · rw [doCreateObject_wrongField hlists hwrong]
    have hobject : DescribesObject u d full := ⟨hlists, hgeo, hattrs, hmask⟩
    refine ⟨fun hold => ?_, fun hnew hfits hp => ?_⟩
    · rw [doCreateObject_taken hobject hold]
    rw [doCreateObject_new hobject hnew hfits hp]
    refine ⟨fun e hbase => ?_, fun hbase => ?_⟩
    · rw [hbase, Option.elim_some]
    · rw [hbase, Option.elim_none]
  case update =>
    have hexec : exec (.updateObject b r) s = .next (doUpdateObject d u) := congrArg _ (serve_of_submitted doUpdateObject h rfl)
    rw [hexec]
    refine ⟨fun ho => ?_, fun o full ho hbasin hbase hmask hlists => ?_⟩
    · rw [doUpdateObject_absent ho]
    rw [doUpdateObject_own ho hbasin hbase hmask hlists]
    refine ⟨fun hwrong => ?_, fun hok => ⟨o.updated full, ?_, rfl, rfl, rfl⟩⟩
    · rw [if_neg (by simp [hwrong])]
    · rw [if_pos hok]
  case destroy =>
    have hexec : exec (.destroyObject b r) s = .next (doDestroyObject d u) := congrArg _ (serve_of_submitted doDestroyObject h rfl)
    rw [hexec]
    refine ⟨fun o ho hbasin => ⟨_, rfl, doDestroyObject_own ho hbasin, ?_⟩, fun ho => ?_⟩
    · rw [doDestroyObject_own ho hbasin, State.obj_fin, State.obj_destroyObj]
    · rw [doDestroyObject_absent ho]
  case append =>
    have hexec : exec (.append b r ups) s = .next (doAppend ups d u) := congrArg _ (serve_of_submitted (doAppend ups) h rfl)
    dsimp only
    rw [hexec]
    refine ⟨fun hwrong => ?_, fun hsome hmost hend => ?_⟩
    · rw [doAppend_wrongField ups ho hbasin hwrong]
    rw [doAppend_inRange ups ho hbasin hsome hmost hend]
    refine ⟨fun hout => ?_, fun hin => ⟨_, rfl, ?_⟩⟩
    · rw [if_neg (by simp [hout])]
    · rw [if_pos hin]
  case truncate =>
    have hexec : exec (.truncate b r ups) s = .next (doTruncate ups d u) := congrArg _ (serve_of_submitted (doTruncate ups) h rfl)
    rw [hexec]
    refine ⟨fun pkg hmoved => ?_, fun hhere => ⟨_, rfl, ?_⟩⟩
    · rw [doTruncate_moved ups ho hbasin hmoved]
    · rw [doTruncate_here ups ho hbasin hhere]

end Sys2Proof.Machine
end


section
/-! Barges within the part and between parts (R170, R176 to R179, R358, R380). -/

namespace Sys2Proof.Machine

/-! ### Entries and barges after the updates a barge makes -/

theorem State.pte_setPte {s : State} {k : BerthKey} {p : Pte} (q : Pte) (h : s.pte k = some p) : (s.setPte k q).pte k = some q := by
  unfold State.pte at h
  obtain ⟨l, hl, -⟩ := Option.bind_eq_some_iff.mp h
  have hput : (s.setPte k q).layer k.lk = some { l with ptes := alPut l.ptes k.berth q } := by
    simp [State.setPte, State.setLayer, State.layer] at hl ⊢
    simp [hl]
  simp [State.pte, hput]

theorem State.pte_of_send (s : State) (m : OutMsg) (k : BerthKey) : (s.send m).pte k = s.pte k := by
  simp [State.pte, State.layer]

@[simp] theorem State.regs_of_setPte (s : State) (k : BerthKey) (p : Pte) : (s.setPte k p).regs = s.regs := by
  unfold State.setPte; split <;> rfl

@[simp] theorem State.sent_of_setPte (s : State) (k : BerthKey) (p : Pte) : (s.setPte k p).sent = s.sent := by
  unfold State.setPte; split <;> rfl

@[simp] theorem State.barges_of_setPte (s : State) (k : BerthKey) (p : Pte) : (s.setPte k p).tiers.barges = s.tiers.barges := by
  unfold State.setPte; split <;> rfl

@[simp] theorem State.barges_of_modPte (s : State) (k : BerthKey) (f : Pte → Pte) : (s.modPte k f).tiers.barges = s.tiers.barges := by
  unfold State.modPte; split <;> simp

@[simp] theorem State.barges_of_delPte (s : State) (k : BerthKey) : (s.delPte k).tiers.barges = s.tiers.barges := by
  unfold State.delPte; split <;> rfl

@[simp] theorem State.barges_of_freeHome (s : State) (slot : Nat) : (s.freeHome slot).tiers.barges = s.tiers.barges := by
  unfold State.freeHome; split <;> rfl

theorem State.barges_of_abortBarge {s : State} {k : BerthKey} {b : Barge} (h : alGet s.tiers.barges k = some b) :
    (s.abortBarge k).tiers.barges = alDel s.tiers.barges k := by
  simp only [State.abortBarge, h, State.bump_tiers]
  split <;> split <;> split <;> simp

theorem State.expelled_congr {s t : State} (h : t.regs = s.regs) : t.expelled = s.expelled := by
  unfold State.expelled State.fld State.reg; rw [h]

/-! ### Compaction queues barges and no more (R170) -/

theorem State.nv_of_queueBarge (s : State) (r : BargeReq) : (s.queueBarge r).nv = s.nv := by
  unfold State.queueBarge; split <;> rfl

theorem State.barges_of_queueBarge (s : State) (r : BargeReq) : (s.queueBarge r).tiers.barges = s.tiers.barges := by
  unfold State.queueBarge; split <;> rfl

/-- What queueing a barge leaves alone, compaction leaves alone. -/
theorem State.compact_keeps {α : Type} {g : State → α} (h : ∀ s r, g (State.queueBarge s r) = g s) (s : State) (ch : Nat) :
    g (s.compact ch) = g s := by
  unfold State.compact
  dsimp only
  split
  case isTrue => rfl
  case isFalse =>
    split
    case h_1 => rfl
    case h_2 =>
      refine State.foldl_keeps (fun t x => ?_) _ s
      split
      · exact h t _
      · rfl

/-! ### LOCAL_BARGE_START (R176, R186, R187) -/

section
variable {s : State} {k : BerthKey} {q : BargeReq} {p : Pte}

/-- The queued barge of a home that may start now: its turn has come and a place among the barges is free. -/
structure BargeMayStart (s : State) (k : BerthKey) (q : BargeReq) (p : Pte) : Prop where
  queued : s.tiers.bargeQ.find? (fun q => decide (q.key = k)) = some q
  entry : s.pte k = some p
  home : p.home = true
  notDropped : p.state ≠ 5
  unprotected : p.prot = false
  live : s.keyLive k = true
  next : s.nextBarge q = true
  room : s.tiers.barges.length < s.fld rBthCtl 8 16

theorem BargeMayStart.allowed (h : BargeMayStart s k q p) :
    ¬ ((!p.home) = true ∨ p.state = 5 ∨ (q.why.guarded && p.prot) = true ∨ (!s.keyLive k) = true) := by
  simp [h.home, h.notDropped, h.unprotected, h.live]

theorem BargeMayStart.due (h : BargeMayStart s k q p) : ¬ ((!s.nextBarge q) = true ∨ s.fld rBthCtl 8 16 ≤ s.tiers.barges.length) := by
  simp [h.next, h.room]

theorem execLocalBargeStart_toDram (h : BargeMayStart s k q p) {s2 : State} {n : Nat} (hpeer : q.peer = none) (hflash : q.toFlash = false)
    (hdest : (s.unqueue k).bargeDest q p = .ok (s2, n)) : execLocalBargeStart k s =
      .next ((s2.setBarge k { why := q.why, peer := none, toFlash := false, dest := n, gen0 := p.gen, count0 := p.count }).setPte k
        { p with state := 2 }) := by
  simp only [execLocalBargeStart, h.queued, h.entry, if_neg h.allowed, if_neg h.due, hpeer, hdest, hflash, Bool.false_eq_true, if_false]

/-- The barge of a queued berth toward a package, before that package has reserved a slot. -/
def outgoingBarge (q : BargeReq) (p : Pte) (pkg : Nat) : Barge :=
  { why := q.why, peer := some pkg, toFlash := q.toFlash, dest := 0xFFFFFFFF, gen0 := p.gen, count0 := p.count }

theorem execLocalBargeStart_toPeer (h : BargeMayStart s k q p) {pkg : Nat} (hpeer : q.peer = some pkg) : execLocalBargeStart k s =
    .next ((((s.unqueue k).setBarge k (outgoingBarge q p pkg)).setPte k { p with state := 2 }).send (.bargeReserve pkg k q.toFlash)) := by
  simp only [execLocalBargeStart, outgoingBarge, h.queued, h.entry, if_neg h.allowed, if_neg h.due, hpeer]

theorem execLocalBargeStart_noHome (hq : s.tiers.bargeQ.find? (fun q => decide (q.key = k)) = some q) (hp : s.pte k = some p)
    (h : p.home = false ∨ p.state = 5) : execLocalBargeStart k s = .next (s.unqueue k) := by
  have hnot : (!p.home) = true ∨ p.state = 5 ∨ (q.why.guarded && p.prot) = true ∨ (!s.keyLive k) = true := by
    rcases h with h | h <;> simp [h]
  simp only [execLocalBargeStart, hq, hp, if_pos hnot]

end

/-! ### BARGE_SWITCH (R176, R178) -/

section
variable {s : State} {k : BerthKey} {b : Barge}

theorem execBargeSwitch_live (hb : alGet s.tiers.barges k = some b) (hin : b.incoming = false) (hpeer : b.peer = none)
    (hlive : s.keyLive k = true) : execBargeSwitch k s = .next (s.switchBarge k b).composeOn := by
  simp [execBargeSwitch, hb, hin, hpeer, hlive]

theorem execBargeSwitch_retired (hb : alGet s.tiers.barges k = some b) (hin : b.incoming = false) (hpeer : b.peer = none)
    (hlive : s.keyLive k = false) : execBargeSwitch k s = .next (s.abortBarge k) := by
  simp [execBargeSwitch, hb, hin, hpeer, hlive]

end

/-! ### SOURCE_DRAIN_FREE of a stacked-DRAM slot (R167, R176) -/

section
variable {s : State} {slot : BitVec 32} (htier : isFlash slot.toNat = false)
include htier

theorem execSourceDrainFree_settled (h : (s.slot slot.toNat).st ≠ .draining) : execSourceDrainFree slot s = .next s := by
  simp [execSourceDrainFree, htier, h]

theorem execSourceDrainFree_draining {k : BerthKey} (hst : (s.slot slot.toNat).st = .draining) (hkey : (s.slot slot.toNat).key = some k)
    (hreads : s.readsOf slot.toNat = 0) : execSourceDrainFree slot s = .next (if s.invalPending k then s else
      State.svcOn (State.composeOn { s with tiers := { s.tiers with slots := alDel s.tiers.slots slot.toNat } })) := by
  have hfree : s.freeHome slot.toNat = { s with tiers := { s.tiers with slots := alDel s.tiers.slots slot.toNat } } := by
    simp [State.freeHome, htier]
  cases hwait : s.invalPending k with
  | true => simp [execSourceDrainFree, htier, hkey, hwait]
  | false =>
    simp only [execSourceDrainFree, htier, hst, hkey, hreads, hwait, hfree, Bool.false_eq_true, if_false, decide_true, Bool.not_false,
      and_self, if_true, false_and, and_false]
    cases s.fab.svc <;> rfl

end

/-! ### FLASH_BLOCK_ERASE_DONE (R170) -/

/-- A slot's record gone: the slot stands erased. -/
def State.eraseSlot (s : State) (f : Nat) : State := { s with nv := { s.nv with slots := alDel s.nv.slots f } }

theorem State.fslot_eraseSlot (s : State) (f x : Nat) : (s.eraseSlot f).fslot x = if f = x then {} else s.fslot x := by
  by_cases h : f = x <;> simp [State.eraseSlot, State.fslot, alGetD, alGet_alDel, h]

/-- Usable indices of a block, and those of them that are stale. -/
def blockIx (ch blk : Nat) : List Nat := (usableIx ch).filter (fun ix => decide (Config.blockOf ch ix = blk))
def State.staleIx (s : State) (ch blk : Nat) : List Nat := (blockIx ch blk).filter (fun ix => decide ((s.fslot (ch + 32 * ix)).st = .stale))

/-- The stale slots of a block erased. -/
def State.eraseStale (s : State) (ch blk : Nat) : State := (s.staleIx ch blk).foldl (fun s ix => s.eraseSlot (ch + 32 * ix)) s

/-- A block once its erase is done: its stale slots erased, its wear one higher. -/
def State.wornBlock (s : State) (ch blk : Nat) : State :=
  { s.eraseStale ch blk with
    nv := { (s.eraseStale ch blk).nv with
      blockWear := alPut (s.eraseStale ch blk).nv.blockWear (ch, blk) (alGetD (s.eraseStale ch blk).nv.blockWear (ch, blk) 0 + 1) } }

theorem State.blockWear_eraseStale (s : State) (ch blk : Nat) : (s.eraseStale ch blk).nv.blockWear = s.nv.blockWear :=
  State.foldl_keeps (g := fun t => t.nv.blockWear) (f := fun t ix => t.eraseSlot (ch + 32 * ix)) (fun _ _ => rfl) _ _

theorem State.fslot_foldl_eraseSlot (ch f : Nat) (l : List Nat) (s : State) :
    (l.foldl (fun s ix => s.eraseSlot (ch + 32 * ix)) s).fslot f = if f ∈ l.map (fun ix => ch + 32 * ix) then {} else s.fslot f := by
  induction l generalizing s with
  | nil => simp
  | cons ix l ih =>
    rw [List.foldl_cons, ih, State.fslot_eraseSlot]
    by_cases hl : f ∈ l.map (fun ix => ch + 32 * ix)
    · simp [hl]
    · simp [hl, eq_comm]

theorem State.eraseStale_notStale (s : State) {ch blk j : Nat} (h : j ∈ blockIx ch blk) :
    ((s.eraseStale ch blk).fslot (ch + 32 * j)).st ≠ .stale := by
  rw [State.eraseStale, State.fslot_foldl_eraseSlot]
  split
  case isTrue => simp
  case isFalse hkept =>
    intro hstale
    exact hkept (List.mem_map.mpr ⟨j, List.mem_filter.mpr ⟨h, decide_eq_true hstale⟩, rfl⟩)

theorem mem_blockIx {ch blk j : Nat} : j ∈ blockIx ch blk ↔ j ∈ usableIx ch ∧ Config.blockOf ch j = blk := by
  simp [blockIx]

/-- The erase of a block none of whose slots is in use. -/
theorem execFlashBlockEraseDone_unused {s : State} {ch : BitVec 5} {ix : Nat} (rest : List Nat) (hix : ix ∈ usableIx ch.toNat)
    (hunused : ∀ j ∈ usableIx ch.toNat, Config.blockOf ch.toNat j = Config.blockOf ch.toNat ix →
      (s.fslot (ch.toNat + 32 * j)).st = .erased ∨ (s.fslot (ch.toNat + 32 * j)).st = .stale ∨ (s.fslot (ch.toNat + 32 * j)).st = .retired) :
    execFlashBlockEraseDone ch (ix :: rest) s = .next ((s.wornBlock ch.toNat (Config.blockOf ch.toNat ix)).compact ch.toNat) := by
  have hany : ¬ ((blockIx ch.toNat (Config.blockOf ch.toNat ix)).any (fun j => decide ((s.fslot (ch.toNat + 32 * j)).st ≠ .erased) &&
      decide ((s.fslot (ch.toNat + 32 * j)).st ≠ .stale) && decide ((s.fslot (ch.toNat + 32 * j)).st ≠ .retired)) = true ∨
      (!(blockIx ch.toNat (Config.blockOf ch.toNat ix)).contains ix) = true) := by
    rintro (h | h)
    · obtain ⟨j, hj, hused⟩ := List.any_eq_true.mp h
      obtain ⟨hj, hblk⟩ := mem_blockIx.mp hj
      rcases hunused j hj hblk with hst | hst | hst <;> simp [hst] at hused
    · simp [mem_blockIx, hix] at h
  exact if_neg hany

theorem State.blockWear_wornBlock (s : State) (ch blk : Nat) :
    alGetD (s.wornBlock ch blk).nv.blockWear (ch, blk) 0 = alGetD s.nv.blockWear (ch, blk) 0 + 1 := by
  simp [State.wornBlock, State.blockWear_eraseStale]

theorem State.fslot_wornBlock (s : State) (ch blk f : Nat) : (s.wornBlock ch blk).fslot f = (s.eraseStale ch blk).fslot f := rfl

theorem State.fslot_compact (s : State) (ch f : Nat) : (s.compact ch).fslot f = s.fslot f :=
  State.compact_keeps (g := fun t => t.fslot f) (fun t r => by rw [State.fslot, State.nv_of_queueBarge]; rfl) s ch

/-! ### FLASH_PROGRAM_FAIL (R170, R178) -/

/-- The state once the slot a barge programmed is retired and the barge given up. -/
def State.programFailed (s : State) (k : BerthKey) (f : Nat) : State :=
  (s.abortBarge k).setFslot f { s.fslot f with st := .retired, key := none, img := none, tenant := 0 }

theorem execFlashProgramFail_flash {s : State} {k : BerthKey} {b : Barge} (hb : alGet s.tiers.barges k = some b) (h : isFlash b.dest = true) :
    execFlashProgramFail k s = .next ((s.programFailed k (flashNo b.dest)).compact (flashNo b.dest % 32)) := by
  simp [execFlashProgramFail, hb, h, State.programFailed]

theorem State.barges_programFailed {s : State} {k : BerthKey} {b : Barge} (hb : alGet s.tiers.barges k = some b) (f : Nat) :
    alGet (s.programFailed k f).tiers.barges k = none := by
  simp [State.programFailed, State.barges_of_abortBarge hb, alGet_alDel]

/-! ### BARGE_RESERVE at the destination (R177, R179, R356, R380) -/

/-- The entry and the barge of a berth that is to come from package `p` into stacked-DRAM slot `n`. -/
def State.landingPte (s : State) (o : Obj) (n : Nat) : Pte :=
  { slot := n, state := 3, basin := o.basin, epoch := s.epoch, arrived := s.arrivedNow }
def landingBarge (p n : Nat) : Barge :=
  { why := .move, peer := some p, toFlash := false, dest := n, gen0 := 0, count0 := 0, incoming := true }

theorem State.sawEpoch_own {s : State} {e : Nat} (he : e = s.epoch) (hset : s.epochUnset = false) : s.sawEpoch e = s := by
  simp [State.sawEpoch, epochNewer, he, hset]

section
variable {s : State} {src : BitVec 10} {k : BerthKey} {epoch : BitVec 16} (tier : Bool) (hhears : s.hears src.toNat = true)
  (hepoch : epoch.toNat = s.epoch) (hset : s.epochUnset = false)
include hhears hepoch hset

theorem execBargeReserve_retired (hactive : s.active k.tenant = false) (hremoval : s.sec.removal = none) :
    execBargeReserve src epoch k tier s = .next (s.send (.bargeGrant src.toNat k stTenantRetired)) := by
  simp [execBargeReserve, hhears, State.sawEpoch_own hepoch hset, hactive, State.countRefusedBarge, hremoval]

variable {o : Obj} (hactive : s.active k.tenant = true) (ho : s.obj k.tenant k.object = some o)
include hactive ho

theorem execBargeReserve_busy {e : Pte} (he : s.pte k = some e) (hbarging : e.state = 2) :
    execBargeReserve src epoch k tier s = .next (s.send (.bargeGrant src.toNat k stBargeBusy)) := by
  simp [execBargeReserve, hhears, State.sawEpoch_own hepoch hset, hactive, ho, he, hbarging]

/-- A berth new to the part, with room for its entry and a slot that can be reserved. -/
theorem execBargeReserve_granted {u : State} {n : Nat} (hnew : s.pte k = none) (hroot : (s.layer k.lk).isSome = true)
    (hroom : s.tableRoom k = true) (hfree : 2 ≤ s.tierFree false) (htake : s.takeDram k .reserved = .ok (u, n)) :
    execBargeReserve src epoch k false s = .next (State.pressure (State.send (State.setBarge
      { (u.setPte k (s.landingPte o n)) with
        tiers := { (u.setPte k (s.landingPte o n)).tiers with tombs := alDel u.tiers.tombs k } } k (landingBarge src.toNat n))
      (.bargeGrant src.toNat k stOk)) k.tenant) := by
  simp only [execBargeReserve, hhears, State.sawEpoch_own hepoch hset, hactive, ho, hnew, hroot, hroom, htake, Nat.not_le.mpr hfree,
    Bool.not_true, Bool.false_eq_true, Option.any_none, and_false, false_and, if_false, if_true]
  rfl

end

/-! ### The messages between the two parts (R177, R178, R358) -/

section
variable {s : State} {src : BitVec 10} {k : BerthKey} {b : Barge}

theorem execBargeGrant_granted (hhears : s.hears src.toNat = true) (hb : alGet s.tiers.barges k = some b) (hpeer : b.peer = some src.toNat)
    (hout : b.incoming = false) (hphase : b.phase = 0) (hlive : s.keyLive k = true) {t : State} {img : SlotImage}
    (hcargo : s.cargo src.toNat k = some (t, img)) : execBargeGrant src k 0 s = .next ((t.setBarge k { b with phase := 1 }).sends
      [.bargeData src.toNat k .manifest img, .bargeData src.toNat k .payload img, .bargeData src.toNat k .label img]) := by
  simp [execBargeGrant, hhears, hb, hpeer, hout, hphase, hlive, hcargo]

theorem execBargeData_payload (hhears : s.hears src.toNat = true) (hb : alGet s.tiers.barges k = some b) (hpeer : b.peer = some src.toNat)
    (hin : b.incoming = true) (hphase : b.phase = 1) (img : SlotImage) : execBargeData src k .payload img s =
      .next ((s.setImage b.dest ⟨img.lines, (b.img.map (·.man)).getD img.man, ⟨0, 0, 0, 0, 0, 0⟩⟩).setBarge k
        { b with phase := 2, img := some ⟨img.lines, (b.img.map (·.man)).getD img.man, ⟨0, 0, 0, 0, 0, 0⟩⟩ }) := by
  simp [execBargeData, hhears, hb, hpeer, hin, hphase]

theorem State.twin_of_setImage (s : State) (slot : Nat) (img : SlotImage) : (s.setImage slot img).twin = s.twin := by
  unfold State.setImage; split <;> rfl

/-- Where no twin serves, the landed berth is announced at once. -/
theorem State.landed_alone {s : State} (h : s.twinServes = false) (k : BerthKey) (b : Barge) (src : Nat) (img : SlotImage) :
    s.landed k b src img = (s.setBarge k { b with phase := 4, img := some img }).send (.bargeReady src k) := by
  simp [State.landed, h]

theorem execBargeData_label (hhears : s.hears src.toNat = true) (hb : alGet s.tiers.barges k = some b) (hpeer : b.peer = some src.toNat)
    (hin : b.incoming = true) (hphase : b.phase = 2) {im : SlotImage} (him : b.img = some im) (halone : s.twinServes = false)
    (img : SlotImage) : execBargeData src k .label img s =
      .next (((s.setImage b.dest { im with label := img.label }).setBarge k
        { b with phase := 4, img := some { im with label := img.label } }).send (.bargeReady src.toNat k)) := by
  have halone' : (s.setImage b.dest { im with label := img.label }).twinServes = false := by
    rwa [State.twinServes, State.twin_of_setImage]
  rw [← State.landed_alone halone']
  simp [execBargeData, hhears, hb, hpeer, hin, hphase, him]

/-- A covering convoy holds the commit until its cutoff. -/
theorem execBargeReady_landed (hhears : s.hears src.toNat = true) (hb : alGet s.tiers.barges k = some b) (hpeer : b.peer = some src.toNat)
    (hout : b.incoming = false) (hphase : b.phase = 1) : execBargeReady src k s =
      .next (if s.covered k then s.setBarge k { b with phase := 2 } else s.tryCommit k b src.toNat) := by
  cases hcovered : s.covered k <;> simp [execBargeReady, hhears, hb, hpeer, hout, hphase, hcovered]

theorem execBargeCommitAfterCutoff_held {pkg : Nat} (hb : alGet s.tiers.barges k = some b) (hpeer : b.peer = some pkg)
    (hout : b.incoming = false) (hphase : b.phase = 2) : execBargeCommitAfterCutoff k s =
      .next (if s.covered k then s else s.tryCommit k b pkg) := by
  cases hcovered : s.covered k <;> simp [execBargeCommitAfterCutoff, hb, hpeer, hout, hphase, hcovered]

theorem execBargeCommit_landed (hhears : s.hears src.toNat = true) (hb : alGet s.tiers.barges k = some b) (hpeer : b.peer = some src.toNat)
    (hin : b.incoming = true) (hphase : b.phase = 4) {img : SlotImage} (himg : b.img = some img) : execBargeCommit src k s =
      .next ((((s.arrive k b img).homeLess k src.toNat).pressure k.tenant).composeOn) := by
  simp [execBargeCommit, hhears, hb, hpeer, hin, hphase, himg]

end

/-- Settles O32: each command of a local barge, then each message of a barge between parts, by the state of the barge it meets. -/
theorem barges : Obligations.Barges := by
  unfold Obligations.Barges
  refine ⟨fun s k => ⟨fun q p s2 n hq hp hhome hst hprot hlive hnext hroom hpeer hflash hdest => ?toDram,
      fun q p pkg hq hp hhome hst hprot hlive hnext hroom hpeer hexp => ?toPeer, fun q p hq hp h => ?noHome,
      fun b hb hin hpeer => ⟨execBargeSwitch_live hb hin hpeer, execBargeSwitch_retired hb hin hpeer⟩,
      fun slot htier hst hkey hreads => ?draining, fun slot htier hst => execSourceDrainFree_settled htier hst,
      fun ch ix rest hix hunused => ?erase, fun b hb hflash => ?fail, fun hnone => ?noBarge⟩,
    fun s src k hhears hexp => ⟨fun epoch tier hepoch hset => ⟨fun hactive hremoval => ?retired, fun o e hactive ho he hbarging => ?busy,
      fun o u n htier hactive ho hnew hroot hroom hfree htake => ?granted⟩,
      fun b hb hpeer => ⟨fun hout hphase hlive t img hcargo => ?grant, fun hin img hphase => ?payload,
        fun hin img im hphase him halone => ?label, fun hout hphase => ?ready, fun hout hphase => ?cutoff, fun hin hphase img himg => ?commit⟩⟩⟩
  case toDram => exact execLocalBargeStart_toDram ⟨hq, hp, hhome, hst, hprot, hlive, hnext, hroom⟩ hpeer hflash hdest
  case toPeer =>
    have hmay : BargeMayStart s k q p := ⟨hq, hp, hhome, hst, hprot, hlive, hnext, hroom⟩
    have hexpelled : (((s.unqueue k).setBarge k (outgoingBarge q p pkg)).setPte k { p with state := 2 }).expelled = false :=
      hexp ▸ State.expelled_congr (State.regs_of_setPte ..)
    refine ⟨_, outgoingBarge q p pkg, execLocalBargeStart_toPeer hmay hpeer, ?_, rfl, rfl, ?_, ?_⟩
    · rw [State.tiers_of_send, State.barges_of_setPte]
      exact alGet_alPut_self ..
    · rw [State.pte_of_send]
      exact State.pte_setPte (s := (s.unqueue k).setBarge k _) _ hp
    · rw [State.send_peer _ hexpelled]
      exact congrArg (· ++ _) (State.sent_of_setPte ..)
  case noHome => exact execLocalBargeStart_noHome hq hp h
  case draining =>
    rw [exec_sourceDrainFree, execSourceDrainFree_draining htier hst hkey hreads]
    exact ⟨fun hwait => by rw [if_pos hwait], fun hsent => by rw [if_neg (by simp [hsent])]⟩
  case erase =>
    refine ⟨_, execFlashBlockEraseDone_unused rest hix hunused, ?_, fun j hj hblk => ?_⟩
    · rw [State.compact_keeps State.nv_of_queueBarge, State.blockWear_wornBlock]
    · rw [State.fslot_compact, State.fslot_wornBlock]
      exact s.eraseStale_notStale (mem_blockIx.mpr ⟨hj, hblk⟩)
  case fail =>
    refine ⟨_, execFlashProgramFail_flash hb hflash, ?_, ?_⟩
    · rw [State.fslot_compact, State.programFailed, State.fslot_setFslot]
    · rw [State.compact_keeps (g := fun t => t.tiers.barges) State.barges_of_queueBarge, State.barges_programFailed hb]
  case noBarge => simp [execFlashProgramFail, execBargeSwitch, hnone]
  case retired => exact execBargeReserve_retired tier hhears hepoch hset hactive hremoval
  case busy => exact execBargeReserve_busy tier hhears hepoch hset hactive ho he hbarging
  case granted =>
    subst htier
    exact execBargeReserve_granted hhears hepoch hset hactive ho hnew hroot hroom hfree htake
  case grant => exact execBargeGrant_granted hhears hb hpeer hout hphase hlive hcargo
  case payload => exact execBargeData_payload hhears hb hpeer hin hphase img
  case label => exact execBargeData_label hhears hb hpeer hin hphase him halone img
  case ready =>
    rw [exec_bargeReady, execBargeReady_landed hhears hb hpeer hout hphase]
    exact ⟨fun hcovered => by rw [if_pos hcovered], fun hfree => by rw [if_neg (by simp [hfree])]⟩
  case cutoff =>
    rw [exec_bargeCommitAfterCutoff, execBargeCommitAfterCutoff_held hb hpeer hout hphase]
    exact ⟨fun hcovered => by rw [if_pos hcovered], fun hfree => by rw [if_neg (by simp [hfree])]⟩
  case commit => exact execBargeCommit_landed hhears hb hpeer hin hphase himg

end Sys2Proof.Machine
end


section
/-! Ledger entries and searches (R218 to R222): when an entry matches, and the matching indices in order. -/

namespace Sys2Proof.Machine

/-! ### When an entry matches (R221) -/

/-- No bit that two masks take differs exactly when the keys agree on the bits both masks take. -/
theorem and_xor_eq_zero_iff {w : Nat} (care mask key key' : BitVec w) :
    care &&& mask &&& (key ^^^ key') = 0 ↔
      ∀ b < w, care.getLsbD b = true → mask.getLsbD b = true → key.getLsbD b = key'.getLsbD b := by
  simp only [BitVec.eq_of_getLsbD_eq_iff, BitVec.getLsbD_and, BitVec.getLsbD_xor, BitVec.ofNat_eq_ofNat, BitVec.getLsbD_zero]
  refine forall₂_congr fun b _ => ?_
  rw [Bool.and_eq_false_imp, Bool.and_eq_true, and_imp, ← Bool.bne_eq_xor, bne_eq_false_iff_eq]

theorem LEntry.hits_iff (e : LEntry) (key mask : BitVec 128) :
    e.hits key mask = true ↔ e.key.toNat % 16 ≠ 0 ∧ e.retired = false ∧ e.care &&& mask &&& (e.key ^^^ key) = 0 := by
  simp [LEntry.hits, LEntry.isFree, and_assoc]

/-- Settles O22: what is left of the masked difference of the keys is 0 exactly when no bit taken by both masks differs. -/
theorem ledgerMatches : Obligations.LedgerMatches := by
  unfold Obligations.LedgerMatches
  intro e key mask
  rw [e.hits_iff, and_xor_eq_zero_iff]

/-! ### The matching indices (R222) -/

theorem insNat_eq_orderedInsert (x : Nat) (l : List Nat) : insNat x l = l.orderedInsert (· ≤ ·) x := by
  induction l with
  | nil => rfl
  | cons y ys ih => simp only [insNat, List.orderedInsert_cons, ih]

theorem sortNat_eq_insertionSort (l : List Nat) : sortNat l = l.insertionSort (· ≤ ·) := by
  simp only [sortNat, List.insertionSort, funext₂ insNat_eq_orderedInsert]

theorem pairwise_sortNat (l : List Nat) : (sortNat l).Pairwise (· ≤ ·) := by
  rw [sortNat_eq_insertionSort]
  exact l.pairwise_insertionSort (· ≤ ·)

theorem State.pairwise_ldgHits (s : State) (key mask : BitVec 128) : (s.ldgHits key mask).Pairwise (· ≤ ·) := pairwise_sortNat _

/-- The least member of an ascending list heads it. -/
theorem eq_cons_of_least {l : List Nat} {i : Nat} (hl : l.Pairwise (· ≤ ·)) (hi : i ∈ l) (hleast : ∀ j ∈ l, i ≤ j) :
    ∃ rest, l = i :: rest := by
  cases l with
  | nil => simp at hi
  | cons j rest =>
    have hji : j ≤ i := by
      obtain rfl | hi := List.mem_cons.mp hi
      · exact le_rfl
      · exact List.rel_of_pairwise_cons hl hi
    exact ⟨rest, by rw [le_antisymm (hleast j List.mem_cons_self) hji]⟩

end Sys2Proof.Machine
end


section
/-! The cursors of the ledger (R222, R223): what LOOKUP, NEXT and CLOSE leave in a cursor. -/

namespace Sys2Proof.Machine

/-- Entries whose parity holds stand the test of a lookup (R228). -/
theorem State.ldgTest_sound {s : State} {is : List Nat} (h : ∀ i ∈ is, (s.ldgEntry i).sound = true) : s.ldgTest is = s := by
  induction is with
  | nil => rfl
  | cons i is ih =>
    have hi : (if (s.ldgEntry i).sound then s else s.ldgRetire i) = s := if_pos (h i List.mem_cons_self)
    rw [State.ldgTest, List.foldl_cons, hi]
    exact ih fun j hj => h j (List.mem_cons_of_mem _ hj)

/-- A cursor command is carried out in service, and on a keeper's cursor at any time. -/
theorem cursorRow_taken {s : State} {cur : BitVec 6} (f : State → Nat → State) (h : s.inService = true ∨ 4 ≤ cur.toNat) :
    cursorRow cur f s = f s cur.toNat := by
  refine if_neg ?_
  rw [Bool.and_eq_true, decide_eq_true_eq, Bool.not_eq_true']
  rintro ⟨hlow, hout⟩
  obtain hin | hhigh := h
  · simp [hin] at hout
  · omega

/-- The cursor that a search opens, before an entry is put in it. -/
def State.opened (s : State) (key mask : BitVec 128) : Cursor :=
  { key := key, mask := mask, isOpen := true, count := (s.ldgHits key mask).length }

section
variable {s : State} {n : Nat}

/-! ### LOOKUP -/

theorem State.cursorLookup_performed {key mask : BitVec 128} (hidle : (s.cursor n).busy = false) (hheld : s.ldgHeld key mask = false) :
    s.cursorLookup n key mask = s.lookupNow n key mask := by
  simp [State.cursorLookup, hidle, hheld]

theorem State.cursorLookup_held {key mask : BitVec 128} (hidle : (s.cursor n).busy = false) (hheld : s.ldgHeld key mask = true) :
    ((s.cursorLookup n key mask).cursor n).busy = true ∧
      (s.cursorLookup n key mask).ledger.heldLookups = s.ledger.heldLookups ++ [(n, key, mask)] := by
  rw [State.cursorLookup, if_neg (by simp [hidle]), if_pos hheld]
  exact ⟨congrArg Cursor.busy (alGetD_alPut_self s.ledger.cursors n { s.cursor n with busy := true } {}), rfl⟩

theorem State.lookupNow_end {key mask : BitVec 128} (hnone : s.ldgHits key mask = []) :
    s.lookupNow n key mask = s.setCursor n { s.opened key mask with isEnd := true } := by
  simp [State.lookupNow, State.opened, hnone, State.ldgTest]

theorem State.lookupNow_least {key mask : BitVec 128} {i : Nat} (hsound : ∀ j ∈ s.ldgHits key mask, (s.ldgEntry j).sound = true)
    (hi : i ∈ s.ldgHits key mask) (hleast : ∀ j ∈ s.ldgHits key mask, i ≤ j) :
    s.lookupNow n key mask = s.setCursor n ((s.opened key mask).give i (s.ldgEntry i)) := by
  obtain ⟨rest, hhits⟩ := eq_cons_of_least (s.pairwise_ldgHits key mask) hi hleast
  rw [State.lookupNow, State.ldgTest_sound hsound, State.opened, hhits]

/-! ### NEXT -/

theorem State.cursorNext_performed (hidle : (s.cursor n).busy = false) (hheld : s.ldgHeld (s.cursor n).key (s.cursor n).mask = false) :
    s.cursorNext n = s.nextNow n := by
  simp [State.cursorNext, hidle, hheld]

theorem State.nextNow_end {a : Nat} (hopen : (s.cursor n).isOpen = true) (hat : (s.cursor n).at_ = some a)
    (hlast : ∀ j ∈ s.ldgHits (s.cursor n).key (s.cursor n).mask, j ≤ a) :
    s.nextNow n = s.setCursor n { s.cursor n with valid := false, isEnd := true, busy := false } := by
  have habove : (s.ldgHits (s.cursor n).key (s.cursor n).mask).filter (fun i => decide (a < i)) = [] := by
    simpa [List.filter_eq_nil_iff] using hlast
  simp [State.nextNow, hopen, hat, habove]

theorem State.nextNow_least {a i : Nat} (hopen : (s.cursor n).isOpen = true) (hat : (s.cursor n).at_ = some a)
    (hi : i ∈ s.ldgHits (s.cursor n).key (s.cursor n).mask) (hai : a < i)
    (hleast : ∀ j ∈ s.ldgHits (s.cursor n).key (s.cursor n).mask, a < j → i ≤ j) (hsound : (s.ldgEntry i).sound = true) :
    s.nextNow n = s.setCursor n ((s.cursor n).give i (s.ldgEntry i)) := by
  have hasc := (s.pairwise_ldgHits (s.cursor n).key (s.cursor n).mask).filter (fun j => decide (a < j))
  obtain ⟨rest, habove⟩ := eq_cons_of_least hasc (i := i) (by simp [hi, hai])
    (by simpa [List.mem_filter] using hleast)
  have htest : s.ldgTest [i] = s := State.ldgTest_sound (by simpa using hsound)
  simp [State.nextNow, hopen, hat, habove, htest]

/-! ### CLOSE, and a cursor that is busy -/

theorem State.cursorClose_idle (hidle : (s.cursor n).busy = false) : s.cursorClose n = s.setCursor n {} := by
  simp [State.cursorClose, hidle]

theorem State.cursor_commands_busy (hbusy : (s.cursor n).busy = true) (key mask : BitVec 128) :
    s.cursorLookup n key mask = s ∧ s.cursorNext n = s ∧ s.cursorClose n = s := by
  simp [State.cursorLookup, State.cursorNext, State.cursorClose, hbusy]

end

end Sys2Proof.Machine
end

section
/-! The dredge, retirement and the retire log (R228, R229, R243; log entries 47 and 213). -/

namespace Sys2Proof.Machine

/-! ### What outputs and events leave of the ledger -/

@[simp] theorem State.ledger_of_send (s : State) (m : OutMsg) : (s.send m).ledger = s.ledger := by
  unfold State.send; split <;> rfl

@[simp] theorem State.ledger_of_sends (s : State) (ms : List OutMsg) : (s.sends ms).ledger = s.ledger :=
  State.foldl_keeps (g := State.ledger) State.ledger_of_send ms s

@[simp] theorem State.ledger_of_raiseMsix (s : State) (v : Nat) : (s.raiseMsix v).ledger = s.ledger := by
  unfold State.raiseMsix; split <;> simp

@[simp] theorem logPut_ledger (s : State) (hostBase at_ : Nat) (q : LogRing) (rec32 : List Byte) :
    (logPut s hostBase at_ q rec32).1.ledger = s.ledger := by
  unfold logPut; split <;> rfl

@[simp] theorem State.event_ledger (s : State) (b : Nat) (rec32 : List Byte) : (s.event b rec32).ledger = s.ledger := by
  unfold State.event; dsimp only; split <;> simp

/-! ### The ledger replaced -/

@[simp] theorem State.ledger_of_setLedger (s : State) (l : Ledger) : (s.setLedger l).ledger = l := rfl
@[simp] theorem State.setLedger_setLedger (s : State) (l l' : Ledger) : (s.setLedger l).setLedger l' = s.setLedger l' := rfl
@[simp] theorem State.ldgSame_of_setLedger {s : State} {l : Ledger} (h : l.entries = s.ledger.entries) (key care : BitVec 128) (val : W64) :
    (s.setLedger l).ldgSame key care val = s.ldgSame key care val := by
  rw [State.ldgSame, State.ledger_of_setLedger, h, State.ldgSame]

/-! ### Retirement (R229) -/

theorem State.rebuildStart_ledger (s : State) (kind : Option Nat) (tenant : Nat) :
    (s.rebuildStart kind tenant).ledger = { s.ledger with rebuilds := s.ledger.rebuilds ++ [{ kind := kind, tenant := tenant }] } := by
  unfold State.rebuildStart
  dsimp only
  split
  case h_1 => exact State.ledger_of_sends ..
  case h_2 => rfl
  case h_3 => exact State.ledger_of_sends ..

/-- An entry retired is marked where it stands, and counted. -/
theorem State.ldgRetire_entries (s : State) (i : Nat) :
    (s.ldgRetire i).ledger.entries = alPut s.ledger.entries i { s.ldgEntry i with retired := true } ∧
      (s.ldgRetire i).ledger.retiredCount = s.ledger.retiredCount + 1 := by
  unfold State.ldgRetire
  simp only [State.rebuildStart_ledger, State.event_ledger]
  exact ⟨rfl, rfl⟩

/-! ### DREDGE_VISIT (R228) -/

section
variable {s : State}

/-- A dredge that is stopped leaves the entries to the disturbances of stored bits. -/
theorem execDredgeVisit_stopped (hstop : s.fld rLdgCtl 0 16 = 0) :
    execDredgeVisit [] s = .next s ∧
      ∀ u : LedgerUpset, u.index < 262144 → execDredgeVisit [u] s = .next (s.ldgPut u.index ((s.ldgEntry u.index).flip u.bit)) := by
  refine ⟨by simp [execDredgeVisit, hstop], fun u hu => ?_⟩
  simp [execDredgeVisit, hstop, hu]

/-- The state once the dredge has left the entry that was next in `s`, `t` being what the visit made of the entries. -/
def State.dredgeOn (s t : State) : State :=
  t.setLedger { t.ledger with
    next := if s.ledger.next = 262143 then 0 else s.ledger.next + 1
    passes := if s.ledger.next = 262143 then (t.ledger.passes + 1) % 2 ^ 16 else t.ledger.passes
    dredgeDue := s.now + s.dredgeStep }

/-- A visit that is due retires the entry it visits unless the entry is retired or its parity and a locator hold. -/
theorem execDredgeVisit_due (hrun : s.fld rLdgCtl 0 16 ≠ 0) (hdue : s.ledger.dredgeDue ≤ s.now) :
    execDredgeVisit [] s = .next (s.dredgeOn
      (if (s.ldgEntry s.ledger.next).retired || ((s.ldgEntry s.ledger.next).sound && (s.ldgEntry s.ledger.next).locator.isSome) then s
        else s.ldgRetire s.ledger.next)) := by
  simp [execDredgeVisit, hrun, State.passed, hdue, State.dredgeOn]

/-- What a visit retires is retired and counted, and no other entry is touched. -/
theorem State.dredgeOn_retired (s : State) :
    let t := s.dredgeOn (s.ldgRetire s.ledger.next)
    (t.ldgEntry s.ledger.next).retired = true ∧ t.ledger.retiredCount = s.ledger.retiredCount + 1 ∧
      ∀ i, i ≠ s.ledger.next → t.ldgEntry i = s.ldgEntry i := by
  obtain ⟨hentries, hcount⟩ := s.ldgRetire_entries s.ledger.next
  have hentry (i : Nat) : (s.dredgeOn (s.ldgRetire s.ledger.next)).ldgEntry i =
      alGetD (alPut s.ledger.entries s.ledger.next { s.ldgEntry s.ledger.next with retired := true }) i {} :=
    congrArg (fun es : AL Nat LEntry => alGetD es i {}) hentries
  refine ⟨?_, hcount, fun i hi => ?_⟩
  · rw [hentry, alGetD_alPut_self]
  · rw [hentry, alGetD_alPut_ne _ hi.symm, State.ldgEntry]

/-! ### LDG_RETIRE_LOG (R243) -/

/-- A read takes the oldest record off the log. -/
theorem execLdgRetireLogRead_taken (hsec : s.sec.tdisp ≠ 3) (hmode : s.mode = 2) :
    execLdgRetireLogRead s = .next ((s.send (.read s.retireLogWord)).retireLogPop) := by
  simp [execLdgRetireLogRead, hsec, hmode]

theorem State.retireLogWord_empty (hlog : s.ledger.log = []) : s.retireLogWord = 0 := by
  simp [State.retireLogWord, hlog]

theorem State.fld_retireLogWord {i k n : Nat} {rest : List (Nat × Nat × Nat)} (hlog : s.ledger.log = (i, k, n) :: rest)
    (hi : i < 2 ^ 18) (hk : k < 16) (hn : n < 2 ^ 12) :
    Sys2Proof.fld s.retireLogWord 0 18 = i ∧ Sys2Proof.fld s.retireLogWord 18 4 = k ∧ Sys2Proof.fld s.retireLogWord 22 12 = n ∧
      Sys2Proof.fld s.retireLogWord 63 1 = 1 := by
  have hword : s.retireLogWord.toNat = i + k * 2 ^ 18 + n * 2 ^ 22 + 2 ^ 63 := by
    rw [State.retireLogWord, hlog, BitVec.toNat_ofNat]
    omega
  simp only [Sys2Proof.fld, hword]
  omega

end

end Sys2Proof.Machine
end

section
/-! Rebuilds that end and HOME inserts tried again (R226, R230, R231). -/

namespace Sys2Proof.Machine

section
variable {s : State}

/-! ### REBUILD_DONE (R230, R231) -/

/-- Nothing waits for a rebuild: no lookup, ARM or cursor, and no sweep that has been accepted. -/
def State.nothingHeld (s : State) : Prop :=
  s.ledger.heldLookups = [] ∧ s.ledger.heldArms = [] ∧ s.ledger.cursors = [] ∧ s.sweeps.accepted = []

/-- A rebuild that found nothing ends, and with nothing held that is all. -/
theorem execRebuildDone_nothing {r : Rebuild} {rest : List Rebuild} (hr : s.ledger.rebuilds = r :: rest) (hheld : s.nothingHeld)
    (hfound : s.rebuilt r = []) : execRebuildDone s = .next (s.setLedger { s.ledger with rebuilds := rest }) := by
  obtain ⟨hlooks, harms, hcursors, haccepted⟩ := hheld
  simp [execRebuildDone, hr, hfound, hlooks, harms, hcursors, haccepted]

/-- A rebuild that found one entry of a kind other than HOME, which the ledger does not hold, puts it at the lowest FREE index. -/
theorem execRebuildDone_one {r : Rebuild} {rest : List Rebuild} {e : BitVec 128 × BitVec 128 × W64} {i : Nat}
    (hr : s.ledger.rebuilds = r :: rest) (hheld : s.nothingHeld) (hfound : s.rebuilt r = [e]) (hkind : kfld e.1 0 4 ≠ 2)
    (hnew : s.ldgSame e.1 e.2.1 e.2.2 = none) (hfree : ldgFree s.ledger.entries (s.ledger.entries.length + 1) 0 = some i) :
    execRebuildDone s = .next ((s.setLedger { s.ledger with rebuilds := rest }).ldgPut i (LEntry.make e.1 e.2.1 e.2.2)) := by
  obtain ⟨hlooks, harms, hcursors, haccepted⟩ := hheld
  simp [execRebuildDone, hr, hfound, hkind, hnew, hfree, State.ldgPut, hlooks, harms, hcursors, haccepted]

/-! ### HOME_INSERT_RETRY (R226) -/

theorem execHomeInsertRetry_early (h : ∀ q ∈ s.ledger.retries, s.now < q.due) : execHomeInsertRetry s = .next s := by
  have hnone : s.ledger.retries.find? (fun q => decide (q.due ≤ s.now)) = none := by
    simpa [List.find?_eq_none] using h
  rw [execHomeInsertRetry, hnone]

section
variable {q : HomeRetry} (hq : s.ledger.retries = [q]) (hdue : q.due ≤ s.now) (hactive : s.active (kfld q.key 4 12) = true)
include hq hdue hactive

theorem execHomeInsertRetry_inserted {t : State}
    (ht : (s.setLedger { s.ledger with retries := [] }).ldgInsert q.key q.care q.val = .ok t) : execHomeInsertRetry s = .next t := by
  simp [execHomeInsertRetry, hq, hdue, hactive, ht]

theorem execHomeInsertRetry_again {e : Nat}
    (he : (s.setLedger { s.ledger with retries := [] }).ldgInsert q.key q.care q.val = .error e) :
    execHomeInsertRetry s = .next (s.setLedger { s.ledger with retries := [{ q with due := s.now + 107374182 }] }) := by
  simp [execHomeInsertRetry, hq, hdue, hactive, he]

end

end

/-- Settles O34: the commands of a cursor, the dredge and the retire log, then rebuilds and HOME inserts tried again. -/
theorem ledgerCommands : Obligations.LedgerCommands := by
  unfold Obligations.LedgerCommands
  refine ⟨fun s cur hcur => ?cursors, fun s => ?upkeep⟩
  case cursors =>
    simp only [exec_ledgerCursorLookup, exec_ledgerCursorNext, exec_ledgerCursorClose, execLedgerCursorLookup, execLedgerCursorNext,
      execLedgerCursorClose, cursorRow_taken _ hcur]
    refine ⟨fun key mask hidle hheld hsound => ?lookup, fun key mask hidle hheld => ?held,
      fun hidle hopen hheld hsound a hat => ?next, fun hidle => ?close, fun hbusy key mask => ?busy⟩
    case lookup =>
      rw [State.cursorLookup_performed hidle hheld]
      exact ⟨fun hnone => congrArg _ (State.lookupNow_end hnone), fun i hi hleast => congrArg _ (State.lookupNow_least hsound hi hleast)⟩
    case held => exact ⟨_, rfl, State.cursorLookup_held hidle hheld⟩
    case next =>
      rw [State.cursorNext_performed hidle hheld]
      exact ⟨fun hlast => congrArg _ (State.nextNow_end hopen hat hlast),
        fun i hi hai hleast => congrArg _ (State.nextNow_least hopen hat hi hai hleast (hsound i hi))⟩
    case close => rw [State.cursorClose_idle hidle]
    case busy =>
      obtain ⟨hlookup, hnext, hclose⟩ := State.cursor_commands_busy hbusy key mask
      exact ⟨congrArg _ hlookup, congrArg _ hnext, congrArg _ hclose⟩
  case upkeep =>
    simp only [exec_dredgeVisit, exec_ldgRetireLogRead, exec_rebuildDone, exec_homeInsertRetry]
    refine ⟨fun hrun hdue hsound hloc => ?kept, fun hrun hdue hsound hstands => ?retired, fun hstop => (execDredgeVisit_stopped hstop).1,
      fun u hstop => (execDredgeVisit_stopped hstop).2 u, fun hsec hmode => ?log, fun i k n rest hlog => State.fld_retireLogWord hlog,
      State.retireLogWord_empty, fun hnone => ?noRebuild, fun r rest hr hlooks harms hcursors haccepted => ?rebuild,
      execHomeInsertRetry_early, fun q t hq hdue hactive => execHomeInsertRetry_inserted hq hdue hactive,
      fun q e hq hdue hactive => execHomeInsertRetry_again hq hdue hactive⟩
    case kept =>
      rw [execDredgeVisit_due hrun hdue, if_pos (by simp [hsound, hloc]), State.dredgeOn]
    case retired =>
      have hbad : ¬ ((s.ldgEntry s.ledger.next).retired ||
          ((s.ldgEntry s.ledger.next).sound && (s.ldgEntry s.ledger.next).locator.isSome)) = true := by
        simp [hsound, hstands]
      refine ⟨_, execDredgeVisit_due hrun hdue, ?_⟩
      rw [if_neg hbad]
      exact s.dredgeOn_retired
    case log =>
      refine ⟨_, execLdgRetireLogRead_taken hsec hmode, congrArg State.sent (s.send_local rfl), ?_⟩
      simp [State.retireLogPop]
    case noRebuild => simp [execRebuildDone, hnone]
    case rebuild =>
      have hheld : s.nothingHeld := ⟨hlooks, harms, hcursors, haccepted⟩
      exact ⟨execRebuildDone_nothing hr hheld, fun e i hfound hkind hnew hfree => execRebuildDone_one hr hheld hfound hkind hnew hfree⟩

end Sys2Proof.Machine
end


section
/-! HOME messages (R226, R227, R230, R361): what a note, a query and a reply of a package do. -/

namespace Sys2Proof.Machine

/-! ### Inserts leave the sweeps alone -/

/-- An insert that succeeds writes the entry whole at some index. -/
theorem State.ldgInsert_ok {s t : State} {key care : BitVec 128} {val : W64} {fence : Bool} (h : s.ldgInsert key care val fence = .ok t) :
    ∃ i, t = s.ldgPut i (LEntry.make key care val) := by
  unfold State.ldgInsert at h
  split at h
  case isTrue => cases h
  case isFalse =>
    split at h
    case h_1 i _ => exact ⟨i, (Except.ok.inj h).symm⟩
    case h_2 =>
      split at h
      case h_1 i _ => exact ⟨i, (Except.ok.inj h).symm⟩
      case h_2 => cases h

theorem State.ldgInsert_sweeps {s t : State} {key care : BitVec 128} {val : W64} {fence : Bool} (h : s.ldgInsert key care val fence = .ok t) :
    t.sweeps = s.sweeps := by
  obtain ⟨i, rfl⟩ := State.ldgInsert_ok h
  rfl

theorem State.homeMerge_sweeps (s : State) (tenant object pkg : Nat) : (s.homeMerge tenant object pkg).sweeps = s.sweeps := by
  unfold State.homeMerge
  dsimp only
  split
  case h_1 => rfl
  case h_2 => rfl
  case h_3 => exact State.foldl_keeps (g := State.sweeps) (f := fun t (p : Nat × LEntry) => t.ldgDel p.1) (fun _ _ => rfl) _ s

theorem State.homeInsert_sweeps (s : State) (key care : BitVec 128) (val : W64) : (s.homeInsert key care val).sweeps = s.sweeps := by
  have hmerge (tenant object pkg : Nat) : ((s.setFld rLdgStat 38 1 1).homeMerge tenant object pkg).sweeps = s.sweeps :=
    State.homeMerge_sweeps ..
  unfold State.homeInsert
  split
  case h_1 ht => exact State.ldgInsert_sweeps ht
  case h_2 =>
    split
    case isTrue => rfl
    case isFalse =>
      dsimp only
      split
      case h_1 ht => exact (State.ldgInsert_sweeps ht).trans (hmerge ..)
      case h_2 => exact hmerge ..

section
variable {s : State} {src : BitVec 10} (hhears : s.hears src.toNat = true)
include hhears

/-! ### HOME_NOTE (R227) -/

section
variable {k : LayerKey} {block homed : BitVec 25} {epoch : BitVec 16} (hset : s.epochUnset = false) (hepoch : epoch.toNat = s.epoch)
  (hplain : ∀ e ∈ s.homeHits k (some block.toNat), vfld e.2.val 0 10 = src.toNat → e.2.care = homeCare s.homeBlk)

omit hhears in
include hplain in
theorem State.homeHits_unmerged : (s.homeHits k (some block.toNat)).any
    (fun e => decide (vfld e.2.val 0 10 = src.toNat) && decide (e.2.care ≠ homeCare s.homeBlk)) = false := by
  simpa using hplain

include hset hepoch hplain

/-- A note on a block whose own entry is there and not of a later epoch updates or deletes the entry. -/
theorem execHomeNote_known {i : Nat} (gain : Bool)
    (hsame : s.ldgSame (homeKey k block.toNat) (homeCare s.homeBlk) (homeVal src.toNat epoch.toNat homed.toNat) = some i)
    (hnewer : epochNewer (vfld (s.ldgEntry i).val 16 16) epoch.toNat = false) (hactive : s.active k.tenant = true) :
    execHomeNote src epoch k block homed gain s = .next (if gain = true ∨ homed ≠ 0
      then s.ldgPut i (LEntry.make (homeKey k block.toNat) (homeCare s.homeBlk) (homeVal src.toNat epoch.toNat homed.toNat))
      else s.ldgDel i) := by
  rw [execHomeNote, if_neg (by simp [hhears])]
  simp only [State.sawEpoch_own hepoch hset, State.homeHits_unmerged hplain, hsame, hnewer, hactive]
  rw [if_neg (by simp), if_neg (by simp), apply_ite Host.Outcome.next]

/-- A note on a block without an entry inserts one, if it tells of homes. -/
theorem execHomeNote_unknown (gain : Bool)
    (hsame : s.ldgSame (homeKey k block.toNat) (homeCare s.homeBlk) (homeVal src.toNat epoch.toNat homed.toNat) = none) :
    execHomeNote src epoch k block homed gain s = .next (if gain = true ∨ homed ≠ 0
      then s.homeInsert (homeKey k block.toNat) (homeCare s.homeBlk) (homeVal src.toNat epoch.toNat homed.toNat)
      else s) := by
  rw [execHomeNote, if_neg (by simp [hhears])]
  simp only [State.sawEpoch_own hepoch hset, State.homeHits_unmerged hplain, hsame]
  rw [if_neg (by simp), apply_ite Host.Outcome.next]

end

/-! ### HOME_QUERY and HOME_REPLY (R230) -/

theorem execHomeQuery_answered (tenant : BitVec 12) : execHomeQuery src tenant s = .next (if s.active tenant.toNat = true
    then s.send (.homeReply src.toNat (s.homeBlocks tenant.toNat)) else s) := by
  rw [execHomeQuery, if_neg (by simp [hhears]), apply_ite Host.Outcome.next]

section
variable (b : HomeBlock) (haccepted : s.sweeps.accepted = [])
include haccepted

/-- Without a rebuild a block that answers is entered. -/
theorem execHomeReply_entered (hnone : s.ledger.rebuilds = []) : execHomeReply src [b] s =
    .next (s.homeInsert (homeKey ⟨b.tenant, b.object, b.layer⟩ b.block) (homeCare s.homeBlk) (homeVal src.toNat b.epoch b.homed)) := by
  have hself : s.setLedger { s.ledger with rebuilds := [] } = s := by rw [← hnone]; rfl
  simp [execHomeReply, hhears, hnone, haccepted, State.homeInsert_sweeps, hself]

/-- A rebuild of every kind takes the block, and nothing is entered. -/
theorem execHomeReply_rebuild {r : Rebuild} (hr : s.ledger.rebuilds = [r]) (hkind : r.kind = none) : execHomeReply src [b] s =
    .next (s.setLedger { s.ledger with
      rebuilds := [{ r with blocks := r.blocks ++ [{ b with homed := b.homed % 2 ^ 25 + src.toNat * 2 ^ 25 }] }] }) := by
  simp [execHomeReply, hhears, hr, hkind, haccepted]

end

end

end Sys2Proof.Machine
end


section
/-! Sounding: room in the collector, the engines' estimates, the selection (R58, R72, R73, R233, R236, R237). -/

namespace Sys2Proof.Machine

/-! ### Member work that is not there -/

/-- Member work replaced does not appear under a convoy's numbers that had none. -/
theorem State.member_setMember_none {s : State} {g q : Nat} {tw : Bool} (y : MSweep) (h : s.member g q tw = none) :
    (s.setMember y).member g q tw = none := by
  rw [State.member_eq_find, List.find?_eq_none] at h ⊢
  intro x hx
  obtain ⟨x0, hx0, rfl⟩ := List.mem_map.mp hx
  split
  case isTrue hkeys =>
    obtain ⟨hg, hq, htw⟩ := hkeys
    rw [MSweep.isOf, ← hg, ← hq, ← htw]
    exact h x0 hx0
  case isFalse => exact h x0 hx0

@[simp] theorem State.member_soundFree (s : State) (m : MSweep) (g q : Nat) (tw : Bool) : (s.soundFree m).member g q tw = s.member g q tw := by
  unfold State.soundFree
  split
  case h_1 => split <;> rfl
  case h_2 => rfl

@[simp] theorem State.member_bump (s : State) (o l w d g q : Nat) (tw : Bool) : (s.bump o l w d).member g q tw = s.member g q tw := rfl

section
variable {s : State} {m : MSweep} {d : Sounding}

/-! ### SOUNDING_ROOM_GRANT (R236) -/

section
variable {g q : Nat} {tw : Bool} {rest : List (Nat × Nat × Bool)} (hq : s.sweeps.sndQ = (g, q, tw) :: rest) (hm : s.member g q tw = some m)
  (hd : m.snd = some d)
include hq hm hd

/-- The first sweep that waits takes its room once it is there. -/
theorem execSoundingRoomGrant_granted (hroom : d.asked ≤ s.sweeps.collFree) : ∃ t, execSoundingRoomGrant s = .next t ∧
    t.sweeps.sndQ = rest ∧ t.sweeps.collFree = s.sweeps.collFree - d.asked ∧
    t.member g q tw = some { m with snd := some { d with room := true } } := by
  have hm1 : ({ s with sweeps := { s.sweeps with sndQ := rest } } : State).member g q tw = some m := hm
  refine ⟨_, by simp only [execSoundingRoomGrant, hq, hm, hd, hroom, if_true]; rfl, rfl, rfl, ?_⟩
  exact State.member_setMember hm1 rfl rfl rfl

theorem execSoundingRoomGrant_waits (hroom : s.sweeps.collFree < d.asked) : execSoundingRoomGrant s = .next s := by
  simp [execSoundingRoomGrant, hq, hm, hd, hroom]

end

/-! ### ENGINE_ESTIMATE (R58, R233) -/

/-- Member work of which an engine has taken a berth. -/
def MSweep.engineTook (m : MSweep) (d : Sounding) (b : Nat) : MSweep :=
  { m with snd := some { d with engineLeft := d.engineLeft.filter (fun x => decide (x ≠ b)) } }

section
variable {gsid : BitVec 24} {seq : BitVec 32} {tw : Bool} {berth : BitVec 25} (hm : s.member gsid.toNat seq.toNat tw = some m)
  (hd : m.snd = some d)
include hm hd

/-- A berth left to the engine is sounded, and is not left to it any more. -/
theorem execEngineEstimate_sounded (hopen : d.fixed = false) (hroom : d.room = true) (hleft : berth.toNat ∈ d.engineLeft) :
    execEngineEstimate gsid seq tw berth s = .next ((s.setMember (m.engineTook d berth.toNat)).soundOne (m.engineTook d berth.toNat)
      berth.toNat (engineRows m.desc m.qbuf m.geo m.gq m.rope m.adjacent)).1 := by
  simp only [execEngineEstimate, hm, hd]
  rw [if_neg (by simp [hopen, hroom, hleft])]
  rfl

theorem execEngineEstimate_ignored (h : d.fixed = true ∨ d.room = false ∨ berth.toNat ∉ d.engineLeft) :
    execEngineEstimate gsid seq tw berth s = .next s := by
  have hskip : (!d.room) = true ∨ d.fixed = true ∨ (!d.engineLeft.contains berth.toNat) = true := by
    simp only [Bool.not_eq_true', List.contains_eq_mem, decide_eq_false_iff_not]
    tauto
  simp only [execEngineEstimate, hm, hd]
  rw [if_pos hskip]

end

/-! ### SELECTION_FIXED (R72, R73, R237) -/

/-- The berths that a selection takes besides the protected ones, in rank order. -/
def MSweep.firstRanked (m : MSweep) : List (Nat × F32) :=
  (rankAll (m.plan.filterMap (fun q => if q.prot || q.filtered || q.noMan then none else q.est.map (fun u => (q.berth, u))))).take
    (m.desc.k - (m.plan.filter (·.prot)).length)

/-- Member work whose selection is fixed. -/
def MSweep.fixSelection (m : MSweep) (d : Sounding) : MSweep :=
  { m with
    plan := m.plan.map (fun p => if p.prot then p else { p with selected := some ((m.firstRanked.map (·.1)).contains p.berth) })
    snd := some { d with
      fixed := true
      selectedCount := (m.firstRanked.map (·.1)).length
        + ((m.plan.filter (·.prot)).filter (fun p => !p.noMan && decide (p.mode ≠ some 2))).length } }

theorem MSweep.fixSelection_plan (m : MSweep) (d : Sounding) : (m.fixSelection d).plan = m.plan.map (fun p =>
    if p.prot then p else { p with selected := some (m.firstRanked.any (fun c => decide (c.1 = p.berth))) }) := by
  have hchosen (b : Nat) : (m.firstRanked.map (·.1)).contains b = m.firstRanked.any (fun c => decide (c.1 = b)) := by
    rw [Bool.eq_iff_iff]
    simp
  simp only [MSweep.fixSelection, hchosen]

section
variable {gsid : BitVec 24} {seq : BitVec 32} (hm : s.member gsid.toNat seq.toNat false = some m)
  (htwin : s.member gsid.toNat seq.toNat true = none) (hd : m.snd = some d)
include hm htwin hd

theorem execSelectionFixed_early (hdone : m.soundDone d = false) : execSelectionFixed gsid seq s = .next s := by
  simp [execSelectionFixed, hm, htwin, hd, hdone]

theorem execSelectionFixed_done (hk : m.desc.k ≠ 0) (hopen : d.fixed = false) (hdone : m.soundDone d = true) :
    ∃ t, execSelectionFixed gsid seq s = .next t ∧ t.member gsid.toNat seq.toNat false = some (m.fixSelection d) := by
  unfold execSelectionFixed
  extract_lets one
  have hfix : ∃ n, one s false = ((s.setMember (m.fixSelection d)).soundFree m).bump rSndPfStat 32 32 n := by
    simp only [one, hm, hd]
    rw [if_neg (by simp [hk, hopen, hdone])]
    exact ⟨_, rfl⟩
  obtain ⟨n, hfix⟩ := hfix
  have hnone : (one s false).member gsid.toNat seq.toNat true = none := by
    rw [hfix, State.member_bump, State.member_soundFree]
    exact State.member_setMember_none _ htwin
  have hsecond : one (one s false) true = one s false := by
    simp only [one] at hnone ⊢
    rw [hnone]
  refine ⟨one (one s false) true, rfl, ?_⟩
  rw [hsecond, hfix, State.member_bump, State.member_soundFree]
  exact State.member_setMember hm rfl rfl rfl

end

end

end Sys2Proof.Machine
end

section
/-! A berth put in its layer's neighbour graph (R238 to R240). -/

namespace Sys2Proof.Machine

/-- A manifest read without reporting, by what stands in the tables, the slot and the key slot. -/
theorem State.peekMan_eq (s : State) (k : BerthKey) : s.peekMan k = (s.pte k).bind (fun p => (s.rawManifest k p).bind (fun m =>
    if s.keyLive k then openManifest (s.berthKey k) k m else none)) := by
  unfold State.peekMan State.readManifest
  cases s.pte k with
  | none => rfl
  | some p =>
    cases hraw : s.rawManifest k p with
    | none => simp [hraw]
    | some m =>
      cases hlive : s.keyLive k with
      | false => simp [hraw]
      | true =>
        cases hman : openManifest (s.berthKey k) k m with
        | none => cases hbad : p.manBad <;> simp [hraw, hman, hbad]
        | some b => simp [hraw, hman]

/-- The registers and the queue of berths that wait for the graph. -/
def State.graphView (s : State) : AL Nat W64 × List BerthKey := (s.regs, s.tiers.graphQ)

/-- A list of neighbours written changes a slot of stacked DRAM only. -/
theorem State.setNbrs_graphView (s : State) (k : BerthKey) (ns : List Nat) : (s.setNbrs k ns).graphView = s.graphView := by
  unfold State.setNbrs
  split
  case h_1 => rfl
  case h_2 => split <;> rfl

/-- A berth counted as put in the graph. -/
theorem State.graphCounted {s t : State} (h : t.graphView = s.graphView) :
    (t.bump rSndGraph 32 32 1).fld rSndGraph 32 32 = satAdd 32 (s.fld rSndGraph 32 32) 1 ∧
      (t.bump rSndGraph 32 32 1).tiers.graphQ = s.tiers.graphQ := by
  obtain ⟨hregs, hqueue⟩ := Prod.mk.inj h
  refine ⟨?_, hqueue⟩
  rw [t.fld_bump rSndGraph 1 (by omega), State.fld, State.reg, hregs]
  rfl

/-- The state once a berth has left the queue for the graph. -/
def State.graphTaken (s : State) (k : BerthKey) : State :=
  { s with tiers := { s.tiers with graphQ := s.tiers.graphQ.filter (fun q => decide (q ≠ k)) } }

section
variable {s : State} {k : BerthKey}

theorem State.peekMan_graphTaken (s : State) (k k' : BerthKey) : (s.graphTaken k).peekMan k' = s.peekMan k' := by
  rw [State.peekMan_eq, State.peekMan_eq]
  rfl

theorem execGraphInsert_notQueued (h : s.tiers.graphQ.contains k = false) : execGraphInsert k s = .next s := by
  rw [execGraphInsert, if_pos (by simpa using h)]

section
variable {l : Layer} {o : Obj} {e : Pte} (hqueued : s.tiers.graphQ.contains k = true) (hl : s.layer k.lk = some l)
  (ho : s.obj k.tenant k.object = some o) (he : s.pte k = some e)
include hqueued hl ho he

theorem execGraphInsert_disabled (hoff : s.fld rSndCtl 0 1 = 0) : execGraphInsert k s = .next (s.graphTaken k) := by
  have hl1 : (s.graphTaken k).layer k.lk = some l := hl
  have ho1 : (s.graphTaken k).obj k.tenant k.object = some o := ho
  have he1 : (s.graphTaken k).pte k = some e := he
  have hoff1 : (s.graphTaken k).fld rSndCtl 0 1 = 0 := hoff
  rw [execGraphInsert, if_neg (by simpa using hqueued)]
  extract_lets tiers u
  have hu : u = s.graphTaken k := rfl
  simp only [hu, hl1, ho1, he1, hoff1, true_or, if_true]

/-- A berth of a layer that homes enough, in a block with a graph slot and with its manifest read, is put in the graph and counted. -/
theorem execGraphInsert_inserted (hon : s.fld rSndCtl 0 1 = 1) (hhome : e.home = true) (henough : s.fld rSndCtl 16 24 ≤ l.homed)
    (hactive : s.active k.tenant = true) (hslot : (s.graphSlot k).isSome = true) (hman : (s.peekMan k).isSome = true) :
    ∃ t, execGraphInsert k s = .next t ∧ t.fld rSndGraph 32 32 = satAdd 32 (s.fld rSndGraph 32 32) 1 ∧
      t.tiers.graphQ = (s.graphTaken k).tiers.graphQ := by
  obtain ⟨n, hn⟩ := Option.isSome_iff_exists.mp hslot
  obtain ⟨man, hread⟩ := Option.isSome_iff_exists.mp hman
  have hl1 : (s.graphTaken k).layer k.lk = some l := hl
  have ho1 : (s.graphTaken k).obj k.tenant k.object = some o := ho
  have he1 : (s.graphTaken k).pte k = some e := he
  have hn1 : (s.graphTaken k).graphSlot k = some n := hn
  have hread1 : (s.graphTaken k).peekMan k = some man := (s.peekMan_graphTaken k k).trans hread
  have hgo : ¬ (s.fld rSndCtl 0 1 = 0 ∨ (!e.home) = true ∨ l.homed < s.fld rSndCtl 16 24 ∨ (!s.active k.tenant) = true) := by
    simp [hon, hhome, henough, hactive]
  have hgo1 : ¬ ((s.graphTaken k).fld rSndCtl 0 1 = 0 ∨ (!e.home) = true ∨ l.homed < (s.graphTaken k).fld rSndCtl 16 24 ∨
      (!(s.graphTaken k).active k.tenant) = true) := hgo
  rw [execGraphInsert, if_neg (by simpa using hqueued)]
  extract_lets tiers u
  have hu : u = s.graphTaken k := rfl
  simp only [hu, hl1, ho1, he1, hn1, hread1, if_neg hgo1]
  refine ⟨_, rfl, State.graphCounted (s := s.graphTaken k) ?_⟩
  refine (State.foldl_keeps (g := State.graphView) (fun t x => ?_) _ _).trans (State.setNbrs_graphView ..)
  (repeat' split) <;> simp only [State.setNbrs_graphView]

end

end

/-- Settles O35: the notes, queries and replies of other packages, then each step of a sounding by the member work it meets, and the graph. -/
theorem homesAndSounding : Obligations.HomesAndSounding := by
  unfold Obligations.HomesAndSounding
  refine ⟨fun s src hhears hset => ⟨fun k block homed gain epoch hepoch hplain => ⟨fun i hsame hnewer hactive => ?known,
      fun hnone hgain => ?inserted, fun hnone hgain hhomed => ?unknown⟩, fun tenant => ?query,
      fun b hnone haccepted => ⟨_, execHomeReply_entered hhears b haccepted hnone, rfl⟩,
      fun b r hr hkind haccepted => ⟨_, execHomeReply_rebuild hhears b haccepted hr hkind, rfl, rfl⟩⟩,
    fun s => ⟨fun hnone => ?noQueue,
      fun g q tw rest m d hq hm hd => ⟨execSoundingRoomGrant_granted hq hm hd, execSoundingRoomGrant_waits hq hm hd⟩,
      fun gsid seq tw berth m d hm hd hopen hroom hleft => execEngineEstimate_sounded hm hd hopen hroom hleft,
      fun gsid seq tw berth m d hm hd h => execEngineEstimate_ignored hm hd h,
      fun gsid seq m d hm htwin hd hk hopen => ⟨execSelectionFixed_early hm htwin hd, fun hdone => ?selection⟩,
      fun k hqueue => execGraphInsert_notQueued hqueue,
      fun k l o e hqueued hl ho he => ⟨execGraphInsert_disabled hqueued hl ho he, execGraphInsert_inserted hqueued hl ho he⟩⟩⟩
  case known =>
    rw [exec_homeNote, execHomeNote_known hhears hset hepoch hplain gain hsame hnewer hactive]
    exact ⟨fun htells => by rw [if_pos htells], fun hgain hhomed => by rw [if_neg (by simp [hgain, hhomed])]⟩
  case inserted => rw [exec_homeNote, execHomeNote_unknown hhears hset hepoch hplain gain hnone, if_pos (.inl hgain)]
  case unknown =>
    rw [exec_homeNote, execHomeNote_unknown hhears hset hepoch hplain gain hnone, if_neg (by simp [hgain, hhomed])]
  case query =>
    rw [exec_homeQuery, execHomeQuery_answered hhears tenant]
    exact ⟨fun hactive => by rw [if_pos hactive], fun hactive => by rw [if_neg (by simp [hactive])]⟩
  case noQueue => rw [exec_soundingRoomGrant, execSoundingRoomGrant, hnone]
  case selection =>
    obtain ⟨t, hexec, hmember⟩ := execSelectionFixed_done hm htwin hd hk hopen hdone
    exact ⟨t, m.fixSelection d, hexec, hmember, ⟨_, rfl, rfl⟩, m.fixSelection_plan d⟩

end Sys2Proof.Machine
end

section
/-! Chambers: when one fires (R258, R262), and what the host allocates, frees and configures (R257, R259, R263, R264, R272; log entry 104). -/

namespace Sys2Proof.Machine

/-! ### An operation fires a chamber (R258, R262) -/

theorem reached_iff (c v : BitVec 32) : reached c v = true ↔ (c - v).toNat < 2 ^ 31 := decide_eq_true_iff

/-- The chamber with an operation done and FIRED as it was. -/
def Chamber.changed (c : Chamber) : ChOp → Chamber
  | .add v => { c with counter := c.counter + v }
  | .set v => { c with counter := v }
  | .thr v => { c with threshold := v }
  | .cas e v => if c.counter = e then { c with counter := v } else c

theorem Chamber.apply_eq (c : Chamber) (op : ChOp) : c.apply op =
    if !reached c.counter c.threshold && reached (c.changed op).counter (c.changed op).threshold then { c.changed op with fired := true }
    else c.changed op := by
  cases op <;> rfl

theorem Chamber.fired_changed (c : Chamber) (op : ChOp) : (c.changed op).fired = c.fired := by
  cases op with
  | cas e v => exact (apply_ite Chamber.fired ..).trans (ite_self _)
  | _ => rfl

/-- FIRED after an operation: set before, or the counter has come to reach the threshold. -/
theorem Chamber.fired_apply (c : Chamber) (op : ChOp) : (c.apply op).fired = true ↔
    c.fired = true ∨ (¬ reached c.counter c.threshold = true ∧ reached (c.apply op).counter (c.apply op).threshold = true) := by
  rw [c.apply_eq]
  split
  case isTrue h =>
    simp only [Bool.and_eq_true, Bool.not_eq_true'] at h
    simp [h]
  case isFalse h =>
    rw [c.fired_changed]
    exact (or_iff_left fun ⟨hnot, hnow⟩ => h (by simp [hnot, hnow])).symm

theorem State.setChamber_chamber {s t : State} {ch : Nat} {x : Chamber} (h : t.fab = (s.setChamber ch x).fab) :
    t.setChamber ch (t.chamber ch) = t := by
  have hx : t.chamber ch = x := by rw [State.chamber_congr h, State.chamber_setChamber]
  have hput : alPut t.fab.chambers ch x = t.fab.chambers := by rw [h]; exact alPut_alPut ..
  rw [hx, State.setChamber, hput]

/-- An operation on a chamber nobody waits for changes the chamber, and raises its vector where it fires with FIRE_EN set. -/
theorem State.chEffect_idle {s : State} {ch : Nat} (op : ChOp) (h : (s.chamber ch).waiters = []) : s.chEffect ch op =
    if (s.chamber ch).fires op && (s.chamber ch).fireEn then (s.setChamber ch ((s.chamber ch).apply op)).raiseMsix (s.chamber ch).vector
    else s.setChamber ch ((s.chamber ch).apply op) := by
  have hquiet (t : State) (ht : t.fab = (s.setChamber ch ((s.chamber ch).apply op)).fab) : t.wakeAll ch = t := by
    have hidle : (t.chamber ch).waiters = [] := by
      rw [State.chamber_congr ht, State.chamber_setChamber, Chamber.waiters_apply, h]
    rw [State.wakeAll_idle hidle, State.setChamber_chamber ht]
  unfold State.chEffect
  dsimp only
  split
  · exact hquiet _ (State.fab_of_raiseMsix ..)
  · exact hquiet _ rfl

/-! ### CH_CFG (R262, R272) -/

/-- A chamber with the fire configuration a write of CH_CFG gives it, before it fires. -/
def Chamber.configured (c : Chamber) (v : BitVec 64) : Chamber :=
  { c with fireEn := decide (fld v 0 1 = 1), vector := fld v 1 6, fired := c.fired && decide (fld v 7 1 = 0) }

section
variable {s : State} {v : BitVec 64} {ch : Nat} {c : Chamber} (hs : s.inService = true) (hch : ch = s.fld rChSel 0 16) (hc : c = s.chamber ch)
include hs hch hc

/-- A write of CH_CFG fires the selected chamber exactly where it sets FIRE_EN on an unfired chamber whose count is reached. -/
theorem exec_chCfgWrite_served : exec (.chCfgWrite v) s = .next
    (if (c.configured v).fireEn && !c.fireEn && !(c.configured v).fired && reached c.counter c.threshold then
      (s.setChamber ch { c.configured v with fired := true }).raiseMsix (c.configured v).vector
    else s.setChamber ch (c.configured v)) := by
  subst hc hch
  simp only [exec_chCfgWrite, execChCfgWrite, if_pos hs]
  rfl

theorem exec_chCfgWrite_fires (hoff : c.fireEn = false) (hon : (c.configured v).fireEn = true) (hhas : reached c.counter c.threshold = true)
    (hunfired : (c.configured v).fired = false) : exec (.chCfgWrite v) s =
      .next ((s.setChamber ch { c.configured v with fired := true }).raiseMsix (c.configured v).vector) := by
  rw [exec_chCfgWrite_served hs hch hc, if_pos (by simp [hoff, hon, hhas, hunfired])]

theorem exec_chCfgWrite_quiet (h : c.fireEn = true ∨ (c.configured v).fireEn = false ∨ ¬ reached c.counter c.threshold = true ∨
    (c.configured v).fired = true) : exec (.chCfgWrite v) s = .next (s.setChamber ch (c.configured v)) := by
  rw [exec_chCfgWrite_served hs hch hc, if_neg]
  rcases h with h | h | h | h <;> simp [h]

end

/-- Settles O21: FIRED after an operation, then the operation's effect and a write of CH_CFG by whether they fire the chamber. -/
theorem chamberFires : Obligations.ChamberFires := by
  unfold Obligations.ChamberFires
  simp only [← reached_iff]
  refine ⟨Chamber.fired_apply, fun s ch op hidle => ⟨fun hnot hnow hunfired hen => ?fires, fun hquiet => ?quiet⟩,
    fun s v hs ch c c1 hch hc hc1 => ?configured⟩
  case fires =>
    have hfires : (s.chamber ch).fires op = true := by
      simp [Chamber.fires, hunfired, (Chamber.fired_apply _ op).mpr (.inr ⟨hnot, hnow⟩)]
    rw [State.chEffect_idle op hidle, if_pos (by rw [hfires, hen]; rfl)]
  case quiet =>
    rw [State.chEffect_idle op hidle, if_neg]
    simp only [Chamber.fires, Bool.and_eq_true, Bool.not_eq_true', Chamber.fired_apply]
    rintro ⟨⟨hunfired, hset⟩, hen⟩
    obtain ⟨hnot, hnow⟩ := hset.resolve_left (by simp [hunfired])
    rcases hquiet with h | h | h | h
    · exact hnot h
    · exact h hnow
    · simp [h] at hunfired
    · simp [h] at hen
  case configured =>
    obtain rfl : c1 = c.configured v := hc1
    exact ⟨exec_chCfgWrite_fires hs hch hc, exec_chCfgWrite_quiet hs hch hc⟩

end Sys2Proof.Machine
end

section
/-! Chambers allocated, freed and configured by the host, and waits that end (R257, R259, R262 to R264, R272). -/

namespace Sys2Proof.Machine

/-! ### Chambers set one after another -/

/-- A pass over `n` chambers from `base` that sets each from what it holds, given only that no earlier turn has touched it. -/
theorem State.chamber_foldl_set {f : State → Nat → State} (g : Chamber → Chamber) {base n : Nat} (s : State)
    (hf : ∀ t, ∀ i < n, t.chamber (base + i) = s.chamber (base + i) → f t i = t.setChamber (base + i) (g (s.chamber (base + i)))) (c : Nat) :
    ((List.range n).foldl f s).chamber c = if base ≤ c ∧ c < base + n then g (s.chamber c) else s.chamber c := by
  induction n generalizing c with
  | zero => rw [if_neg (by omega)]; rfl
  | succ n ih =>
    have ih := ih fun t i hi => hf t i (by omega)
    rw [List.range_succ, List.foldl_append, List.foldl_cons, List.foldl_nil, hf _ n (by omega) (by rw [ih, if_neg (by omega)])]
    by_cases hc : base + n = c
    · rw [if_pos (by omega), ← hc, State.chamber_setChamber]
    · rw [State.chamber_setChamber_ne _ _ _ hc, ih]
      exact if_congr (by omega) rfl rfl

/-! ### CH_ALLOC_RES -/

@[simp] theorem State.chamber_chResult (s : State) (base status c : Nat) : (s.chResult base status).chamber c = s.chamber c := rfl

theorem State.fld_chResult (s : State) (base status : Nat) :
    (s.chResult base status).fld rChAllocRes 0 16 = base % 2 ^ 16 ∧ (s.chResult base status).fld rChAllocRes 16 4 = status % 2 ^ 4 := by
  rw [State.chResult, State.fld_setFld_apart _ _ _ (by omega) (by omega), State.fld_setFld _ _ _ (by omega),
    State.fld_setFld _ _ _ (by omega)]
  exact ⟨rfl, rfl⟩

theorem State.fld_chResult_ne (s : State) (base status : Nat) {o : Nat} (lo w : Nat) (h : rChAllocRes ≠ o) :
    (s.chResult base status).fld o lo w = s.fld o lo w := by
  rw [State.chResult, State.fld_setFld_ne _ _ _ _ _ _ h, State.fld_setFld_ne _ _ _ _ _ _ h]

section
variable {s : State}

/-! ### CH_ALLOC with OP 1 (R257, R259) -/

theorem State.chAllocate_refused {b n : Nat} (h : n = 0 ∨ 4080 < n ∨ (s.basin b).st = 0) : s.chAllocate b n = s.chResult 0 2 := if_pos h

/-- An allocation to a composed basin of a number of blocks there can be. -/
structure MayAllocate (s : State) (b n : Nat) : Prop where
  some : n ≠ 0
  most : n ≤ 4080
  composed : (s.basin b).st ≠ 0

theorem MayAllocate.notRefused {b n : Nat} (h : MayAllocate s b n) : ¬ (n = 0 ∨ 4080 < n ∨ (s.basin b).st = 0) := by
  obtain ⟨hsome, hmost, hcomposed⟩ := h
  omega

theorem State.chAllocate_given {b n r : Nat} (h : MayAllocate s b n) (hrun : s.chamberRun b n = some r) :
    s.chAllocate b n = (s.giveBlocks b r n).chResult (16 * r) 0 := by
  rw [State.chAllocate, if_neg h.notRefused, hrun]

theorem State.chAllocate_full {b n : Nat} (h : MayAllocate s b n) (hrun : s.chamberRun b n = none) :
    s.chAllocate b n = (s.setFld rChStat 32 1 1).chResult 0 1 := by
  rw [State.chAllocate, if_neg h.notRefused, hrun]

theorem State.chamber_giveBlocks (s : State) (b r n c : Nat) : (s.giveBlocks b r n).chamber c =
    if 16 * r ≤ c ∧ c < 16 * r + 16 * n then { alloc := true, owner := b, out := (s.chamber c).out } else s.chamber c :=
  s.chamber_foldl_set (fun k => { alloc := true, owner := b, out := k.out }) (fun t i _ ht => by rw [ht]) c

/-! ### CH_ALLOC with OP 2 (R259, R264) -/

/-- A free of whole blocks that lie between the part's own 16 chambers' blocks and the last chamber. -/
structure NamesBlocks (n base : Nat) : Prop where
  some : n ≠ 0
  most : n ≤ 4080
  aligned : base % 16 = 0
  low : 256 ≤ base
  high : base + 16 * n ≤ 65536

theorem NamesBlocks.notRefused {n base : Nat} (h : NamesBlocks n base) :
    ¬ (n = 0 ∨ 4080 < n ∨ base % 16 ≠ 0 ∨ base / 16 < 16 ∨ 4096 < base / 16 + n) := by
  obtain ⟨hsome, hmost, haligned, hlow, hhigh⟩ := h
  omega

theorem NamesBlocks.block {n base : Nat} (h : NamesBlocks n base) (i : Nat) : 16 * (base / 16 + i) = base + 16 * i := by
  have haligned := h.aligned
  omega

theorem State.chFree_owned {b n base : Nat} (h : NamesBlocks n base)
    (hown : ∀ i < n, (s.chamber (base + 16 * i)).alloc = true ∧ (s.chamber (base + 16 * i)).owner = b) :
    s.chFree b n base = (s.freeBlocks (base / 16) n).chResult base 0 := by
  rw [State.chFree, if_neg h.notRefused, if_pos]
  simpa [h.block] using hown

theorem State.chFree_notOwned {b n base : Nat} (h : NamesBlocks n base)
    (hnot : ∃ i < n, (s.chamber (base + 16 * i)).alloc = false ∨ (s.chamber (base + 16 * i)).owner ≠ b) :
    s.chFree b n base = s.chResult 0 3 := by
  obtain ⟨i, hi, hother⟩ := hnot
  rw [State.chFree, if_neg h.notRefused, if_neg]
  intro hall
  have hown := List.all_eq_true.mp hall i (List.mem_range.mpr hi)
  rw [h.block, Bool.and_eq_true, decide_eq_true_iff] at hown
  exact hother.elim (by simp [hown.1]) (· hown.2)

/-- Chambers nobody waits for are free once freed, in or out of service as they were. -/
theorem State.chamber_freeBlocks_idle {b n : Nat} (hidle : ∀ i < 16 * n, (s.chamber (16 * b + i)).waiters = []) (c : Nat) :
    (s.freeBlocks b n).chamber c = if 16 * b ≤ c ∧ c < 16 * b + 16 * n then { out := (s.chamber c).out } else s.chamber c := by
  refine s.chamber_foldl_set (fun k => { out := k.out }) (fun t i hi ht => ?_) c
  have hempty : t.chEmpty (16 * b + i) stChamberFreed = t.setChamber (16 * b + i) { s.chamber (16 * b + i) with waiters := [], deferred := [] } := by
    simp only [State.chEmpty, ht, hidle i hi, List.foldl_nil]
  simp [hempty]

/-! ### CHAMBER_WAIT_TIMEOUT (R263) -/

/-- The state once the one waiter of a chamber has left it, counted. -/
def State.waitLeft (s : State) (ch : Nat) (c : Chamber) : State := (s.setChamber ch { c with waiters := [] }).bump rChStat 48 16 1

section
variable {ch : Nat} {c : Chamber} {w : Waiter} (hone : s.fab.chambers = [(ch, c)]) (hw : c.waiters = [w])
include hone hw

theorem execChamberWaitTimeout_early (h : s.now < w.until_) : execChamberWaitTimeout s = .next s := by
  simp [execChamberWaitTimeout, hone, hw, State.passed, Nat.not_le.mpr h]

theorem execChamberWaitTimeout_due (h : w.until_ ≤ s.now) :
    execChamberWaitTimeout s = .next ((s.waitLeft ch c).endWait w.src stChamberTimeout) := by
  have hc : s.chamber ch = c := by simp [State.chamber, hone, alGetD, alGet]
  simp [execChamberWaitTimeout, State.waitLeft, hone, hw, hc, State.passed, h]

end

/-- A core whose wait ends without its condition goes on with the predicate cleared. -/
theorem State.endWait_core {k : Nat} {r : Run} {q : ChWait} (status : Nat) (hr : (s.core k).run = some r) (hq : r.wait = some q) :
    s.endWait (.core k) status = s.setCore k { (s.core k).pPut q.pD false with run := some { r with wait := none, ip := r.ip + 1 } } := by
  simp only [State.endWait, State.wake, hr, hq]

end

/-- Settles O38: each outcome of CH_ALLOC by its operation, the write of CH_CFG, and the one waiter whose time has passed or not. -/
theorem chamberHostCommands : Obligations.ChamberHostCommands := by
  unfold Obligations.ChamberHostCommands
  intro s hs
  have halloc (b : BitVec 6) (n : BitVec 12) : exec (.chAllocate b n) s = .next (s.chAllocate b.toNat n.toNat) := congrArg _ (if_pos hs)
  have hfree (b : BitVec 6) (n : BitVec 12) (base : BitVec 16) : exec (.chFree b n base) s = .next (s.chFree b.toNat n.toNat base.toNat) :=
    congrArg _ (if_pos hs)
  have hnat {n : BitVec 12} (hn : n ≠ 0) : n.toNat ≠ 0 := fun h0 => hn (BitVec.eq_of_toNat_eq h0)
  refine ⟨fun b n r hn hmost hst hrun => ⟨_, halloc b n, ?given⟩, fun b n h => ?refused,
    fun b n hn hmost hst hrun => ⟨_, halloc b n, ?full⟩,
    fun b n base hn hmost haligned hlow hhigh => ?free, fun v => ⟨fun hquiet => ?configured, fun hen hoff hreached hunfired => ?fires⟩,
    fun ch c w k r q hone hw hsrc hr hq => ⟨fun hdue => ?due, fun hearly => ?early⟩⟩
  case given =>
    rw [State.chAllocate_given ⟨hnat hn, hmost, hst⟩ hrun]
    obtain ⟨hbase, hstatus⟩ := (s.giveBlocks b.toNat r n.toNat).fld_chResult (16 * r) 0
    refine ⟨hbase, hstatus, fun i hi => ?_, fun c hc => ?_⟩
    · rw [State.chamber_chResult, State.chamber_giveBlocks, if_pos (by omega)]
    · rw [State.chamber_chResult, State.chamber_giveBlocks, if_neg (by omega)]
  case refused =>
    rw [halloc, State.chAllocate_refused (h.imp_left (by rintro rfl; rfl))]
  case full =>
    rw [State.chAllocate_full ⟨hnat hn, hmost, hst⟩ hrun]
    refine ⟨(State.fld_chResult ..).2, ?_, fun c => rfl⟩
    rw [State.fld_chResult_ne _ _ _ _ _ (by decide), State.fld_setFld _ _ _ (by omega)]
    rfl
  case free =>
    have hblocks : NamesBlocks n.toNat base.toNat := ⟨hnat hn, hmost, haligned, hlow, hhigh⟩
    rw [hfree]
    refine ⟨fun hown => ?_, fun hnot => congrArg _ (State.chFree_notOwned hblocks hnot)⟩
    rw [State.chFree_owned hblocks hown]
    refine ⟨rfl, fun hidle => ⟨_, rfl, (State.fld_chResult ..).2, fun i hi => ?_⟩⟩
    have hbase : 16 * (base.toNat / 16) = base.toNat := hblocks.block 0
    rw [State.chamber_chResult, State.chamber_freeBlocks_idle (by rwa [hbase]), if_pos (by omega)]
  case configured =>
    refine exec_chCfgWrite_quiet hs rfl rfl ?_
    rcases hquiet with h | h | h | ⟨h, hkeep⟩
    · exact .inr (.inl (by simp [Chamber.configured, h]))
    · exact .inl h
    · exact .inr (.inr (.inl (by simp [h])))
    · exact .inr (.inr (.inr (by simp [Chamber.configured, h, hkeep])))
  case fires =>
    have hclear : ((s.chamber (s.fld rChSel 0 16)).configured v).fired = false := by
      rcases hunfired with h | h <;> simp [Chamber.configured, h]
    rw [exec_chCfgWrite_fires hs rfl rfl hoff (decide_eq_true hen) hreached hclear]
    simp [Chamber.configured, hen]
  case due =>
    have hexec : exec .chamberWaitTimeout s = .next _ := execChamberWaitTimeout_due hone hw hdue
    rw [hsrc, State.endWait_core (s := s.waitLeft ch c) _ hr hq] at hexec
    refine ⟨_, hexec, congrArg Chamber.waiters (s.chamber_setChamber ch _), State.core_setCore .., ?_⟩
    exact State.fld_bump (s.setChamber ch _) _ _ (by omega)
  case early => exact execChamberWaitTimeout_early hone hw hearly

end Sys2Proof.Machine
end

section
/-! The time strand's receiver and the sources of fabric time (R246, R249 to R252, R256, R271; log entries 88, 89 and 91). -/

namespace Sys2Proof.Machine

@[simp] theorem State.tb_of_send (s : State) (m : OutMsg) : (s.send m).tb = s.tb := by
  unfold State.send; split <;> rfl

theorem State.fld_congr {s t : State} {o : Nat} (h : t.reg o = s.reg o) (lo w : Nat) : t.fld o lo w = s.fld o lo w := by
  unfold State.fld; rw [h]

/-! ### Frames by the state of the receiver (R249 to R252) -/

section
variable {s : State} {f : BitVec 512} {sp : BitVec 32}

/-- The receiver with a good frame's fields taken in. -/
def Strand.took (r : Strand) (f : BitVec 512) : Strand :=
  { r with seq := (strandFields f).seq, time := (strandFields f).time, hops := (strandFields f).hops, source := (strandFields f).source, since := 0 }

theorem execStrandFrame_noSignal (h : s.tb.strand.st = 0) : execStrandFrame f sp s = .next s := by
  simp [execStrandFrame, h]

theorem execStrandFrame_search (h : s.tb.strand.st = 1) : execStrandFrame f sp s = .next (s.strandSearch f) := by
  simp [execStrandFrame, h]

theorem State.strandSearch_candidate (hpattern : bauds f 0 16 = 0xE7A4) (hcrc : crcGood f = true) :
    s.strandSearch f = s.setStrand { s.tb.strand.took f with st := 2, n := 1, hist := [] } := if_pos ⟨hpattern, hcrc⟩

theorem State.strandSearch_none (h : bauds f 0 16 ≠ 0xE7A4 ∨ crcGood f = false) :
    s.strandSearch f = s.setStrand { s.tb.strand with st := 1, n := 0 } :=
  if_neg fun ⟨hpattern, hcrc⟩ => h.elim (· hpattern) (by simp [hcrc])

theorem execStrandFrame_verify (h : s.tb.strand.st = 2) (hgood : s.tb.strand.passes f sp.toNat 1 = true) :
    execStrandFrame f sp s = .next (if s.tb.strand.n = 3 then (s.setStrand { s.tb.strand.took f with st := 3, n := 0, hist := [] }).tstrUpdate
      else s.setStrand { s.tb.strand.took f with n := s.tb.strand.n + 1 }) := by
  simp only [execStrandFrame, h, if_pos hgood, Strand.took]
  split <;> rfl

/-- The state once TSTR_OUT repeats a frame, where it is to. -/
def State.repeated (s : State) (f : BitVec 512) : State := if s.fld rTbCtl 2 1 = 1 then s.send (.tstr (some (repeatFrame f))) else s

theorem State.repeated_off (h : s.fld rTbCtl 2 1 = 0) : s.repeated f = s := if_neg (by omega)

/-- A frame in LOCKED that passes, taken in. -/
def State.inStep (s : State) (f : BitVec 512) : State :=
  (s.repeated f).setStrand { s.tb.strand.took f with hist := (false :: s.tb.strand.hist).take 32 }

theorem execStrandFrame_locked_good (h : s.tb.strand.st = 3) (hgood : s.tb.strand.passes f sp.toNat (s.tb.strand.since + 1) = true) :
    execStrandFrame f sp s = .next ((s.inStep f).drawn.correct 1 ((s.inStep f).strandTime (strandFields f) - (s.inStep f).edge)) := by
  simp only [execStrandFrame, h, if_pos hgood, State.inStep, State.repeated, Strand.took]

/-- A frame in LOCKED that does not pass, counted by the receiver and in TB_STAT. -/
def State.missedFrame (s : State) (f : BitVec 512) : State :=
  ((s.repeated f).setStrand { s.tb.strand with since := s.tb.strand.since + 1, hist := (true :: s.tb.strand.hist).take 32 }).bump rTbStat 32 16 1

/-- The third bad frame of 32 drops the lock. -/
theorem execStrandFrame_locked_bad (h : s.tb.strand.st = 3) (hbad : s.tb.strand.passes f sp.toNat (s.tb.strand.since + 1) = false) :
    execStrandFrame f sp s = .next (if 2 ≤ ((s.tb.strand.hist.take 31).filter id).length
      then ((s.missedFrame f).setFld rTbStat 48 1 1).strandTo 1 else s.missedFrame f) := by
  have hthree : 3 ≤ (((true :: s.tb.strand.hist).take 32).filter id).length ↔ 2 ≤ ((s.tb.strand.hist.take 31).filter id).length := by
    simp
  simp only [execStrandFrame, h, if_neg (Bool.eq_false_iff.mp hbad), hthree, State.missedFrame, State.repeated]
  split <;> rfl

/-! ### What a change of the receiver's state leaves (R252, R256) -/

/-- A change of TSTR_OUT touches the output and whether the receiver repeats. -/
theorem State.tb_tstrUpdate (s : State) : ∃ on, s.tstrUpdate.tb = { s.tb with strand := { s.tb.strand with repeats := on } } := by
  unfold State.tstrUpdate
  dsimp only
  split
  · exact ⟨false, State.tb_of_send ..⟩
  · exact ⟨_, rfl⟩

theorem State.reg_tstrUpdate (s : State) (o : Nat) : s.tstrUpdate.reg o = s.reg o := by
  unfold State.tstrUpdate
  dsimp only
  split
  · exact State.reg_of_send ..
  · rfl

theorem State.reg_loseSource (s : State) (o : Nat) : s.loseSource.reg o = s.reg o := by
  unfold State.loseSource
  dsimp only
  (repeat' split) <;> rfl

theorem State.strand_loseSource (s : State) : s.loseSource.tb.strand = s.tb.strand := by
  unfold State.loseSource
  dsimp only
  (repeat' split) <;> rfl

theorem State.src_loseSource (s : State) : s.loseSource.tb.src = 0 := by
  unfold State.loseSource
  dsimp only
  split
  · assumption
  · split <;> rfl

theorem State.reg_strandTo (s : State) (st o : Nat) : (s.strandTo st).reg o = s.reg o := by
  unfold State.strandTo
  dsimp only
  split
  · rw [State.reg_loseSource, State.reg_tstrUpdate]; rfl
  · rw [State.reg_tstrUpdate]; rfl

/-- The receiver is in the state it goes to, and the strand is no longer a source. -/
theorem State.tb_strandTo (s : State) (st : Nat) :
    (s.strandTo st).tb.strand.st = st ∧ (s.strandTo st).tb.src = if s.tb.src = 1 then 0 else s.tb.src := by
  obtain ⟨on, htb⟩ := (s.setStrand { s.tb.strand with st := st, n := 0, hist := [] }).tb_tstrUpdate
  unfold State.strandTo
  dsimp only
  split
  · rw [State.strand_loseSource, State.src_loseSource, htb]; exact ⟨rfl, rfl⟩
  · rw [htb]; exact ⟨rfl, rfl⟩

/-! ### Sources (R246, R256) -/

theorem State.loseSource_none (h : s.tb.src = 0) : s.loseSource = s := if_pos h

theorem State.loseSource_held (h : s.tb.src ≠ 0) (hmax : s.fld rTbCtl 8 20 ≠ 0) : s.loseSource =
    { s with tb := { s.tb with src := 0, err := 0, state := 4, holdUntil := some (s.now + s.fld rTbCtl 8 20 * 2 ^ 20) } } := by
  simp [State.loseSource, h, hmax]

theorem State.loseSource_free (h : s.tb.src ≠ 0) (hmax : s.fld rTbCtl 8 20 = 0) : s.loseSource =
    { s with tb := { s.tb with src := 0, err := 0, state := 0, holdUntil := none } } := by
  simp [State.loseSource, h, hmax]

theorem execHoldoverExpiry_held {u : Nat} (h : s.tb.state = 4) (hu : s.tb.holdUntil = some u) : execHoldoverExpiry s =
    .next (if u ≤ s.now then { s with tb := { s.tb with state := 0, holdUntil := none } } else s) := by
  simp only [execHoldoverExpiry, h, hu, State.passed, decide_eq_true_iff]
  split <;> rfl

/-! ### TB_SET (R271) -/

theorem State.tbSet_taken {v : BitVec 64} (hsrc : s.fld rTbCtl 0 2 = 3) (h : s.tb.ticks.toNat ≤ v.toNat ∨ s.armedAny = false) :
    s.tbSet v = { s with tb := { s.tb with ticks := v, frac := 0 } } := if_pos ⟨hsrc, by simpa using h⟩

theorem State.tbSet_refused {v : BitVec 64} (h : s.fld rTbCtl 0 2 ≠ 3 ∨ (v.toNat < s.tb.ticks.toNat ∧ s.armedAny = true)) :
    s.tbSet v = s.setFld rTbStat 51 1 1 := by
  refine if_neg fun ⟨hsrc, hok⟩ => ?_
  rcases h with hno | ⟨hback, harmed⟩
  · exact hno hsrc
  · rw [harmed] at hok
    exact hok.elim (by omega) (by simp)

end

/-- Settles O36: a frame by the receiver's state, the signal lost and back, the source lost, holdover's end and TB_SET. -/
theorem strandAndFabricTime : Obligations.StrandAndFabricTime := by
  unfold Obligations.StrandAndFabricTime
  refine ⟨fun s f sp => ⟨fun h => ?noSignal, fun h hpattern hcrc => ?candidate, fun h hno => ?noCandidate, fun h hgood hn => ?verified,
      fun h hgood hn => ?locks, fun h hgood hoff => ?corrects, fun h hbad hoff hfew => ?counted, fun h hbad hmany => ?drops, ?lost, fun h => ?back,
      fun h => ?stays⟩,
    fun s => ⟨fun hsrc hmax => ?held, fun hsrc hmax => ?free, fun hsrc => ?noSource,
      fun u hstate hu => ⟨fun hdue => ?expires, fun hearly => ?holds⟩, fun v hs => ⟨fun hsrc h => ?set, fun h => ?refused⟩⟩⟩
  case noSignal => rw [exec_strandFrame, execStrandFrame_noSignal h]
  case candidate => rw [exec_strandFrame, execStrandFrame_search h, State.strandSearch_candidate hpattern hcrc]; rfl
  case noCandidate => rw [exec_strandFrame, execStrandFrame_search h, State.strandSearch_none hno]
  case verified => rw [exec_strandFrame, execStrandFrame_verify h hgood, if_neg hn]; rfl
  case locks =>
    rw [exec_strandFrame, execStrandFrame_verify h hgood, if_pos hn]
    obtain ⟨on, htb⟩ := (s.setStrand { s.tb.strand.took f with st := 3, n := 0, hist := [] }).tb_tstrUpdate
    exact ⟨_, rfl, by rw [htb]; rfl, by rw [htb]; rfl⟩
  case corrects => rw [exec_strandFrame, execStrandFrame_locked_good h hgood, State.inStep, State.repeated_off hoff]; rfl
  case counted =>
    rw [exec_strandFrame, execStrandFrame_locked_bad h hbad, if_neg (Nat.not_le.mpr hfew), State.missedFrame,
      State.repeated_off hoff]
  case drops =>
    rw [exec_strandFrame, execStrandFrame_locked_bad h hbad, if_pos hmany]
    refine ⟨_, rfl, (State.tb_strandTo ..).1, ?_⟩
    rw [State.fld_congr (State.reg_strandTo ..), State.fld_setFld _ _ _ (by omega)]; rfl
  case lost =>
    obtain ⟨hst, hsrc⟩ := s.tb_strandTo 0
    exact ⟨_, rfl, hst, fun h => by rw [hsrc, if_pos h], fun h => by rw [hsrc, if_neg h]⟩
  case back => exact if_pos h
  case stays => exact if_neg h
  case held =>
    rw [exec_sourceLoss, execSourceLoss, State.loseSource_held hsrc hmax]
    exact ⟨_, rfl, rfl, rfl, rfl, rfl, rfl, rfl⟩
  case free =>
    rw [exec_sourceLoss, execSourceLoss, State.loseSource_free hsrc hmax]
    exact ⟨_, rfl, rfl, rfl, rfl⟩
  case noSource => rw [exec_sourceLoss, execSourceLoss, State.loseSource_none hsrc]
  case expires => exact ⟨_, (execHoldoverExpiry_held hstate hu).trans (congrArg _ (if_pos hdue)), rfl⟩
  case holds => exact (execHoldoverExpiry_held hstate hu).trans (congrArg _ (if_neg (Nat.not_le.mpr hearly)))
  case set =>
    have hexec : exec (.tbSet v) s = .next (s.tbSet v) := congrArg _ (if_pos hs)
    exact ⟨_, hexec.trans (congrArg _ (State.tbSet_taken hsrc h)), rfl, rfl⟩
  case refused =>
    have hexec : exec (.tbSet v) s = .next (s.tbSet v) := congrArg _ (if_pos hs)
    rw [hexec, State.tbSet_refused h]

end Sys2Proof.Machine
end

section
/-! The PTP slave (R246, R254, R255, R271; log entry 90). -/

namespace Sys2Proof.Machine

section
variable {s : State}

/-! ### Sync and Follow_Up -/

theorem execPtpSync_otherDomain {m : PtpSyncMsg} (h : s.ptpIn m.domain = false) : execPtpSync m s = .next s := by
  simp [execPtpSync, h]

theorem execPtpSync_noMaster {m : PtpSyncMsg} (h : s.ptpIn m.domain = true) (hbest : s.tb.ptp.best = none) :
    execPtpSync m s = .next (s.bump rTbPtpStat 48 16 1) := by
  simp [execPtpSync, h, hbest]

theorem execPtpSync_master {m : PtpSyncMsg} {b : PtpAnnounce} (h : s.ptpIn m.domain = true) (hbest : s.tb.ptp.best = some b) :
    execPtpSync m s = .next (if m.twoStep then (s.bump rTbPtpStat 48 16 1).setPtp { s.tb.ptp with wait := some m }
      else (s.bump rTbPtpStat 48 16 1).ptpOffset m.origin.toNat m.rx.toNat m.corr) := by
  simp only [execPtpSync, h, State.bump_tb, hbest, Option.isNone_some, Bool.not_true, Bool.false_eq_true, if_false]
  split <;> rfl

theorem execPtpFollowUp_none {q : BitVec 16} {o : BitVec 64} {c : Int} (h : s.tb.ptp.wait = none) : execPtpFollowUp q o c s = .next s := by
  simp [execPtpFollowUp, h]

theorem execPtpFollowUp_awaited {m : PtpSyncMsg} {q : BitVec 16} {o : BitVec 64} {c : Int} (h : s.tb.ptp.wait = some m)
    (hon : s.ptpOn = true) (hseq : m.seqId = q.toNat) :
    execPtpFollowUp q o c s = .next (s.ptpOffset o.toNat m.rx.toNat (m.corr + c)) := by
  simp [execPtpFollowUp, h, hon, hseq]

/-! ### The path delay -/

theorem execPtpDelayResp_answered {q : BitVec 16} {rx : BitVec 64} {c t1 t2 c0 t3 : Int} (hreq : s.tb.ptp.dreq = some (q.toNat, t3))
    (hlast : s.tb.ptp.last = some (t1, t2, c0)) (hon : s.ptpOn = true) (hmode : s.fld rTbPtpCtl 9 1 = 0) :
    execPtpDelayResp q rx c s = .next (s.setPath ((16 * (t2 - t1) - c0 + 16 * ((rx.toNat : Int) - t3) - c) / 2)) := by
  simp [execPtpDelayResp, hreq, hlast, hon, hmode]

theorem execPtpPdelayResp_answered {q : BitVec 16} {t2 t3 t4 : BitVec 64} {t1 : Int} (hreq : s.tb.ptp.dreq = some (q.toNat, t1))
    (hon : s.ptpOn = true) (hmode : s.fld rTbPtpCtl 9 1 = 1) :
    execPtpPdelayResp q t2 t3 t4 s = .next (s.setPath (16 * (((t4.toNat : Int) - t1) - ((t3.toNat : Int) - t2.toNat)) / 2)) := by
  simp [execPtpPdelayResp, hreq, hon, hmode]

/-! ### The best master -/

theorem execPtpAnnounce_first {m : PtpAnnounce} (h : s.ptpIn m.domain = true) (hbest : s.tb.ptp.best = none) :
    execPtpAnnounce m s = .next (s.setPtp { s.tb.ptp with best := some m }) := by
  simp [execPtpAnnounce, h, hbest]

theorem execPtpAnnounce_other {m b : PtpAnnounce} (h : s.ptpIn m.domain = true) (hbest : s.tb.ptp.best = some b)
    (hother : b.identity ≠ m.identity) : execPtpAnnounce m s = .next (if lexLt (announceRank m) (announceRank b)
      then s.setPtp { s.tb.ptp with best := some m, wait := none, last := none, dreq := none } else s) := by
  simp only [execPtpAnnounce, h, hbest, if_neg hother, Bool.not_true, Bool.false_eq_true, if_false]
  split <;> rfl

/-! ### Requests -/

theorem execPtpDelayReqTimer_off (h : s.ptpOn = false) : execPtpDelayReqTimer s = .next s := by
  simp [execPtpDelayReqTimer, h]

/-- The slave with its next request sent at the present time. -/
def State.nextRequest (s : State) : Ptp :=
  { s.tb.ptp with seqId := (s.tb.ptp.seqId + 1) % 2 ^ 16, dreq := some ((s.tb.ptp.seqId + 1) % 2 ^ 16, s.now) }

theorem execPtpDelayReqTimer_sent (hon : s.ptpOn = true)
    (hready : s.fld rTbPtpCtl 9 1 = 1 ∨ (s.tb.ptp.best.isSome = true ∧ s.tb.ptp.last.isSome = true)) : execPtpDelayReqTimer s =
      .next ((s.setPtp s.nextRequest).send (.ptpReq (s.fld rTbPtpCtl 9 1) ((s.tb.ptp.seqId + 1) % 2 ^ 16))) := by
  have hgo : ¬ (!s.ptpOn || (decide (s.fld rTbPtpCtl 9 1 = 0) && (s.tb.ptp.best.isNone || s.tb.ptp.last.isNone))) = true := by
    rcases hready with hpeer | ⟨hbest, hlast⟩
    · simp [hon, hpeer]
    · obtain ⟨b, hb⟩ := Option.isSome_iff_exists.mp hbest
      obtain ⟨l, hl⟩ := Option.isSome_iff_exists.mp hlast
      simp [hon, hb, hl]
  rw [execPtpDelayReqTimer, if_neg hgo]
  rfl

end

/-- Settles O37: each message by what the slave waits for, then the timer of its requests. -/
theorem ptpSlave : Obligations.PtpSlave := by
  unfold Obligations.PtpSlave
  refine fun s => ⟨fun m h => ⟨fun hbest => ?noMaster, fun b hbest htwo => ?twoStep, fun b hbest hone => ?oneStep⟩, fun m h => ?otherDomain,
    fun m q o c hwait hon hseq => ?followUp, fun q o c hwait => ?noSync, fun q rx c t1 t2 c0 t3 hreq hlast hon hmode => ?delay,
    fun q t2 t3 t4 t1 hreq hon hmode => ?peerDelay, fun m h hbest => ?firstMaster,
    fun m b h hbest hother => ⟨fun hbetter => ?better, fun hworse => ?worse⟩, fun hon hready hexp => ?request, fun hoff => ?silent⟩
  case noMaster => exact execPtpSync_noMaster h hbest
  case twoStep => rw [exec_ptpSync, execPtpSync_master h hbest, if_pos htwo]
  case oneStep => rw [exec_ptpSync, execPtpSync_master h hbest, if_neg (by simp [hone])]
  case otherDomain => exact execPtpSync_otherDomain h
  case followUp => exact execPtpFollowUp_awaited hwait hon hseq
  case noSync => exact execPtpFollowUp_none hwait
  case delay => exact ⟨_, execPtpDelayResp_answered hreq hlast hon hmode, rfl, rfl⟩
  case peerDelay => exact ⟨_, execPtpPdelayResp_answered hreq hon hmode, rfl, rfl⟩
  case firstMaster => exact execPtpAnnounce_first h hbest
  case better => exact ⟨_, (execPtpAnnounce_other h hbest hother).trans (congrArg _ (if_pos hbetter)), rfl, rfl⟩
  case worse => rw [exec_ptpAnnounce, execPtpAnnounce_other h hbest hother, if_neg (by simp [hworse])]
  case request =>
    have hexp' : (s.setPtp s.nextRequest).expelled = false := hexp
    rw [exec_ptpDelayReqTimer, execPtpDelayReqTimer_sent hon hready, State.send_peer _ hexp']
    exact ⟨_, rfl, rfl, rfl, rfl⟩
  case silent => exact execPtpDelayReqTimer_off hoff

end Sys2Proof.Machine
end

section
/-! CANCEL, moorings, host flights and connections by their descriptors (R71, R267, R269, R270, R290, R300 to R303, R342; log entries 94,
98 and 105). -/

namespace Sys2Proof.Machine

/-! ### Completions leave the moorings and connections (R331, R335) -/

@[simp] theorem State.net_of_send (s : State) (m : OutMsg) : (s.send m).net = s.net := by
  unfold State.send; split <;> rfl

@[simp] theorem State.net_of_raiseMsix (s : State) (v : Nat) : (s.raiseMsix v).net = s.net := by
  unfold State.raiseMsix; split <;> simp

theorem State.net_of_cqWrite (s : State) (b c : Nat) (q : CQ) (e : List Byte) : (cqWrite s b c q e).net = s.net := by
  unfold cqWrite; dsimp only; split <;> simp

theorem State.net_of_postCq (s : State) (b ring : Nat) (e : List Byte) : (s.postCq b ring e).net = s.net := by
  unfold State.postCq
  dsimp only
  split
  case isTrue => rfl
  case isFalse =>
    split
    case h_1 => rfl
    case h_2 => split <;> simp [State.net_of_cqWrite]

theorem State.net_of_complete (s : State) (b ring wrid op : Nat) (cq : Bool) (status result : Nat) :
    (s.complete b ring wrid op cq status result).net = s.net := by
  unfold State.complete
  split
  · exact s.net_of_postCq ..
  · rfl

@[simp] theorem State.net_of_fin (s : State) (d : Dsc) (status result : Nat) : (s.fin d status result).net = s.net := s.net_of_complete ..

@[simp] theorem State.net_of_finishJob (s : State) (id status result : Nat) : (s.finishJob id status result).net = s.net := by
  unfold State.finishJob
  split
  · rfl
  · exact State.net_of_complete ..

@[simp] theorem State.net_of_ldgDrop (s : State) (key care : BitVec 128) : (s.ldgDrop key care).net = s.net := by
  unfold State.ldgDrop; split <;> rfl

theorem State.mooring_congr {s t : State} (h : t.net = s.net) (i : Nat) : t.mooring i = s.mooring i := by
  unfold State.mooring; rw [h]

theorem State.conn_congr {s t : State} (h : t.net = s.net) (n : Nat) : t.conn n = s.conn n := by
  unfold State.conn; rw [h]

@[simp] theorem State.mooring_setMooring (s : State) (i : Nat) (m : Mooring) : (s.setMooring i m).mooring i = m := by
  simp [State.mooring, State.setMooring]

/-- An entry taken from a ring moves the ring's head and no more. -/
theorem State.takeEntry_eq (s : State) (b r : Nat) : s.takeEntry b r = s ∨ ∃ x, s.takeEntry b r = s.setBasin b x := by
  unfold State.takeEntry
  dsimp only
  split
  · exact .inl rfl
  · exact .inr ⟨_, rfl⟩

theorem State.sent_takeEntry (s : State) (b r : Nat) : (s.takeEntry b r).sent = s.sent := by
  obtain h | ⟨x, h⟩ := s.takeEntry_eq b r <;> rw [h]; rfl

theorem State.expelled_takeEntry (s : State) (b r : Nat) : (s.takeEntry b r).expelled = s.expelled := by
  obtain h | ⟨x, h⟩ := s.takeEntry_eq b r <;> rw [h]; rfl

section
variable {u : State} {d : Dsc}

/-! ### CANCEL (R71, R342) -/

theorem doCancel_unknown (h : u.sweepOfGsid (d.f 0x10 4 % 2 ^ 24) = none) : doCancel d u =
    u.postCq d.basin d.ring (cqEntry d.wrid stNotFound d.op (d.f 0x10 4 % 2 ^ 24) 0 d.ring) := by
  simp only [doCancel, h, show decide (stNotFound ≠ 0) = true from rfl, Bool.or_true, if_true]
  rfl

theorem doCancel_going {a : ASweep} (h : u.sweepOfGsid (d.f 0x10 4 % 2 ^ 24) = some a) (hbasin : a.basin = d.basin) (hstate : a.state < 5)
    (hcq : d.cq = true) : doCancel d u =
      (u.abandon a 0).postCq d.basin d.ring (cqEntry d.wrid stOk d.op (d.f 0x10 4 % 2 ^ 24) a.word.toNat d.ring) := by
  simp only [doCancel, h, if_neg (not_not_intro hbasin), if_neg (Nat.not_le.mpr hstate), hcq, Bool.true_or, if_true]

theorem doCancel_ended {a : ASweep} (h : u.sweepOfGsid (d.f 0x10 4 % 2 ^ 24) = some a) (hbasin : a.basin = d.basin) (hstate : 5 ≤ a.state) :
    doCancel d u = u.postCq d.basin d.ring (cqEntry d.wrid stAlreadyFinal d.op (d.f 0x10 4 % 2 ^ 24) a.word.toNat d.ring) := by
  simp only [doCancel, h, if_neg (not_not_intro hbasin), if_pos hstate, show decide (stAlreadyFinal ≠ 0) = true from rfl, Bool.or_true, if_true]

/-! ### MOOR_REG (R300, R301) -/

theorem doMoorReg_wrongField (h : 32 ≤ d.f 0x14 1 ∨ d.f 0x20 8 = 0) : doMoorReg d u = u.fin d stInvalidField 0 := if_pos h

/-- The range of stacked DRAM, rights and connection a MOOR_REG names are ones its basin may moor. -/
structure MayMoor (u : State) (d : Dsc) : Prop where
  rights : d.f 0x14 1 < 32
  length : d.f 0x20 8 ≠ 0
  inside : u.inMoor d.basin (d.f 0x18 8) (d.f 0x20 8) = true
  isOpen : (u.conn (d.f 0x10 4 % 2 ^ 24)).st ≠ .closed
  kind : (u.conn (d.f 0x10 4 % 2 ^ 24)).kind = 0
  basin : (u.conn (d.f 0x10 4 % 2 ^ 24)).basin = d.basin

theorem MayMoor.fields (h : MayMoor u d) : ¬ (32 ≤ d.f 0x14 1 ∨ d.f 0x20 8 = 0) := by
  simp [Nat.not_le.mpr h.rights, h.length]

theorem MayMoor.granted (h : MayMoor u d) : ¬ ((!u.inMoor d.basin (d.f 0x18 8) (d.f 0x20 8)) = true ∨
    (u.conn (d.f 0x10 4 % 2 ^ 24)).st = .closed ∨ (u.conn (d.f 0x10 4 % 2 ^ 24)).kind ≠ 0 ∨
    (u.conn (d.f 0x10 4 % 2 ^ 24)).basin ≠ d.basin) := by
  rintro (hout | hclosed | hkind | hbasin)
  · simp [h.inside] at hout
  · exact h.isOpen hclosed
  · exact hkind h.kind
  · exact hbasin h.basin

theorem doMoorReg_outside (hmfl : d.f 0x14 1 < 32) (hlen : d.f 0x20 8 ≠ 0) (hout : u.inMoor d.basin (d.f 0x18 8) (d.f 0x20 8) = false) :
    doMoorReg d u = u.fin d stAccessDenied 0 := by
  simp [doMoorReg, Nat.not_le.mpr hmfl, hlen, hout]

theorem doMoorReg_full (h : MayMoor u d) (hfull : u.freeMooring 65536 0 = none) : doMoorReg d u = u.fin d stMooringFull 0 := by
  simp only [doMoorReg, if_neg h.fields, if_neg h.granted, hfull]

/-- The mooring a MOOR_REG describes in slot `i`: a key of the slot and a free value, the next generation of the slot. -/
def Dsc.newMooring (d : Dsc) (u : State) (i : Nat) : Mooring :=
  { key := i + u.free.toNat % 65536 * 65536, gen := ((u.mooring i).gen + 1) % 65536, st := 1, mfl := d.f 0x14 1, conn := d.f 0x10 4 % 2 ^ 24,
    basin := d.basin, tenant := d.tenant, base := d.f 0x18 8, len := d.f 0x20 8 }

theorem doMoorReg_registered {i : Nat} {t : State} (h : MayMoor u d) (hi : u.freeMooring 65536 0 = some i)
    (ht : u.drawn.ldgAdd (moorKeyOf d.tenant d.basin (d.newMooring u i).key) moorCare
      (BitVec.ofNat 64 (d.f 0x10 4 % 2 ^ 24 + (d.newMooring u i).gen * 2 ^ 24)) = .ok t) :
    doMoorReg d u = (t.setMooring i (d.newMooring u i)).fin d stOk ((d.newMooring u i).key + (d.newMooring u i).gen * 2 ^ 32) := by
  unfold Dsc.newMooring at ht
  simp only [doMoorReg, if_neg h.fields, if_neg h.granted, hi, ht]
  rfl

/-! ### MOOR_REVOKE and MOOR_DEREG (R303) -/

theorem doMoorRevoke_unknown (h : d.mooring u = none) : doMoorRevoke d u = u.fin d stNotFound 0 := by
  simp [doMoorRevoke, h]

theorem doMoorRevoke_invalid {i : Nat} (h : d.mooring u = some i) (hst : (u.mooring i).st = 3) : doMoorRevoke d u = u.fin d stOk 0 := by
  simp [doMoorRevoke, h, hst]

/-- A mooring being revoked, with the job that waits for it. -/
def Dsc.revoking (d : Dsc) (u : State) (i : Nat) : State :=
  (u.addJob d.job).setMooring i { u.mooring i with st := 2, jobs := (u.mooring i).jobs ++ [u.host.nextJob] }

theorem Dsc.mooring_revoking (d : Dsc) (u : State) (i : Nat) : (d.revoking u i).mooring i =
    { u.mooring i with st := 2, jobs := (u.mooring i).jobs ++ [u.host.nextJob] } :=
  State.mooring_setMooring ..

theorem doMoorRevoke_valid {i : Nat} (h : d.mooring u = some i) (hst : (u.mooring i).st = 1) :
    doMoorRevoke d u = (d.revoking u i).moorSettle i := by
  simp [doMoorRevoke, h, hst, Dsc.revoking]

theorem State.moorSettle_busy {s : State} {i : Nat} (h : 0 < (s.mooring i).inflight) : s.moorSettle i = s :=
  if_neg fun ⟨_, hnone⟩ => by omega

theorem State.net_of_finishJobs (jobs : List Nat) (status : Nat) : ∀ s : State, (jobs.foldl (fun s j => s.finishJob j status 0) s).net = s.net :=
  State.foldl_keeps (g := State.net) (fun s j => s.net_of_finishJob j status 0) jobs

/-- A mooring being revoked in which nothing is under way becomes INVALID. -/
theorem State.mooring_moorSettle {s : State} {i : Nat} (hst : (s.mooring i).st = 2) (hnone : (s.mooring i).inflight = 0) :
    (s.moorSettle i).mooring i = { s.mooring i with st := 3, jobs := [] } := by
  rw [State.moorSettle, if_pos ⟨hst, hnone⟩, State.mooring_congr (State.net_of_finishJobs ..), State.mooring_congr (State.net_of_ldgDrop ..),
    State.mooring_setMooring]

theorem doMoorDereg_invalid {i : Nat} (h : d.mooring u = some i) (hst : (u.mooring i).st = 3) :
    doMoorDereg d u = (u.setMooring i { gen := (u.mooring i).gen }).fin d stOk 0 := by
  simp [doMoorDereg, h, hst]

theorem doMoorDereg_used {i : Nat} (h : d.mooring u = some i) (hst : (u.mooring i).st ≠ 3) : doMoorDereg d u = u.fin d stInvalidField 0 := by
  simp [doMoorDereg, h, hst]

/-! ### FLIGHT_ARM and FLIGHT_CANCEL (R269, R270) -/

theorem doFlightArmDesc_wrongCount (h : d.f 0x1C 2 = 0 ∨ 256 < d.f 0x1C 2) : doFlightArmDesc d u = u.fin d stInvalidField 0 := if_pos h

theorem doFlightArmDesc_outside (hlow : 1 ≤ d.f 0x1C 2) (hhigh : d.f 0x1C 2 ≤ 256)
    (hout : u.inHost d.basin (d.f 0x20 8) (16 * d.f 0x1C 2) = false) : doFlightArmDesc d u = u.fin d stAccessDenied 0 := by
  rw [doFlightArmDesc, if_neg (by omega), if_pos (by simp [hout])]

/-- The entries of the flight a FLIGHT_ARM describes. -/
def Dsc.flight (d : Dsc) (u : State) : List FlightEntry :=
  u.flightEntries (d.f 0x10 8) (if d.f 0x18 4 = 0 then 10737 else d.f 0x18 4) (d.f 0x1C 2) (d.f 0x20 8) (d.f 0x28 8)

/-- A table of chamber operations in the host area, in the order of their times. -/
structure MayFly (u : State) (d : Dsc) : Prop where
  low : 1 ≤ d.f 0x1C 2
  high : d.f 0x1C 2 ≤ 256
  inHost : u.inHost d.basin (d.f 0x20 8) (16 * d.f 0x1C 2) = true
  chambers : ∀ e ∈ d.flight u, e.kind = 2 ∨ e.kind = 3
  sorted : ((d.flight u).zip ((d.flight u).drop 1)).all (fun p => decide (p.1.time ≤ p.2.time)) = true

/-- The state with the descriptor's flight armed under the next handle. -/
def Dsc.flown (d : Dsc) (u : State) : State :=
  { u with fab := { u.fab with handles := u.fab.handles + 1 },
           sweeps := { u.sweeps with
             flights := u.sweeps.flights ++ [{ handle := u.fab.handles + 1, basin := d.basin, ring := d.ring, left := d.flight u }] } }

theorem doFlightArmDesc_named (h : MayFly u d) : doFlightArmDesc d u =
    if 1024 ≤ (u.sweeps.flights.filter (fun f => !f.left.isEmpty)).length then u.fin d stFlightFull 0
    else (d.flown u).fin d stOk (u.fab.handles + 1) := by
  have hnoSweep : (d.flight u).filter (fun e => decide (e.kind = 1)) = [] := by
    refine List.filter_eq_nil_iff.mpr fun e he => ?_
    rcases h.chambers e he with hk | hk <;> simp [hk]
  have hkinds : (d.flight u).any (fun e => decide (e.kind = 0) || decide (3 < e.kind) ||
      (decide (e.kind = 1) && (decide (0 ≤ e.value.toNat) || decide (dsc e.desc 0 1 ≠ 1)))) = false := by
    refine List.any_eq_false.mpr fun e he => ?_
    rcases h.chambers e he with hk | hk <;> simp [hk]
  have hsorted := h.sorted
  have hin := h.inHost
  have hcount : ¬ (d.f 0x1C 2 = 0 ∨ 256 < d.f 0x1C 2) := by have := h.low; have := h.high; omega
  unfold Dsc.flown
  unfold Dsc.flight at *
  simp only [doFlightArmDesc, if_neg hcount, hin, hnoSweep, List.length_nil, hkinds, hsorted, ne_eq, not_true_eq_false, false_and,
    Bool.not_true, Bool.false_eq_true, or_self, if_false]

theorem doFlightCancel_unknown
    (h : u.sweeps.flights.find? (fun f => decide (f.handle = d.f 0x10 8) && decide (f.basin = d.basin)) = none) :
    doFlightCancel d u = u.fin d stNotFound 0 := by
  rw [doFlightCancel, h]

/-! ### CONN_OPEN and CONN_CLOSE (R290) -/

/-- The values of a CONN_OPEN's fields are ones that a connection can have. -/
structure SaneOpen (d : Dsc) : Prop where
  conn : d.f 0x10 4 < 2 ^ 20
  peerConn : d.f 0x18 4 < 2 ^ 20
  peer : d.f 0x14 2 < 1024
  kind : d.f 0x16 1 % 4 ≠ 3
  tc : d.f 0x16 1 / 8 % 8 ≤ 4
  config : d.f 0x16 1 < 64
  sendLow : 4 ≤ d.f 0x1E 1 % 16
  sendHigh : d.f 0x1E 1 % 16 ≤ 12
  recvLow : 4 ≤ d.f 0x1E 1 / 16
  recvHigh : d.f 0x1E 1 / 16 ≤ 12

/-- The queues of a CONN_OPEN lie in the host area. -/
structure QueuesInHost (u : State) (d : Dsc) : Prop where
  send : u.inHost d.basin (d.f 0x20 8) (64 * 2 ^ (d.f 0x1E 1 % 16)) = true
  recv : u.inHost d.basin (d.f 0x28 8) (16 * 2 ^ (d.f 0x1E 1 / 16)) = true
  done : u.inHost d.basin (d.f 0x30 8) (16 * 2 ^ (d.f 0x1E 1 / 16)) = true

/-- The fields of a CONN_OPEN that are refused, apart from a connection in use. -/
def Dsc.openRefused (d : Dsc) : Prop :=
  2 ^ 20 ≤ d.f 0x10 4 ∨ 2 ^ 20 ≤ d.f 0x18 4 ∨ 1024 ≤ d.f 0x14 2 ∨ d.f 0x16 1 % 4 = 3 ∨ 4 < d.f 0x16 1 / 8 % 8 ∨ 64 ≤ d.f 0x16 1 ∨
    d.f 0x1E 1 % 16 < 4 ∨ 12 < d.f 0x1E 1 % 16 ∨ d.f 0x1E 1 / 16 < 4 ∨ 12 < d.f 0x1E 1 / 16

theorem SaneOpen.notRefused (h : SaneOpen d) : ¬ d.openRefused := by
  obtain ⟨hconn, hpeerConn, hpeer, hkind, htc, hconfig, hsendLow, hsendHigh, hrecvLow, hrecvHigh⟩ := h
  unfold Dsc.openRefused
  omega

theorem doConnOpen_refused (h : d.openRefused ∨ (u.conn (d.f 0x10 4)).st ≠ .closed) : doConnOpen d u = u.fin d stInvalidField 0 := by
  unfold Dsc.openRefused at h
  exact if_pos (by simpa only [or_assoc] using h)

/-- The connection a CONN_OPEN sets up. -/
def Dsc.opened (d : Dsc) (u : State) : Conn :=
  { st := .opening, kind := d.f 0x16 1 % 4, basin := d.basin, tenant := if d.f 0x16 1 % 4 = 0 then d.tenant else 0, peerPkg := d.f 0x14 2,
    peerConn := d.f 0x18 4, encap := decide (d.f 0x16 1 / 4 % 2 = 1),
    tc := if d.f 0x16 1 / 8 % 8 = 0 then (if d.f 0x16 1 % 4 = 0 then 3 else 4) else d.f 0x16 1 / 8 % 8,
    cch := d.f 0x1C 2, log2s := d.f 0x1E 1 % 16, log2r := d.f 0x1E 1 / 16, sq := d.f 0x20 8, rq := d.f 0x28 8, cq := d.f 0x30 8,
    port := u.lowPort.getD 0, na := u.nonce, openJob := some u.host.nextJob }

/-- The state with the connection a CONN_OPEN sets up and the job that waits for it. -/
def Dsc.opening (d : Dsc) (u : State) : State :=
  (({ u with fresh := u.fresh + 2 } : State).addJob d.job).setConn (d.f 0x10 4) (d.opened u)

theorem doConnOpen_opened (h : SaneOpen d) (hfree : (u.conn (d.f 0x10 4)).st = .closed) (hin : QueuesInHost u d) :
    doConnOpen d u = (d.opening u).askConn (d.f 0x10 4) := by
  have hsane : ¬ (d.openRefused ∨ (u.conn (d.f 0x10 4)).st ≠ .closed) := by simp [h.notRefused, hfree]
  unfold Dsc.openRefused at hsane
  simp only [or_assoc] at hsane
  rw [doConnOpen, if_neg hsane, if_neg (by simp [hin.send, hin.recv, hin.done])]
  rfl

/-- A CONN_REQ to a peer while the part is not expelled. -/
theorem State.askConn_sent {s : State} {n : Nat} (h : s.expelled = false) : s.askConn n =
    { s.setConn n { s.conn n with askedAt := s.now } with sent := s.sent ++ [.connReq (s.conn n).peerPkg ((s.conn n).setup n (s.conn n).na)] } :=
  State.send_peer (s.setConn n { s.conn n with askedAt := s.now }) h

theorem doConnClose_notOwn (h : u.ownConn d.basin (d.f 0x10 4) = none) : doConnClose d u = u.fin d stAccessDenied 0 := by
  simp [doConnClose, h]

theorem doConnClose_own {c : Conn} (h : u.ownConn d.basin (d.f 0x10 4) = some c) :
    doConnClose d u = ((u.send (.connClose (d.f 0x10 4))).closeConn (d.f 0x10 4) stWrCancelled).fin d stOk 0 := by
  simp [doConnClose, h]

theorem State.conn_closeConn (s : State) (n status : Nat) : (s.closeConn n status).conn n = {} := by
  simp [State.closeConn, State.conn, alGetD, alGet_alDel]

end

/-- Settles O47: CANCEL, then each outcome of the mooring, flight and connection descriptors. -/
theorem connectionDescriptors : Obligations.ConnectionDescriptors := by
  unfold Obligations.ConnectionDescriptors
  intro s b r d u
  refine ⟨fun h => ?cancel, fun h => ?register, fun h => ?revoke, fun h => ?deregister, fun h => ?arm, fun h => ?disarm,
    fun h => ?opens, fun h => ?closes⟩
  case cancel =>
    have hexec : exec (.cancel b r) s = .next (doCancel d u) := congrArg _ (serve_of_submitted doCancel h rfl)
    dsimp only
    rw [hexec]
    refine ⟨fun hnone => ?_, fun a ha hbasin hstate hcq => ?_, fun a ha hbasin hstate => ?_⟩
    · rw [doCancel_unknown hnone]
    · rw [doCancel_going ha hbasin hstate hcq]
    · rw [doCancel_ended ha hbasin hstate]
  case register =>
    have hexec : exec (.moorReg b r) s = .next (doMoorReg d u) := congrArg _ (serve_of_submitted doMoorReg h rfl)
    dsimp only
    rw [hexec]
    refine ⟨fun hwrong => ?_, fun hmfl hlen hout => ?_, fun hmfl hlen hin hopen hkind hbasin => ?_⟩
    · rw [doMoorReg_wrongField hwrong]
    · rw [doMoorReg_outside hmfl hlen hout]
    have hmay : MayMoor u d := ⟨hmfl, hlen, hin, hopen, hkind, hbasin⟩
    refine ⟨fun hfull => ?_, fun i t hi ht => ?_⟩
    · rw [doMoorReg_full hmay hfull]
    have hdone := doMoorReg_registered hmay hi ht
    have hmooring : (doMoorReg d u).mooring i = d.newMooring u i := by
      rw [hdone, State.mooring_congr (State.net_of_fin ..), State.mooring_setMooring]
    refine ⟨_, rfl, ?_⟩
    rw [hmooring]
    exact ⟨hdone, rfl, rfl, rfl, rfl, rfl, rfl, rfl⟩
  case revoke =>
    have hexec : exec (.moorRevoke b r) s = .next (doMoorRevoke d u) := congrArg _ (serve_of_submitted doMoorRevoke h rfl)
    rw [hexec]
    refine ⟨fun hnone => ?_, fun i hi hst => ?_, fun i hi hst hbusy => ⟨_, rfl, ?_⟩, fun i hi hst hidle => ⟨_, rfl, ?_⟩⟩
    · rw [doMoorRevoke_unknown hnone]
    · rw [doMoorRevoke_invalid hi hst]
    · rw [doMoorRevoke_valid hi hst, State.moorSettle_busy (by rw [d.mooring_revoking]; exact hbusy), d.mooring_revoking]
      exact ⟨rfl, rfl⟩
    · rw [doMoorRevoke_valid hi hst,
        State.mooring_moorSettle (by rw [d.mooring_revoking]) (by rw [d.mooring_revoking]; exact hidle)]
  case deregister =>
    have hexec : exec (.moorDereg b r) s = .next (doMoorDereg d u) := congrArg _ (serve_of_submitted doMoorDereg h rfl)
    rw [hexec]
    refine ⟨fun i hi hst => ?_, fun i hi hst => ?_⟩
    · rw [doMoorDereg_invalid hi hst]
    · rw [doMoorDereg_used hi hst]
  case arm =>
    have hexec : exec (.flightArmDesc b r) s = .next (doFlightArmDesc d u) := congrArg _ (serve_of_submitted doFlightArmDesc h rfl)
    dsimp only
    rw [hexec]
    refine ⟨fun hcount => ?_, fun hlow hhigh hout => ?_, fun hlow hhigh hin hkinds hsorted => ?_⟩
    · rw [doFlightArmDesc_wrongCount hcount]
    · rw [doFlightArmDesc_outside hlow hhigh hout]
    rw [doFlightArmDesc_named ⟨hlow, hhigh, hin, hkinds, hsorted⟩]
    refine ⟨fun hroom => ?_, fun hfull => ?_⟩
    · rw [if_neg (Nat.not_le.mpr hroom)]; rfl
    · rw [if_pos hfull]
  case disarm =>
    have hexec : exec (.flightCancel b r) s = .next (doFlightCancel d u) := congrArg _ (serve_of_submitted doFlightCancel h rfl)
    rw [hexec]
    refine ⟨fun f hf => ?_, fun hnone => ?_⟩
    · rw [doFlightCancel, hf]
    · rw [doFlightCancel_unknown hnone]
  case opens =>
    have hexec : exec (.connOpen b r) s = .next (doConnOpen d u) := congrArg _ (serve_of_submitted doConnOpen h rfl)
    dsimp only
    rw [hexec]
    refine ⟨fun hused => ?_, fun hwrong => ?_, fun hconn hpeerConn hpeer hkind htc hconfig hsl hsh hrl hrh hfree hsq hrq hcq hexp => ?_⟩
    · rw [doConnOpen_refused (.inr hused)]
    · rw [doConnOpen_refused (.inl hwrong)]
    have hexp' : (d.opening u).expelled = false := (s.expelled_takeEntry ..).trans hexp
    have hset : (d.opening u).conn (d.f 0x10 4) = d.opened u := State.conn_setConn ..
    rw [doConnOpen_opened ⟨hconn, hpeerConn, hpeer, hkind, htc, hconfig, hsl, hsh, hrl, hrh⟩ hfree ⟨hsq, hrq, hcq⟩,
      State.askConn_sent hexp', hset]
    refine ⟨_, _, rfl, State.conn_setConn .., rfl, rfl, rfl, rfl, rfl, rfl, rfl, rfl, rfl, rfl, rfl, rfl, ?_⟩
    exact congrArg (· ++ _) (s.sent_takeEntry ..)
  case closes =>
    have hexec : exec (.connClose b r) s = .next (doConnClose d u) := congrArg _ (serve_of_submitted doConnClose h rfl)
    rw [hexec]
    refine ⟨fun hnone => ?_, fun c hc => ⟨_, rfl, doConnClose_own hc, ?_⟩⟩
    · rw [doConnClose_notOwn hnone]
    · rw [doConnClose_own hc, State.conn_congr (State.net_of_fin ..), State.conn_closeConn]

end Sys2Proof.Machine
end

section
/-! What an outage of a port leaves of the optical engines: their lanes, the spare and the control register (R276, R304, R305). -/

namespace Sys2Proof.Machine

/-! ### The lanes of an engine as the registers and the engine tell them -/

/-- What remapping reads of an engine: its lanes' record, the pair its spare serves, REMAPPED and its control register. -/
def State.laneView (s : State) (e : BitVec 2) : Engine × Nat × Nat × W64 :=
  (s.engine e.toNat, s.fld (rEng rPrtEngStat e.toNat) 10 4, s.fld (rEng rPrtEngStat e.toNat) 14 1, s.reg (rEng rPrtEngCtl e.toNat))

theorem rEng_stat_ne_ctl (e f : Nat) : rEng rPrtEngStat e ≠ rEng rPrtEngCtl f := by
  simp only [rEng, rPrtEngStat, rPrtEngCtl]; omega

/-- Registers below those of the engines or above them. -/
def awayFromEngines (o : Nat) : Prop := o < 0x090100 ∨ 0x090200 ≤ o

theorem State.laneView_setReg (s : State) {o : Nat} (v : W64) (h : awayFromEngines o) (e : BitVec 2) : (s.setReg o v).laneView e = s.laneView e := by
  have he := e.isLt
  have hstat : o ≠ rEng rPrtEngStat e.toNat := by simp only [rEng, rPrtEngStat, awayFromEngines] at h ⊢; omega
  have hctl : o ≠ rEng rPrtEngCtl e.toNat := by simp only [rEng, rPrtEngCtl, awayFromEngines] at h ⊢; omega
  rw [State.laneView, State.fld_setReg_ne s v _ _ hstat, State.fld_setReg_ne s v _ _ hstat, State.reg_setReg_ne s o v hctl]
  rfl

@[simp] theorem State.laneView_setConn (s : State) (n : Nat) (c : Conn) (e : BitVec 2) : (s.setConn n c).laneView e = s.laneView e := rfl
@[simp] theorem State.laneView_setPort (s : State) (n : Nat) (p : Port) (e : BitVec 2) : (s.setPort n p).laneView e = s.laneView e := rfl
@[simp] theorem State.laneView_setBasin (s : State) (b : Nat) (x : Basin) (e : BitVec 2) : (s.setBasin b x).laneView e = s.laneView e := rfl
@[simp] theorem State.laneView_setChamber (s : State) (c : Nat) (x : Chamber) (e : BitVec 2) : (s.setChamber c x).laneView e = s.laneView e := rfl
@[simp] theorem State.laneView_setDram (s : State) (m : Memory) (e : BitVec 2) : (s.setDram m).laneView e = s.laneView e := rfl
@[simp] theorem State.laneView_setMooring (s : State) (i : Nat) (m : Mooring) (e : BitVec 2) : (s.setMooring i m).laneView e = s.laneView e := rfl

@[simp] theorem State.laneView_send (s : State) (m : OutMsg) (e : BitVec 2) : (s.send m).laneView e = s.laneView e := by
  unfold State.send; split <;> rfl

@[simp] theorem State.laneView_raiseMsix (s : State) (v : Nat) (e : BitVec 2) : (s.raiseMsix v).laneView e = s.laneView e := by
  unfold State.raiseMsix
  split
  · exact s.laneView_setReg _ (.inr (by decide)) e
  · exact s.laneView_send _ e

/-! ### Chambers and completions -/

@[simp] theorem State.laneView_wake (s : State) (src : WaitSrc) (ok : Bool) (e : BitVec 2) : (s.wake src ok).laneView e = s.laneView e := by
  unfold State.wake; dsimp only; (repeat' split) <;> rfl

@[simp] theorem State.laneView_wakeAll (s : State) (ch : Nat) (e : BitVec 2) : (s.wakeAll ch).laneView e = s.laneView e :=
  State.foldl_keeps (g := fun t => t.laneView e) (f := fun t (w : Waiter) => t.wake w.src true) (fun t w => t.laneView_wake w.src true e) _ _

@[simp] theorem State.laneView_chRemote (s : State) (ch : Nat) (op : ChOp) (e : BitVec 2) : (s.chRemote ch op).laneView e = s.laneView e := by
  unfold State.chRemote State.chEffect
  split
  · rfl
  · dsimp only; split <;> simp

theorem State.laneView_cqWrite (s : State) (b c : Nat) (q : CQ) (x : List Byte) (e : BitVec 2) : (cqWrite s b c q x).laneView e = s.laneView e := by
  unfold cqWrite; dsimp only; split <;> simp

theorem State.laneView_postCq (s : State) (b ring : Nat) (x : List Byte) (e : BitVec 2) : (s.postCq b ring x).laneView e = s.laneView e := by
  unfold State.postCq
  dsimp only
  split
  case isTrue => exact State.laneView_setReg _ _ (.inl (by decide)) e
  case isFalse =>
    split
    case h_1 => rfl
    case h_2 => split <;> simp [State.laneView_cqWrite]

@[simp] theorem State.laneView_finishJob (s : State) (id status result : Nat) (e : BitVec 2) : (s.finishJob id status result).laneView e = s.laneView e := by
  unfold State.finishJob State.complete
  dsimp only
  split
  case h_1 => rfl
  case h_2 =>
    split
    case isTrue => exact State.laneView_postCq ..
    case isFalse => rfl

@[simp] theorem State.laneView_connCq (s : State) (n : Nat) (b : List Byte) (e : BitVec 2) : (s.connCq n b).laneView e = s.laneView e := by
  unfold State.connCq State.connPut State.connChamber
  dsimp only
  split
  · rfl
  · split <;> simp

@[simp] theorem State.laneView_wrDone (s : State) (n id : Nat) (w : WR) (status : Nat) (result : W64) (data : List Byte) (e : BitVec 2) :
    (s.wrDone n id w status result data).laneView e = s.laneView e := by
  have hcore (t : State) (k f : Nat) : (t.fxResult k f status result data).laneView e = t.laneView e := by
    unfold State.fxResult; dsimp only; (repeat' split) <;> rfl
  unfold State.wrDone
  dsimp only
  (repeat' split) <;> simp [hcore]

@[simp] theorem State.laneView_liveDone (s : State) (n id status : Nat) (result : W64) (data : List Byte) (e : BitVec 2) :
    (s.liveDone n id status result data).laneView e = s.laneView e := by
  unfold State.liveDone
  dsimp only
  split <;> simp

/-! ### Connections lost, and ports -/

@[simp] theorem State.laneView_failLive (s : State) (n status : Nat) (e : BitVec 2) : (s.failLive n status).laneView e = s.laneView e := by
  unfold State.failLive
  dsimp only
  rw [State.laneView_setConn]
  exact State.foldl_keeps (g := fun t => t.laneView e) (fun t l => t.laneView_liveDone ..) _ _

@[simp] theorem State.laneView_dropFrames (s : State) (n : Nat) (e : BitVec 2) : (s.dropFrames n).laneView e = s.laneView e := by
  unfold State.dropFrames; dsimp only; split <;> rfl

@[simp] theorem State.laneView_moorSettle (s : State) (i : Nat) (e : BitVec 2) : (s.moorSettle i).laneView e = s.laneView e := by
  have hdrop (t : State) (key care : BitVec 128) : (t.ldgDrop key care).laneView e = t.laneView e := by
    unfold State.ldgDrop; split <;> rfl
  unfold State.moorSettle
  dsimp only
  split
  · rw [State.foldl_keeps (g := fun t => t.laneView e) (fun t j => t.laneView_finishJob j stOk 0 e), hdrop, State.laneView_setMooring]
  · rfl

@[simp] theorem State.laneView_dropInMsg (s : State) (n : Nat) (e : BitVec 2) : (s.dropInMsg n).laneView e = s.laneView e := by
  unfold State.dropInMsg State.moorLeave
  dsimp only
  (repeat' split) <;> simp

@[simp] theorem State.laneView_askConn (s : State) (n : Nat) (e : BitVec 2) : (s.askConn n).laneView e = s.laneView e := by
  simp [State.askConn]

@[simp] theorem State.laneView_reopen (s : State) (n : Nat) (e : BitVec 2) : (s.reopen n).laneView e = s.laneView e := by
  unfold State.reopen
  dsimp only
  rw [State.laneView_askConn, State.laneView_setConn]
  exact ((s.dropFrames n).laneView_dropInMsg n e).trans (s.laneView_dropFrames n e)

@[simp] theorem State.laneView_loseConn (s : State) (n : Nat) (e : BitVec 2) : (s.loseConn n).laneView e = s.laneView e := by
  unfold State.loseConn
  split
  · rfl
  · exact (State.laneView_setReg _ _ (.inr (by decide)) e).trans (by simp)

@[simp] theorem State.laneView_holdOver (s : State) (p : Nat) (e : BitVec 2) : (s.holdOver p).laneView e = s.laneView e := by
  have hclear : (s.clearPort p).laneView e = s.laneView e :=
    State.foldl_keeps (g := fun t => t.laneView e) (f := State.weirSettle) (fun _ _ => rfl) _ s
  unfold State.holdOver
  dsimp only
  refine (State.foldl_keeps (g := fun t => t.laneView e) (fun t x => ?_) _ _).trans hclear
  split <;> simp

/-- PRT_ENG_STAT's bit of a port in HOLD lies apart from the spare's fields. -/
theorem State.laneView_setFld_hold (s : State) (f x : Nat) (e : BitVec 2) : (s.setFld (rEng rPrtEngStat f) 15 1 x).laneView e = s.laneView e := by
  have hctl : (s.setFld (rEng rPrtEngStat f) 15 1 x).reg (rEng rPrtEngCtl e.toNat) = s.reg (rEng rPrtEngCtl e.toNat) :=
    s.reg_setFld_ne _ _ _ (rEng_stat_ne_ctl f _)
  have hstat {lo w : Nat} (h : lo + w ≤ 15) : (s.setFld (rEng rPrtEngStat f) 15 1 x).fld (rEng rPrtEngStat e.toNat) lo w =
      s.fld (rEng rPrtEngStat e.toNat) lo w := by
    by_cases hf : rEng rPrtEngStat f = rEng rPrtEngStat e.toNat
    · rw [hf, State.fld_setFld_apart _ _ _ (by omega) (.inr h)]
    · exact s.fld_setFld_ne _ _ _ _ _ hf
  rw [State.laneView, hctl, hstat (by omega), hstat (by omega)]
  rfl

@[simp] theorem State.laneView_portLost (s : State) (p : Nat) (e : BitVec 2) : (s.portLost p).laneView e = s.laneView e := by
  unfold State.portLost
  dsimp only
  split
  · rfl
  · split <;> simp [State.laneView_setFld_hold]

@[simp] theorem State.laneView_portsLost (s : State) (ps : List Nat) (e : BitVec 2) : (ps.foldl State.portLost s).laneView e = s.laneView e :=
  State.foldl_keeps (g := fun t => t.laneView e) (fun t p => t.laneView_portLost p e) ps s

end Sys2Proof.Machine
end
section
/-! Ports through an outage, lanes remapped, MACsec keys and LLDP (R273 to R277, R298 to R301, R304, R305, R308; log entries 102, 103). -/

namespace Sys2Proof.Machine

/-! ### PORT_DOWN and PORT_UP (R304) -/

section
variable {s : State} {port : BitVec 3}

/-- The state with a port down and its frames held for HOLD. -/
def State.portHeld (s : State) (p : Nat) : State :=
  (s.setPort p { s.port p with up := false, frames := (s.port p).frames.map (fun f => { f with held := true }),
                               holdUntil := some (s.now + ticksUs (s.fld rTrnCtl 0 16)), downAt := s.now, guard := none }).setFld
    (rEng rPrtEngStat (p / 2)) 15 1 1

theorem State.portLost_up {p : Nat} (h : (s.port p).up = true) (hhold : s.fld rTrnCtl 0 16 ≠ 0) : s.portLost p = s.portHeld p := by
  simp [State.portLost, h, hhold, State.portHeld]

theorem State.portLost_down {p : Nat} (h : (s.port p).up = false) : s.portLost p = s := by
  simp [State.portLost, h]

/-- A connection's timers resumed where they stopped `gone` ticks ago. -/
def Conn.resumed (c : Conn) (gone : Nat) : Conn := { c with rtoAt := c.rtoAt.map (· + gone), progressAt := c.progressAt.map (· + gone) }

theorem execPortUp_stays (h : (s.port port.toNat).up = true ∨ s.portFit port.toNat = false) : execPortUp port s = .next s := by
  refine if_pos ?_
  rcases h with hup | hfit
  · simp [hup]
  · simp [hfit]

theorem execPortUp_fit (hdown : (s.port port.toNat).up = false) (hfit : s.portFit port.toNat = true) : execPortUp port s =
    .next (let t := s.setPort port.toNat { s.port port.toNat with up := true, holdUntil := none }
      if (s.port port.toNat).holdUntil.isNone then t
      else { t with net := { t.net with conns := alMap t.net.conns fun _ c =>
        if c.port = port.toNat then c.resumed (s.now - (s.port port.toNat).downAt) else c } }) := by
  simp only [execPortUp, hdown, hfit, Bool.not_true, Bool.or_false, Bool.false_eq_true, if_false]
  split <;> rfl

/-! ### PORT_HOLD_EXPIRY (R305) -/

theorem execPortHoldExpiry_held {u : Nat} (h : (s.port port.toNat).holdUntil = some u) :
    execPortHoldExpiry port s = .next (if u ≤ s.now then s.holdOver port.toNat else s) := by
  simp only [execPortHoldExpiry, h, State.passed, decide_eq_true_iff]
  split <;> rfl

theorem State.holdOver_idle {p : Nat} (hconns : s.net.conns = []) (hframes : (s.port p).frames = []) :
    s.holdOver p = s.setPort p { s.port p with frames := [], guard := none, holdUntil := none } := by
  have hclear : s.clearPort p = s.setPort p { s.port p with frames := [], guard := none, holdUntil := none } := by
    simp [State.clearPort, hframes]
  have hnone : (s.clearPort p).net.conns = [] := by rw [hclear]; exact hconns
  rw [State.holdOver, hnone, hclear]
  rfl

end

/-! ### Lanes (R276) -/

@[simp] theorem State.laneView_lanesDown (s : State) (f : Nat) (ls : List Nat) (e : BitVec 2) : (s.lanesDown f ls).laneView e = s.laneView e :=
  s.laneView_portsLost _ e

/-- The spare serves the pair it is mapped onto, REMAPPED is set, and the control register is what it was. -/
theorem State.laneView_remapTo (s : State) (e : BitVec 2) {l : Nat} (hl : l < 2 ^ 4) :
    (s.remapTo e.toNat l).laneView e = ({ s.engine e.toNat with remapped := true }, l, 1, s.reg (rEng rPrtEngCtl e.toNat)) := by
  unfold State.remapTo
  dsimp only
  rw [State.laneView_lanesDown]
  simp only [State.laneView, State.engine_setEngine, State.fld_of_setEngine, State.reg_of_setEngine]
  rw [State.fld_setFld_apart _ _ _ (by omega) (.inr (by omega)), State.fld_setFld _ _ _ (by omega), State.fld_setFld _ _ _ (by omega),
    State.reg_setFld_ne _ _ _ _ (rEng_stat_ne_ctl _ _), State.reg_setFld_ne _ _ _ _ (rEng_stat_ne_ctl _ _), Nat.mod_eq_of_lt hl]
  rfl

theorem State.engCtl_remapTo (s : State) (e : BitVec 2) {l : Nat} (hl : l < 2 ^ 4) :
    (s.remapTo e.toNat l).reg (rEng rPrtEngCtl e.toNat) = s.reg (rEng rPrtEngCtl e.toNat) :=
  congrArg (fun v => v.2.2.2) (s.laneView_remapTo e hl)

/-- An engine with one more lane failed. -/
def Engine.lost (x : Engine) (l : Nat) : Engine := { x with failed := if x.failed.contains l then x.failed else x.failed ++ [l] }

theorem Engine.contains_lost (x : Engine) (l : Nat) : (x.lost l).failed.contains l = true := by
  unfold Engine.lost
  dsimp only
  split
  · assumption
  · simp

theorem execLaneRemap_spare {s : State} {e : BitVec 2} {l : BitVec 3} (hmode : s.engMode e.toNat ≠ 2)
    (hauto : s.fld (rEng rPrtEngCtl e.toNat) 2 1 = 1) (hfirst : (s.engine e.toNat).remapped = false) :
    execLaneRemap e l s = .next ((s.setEngine e.toNat ((s.engine e.toNat).lost l.toNat)).remapTo e.toNat l.toNat) := by
  simp [execLaneRemap, hmode, hauto, hfirst, Engine.lost]

/-- The mode a write of PRT_ENGn_CTL leaves: 3 is reserved. -/
def State.engModeWritten (s : State) (e : Nat) (v : W64) : Nat := if Sys2Proof.fld v 0 2 = 3 then s.engMode e else Sys2Proof.fld v 0 2

theorem State.engModeWritten_lt (s : State) (e : Nat) (v : W64) : s.engModeWritten e v < 2 ^ 2 := by
  unfold State.engModeWritten State.engMode
  split
  · exact fld_lt ..
  · exact fld_lt ..

/-- PRT_ENGn_CTL as a write leaves it: the mode and AUTO_REMAP, and SPARE_FOR where its value is not reserved. -/
def engCtlOf (old v : W64) (mode : Nat) : W64 :=
  let w := setFld (setFld old 0 2 mode) 2 1 (fld v 2 1)
  if 8 ≤ fld v 8 4 ∧ fld v 8 4 ≠ 15 then w else setFld w 8 4 (fld v 8 4)

theorem fld_engCtlOf (old v : W64) {mode : Nat} (hmode : mode < 2 ^ 2) : fld (engCtlOf old v mode) 0 2 = mode ∧
    fld (engCtlOf old v mode) 2 1 = fld v 2 1 ∧
    fld (engCtlOf old v mode) 8 4 = if 8 ≤ fld v 8 4 ∧ fld v 8 4 ≠ 15 then fld old 8 4 else fld v 8 4 := by
  have hwritten : fld (setFld (setFld old 0 2 mode) 2 1 (fld v 2 1)) 0 2 = mode ∧
      fld (setFld (setFld old 0 2 mode) 2 1 (fld v 2 1)) 2 1 = fld v 2 1 := by
    rw [fld_setFld_apart _ (by omega) (.inr (by omega)), fld_setFld _ (by omega), fld_setFld _ (by omega), Nat.mod_eq_of_lt hmode,
      Nat.mod_eq_of_lt (fld_lt ..)]
    exact ⟨rfl, rfl⟩
  obtain ⟨hlow, hauto⟩ := hwritten
  unfold engCtlOf
  dsimp only
  split
  case isTrue =>
    exact ⟨hlow, hauto, by rw [fld_setFld_apart _ (by omega) (.inl (by omega)), fld_setFld_apart _ (by omega) (.inl (by omega))]⟩
  case isFalse =>
    exact ⟨(fld_setFld_apart _ (by omega) (.inr (by omega))).trans hlow, (fld_setFld_apart _ (by omega) (.inr (by omega))).trans hauto,
      by rw [fld_setFld _ (by omega), Nat.mod_eq_of_lt (fld_lt ..)]⟩

theorem State.engCtl_engCtlWrite (s : State) (e : BitVec 2) (v : W64) : (s.engCtlWrite e.toNat v).reg (rEng rPrtEngCtl e.toNat) =
    engCtlOf (s.reg (rEng rPrtEngCtl e.toNat)) v (s.engModeWritten e.toNat v) := by
  have hlost : (if s.engModeWritten e.toNat v = s.engMode e.toNat then s else [2 * e.toNat, 2 * e.toNat + 1].foldl State.portLost s).reg
      (rEng rPrtEngCtl e.toNat) = s.reg (rEng rPrtEngCtl e.toNat) := by
    split
    · rfl
    · exact congrArg (fun v => v.2.2.2) (s.laneView_portsLost _ e)
  unfold State.engCtlWrite engCtlOf
  dsimp only
  split
  case isTrue => rw [← hlost]; simp [State.setFld, State.engModeWritten]
  case isFalse =>
    split
    case isTrue => rw [← hlost]; simp [State.setFld, State.engModeWritten]
    case isFalse => rw [State.engCtl_remapTo _ e (fld_lt ..), ← hlost]; simp [State.setFld, State.engModeWritten]

/-! ### MACsec and LLDP (R275, R277) -/

section
variable {s : State} {port : BitVec 3}

theorem execSakRekey_due (hon : s.fld rPrtCtl 0 1 = 1) (hcak : (s.port port.toNat).cak.isSome = true) (hsak : (s.port port.toNat).sak.isSome = true)
    (hdue : 2 ^ 62 ≤ (s.port port.toNat).pn ∨ (s.port port.toNat).sakAt + 86400 * 2 ^ 30 ≤ s.now) :
    ∃ k, execSakRekey port s = .next (({ s with fresh := s.fresh + 4 } : State).installSak port.toNat k) :=
  ⟨_, if_pos ⟨hon, hcak, hsak, hdue⟩⟩

theorem execSakRekey_early (hpn : (s.port port.toNat).pn < 2 ^ 62) (htime : s.now < (s.port port.toNat).sakAt + 86400 * 2 ^ 30) :
    execSakRekey port s = .next s :=
  if_neg fun ⟨_, _, _, hdue⟩ => by omega

theorem execMkaFrame_named {name sak : List Byte} {key k : BitVec 256} (h : (s.port port.toNat).cak = some (name, key))
    (hk : Config.unwrapKey key sak = some k) : execMkaFrame port name sak s = .next (s.installSak port.toNat (leBytes 32 k.toNat)) := by
  simp [execMkaFrame, h, hk]

theorem execMkaFrame_wrong {name other sak : List Byte} {key : BitVec 256} (h : (s.port port.toNat).cak = some (name, key))
    (hwrong : other ≠ name ∨ Config.unwrapKey key sak = none) : execMkaFrame port other sak s = .next s := by
  rcases hwrong with hname | hkey
  · simp [execMkaFrame, h, Ne.symm hname]
  · simp [execMkaFrame, h, hkey]

theorem execLldpFrame_up {frame : List Byte} {prot : Bool} (h : (s.port port.toNat).up = true) : execLldpFrame port frame prot s =
    .next ((s.frameRefused (port.toNat / 2) frame.length prot).getD (s.setPort port.toNat { s.port port.toNat with neighbour := frame })) := by
  simp only [execLldpFrame, h, Bool.not_true, Bool.false_eq_true, if_false]
  split <;> simp [*]

end

end Sys2Proof.Machine
end

section
/-! The port scheduler, and the settings of weirs and meters (R310 to R320; log entries 102 and 145). -/

namespace Sys2Proof.Machine

theorem alGet_alMap {κ α : Type} [DecidableEq κ] (m : AL κ α) (f : κ → α → α) (k : κ) : alGet (alMap m f) k = (alGet m k).map (f k) := by
  induction m with
  | nil => rfl
  | cons p t ih =>
    obtain ⟨a, v⟩ := p
    by_cases h : a = k
    · subst h; simp [alMap, alGet]
    · simpa [alMap, alGet, h] using ih

/-! ### PORT_FRAME_SELECT (R311, R312) -/

section
variable {s : State} {port : BitVec 3}

theorem execPortFrameSelect_down (h : (s.port port.toNat).up = false) : execPortFrameSelect port s = .next s := by
  simp [execPortFrameSelect, h]

/-- The first frame held through an outage that may go. -/
def State.heldFrame (s : State) (p : Nat) : Option Frame := (s.port p).frames.find? (fun f => f.held && s.eligible f)

theorem execPortFrameSelect_held {f : Frame} (h : (s.port port.toNat).up = true)
    (hf : (s.countHeld port.toNat).heldFrame port.toNat = some f) :
    execPortFrameSelect port s = .next ((s.countHeld port.toNat).startFrame port.toNat f) := by
  unfold State.heldFrame at hf
  simp only [execPortFrameSelect, h, hf, Bool.not_true, Bool.false_eq_true, if_false]

/-- With no held frame and nothing in TC0 to TC5, the guard is off and TC7 goes before TC6. -/
theorem execPortFrameSelect_high {f : Frame} (h : (s.port port.toNat).up = true)
    (hheld : (s.countHeld port.toNat).heldFrame port.toNat = none)
    (hlow : (List.range 6).any (fun tc => ((s.countHeld port.toNat).nextIn port.toNat tc).isSome) = false) :
    let w := (s.countHeld port.toNat).setPort port.toNat { (s.countHeld port.toNat).port port.toNat with guard := none }
    (w.nextIn port.toNat 7).or (w.nextIn port.toNat 6) = some f → execPortFrameSelect port s = .next (w.startFrame port.toNat f) := by
  intro w hf
  unfold State.heldFrame at hheld
  simp only [execPortFrameSelect, h, hheld, hlow, Bool.not_true, Bool.false_eq_true, if_false, false_and]
  change (match w.nextIn port.toNat 7, w.nextIn port.toNat 6 with
    | some f, _ => _
    | none, some f => _
    | none, none => _) = _
  cases h7 : w.nextIn port.toNat 7 with
  | some g => rw [h7] at hf; cases hf; rfl
  | none => rw [h7, Option.none_or] at hf; rw [hf]

end

/-! ### TRF_CTL (R317 to R319) -/

theorem fld_zero_add (v : W64) (a b : Nat) : fld v 0 (a + b) = fld v 0 a + 2 ^ a * fld v a b := by
  simp only [fld, pow_zero, Nat.div_one, pow_add, Nat.mod_mul]

/-- TRF_CTL as a write leaves it: a YELLOW_FILL above 100 is reserved. -/
def trfCtlOf (old v : W64) : W64 :=
  setFld (setFld (setFld (setFld old 0 1 (fld v 0 1)) 1 6 (fld v 1 6)) 8 8 (fld v 8 8)) 24 8 (if 100 < fld v 24 8 then fld old 24 8 else fld v 24 8)

theorem fld_trfCtlOf (old v : W64) : fld (trfCtlOf old v) 0 7 = fld v 0 7 ∧ fld (trfCtlOf old v) 8 8 = fld v 8 8 ∧
    fld (trfCtlOf old v) 24 8 = if 100 < fld v 24 8 then fld old 24 8 else fld v 24 8 := by
  have hfill : (if 100 < fld v 24 8 then fld old 24 8 else fld v 24 8) < 2 ^ 8 := by split <;> exact fld_lt ..
  unfold trfCtlOf
  refine ⟨?_, ?_, ?_⟩
  · rw [fld_zero_add _ 1 6, fld_zero_add v 1 6, fld_setFld_apart _ (by omega) (.inr (by omega)), fld_setFld_apart _ (by omega) (.inr (by omega)),
      fld_setFld_apart _ (by omega) (.inr (by omega)), fld_setFld _ (by omega), fld_setFld_apart _ (by omega) (.inr (by omega)),
      fld_setFld_apart _ (by omega) (.inr (by omega)), fld_setFld _ (by omega), Nat.mod_eq_of_lt (fld_lt ..), Nat.mod_eq_of_lt (fld_lt ..)]
  · rw [fld_setFld_apart _ (by omega) (.inr (by omega)), fld_setFld _ (by omega), Nat.mod_eq_of_lt (fld_lt ..)]
  · rw [fld_setFld _ (by omega), Nat.mod_eq_of_lt hfill]

/-- Meters full, and no deficit of a port and no credit of a weir (R319). -/
def State.refreshed (s : State) : State :=
  { s with net := { s.net with meters := alMap s.net.meters fun _ m => s.meterFull m, ports := alMap s.net.ports fun _ p => { p with deficit := [] } },
           host := { s.host with basins := alMap s.host.basins fun _ b => { b with credit := 0, creditAt := s.now } } }

theorem State.setReg_setReg (s : State) (o : Nat) (v w : W64) : (s.setReg o v).setReg o w = s.setReg o w := by
  simp [State.setReg]

theorem State.trfCtlWrite_eq (s : State) (v : W64) : s.trfCtlWrite v =
    if Sys2Proof.fld v 0 7 = s.fld rTrfCtl 0 7 then s.setReg rTrfCtl (trfCtlOf (s.reg rTrfCtl) v)
    else (s.setReg rTrfCtl (trfCtlOf (s.reg rTrfCtl) v)).refreshed := by
  unfold State.trfCtlWrite
  simp only [State.setFld, State.reg_setReg, State.setReg_setReg]
  rfl

theorem State.reg_trfCtlWrite (s : State) (v : W64) : (s.trfCtlWrite v).reg rTrfCtl = trfCtlOf (s.reg rTrfCtl) v := by
  have hset := s.reg_setReg rTrfCtl (trfCtlOf (s.reg rTrfCtl) v)
  rw [s.trfCtlWrite_eq]
  split
  · exact hset
  · exact hset

theorem State.trfCtlWrite_same {s : State} {v : W64} (h : Sys2Proof.fld v 0 7 = s.fld rTrfCtl 0 7) :
    (s.trfCtlWrite v).net = s.net ∧ (s.trfCtlWrite v).host = s.host := by
  rw [s.trfCtlWrite_eq, if_pos h]
  exact ⟨rfl, rfl⟩

/-- A new BYTE_MODE or OVERHEAD leaves no deficit of a port and no credit of a weir. -/
theorem State.trfCtlWrite_new {s : State} {v : W64} (h : Sys2Proof.fld v 0 7 ≠ s.fld rTrfCtl 0 7) :
    (∀ q, ((s.trfCtlWrite v).port q).deficit = []) ∧ ∀ b, ((s.trfCtlWrite v).basin b).credit = 0 := by
  rw [s.trfCtlWrite_eq, if_neg h]
  refine ⟨fun q => ?_, fun b => ?_⟩
  · simp only [State.refreshed, State.port, alGetD, alGet_alMap]
    cases alGet _ q <;> rfl
  · simp only [State.refreshed, State.basin, alGetD, alGet_alMap]
    cases alGet _ b <;> rfl

/-! ### TRF_MRATE (R314) -/

/-- A meter with the rates of a write of TRF_MRATE: a PIR below CIR is reserved. -/
def Meter.rated (m : Meter) (v : W64) : Meter :=
  { m with rate := BitVec.ofNat 64 (fld v 0 24 + (if fld v 0 24 ≤ fld v 24 24 then fld v 24 24 else m.pir) * 2 ^ 24 + fld v 48 1 * 2 ^ 48) }

theorem State.mrateWrite_eq (s : State) (v : W64) : s.mrateWrite v = s.setMeter (s.fld rTrfMsel 0 12)
    (if Sys2Proof.fld v 48 1 = 1 ∧ (s.meter (s.fld rTrfMsel 0 12)).en = false then s.meterFull ((s.meter (s.fld rTrfMsel 0 12)).rated v)
     else (s.meter (s.fld rTrfMsel 0 12)).rated v) := by
  simp only [State.mrateWrite, Bool.not_eq_true', Meter.rated]

/-- Settles O39: an outage of a port from PORT_DOWN to the end of HOLD, lanes and the control register, MACsec and LLDP; then the frame a
port sends next, TRF_CTL and TRF_MRATE. -/
theorem portsAndTraffic : Obligations.PortsAndTraffic := by
  unfold Obligations.PortsAndTraffic
  refine ⟨fun s port => ⟨fun hup hhold => ?down, fun hdown => ?downAlready, fun hdown hfit hnone => ?up, fun hdown hfit hsome => ?back,
      fun h => ?upAlready, fun u hu => ⟨fun hdue => ?expires, fun hearly => ?holds⟩, fun u hu hdue hconns hframes => ?expiresIdle,
      fun e l hmode hauto hfirst => ?spare, fun e l hmode => ?noLanes, fun e v hs => ?control, fun hon hcak hsak hdue => ?rekey,
      fun hpn htime => ?keyHolds, fun name key sak k hcak hk => ?mka, fun name other key sak hcak hwrong => ?mkaWrong,
      fun frame prot hup hok => ?neighbour, fun frame prot t hup hbad => ?lldpRefused⟩,
    fun s port v => ⟨fun hdown => ?silent, fun f hup hf => ?heldFirst,
      fun hup hheld hlow => ⟨fun f hf => ?class7, fun f hnone hf => ?class6⟩, fun hs hfill => ?trfCtl, fun hs hfill => ?trfFill, fun hs => ?mrate⟩⟩
  case down =>
    have hexec : exec (.portDown port) s = .next (s.portHeld port.toNat) := congrArg _ (State.portLost_up hup hhold)
    have hport := State.port_setPort s port.toNat
    exact ⟨_, hexec, congrArg Port.up (hport _), congrArg Port.holdUntil (hport _), congrArg Port.downAt (hport _), congrArg Port.frames (hport _),
      State.fld_setFld _ _ _ (by omega)⟩
  case downAlready => exact congrArg _ (State.portLost_down hdown)
  case up => exact (execPortUp_fit hdown hfit).trans (by simp [hnone])
  case back =>
    have hsome' : ¬ (s.port port.toNat).holdUntil.isNone = true := by simpa [Option.isSome_iff_ne_none] using hsome
    have hport := State.port_setPort s port.toNat { s.port port.toNat with up := true, holdUntil := none }
    exact ⟨_, (execPortUp_fit hdown hfit).trans (congrArg _ (if_neg hsome')), congrArg Port.up hport, congrArg Port.holdUntil hport, rfl⟩
  case upAlready => exact execPortUp_stays h
  case expires => exact (execPortHoldExpiry_held hu).trans (congrArg _ (if_pos hdue))
  case holds => exact (execPortHoldExpiry_held hu).trans (congrArg _ (if_neg (Nat.not_le.mpr hearly)))
  case expiresIdle => exact (execPortHoldExpiry_held hu).trans (congrArg _ ((if_pos hdue).trans (State.holdOver_idle hconns hframes)))
  case spare =>
    have hview := (s.setEngine e.toNat ((s.engine e.toNat).lost l.toNat)).laneView_remapTo e (l := l.toNat) (l.isLt.trans (by decide))
    rw [State.engine_setEngine] at hview
    have hengine := congrArg Prod.fst hview
    have hspare := congrArg (fun x => x.2.1) hview
    have hremapped := congrArg (fun x => x.2.2.1) hview
    exact ⟨_, execLaneRemap_spare hmode hauto hfirst, hspare, hremapped, congrArg Engine.remapped hengine,
      (congrArg (fun x => x.failed.contains l.toNat) hengine).trans (Engine.contains_lost ..)⟩
  case noLanes => exact if_pos hmode
  case control =>
    have hexec : exec (.prtEngCtlWrite e v) s = .next (s.engCtlWrite e.toNat v) := congrArg _ (if_pos hs)
    obtain ⟨hmode, hauto, hspare⟩ := fld_engCtlOf (s.reg (rEng rPrtEngCtl e.toNat)) v (s.engModeWritten_lt e.toNat v)
    rw [← s.engCtl_engCtlWrite e v] at hmode hauto hspare
    exact ⟨_, hexec, hmode, hauto, hspare⟩
  case rekey =>
    obtain ⟨k, hexec⟩ := execSakRekey_due hon hcak hsak hdue
    have hport := State.port_setPort ({ s with fresh := s.fresh + 4 } : State) port.toNat
      { s.port port.toNat with sak := some k, sakAt := s.now, pn := 0 }
    exact ⟨_, hexec, congrArg Port.pn hport, congrArg Port.sakAt hport, congrArg (fun x => x.sak.isSome) hport, rfl, State.fld_bump _ _ _ (by omega)⟩
  case keyHolds => exact execSakRekey_early hpn htime
  case mka => exact execMkaFrame_named hcak hk
  case mkaWrong => exact execMkaFrame_wrong hcak hwrong
  case neighbour => exact (execLldpFrame_up hup).trans (by rw [hok]; rfl)
  case lldpRefused => exact (execLldpFrame_up hup).trans (by rw [hbad]; rfl)
  case silent => exact execPortFrameSelect_down hdown
  case heldFirst => exact execPortFrameSelect_held hup hf
  case class7 => exact execPortFrameSelect_high hup hheld hlow (by rw [hf]; rfl)
  case class6 => exact execPortFrameSelect_high hup hheld hlow (by rw [hnone]; exact hf)
  case trfCtl =>
    have hexec : exec (.trfCtlWrite v) s = .next (s.trfCtlWrite v) := congrArg _ (if_pos hs)
    obtain ⟨hmodes, hguard, hyellow⟩ := fld_trfCtlOf (s.reg rTrfCtl) v
    rw [if_neg (Nat.not_lt.mpr hfill)] at hyellow
    rw [← s.reg_trfCtlWrite] at hmodes hguard hyellow
    exact ⟨_, hexec, hmodes, hguard, hyellow, State.trfCtlWrite_same, State.trfCtlWrite_new⟩
  case trfFill =>
    have hexec : exec (.trfCtlWrite v) s = .next (s.trfCtlWrite v) := congrArg _ (if_pos hs)
    obtain ⟨-, -, hyellow⟩ := fld_trfCtlOf (s.reg rTrfCtl) v
    rw [if_pos hfill, ← s.reg_trfCtlWrite] at hyellow
    exact ⟨_, hexec, hyellow⟩
  case mrate =>
    have hexec : exec (.trfMrateWrite v) s = .next (s.mrateWrite v) := congrArg _ (if_pos hs)
    rw [hexec, s.mrateWrite_eq]
    rfl

end Sys2Proof.Machine
end

section
/-! A connection's timers and setup (R286 to R291, R299, R302 to R305; log entries 97, 98, 187 and 193). -/

namespace Sys2Proof.Machine

section
variable {s : State} {conn : BitVec 24}

/-! ### Timers (R289, R299, R302) -/

theorem execAckTimer_owed {u : Nat} (h : (s.conn conn.toNat).ackDue = some u) : execAckTimer conn s =
    .next (if u ≤ s.now then (s.sendAckPkt conn.toNat).renew conn.toNat else s) := by
  simp only [execAckTimer, h, State.passed, decide_eq_true_iff]
  split <;> rfl

theorem execAckTimer_none (h : (s.conn conn.toNat).ackDue = none) : execAckTimer conn s = .next s := by
  simp [execAckTimer, h]

/-- The timeout after one more retransmission: doubled up to 1 ms. -/
def Conn.slower (c : Conn) : Nat := max c.rto (min (2 * c.rto) (ticksMs 1))

theorem execRetransmitTimeout_due {u : Nat} (h : (s.conn conn.toNat).rtoAt = some u) (hdue : u ≤ s.now)
    (hheld : s.held (s.conn conn.toNat) = false) (hsent : (s.conn conn.toNat).sent ≠ []) : execRetransmitTimeout conn s =
      .next (((s.conn conn.toNat).sent.foldl (fun s p => s.resend conn.toNat p p.again) (s.setConn conn.toNat
        { s.conn conn.toNat with rto := (s.conn conn.toNat).slower, rtoAt := some (s.now + (s.conn conn.toNat).slower) })).renew conn.toNat) := by
  simp [execRetransmitTimeout, h, State.passed, hdue, hheld, hsent, Conn.slower]

theorem execRetransmitTimeout_stays {u : Nat} (h : (s.conn conn.toNat).rtoAt = some u)
    (hnot : s.now < u ∨ s.held (s.conn conn.toNat) = true ∨ (s.conn conn.toNat).sent = []) : execRetransmitTimeout conn s = .next s := by
  have hstay : (!s.passed u || s.held (s.conn conn.toNat) || (s.conn conn.toNat).sent.isEmpty) = true := by
    simpa [State.passed, or_assoc] using hnot
  simp only [execRetransmitTimeout, h, if_pos hstay]

theorem execConnLossExpiry_established {u : Nat} (hst : (s.conn conn.toNat).st = .established) (h : (s.conn conn.toNat).progressAt = some u)
    (hheld : s.held (s.conn conn.toNat) = false) (hsent : (s.conn conn.toNat).sent ≠ []) :
    execConnLossExpiry conn s = .next (if u + s.connLoss ≤ s.now then s.loseConn conn.toNat else s) := by
  have hlost : (s.passed (u + s.connLoss) && !s.held (s.conn conn.toNat) && !(s.conn conn.toNat).sent.isEmpty) = decide (u + s.connLoss ≤ s.now) := by
    simp [State.passed, hheld, hsent]
  simp only [execConnLossExpiry, hst, h, hlost, decide_eq_true_iff]
  split <;> rfl

theorem execConnLossExpiry_reopening (hst : (s.conn conn.toNat).st = .reopening) (hdown : (s.conn conn.toNat).down = false) :
    execConnLossExpiry conn s = .next (if (s.conn conn.toNat).lostAt + s.connLoss ≤ s.now then s.connDown conn.toNat else s) := by
  simp only [execConnLossExpiry, hst, hdown, State.passed, Bool.not_false, Bool.and_true, decide_eq_true_iff]
  split <;> rfl

theorem execTargetBusyRetry_put_off {q first due : Nat} (h : (s.conn conn.toNat).busy = some (q, first, due)) : execTargetBusyRetry conn s =
    .next (if due ≤ s.now then ((s.conn conn.toNat).sent.filter (fun x => !psnBefore x.psn q)).foldl (fun s x => s.resend conn.toNat x true)
        (s.setConn conn.toNat { s.conn conn.toNat with busy := some (q, first, s.now + 2 ^ 63) }) else s) := by
  simp only [execTargetBusyRetry, h, State.passed]
  by_cases hdue : due ≤ s.now <;> simp [hdue]

/-! ### Setup (R290, R296) -/

theorem execConnAcc_accepted {m : ConnSetup} {key : BitVec 256} (hkey : s.keySource m.kind m.tenant m.pkg = some key) (hok : m.verifies = true)
    (hfits : (s.conn m.peerConn).fits m = true) (hhears : s.hears m.pkg = true)
    (hst : (s.conn m.peerConn).st = .opening ∨ (s.conn m.peerConn).st = .reopening) :
    execConnAcc m s = .next (s.establish m.peerConn (s.conn m.peerConn).na m.nonce key) := by
  rcases hst with hst | hst <;> simp [execConnAcc, hkey, hok, hfits, hhears, hst]

theorem execConnAcc_established {m : ConnSetup} (hst : (s.conn m.peerConn).st = .established) : execConnAcc m s = .next s := by
  unfold execConnAcc
  dsimp only
  split
  · rfl
  · exact if_pos (by simp [hst])

theorem execConnReq_answered {m : ConnSetup} {key : BitVec 256} (hkey : s.keySource m.kind m.tenant m.pkg = some key) (hok : m.verifies = true)
    (hfits : (s.conn m.peerConn).fits m = true) (hhears : s.hears m.pkg = true) (hst : (s.conn m.peerConn).st ≠ .established) :
    execConnReq m s = .next (((({ s with fresh := s.fresh + 2 } : State).setConn m.peerConn (s.conn m.peerConn).clear).establish
      m.peerConn m.nonce s.nonce key).send (.connAcc m.pkg ((s.conn m.peerConn).setup m.peerConn s.nonce))) := by
  simp [execConnReq, hkey, hok, hfits, hhears, hst]

/-- A message of setup that does not verify or does not fit is ignored. -/
theorem execConnSetup_ignored {m : ConnSetup} (h : m.verifies = false ∨ (s.conn m.peerConn).fits m = false) :
    execConnReq m s = .next s ∧ execConnAcc m s = .next s := by
  have hbad : (!m.verifies || !(s.conn m.peerConn).fits m) = true := by simpa using h
  constructor
  · unfold execConnReq
    dsimp only
    split
    · rfl
    · exact if_pos (by rw [hbad]; rfl)
  · unfold execConnAcc
    dsimp only
    split
    · rfl
    · exact if_pos (by rw [hbad]; rfl)

theorem execConnReqRetry_opening (h : (s.conn conn.toNat).askedAt + ticksUs 100 ≤ s.now) (hst : (s.conn conn.toNat).st = .opening) :
    execConnReqRetry conn s = .next (if (s.conn conn.toNat).retries < 3 then
        (s.setConn conn.toNat { s.conn conn.toNat with retries := (s.conn conn.toNat).retries + 1 }).askConn conn.toNat
      else s.closeConn conn.toNat stConnDown) := by
  rw [execConnReqRetry, if_neg (by simpa [State.passed] using h), hst]
  dsimp only
  rw [← hst]
  exact (apply_ite Host.Outcome.next ..).symm

theorem execConnReqRetry_reopening (h : (s.conn conn.toNat).askedAt + ticksUs 100 ≤ s.now) (hst : (s.conn conn.toNat).st = .reopening) :
    execConnReqRetry conn s = .next (s.askConn conn.toNat) := by
  rw [execConnReqRetry, if_neg (by simpa [State.passed] using h), hst]

theorem execConnReqRetry_early (h : s.now < (s.conn conn.toNat).askedAt + ticksUs 100) : execConnReqRetry conn s = .next s :=
  if_pos (by simpa [State.passed] using h)

theorem execConnCloseMsg_open (hst : (s.conn conn.toNat).st ≠ .closed) (hhears : s.hears (s.conn conn.toNat).peerPkg = true) :
    execConnCloseMsg conn s = .next (s.closeConn conn.toNat stWrCancelled) := by
  simp [execConnCloseMsg, hst, hhears]

theorem execConnCloseMsg_closed (hst : (s.conn conn.toNat).st = .closed) : execConnCloseMsg conn s = .next s := by
  simp [execConnCloseMsg, hst]

/-! ### Contexts (R291) -/

theorem State.makeLive_room {n : Nat} (hlive : (s.conn n).live = false) (hroom : s.liveCount < 4096) :
    s.makeLive n = s.setConn n { s.conn n with live := true, loading := false, used := s.now } := by
  simp [State.makeLive, hlive, hroom]

theorem execContextLoadDone_room (hst : (s.conn conn.toNat).st ≠ .closed) (hlive : (s.conn conn.toNat).live = false)
    (hload : (s.conn conn.toNat).loading = true) (hroom : s.liveCount < 4096) (hnone : s.net.waiting = []) : execContextLoadDone conn s =
      .next (s.setConn conn.toNat { s.conn conn.toNat with live := true, loading := false, used := s.now }) := by
  have hnotReady : ¬ (decide ((s.conn conn.toNat).st = .closed) || (s.conn conn.toNat).live || !(s.conn conn.toNat).loading) = true := by
    simp [hst, hlive, hload]
  rw [execContextLoadDone, if_neg hnotReady, State.makeLive_room hlive hroom]
  generalize ht : s.setConn conn.toNat { s.conn conn.toNat with live := true, loading := false, used := s.now } = t
  have hnow : (t.conn conn.toNat).live = true := by rw [← ht, State.conn_setConn]
  have hwaiting : t.net.waiting = [] := by rw [← ht]; exact hnone
  have hsame : ({ t with net := { t.net with waiting := [] } } : State) = t := by rw [← hwaiting]
  simp [hnow, hwaiting, hsame]

end

end Sys2Proof.Machine
end

section
/-! The doorbells of a connection and the start of its work requests (R279, R283, R292 to R295, R328, R329; log entry 198). -/

namespace Sys2Proof.Machine

/-! ### Doorbells (R292, R293, R328, R329) -/

section
variable {s : State} {b : BitVec 6} {conn : BitVec 24} {index : BitVec 16}

/-- An index that is out of range or moves too far is one that is not taken. -/
theorem notTaken_iff {i n : Nat} {m : Bool} : n ≤ i ∨ m = false ↔ ¬ (i < n ∧ m = true) := by
  cases m <;> simp

/-- Outside SERVICE a connection's doorbells are turned away. -/
theorem execConnDb_turnedAway (h : s.inService = false) : execConnDbSend b conn index s = .next s.turnedAway ∧
    execConnDbRecv b conn index s = .next s.turnedAway ∧ execConnDbCompletion b conn index s = .next s.turnedAway := by
  have hno : (!s.inService) = true := by rw [h]; rfl
  exact ⟨if_pos hno, if_pos hno, if_pos hno⟩

theorem execConnDb_notOwn (hs : s.inService = true) (h : s.ownConn b.toNat conn.toNat = none) : execConnDbSend b conn index s = .next s.badDb ∧
    execConnDbRecv b conn index s = .next s.badDb ∧ execConnDbCompletion b conn index s = .next s.badDb := by
  simp [execConnDbSend, execConnDbRecv, execConnDbCompletion, hs, h]

/-- The work requests between a send queue's tail and its new tail. -/
def State.rung (s : State) (c : Conn) (i : Nat) : List WR :=
  (List.range ((i + 2 ^ c.log2s - c.sqTail) % 2 ^ c.log2s)).map (fun k => wrOf (memReadN s.dram (c.sq + 64 * ((c.sqTail + k) % 2 ^ c.log2s)) 64))

theorem execConnDbSend_own {c : Conn} (hs : s.inService = true) (h : s.ownConn b.toNat conn.toNat = some c) : execConnDbSend b conn index s =
    .next (if index.toNat < 2 ^ c.log2s ∧ moves c.log2s c.sqTail index.toNat ((c.sqHead + 2 ^ c.log2s - 1) % 2 ^ c.log2s) = true
      then (s.setConn conn.toNat { c with sqTail := index.toNat, queue := c.queue ++ s.rung c index.toNat }).touch conn.toNat else s.badDb) := by
  simp only [execConnDbSend, hs, h, Bool.not_true, Bool.false_eq_true, if_false, Bool.not_eq_true']
  by_cases hok : index.toNat < 2 ^ c.log2s ∧ moves c.log2s c.sqTail index.toNat ((c.sqHead + 2 ^ c.log2s - 1) % 2 ^ c.log2s) = true
  · rw [if_pos hok, if_neg fun hbad => notTaken_iff.mp hbad hok, State.rung]
  · rw [if_neg hok, if_pos (notTaken_iff.mpr hok)]

theorem execConnDbRecv_own {c : Conn} (hs : s.inService = true) (h : s.ownConn b.toNat conn.toNat = some c) : execConnDbRecv b conn index s =
    .next (if index.toNat < 2 ^ c.log2r ∧ moves c.log2r c.rqHead index.toNat c.rqTail = true
      then s.setConn conn.toNat { c with rqHead := index.toNat } else s.badDb) := by
  simp only [execConnDbRecv, hs, h, Bool.not_true, Bool.false_eq_true, if_false, Bool.not_eq_true']
  by_cases hok : index.toNat < 2 ^ c.log2r ∧ moves c.log2r c.rqHead index.toNat c.rqTail = true
  · rw [if_pos hok, if_neg fun hbad => notTaken_iff.mp hbad hok]
  · rw [if_neg hok, if_pos (notTaken_iff.mpr hok)]

theorem execConnDbCompletion_own {c : Conn} (hs : s.inService = true) (h : s.ownConn b.toNat conn.toNat = some c) :
    execConnDbCompletion b conn index s =
      .next (if index.toNat < 2 ^ c.log2r ∧ moves c.log2r c.cqHead index.toNat c.cqTail = true
        then (s.setConn conn.toNat { c with cqHead := index.toNat }).connDrain conn.toNat c.cqBack.length else s.badDb) := by
  simp only [execConnDbCompletion, hs, h, Bool.not_true, Bool.false_eq_true, if_false, Bool.not_eq_true']
  by_cases hok : index.toNat < 2 ^ c.log2r ∧ moves c.log2r c.cqHead index.toNat c.cqTail = true
  · rw [if_pos hok, if_neg fun hbad => notTaken_iff.mp hbad hok]
  · rw [if_neg hok, if_pos (notTaken_iff.mpr hok)]

end

/-! ### WR_START (R292, R294, R295, R305) -/

section
variable {s : State} {conn : BitVec 24} {w : WR} {ws : List WR}

theorem execWrStart_down (hq : (s.conn conn.toNat).queue = w :: ws) (h : (s.conn conn.toNat).down = true) :
    execWrStart conn s = .next (s.failFirst conn.toNat stConnDown) := by
  simp [execWrStart, hq, h]

theorem execWrStart_mayNot (hq : (s.conn conn.toNat).queue = w :: ws) (hup : (s.conn conn.toNat).down = false)
    (h : s.mayStart (s.conn conn.toNat) = false) : execWrStart conn s = .next s := by
  simp [execWrStart, hq, hup, h]

/-- The first request of a connection that may start requests: it waits for its tag, then for its chamber, then goes. -/
theorem execWrStart_first (hq : (s.conn conn.toNat).queue = w :: ws) (hup : (s.conn conn.toNat).down = false)
    (hmay : s.mayStart (s.conn conn.toNat) = true) (hlive : (s.conn conn.toNat).live = true) : execWrStart conn s =
      .next (if w.disabled then
          (if (s.conn conn.toNat).latch.contains w.tag then s.setConn conn.toNat { s.conn conn.toNat with
            latch := (s.conn conn.toNat).latch.erase w.tag, queue := { w with disabled := false } :: ws } else s)
        else if w.chWait then s.wrWait conn.toNat w else s.wrGo conn.toNat w) := by
  simp only [execWrStart, hq, hup, hmay, hlive, Bool.not_true, Bool.false_eq_true, if_false]
  by_cases hd : w.disabled = true
  · simp only [if_pos hd]; split <;> rfl
  · simp only [if_neg hd]; split <;> rfl

theorem State.wrWait_refused {n e : Nat} (h : s.chRefuse (s.conn n).basin w.wch = some e) : s.wrWait n w = s.failFirst n e := by
  simp [State.wrWait, h]

theorem State.wrWait_reached {n : Nat} (h : s.chRefuse (s.conn n).basin w.wch = none)
    (hr : reached (s.chamber w.wch).counter (BitVec.ofNat 32 w.wcount) = true) : s.wrWait n w = s.wake (.wr n) true := by
  simp only [State.wrWait, h, if_pos hr]

theorem State.wrGo_refused {n : Nat} (h : s.wrRefuse n w ≠ stOk) : s.wrGo n w = s.failFirst n (s.wrRefuse n w) := if_pos h

/-- A request to another part goes out under the next number once there is a response place. -/
theorem State.wrGo_peer {n : Nat} (hq : (s.conn n).queue = w :: ws) (hok : s.wrRefuse n w = stOk) (hplaces : s.places < 65536)
    (hpeer : yPkg w.raddr ≠ selfPkg) : ∃ id t, s.popWr n = some (id, w, t) ∧ s.wrGo n w = (t.sendWr n id w).renew n := by
  have hpop : s.popWr n = some ((s.conn n).nextWr, w, s.setConn n { s.conn n with
      queue := ws, nextWr := (s.conn n).nextWr + 1,
      sqHead := if w.core.isNone then ((s.conn n).sqHead + 1) % 2 ^ (s.conn n).log2s else (s.conn n).sqHead, waitUntil := none }) := by
    simp [State.popWr, hq]
  refine ⟨_, _, hpop, ?_⟩
  rw [State.wrGo, if_neg (not_not_intro hok), if_neg (by simp [hplaces]), hpop]
  exact if_neg fun ⟨_, _, hself⟩ => hpeer hself

end

/-- Settles O40: a connection's timers, the messages of its setup and its context, then its doorbells and the first of its requests. -/
theorem connectionTimersAndDoorbells : Obligations.ConnectionTimersAndDoorbells := by
  unfold Obligations.ConnectionTimersAndDoorbells
  refine ⟨fun s conn => ⟨fun u hu => ⟨fun hdue => ?ack, fun hearly => ?ackEarly⟩, fun hnone => ?noAck, fun u hu hdue hheld hsent => ?resend,
      fun u hu hnot => ?noResend, fun u hst hu hheld hsent => ⟨fun hdue => ?lost, fun hearly => ?going⟩,
      fun hst hdown => ⟨fun hdue => ?down, fun hearly => ?reopening⟩, fun q first due hbusy => ⟨fun hearly => ?busy, fun hdue => ?busyOver⟩,
      fun m key hn hkey hok hfits hhears => ⟨fun hst => ?accepted, fun hst => ?twice, fun hst => ?request⟩, fun m hn hbad => ?setupIgnored,
      fun hdue => ⟨fun hst hfew => ?askAgain, fun hst hmany => ?giveUp, fun hst => ?askOn⟩, fun hearly => ?askEarly,
      fun hst hhears => ?closeMsg, fun hst hhears => ?closes, fun hst => ?closed, fun hst hlive hload hroom hnone => ?loaded⟩,
    fun s b conn index => ⟨fun hs => ?turnedAway, fun hs hnone => ?notOwn,
      fun c hs hc => ⟨fun hi hm => ?send, fun hbad => ?badSend, fun hi hm => ?recv, fun hbad => ?badRecv, fun hi hm => ?completion,
        fun hbad => ?badCompletion⟩,
      fun w ws hq => ⟨fun hdown => ?wrDown, fun hup hmay => ?wrMayNot, fun hup hmay hlive => ⟨fun hd hl => ?wrTag, fun hd hl => ?wrEnabled,
        fun hd hch e he => ?wrNoChamber, fun hd hch he hr => ?wrReached, fun hd hch he => ?wrRefused, fun hd hch he hp hy => ?wrGoes⟩⟩⟩⟩
  case ack => exact (execAckTimer_owed hu).trans (congrArg _ (if_pos hdue))
  case ackEarly => exact (execAckTimer_owed hu).trans (congrArg _ (if_neg (Nat.not_le.mpr hearly)))
  case noAck => exact execAckTimer_none hnone
  case resend => exact execRetransmitTimeout_due hu hdue hheld hsent
  case noResend => exact execRetransmitTimeout_stays hu hnot
  case lost => exact (execConnLossExpiry_established hst hu hheld hsent).trans (congrArg _ (if_pos hdue))
  case going => exact (execConnLossExpiry_established hst hu hheld hsent).trans (congrArg _ (if_neg (Nat.not_le.mpr hearly)))
  case down => exact (execConnLossExpiry_reopening hst hdown).trans (congrArg _ (if_pos hdue))
  case reopening => exact (execConnLossExpiry_reopening hst hdown).trans (congrArg _ (if_neg (Nat.not_le.mpr hearly)))
  case busy => exact (execTargetBusyRetry_put_off hbusy).trans (congrArg _ (if_neg (Nat.not_le.mpr hearly)))
  case busyOver => exact (execTargetBusyRetry_put_off hbusy).trans (congrArg _ (if_pos hdue))
  case accepted => rw [← hn] at hfits hst ⊢; exact execConnAcc_accepted hkey hok hfits hhears hst
  case twice => rw [← hn] at hst; exact execConnAcc_established hst
  case request => rw [← hn] at hfits hst ⊢; exact execConnReq_answered hkey hok hfits hhears hst
  case setupIgnored => rw [← hn] at hbad; exact execConnSetup_ignored hbad
  case askAgain => exact (execConnReqRetry_opening hdue hst).trans (congrArg _ (if_pos hfew))
  case giveUp => exact (execConnReqRetry_opening hdue hst).trans (congrArg _ (if_neg (Nat.not_lt.mpr hmany)))
  case askOn => exact execConnReqRetry_reopening hdue hst
  case askEarly => exact execConnReqRetry_early hearly
  case closeMsg => exact execConnCloseMsg_open hst hhears
  case closes => exact ⟨_, execConnCloseMsg_open hst hhears, congrArg Conn.st (State.conn_closeConn ..)⟩
  case closed => exact execConnCloseMsg_closed hst
  case loaded => exact execContextLoadDone_room hst hlive hload hroom hnone
  case turnedAway => exact execConnDb_turnedAway hs
  case notOwn => exact execConnDb_notOwn hs hnone
  case send => exact (execConnDbSend_own hs hc).trans (congrArg _ (if_pos ⟨hi, hm⟩))
  case badSend => exact (execConnDbSend_own hs hc).trans (congrArg _ (if_neg (notTaken_iff.mp hbad)))
  case recv => exact (execConnDbRecv_own hs hc).trans (congrArg _ (if_pos ⟨hi, hm⟩))
  case badRecv => exact (execConnDbRecv_own hs hc).trans (congrArg _ (if_neg (notTaken_iff.mp hbad)))
  case completion => exact (execConnDbCompletion_own hs hc).trans (congrArg _ (if_pos ⟨hi, hm⟩))
  case badCompletion =>
    exact (execConnDbCompletion_own hs hc).trans (congrArg _ (if_neg (notTaken_iff.mp hbad)))
  case wrDown => exact execWrStart_down hq hdown
  case wrMayNot => exact execWrStart_mayNot hq hup hmay
  all_goals rw [exec_wrStart, execWrStart_first hq hup hmay hlive]
  case wrTag => rw [if_pos hd, if_neg (Bool.eq_false_iff.mp hl)]
  case wrEnabled => rw [if_pos hd, if_pos hl]
  all_goals rw [if_neg (by simp [hd])]
  case wrNoChamber => rw [if_pos hch, State.wrWait_refused he]
  case wrReached => rw [if_pos hch, State.wrWait_reached he hr]
  all_goals rw [if_neg (by simp [hch])]
  case wrRefused => rw [State.wrGo_refused he]
  case wrGoes =>
    obtain ⟨id, t, hpop, hgo⟩ := State.wrGo_peer hq he hp hy
    exact ⟨id, t, hpop, congrArg _ hgo⟩

end Sys2Proof.Machine
end

section
/-! Packets that arrive: the port's checks, contexts, order and acknowledgement (R281, R286, R289, R291, R297, R302, R315; log entries 184,
187 to 189). -/

namespace Sys2Proof.Machine

@[simp] theorem State.setConn_setConn (s : State) (n : Nat) (c k : Conn) : (s.setConn n c).setConn n k = s.setConn n k := by
  simp [State.setConn]

/-! ### The port's checks (R297) -/

section
variable {s : State} {i : Instr} {h : Pkt}

/-- Every command of a packet is the packet's arrival. -/
theorem exec_of_pktOf (hp : pktOf i = some h) : exec i s = .next (s.packetIn i) := by
  unfold pktOf at hp
  split at hp
  case h_12 => cases hp
  all_goals rfl

theorem State.packetIn_headerBad {t : State} (hp : pktOf i = some h) (hbad : s.headerBad h i = some t) : s.packetIn i = t := by
  simp only [State.packetIn, hp, hbad]

theorem State.packetIn_notEstablished (hp : pktOf i = some h) (hok : s.headerBad h i = none) (hst : (s.conn h.dconn).st ≠ .established) :
    s.packetIn i = s := by
  simp only [State.packetIn, hp, hok]
  exact if_pos (.inl hst)

/-- A packet of an established connection goes on where the context is live, and waits for it where it is not. -/
theorem State.packetIn_established (hp : pktOf i = some h) (hok : s.headerBad h i = none) (hst : (s.conn h.dconn).st = .established)
    (hhears : s.hears (s.conn h.dconn).peerPkg = true) (hrun : s.boot.inReset = false) : s.packetIn i =
      if (s.conn h.dconn).live then s.livePkt h.dconn h i
      else ({ s with net := { s.net with waiting := s.net.waiting ++ [(h.dconn, i)] } } : State).touch h.dconn := by
  simp only [State.packetIn, hp, hok]
  exact if_neg (by simp [hst, hhears, hrun])

theorem State.touch_notLive {n : Nat} (hlive : (s.conn n).live = false) : s.touch n = s.setConn n { s.conn n with loading := true } := by
  simp [State.touch, hlive]

/-! ### Steps behind the context (R297, R315) -/

theorem State.livePkt_retired {n : Nat} (hkind : (s.conn n).kind = 0) (hno : s.active (s.conn n).tenant = false) :
    s.livePkt n h i = s.retiredPkt n h i :=
  if_pos ⟨hkind, by simp [hno]⟩

theorem State.livePkt_badTag {n : Nat} (hkind : (s.conn n).kind ≠ 0) (htag : h.tagOk = false) : s.livePkt n h i = s.bump rTrnErr 0 16 1 :=
  (if_neg fun ⟨hzero, _⟩ => hkind hzero).trans (if_pos (by simp [htag]))

/-- The meter's ruling on a packet; one that is not metered goes on. -/
def State.gauged (s : State) (h : Pkt) (i : Instr) : State × Bool :=
  if (s.conn h.dconn).kind = 0 ∧ vcOf i = 0 then (s.touch h.dconn).metered h.dconn h else (s.touch h.dconn, true)

theorem State.gauged_fst (s : State) (h : Pkt) (i : Instr) : (s.gauged h i).1 = s.admitted h i := apply_ite Prod.fst ..

theorem Arrives.gauged_snd (ha : Arrives s h i) : (s.gauged h i).2 = true := by
  unfold State.gauged
  split
  case isTrue hmeter => exact ha.meter hmeter.1 hmeter.2
  case isFalse => rfl

theorem Arrives.not_retired (ha : Arrives s h i) : ¬ ((s.conn h.dconn).kind = 0 ∧ (!s.active (s.conn h.dconn).tenant) = true) :=
  fun ⟨hkind, hno⟩ => by simp [ha.tenant hkind] at hno

theorem Arrives.exec_livePkt (ha : Arrives s h i) : exec i s = .next (s.livePkt h.dconn h i) := by
  rw [exec_of_pktOf ha.packet, State.packetIn_established ha.packet ha.header ha.est ha.hears ha.running, if_pos ha.live]

/-- An ACK is not metered: it rules on what was sent. -/
theorem Arrives.exec_ack {a : AckExt} (ha : Arrives s h (.ack h a)) :
    exec (.ack h a) s = .next (((s.admitted h (.ack h a)).takeAck h.dconn h a).renew h.dconn) := by
  have hadmitted : s.admitted h (.ack h a) = s.touch h.dconn := if_neg fun ⟨_, hvc⟩ => absurd hvc (by simp [vcOf])
  rw [ha.exec_livePkt, State.livePkt, if_neg ha.not_retired, if_neg (by simp [ha.tag]), hadmitted]
  simp [vcOf]

/-- Any other packet acknowledges what was sent and then takes its place in the order. -/
theorem Arrives.exec_sequenced (ha : Arrives s h i) (hvc : vcOf i ≠ 3) :
    exec i s = .next (((s.acksTaken h i).sequenced h.dconn h i).renew h.dconn) := by
  have hpasses : ¬ (!(s.gauged h i).2) = true := by simp [ha.gauged_snd]
  rw [ha.exec_livePkt, State.livePkt, if_neg ha.not_retired, if_neg (by simp [ha.tag])]
  change Host.Outcome.next (if (!(s.gauged h i).2) = true then _ else _) = _
  rw [if_neg hpasses]
  split
  case h_1 => exact absurd rfl hvc
  case h_2 => rw [State.acksTaken, ← State.gauged_fst]; rfl

end

/-! ### Order and duplicates (R286, R289) -/

section
variable {u : State} {n : Nat} {h : Pkt} {i : Instr}

theorem psnAhead_self (a : Nat) : psnAhead a a = 0 := by simp [psnAhead]

/-- A packet before the next one is a duplicate: it is acknowledged and no more. -/
theorem State.sequenced_old (hnil : (u.conn n).reorder = []) (hold : 2 ^ 31 ≤ psnAhead (u.conn n).rxPsn h.psn) :
    u.sequenced n h i = u.sendAckPkt n := by
  rw [State.sequenced, if_pos (.inl hold), hnil]
  simp [State.drainIn, hnil]

theorem State.sequenced_far (hnew : alGet (u.conn n).reorder h.psn = none) (hfar : 4096 ≤ psnAhead (u.conn n).rxPsn h.psn)
    (hahead : psnAhead (u.conn n).rxPsn h.psn < 2 ^ 31) : u.sequenced n h i = u :=
  (if_neg (by simpa [hnew] using hahead)).trans (if_pos hfar)

/-- The one arrival that is next in order taken from the reorder store. -/
theorem State.drainIn_one (hnext : alGet (u.conn n).reorder (u.conn n).rxPsn = some i) (hgo : u.stalled i = false) (hroom : u.noRoom n i = false) :
    u.drainIn n 1 = (u.setConn n { u.conn n with
      reorder := alDel (u.conn n).reorder (u.conn n).rxPsn, rxPsn := ((u.conn n).rxPsn + 1) % 2 ^ 32 }).deliver n i := by
  simp only [State.drainIn, hnext, hgo, hroom, Bool.false_eq_true, if_false]

theorem State.stalled_setConn (u : State) (n : Nat) (c : Conn) (i : Instr) : (u.setConn n c).stalled i = u.stalled i := rfl

theorem State.noRoom_setConn {c : Conn} (hfull : c.rqFull = (u.conn n).rqFull) (i : Instr) : (u.setConn n c).noRoom n i = u.noRoom n i := by
  unfold State.noRoom
  rw [State.conn_setConn, hfull]

/-- The connection with an arrival in its reorder store. -/
def State.arrived (u : State) (n : Nat) (h : Pkt) (i : Instr) : Conn :=
  { u.conn n with reorder := alPut (u.conn n).reorder h.psn i, owd := u.delayOf h, ece := (u.conn n).ece || h.marked }

/-- The connection once the packet that is next in order is taken. -/
def State.stepped (u : State) (n : Nat) (h : Pkt) : Conn :=
  { u.conn n with owd := u.delayOf h, ece := (u.conn n).ece || h.marked, rxPsn := ((u.conn n).rxPsn + 1) % 2 ^ 32 }

theorem State.sequenced_next (hpsn : h.psn = (u.conn n).rxPsn) (hnil : (u.conn n).reorder = [])
    (hpool : vcOf i = 0 → u.poolFill + (payloadOf i).length ≤ requestPool) (hroom : u.noRoom n i = false) (hgo : u.stalled i = false) :
    u.sequenced n h i = ((u.setConn n (u.stepped n h)).deliver n i).ackAfter n h.ackReq := by
  have hahead : psnAhead (u.conn n).rxPsn h.psn = 0 := by rw [hpsn, psnAhead_self]
  have hfits : ¬ (vcOf i = 0 ∧ requestPool < u.poolFill + (payloadOf i).length) := fun ⟨hvc, hover⟩ => by have := hpool hvc; omega
  have hlen : (u.conn n).reorder.length + 1 = 1 := by rw [hnil]; rfl
  have harrived : u.arrived n h i = { u.stepped n h with reorder := [((u.conn n).rxPsn, i)], rxPsn := (u.conn n).rxPsn } := by
    rw [State.arrived, hnil, hpsn]; rfl
  have hseq : u.sequenced n h i = ((u.setConn n (u.arrived n h i)).drainIn n 1).ackAfter n h.ackReq := by
    rw [State.sequenced]
    dsimp only
    rw [hahead, if_neg (by simp [hnil]), if_neg (by omega), if_neg hfits, if_neg (by simp [hroom]), hlen]
    rfl
  have hdrain := State.drainIn_one (u := u.setConn n (u.arrived n h i)) (n := n) (i := i) (by simp [harrived, alGet]) hgo
    ((State.noRoom_setConn (by rw [harrived]; rfl) i).trans hroom)
  rw [hseq, hdrain, State.conn_setConn, State.setConn_setConn, harrived]
  simp [alDel, State.stepped, hnil]

end

/-- Settles O41: a packet taken, by its place in the order; an ACK; then each check of the port that a packet fails. -/
theorem packetsTaken : Obligations.PacketsTaken := by
  unfold Obligations.PacketsTaken
  refine fun s i h => ⟨fun ha hvc hpsn _ hnil hpool hroom hgo => ?next, fun ha hvc hnil hold => ?old, fun ha hvc hnew hfar hahead => ?far,
    fun a hi ha => ?ack, fun t hp hbad => ?bad, fun hp hok hst => ?closed, fun hp hok hst hhears hrun hlive => ?waits,
    fun hp hok hst hhears hrun hlive => ⟨fun hkind hno => ?retired, fun hkind htag => ?badTag⟩⟩
  case next => rw [ha.exec_sequenced hvc, State.sequenced_next hpsn hnil hpool hroom hgo]; rfl
  case old => rw [ha.exec_sequenced hvc, State.sequenced_old hnil hold]
  case far => rw [ha.exec_sequenced hvc, State.sequenced_far hnew hfar hahead]
  case ack => subst hi; exact ha.exec_ack
  case bad => rw [exec_of_pktOf hp, State.packetIn_headerBad hp hbad]
  case closed => rw [exec_of_pktOf hp, State.packetIn_notEstablished hp hok hst]
  case waits =>
    have hloading := State.touch_notLive (s := { s with net := { s.net with waiting := s.net.waiting ++ [(h.dconn, i)] } }) (n := h.dconn) hlive
    rw [exec_of_pktOf hp, State.packetIn_established hp hok hst hhears hrun, if_neg (by simp [hlive]), hloading]
    exact ⟨_, rfl, rfl, congrArg Conn.loading (State.conn_setConn ..)⟩
  all_goals rw [exec_of_pktOf hp, State.packetIn_established hp hok hst hhears hrun, if_pos hlive]
  case retired => rw [State.livePkt_retired hkind hno]
  case badTag => rw [State.livePkt_badTag hkind htag]

end Sys2Proof.Machine
end

section
/-! What requests do at their target and answers at their requester (R283 to R288, R293, R295, R302, R303; log entries 191, 193, 195, 196). -/

namespace Sys2Proof.Machine

/-! ### What a ruling returned leaves (R289, R302) -/

theorem State.conn_enqueue (s : State) (n : Nat) (c : Conn) (vc op psn len m : Nat) : (s.enqueue n c vc op psn len).conn m = s.conn m := by
  unfold State.enqueue; dsimp only; split <;> rfl

theorem State.mooring_enqueue (s : State) (n : Nat) (c : Conn) (vc op psn len i : Nat) : (s.enqueue n c vc op psn len).mooring i = s.mooring i := by
  unfold State.enqueue; dsimp only; split <;> rfl

theorem State.inMsg_sendAckPkt (s : State) (n : Nat) : ((s.sendAckPkt n).conn n).inMsg = (s.conn n).inMsg := by
  unfold State.sendAckPkt
  dsimp only
  rw [State.conn_congr (State.net_of_send ..), State.conn_enqueue, State.conn_setConn]

theorem State.mooring_sendAckPkt (s : State) (n i : Nat) : (s.sendAckPkt n).mooring i = s.mooring i := by
  unfold State.sendAckPkt
  dsimp only
  rw [State.mooring_congr (State.net_of_send ..), State.mooring_enqueue]
  rfl

theorem State.inMsg_rule (s : State) (n psn status : Nat) : ((s.rule n psn status).conn n).inMsg = (s.conn n).inMsg := by
  unfold State.rule
  dsimp only
  rw [State.conn_setConn]
  split
  · exact s.inMsg_sendAckPkt n
  · rfl

theorem State.mooring_rule (s : State) (n psn status i : Nat) : (s.rule n psn status).mooring i = s.mooring i := by
  unfold State.rule
  dsimp only
  split
  · exact s.mooring_sendAckPkt n i
  · rfl

/-! ### Rulings by a mooring (R302) -/

/-- A message a mooring accepts lies in that mooring, which is VALID. -/
theorem State.mooring_of_moorRule {s : State} {n op a mkey mgen len : Nat} {notify : Bool} (h : s.moorRule n op a mkey mgen len notify = stOk) :
    ∃ i, s.mooringOf mkey = some i ∧ (s.mooring i).st = 1 ∧ (s.mooring i).base ≤ a ∧ a + len ≤ (s.mooring i).base + (s.mooring i).len := by
  unfold State.moorRule at h
  split at h
  case h_1 => exact absurd h (by decide)
  case h_2 i hi =>
    dsimp only at h
    generalize (if op = 1 then 0 else if op = 3 then 1 else 2) = right at h
    split at h
    case isTrue => exact absurd h (by decide)
    case isFalse hok =>
      split at h
      case isTrue => exact absurd h (by decide)
      case isFalse hvalid =>
        simp only [not_or, not_lt, not_not] at hok hvalid
        obtain ⟨-, -, -, hbase, hend⟩ := hok
        exact ⟨i, hi, hvalid.2, hbase, hend⟩

theorem State.rwRule_dram {s : State} {n op : Nat} {a : W64} {mkey mgen len : Nat} {notify : Bool} (hspace : ySpace a = 0)
    (h : s.rwRule n op a mkey mgen len notify = stOk) : s.moorRule n op (yOff a) mkey mgen len notify = stOk := by
  unfold State.rwRule at h
  dsimp only at h
  split at h
  case isTrue => exact absurd h (by decide)
  case isFalse => rwa [hspace] at h

/-! ### WRITE (R284, R302, R303) -/

theorem State.moorLeave_valid {s : State} {i : Nat} (h : (s.mooring i).st = 1) :
    s.moorLeave i = s.setMooring i { s.mooring i with inflight := (s.mooring i).inflight - 1 } := by
  have hst : ((s.setMooring i { s.mooring i with inflight := (s.mooring i).inflight - 1 }).mooring i).st = 1 := by rw [State.mooring_setMooring, h]
  rw [State.moorLeave, State.moorSettle, if_neg fun ⟨htwo, _⟩ => absurd (hst.symm.trans htwo) (by decide)]

/-- A message of a VALID mooring ends: it leaves the mooring's count and no memory. -/
theorem State.dram_endWrite_valid {s : State} {n i : Nat} {h : Pkt} {m : InMsg} (hen : h.en = false) (hst : m.status = stOk)
    (hmoor : m.moor = some i) (hquiet : m.notify = none) (hvalid : (s.mooring i).st = 1) : (s.endWrite n h m).dram = s.dram := by
  have hleave := State.moorLeave_valid (s := s.setConn n { s.conn n with inMsg := none }) (i := i) hvalid
  simp only [State.endWrite, hst, ne_eq, not_true_eq_false, if_false, hmoor, hquiet, State.tagged, hen, Bool.false_eq_true, hleave]
  rfl

theorem State.dram_endWrite_refused {s : State} {n : Nat} {h : Pkt} {m : InMsg} (hst : m.status ≠ stOk) : (s.endWrite n h m).dram = s.dram := by
  simp [State.endWrite, hst]

section
variable (s : State) (n : Nat) (h : Pkt) (r : RmaExt)

/-- The ruling on a WRITE at its first packet. -/
def State.writeRule : Nat := s.rwRule n 3 r.addr r.mkey r.mgen r.msgLen r.notify

/-- The mooring that takes a WRITE. -/
def State.writeMooring : Option Nat := if ySpace r.addr = 0 ∧ s.writeRule n r = stOk then s.mooringOf r.mkey else none

/-- The message that the first packet of a WRITE begins. -/
def State.writeMsg : InMsg :=
  { psn := h.psn, status := s.writeRule n r, moor := s.writeMooring n r, len := r.msgLen,
    notify := if r.notify then some (r.opnd0.toNat % 2 ^ 32) else none }

/-- The state with that message begun in its mooring. -/
def State.writeBegun : State :=
  let t := match s.writeMooring n r with
    | some k => s.setMooring k { s.mooring k with inflight := (s.mooring k).inflight + 1 }
    | none => s
  t.setConn n { t.conn n with inMsg := some (s.writeMsg n h r) }

/-- The state with the ruling on it returned. -/
def State.writeRuled : State :=
  if s.writeRule n r = stOk then (s.writeBegun n h r).rule n h.psn stOk else (s.writeBegun n h r).refuseAs n h.psn (s.writeRule n r)

theorem State.inMsg_refuseAs (psn status : Nat) : ((s.refuseAs n psn status).conn n).inMsg = (s.conn n).inMsg := by
  rw [State.refuseAs, State.inMsg_rule, State.conn_setConn]

theorem State.inMsg_writeRuled : ((s.writeRuled n h r).conn n).inMsg = some (s.writeMsg n h r) := by
  have hbegun : ((s.writeBegun n h r).conn n).inMsg = some (s.writeMsg n h r) := congrArg Conn.inMsg (State.conn_setConn ..)
  unfold State.writeRuled
  split
  · rw [State.inMsg_rule, hbegun]
  · rw [State.inMsg_refuseAs, hbegun]

theorem State.dram_writeRuled : (s.writeRuled n h r).dram = s.dram := by
  have hbegun : (s.writeBegun n h r).dram = s.dram := by unfold State.writeBegun; dsimp only; split <;> rfl
  unfold State.writeRuled
  split
  · rw [State.rule_dram, hbegun]
  · rw [State.refuseAs, State.rule_dram, State.setConn_dram, hbegun]

/-- Whether a packet's bytes lie in the mooring, or in the message where no mooring takes it. -/
def InMsg.fits (m : InMsg) (s : State) (r : RmaExt) (d : List Byte) : Bool :=
  match m.moor with
  | some i => decide ((s.mooring i).base ≤ yOff r.addr) && decide (yOff r.addr + d.length ≤ (s.mooring i).base + (s.mooring i).len)
  | none => decide (d.length ≤ m.len)

variable {h}

/-- A packet of a WRITE under way: stored where it is accepted and fits, and the WRITE ended with its last packet. -/
def State.writePlaced (s : State) (n : Nat) (h : Pkt) (r : RmaExt) (d : List Byte) : State :=
  match (s.conn n).inMsg with
  | none => s
  | some m =>
    let t := if m.status = stOk ∧ m.fits s r d = true then s.yWrite r.addr d else s
    if h.last then t.endWrite n h m else t

theorem State.takeWrite_first (d : List Byte) (hfirst : h.first = true) : s.takeWrite n h r d = (s.writeRuled n h r).writePlaced n h r d := by
  rw [State.takeWrite, if_pos hfirst]
  rfl

/-- A WRITE of one packet: ruled on, stored where it is accepted and fits, and ended. -/
theorem State.takeWrite_single (d : List Byte) (hfirst : h.first = true) (hlast : h.last = true) : s.takeWrite n h r d =
    (if (s.writeMsg n h r).status = stOk ∧ (s.writeMsg n h r).fits (s.writeRuled n h r) r d = true
      then (s.writeRuled n h r).yWrite r.addr d else s.writeRuled n h r).endWrite n h (s.writeMsg n h r) := by
  simp only [s.takeWrite_first n r d hfirst, State.writePlaced, s.inMsg_writeRuled, hlast, if_true]

end

section
variable {s : State} {n : Nat} {h : Pkt} {r : RmaExt} {d : List Byte}

theorem State.dram_takeWrite_accepted (hfirst : h.first = true) (hlast : h.last = true) (hen : h.en = false) (hquiet : r.notify = false)
    (hok : s.rwRule n 3 r.addr r.mkey r.mgen r.msgLen false = stOk) (hspace : ySpace r.addr = 0) (hlen : d.length ≤ r.msgLen) :
    (s.takeWrite n h r d).dram = memWriteL s.dram (yOff r.addr) d := by
  obtain ⟨i, hi, hvalid, hbase, hend⟩ := State.mooring_of_moorRule (State.rwRule_dram hspace hok)
  have hrule : s.writeRule n r = stOk := by rw [State.writeRule, hquiet, hok]
  have htakes : s.writeMooring n r = some i := by rw [State.writeMooring, if_pos ⟨hspace, hrule⟩, hi]
  have hmoor : (s.writeRuled n h r).mooring i = { s.mooring i with inflight := (s.mooring i).inflight + 1 } := by
    rw [State.writeRuled, if_pos hrule, State.mooring_rule, State.writeBegun, htakes]
    exact State.mooring_setMooring ..
  have hfits : (s.writeMsg n h r).fits (s.writeRuled n h r) r d = true := by
    simp only [InMsg.fits, State.writeMsg, htakes, hmoor, Bool.and_eq_true, decide_eq_true_iff]
    omega
  have hstored : (s.writeRuled n h r).yWrite r.addr d = (s.writeRuled n h r).setDram (memWriteL s.dram (yOff r.addr) d) := by
    simp only [State.yWrite, hspace, s.dram_writeRuled]
  rw [s.takeWrite_single n r d hfirst hlast, if_pos ⟨hrule, hfits⟩, hstored]
  exact State.dram_endWrite_valid hen hrule htakes (by simp [State.writeMsg, hquiet]) ((congrArg Mooring.st hmoor).trans hvalid)

theorem State.dram_takeWrite_refused (hfirst : h.first = true) (hlast : h.last = true)
    (hno : s.rwRule n 3 r.addr r.mkey r.mgen r.msgLen r.notify ≠ stOk) : (s.takeWrite n h r d).dram = s.dram := by
  rw [s.takeWrite_single n r d hfirst hlast, if_neg fun ⟨hok, _⟩ => hno hok, State.dram_endWrite_refused hno, s.dram_writeRuled]

end

/-! ### READ, atomics, chamber adds, FLUSH and ENABLE (R283, R285, R286, R288, R293, R295) -/

section
variable {s : State} {n : Nat} {h : Pkt} {r : RmaExt}

theorem State.takeRead_accepted (hok : s.rwRule n 1 r.addr r.mkey r.mgen r.msgLen false = stOk) (hspace : ySpace r.addr = 0) : s.takeRead n h r =
    ((s.rule n h.psn stOk).respond n 2 h.psn stOk 0 (memReadN s.dram (yOff r.addr) r.msgLen)).tagged n h := by
  simp [State.takeRead, hok, State.yRead, hspace]

theorem State.takeRead_refused (hno : s.rwRule n 1 r.addr r.mkey r.mgen r.msgLen false ≠ stOk) :
    s.takeRead n h r = s.refuseAs n h.psn (s.rwRule n 1 r.addr r.mkey r.mgen r.msgLen false) := if_pos hno

/-- Eight bytes of stacked DRAM after an atomic on them: a sum, or `y` where they compare equal to `x`. -/
def atomicNew (old x : W64) : Option W64 → W64
  | none => old + x
  | some y => if old = x then y else old

/-- An accepted atomic on stacked DRAM changes eight bytes and answers what they were. -/
theorem State.takeAtomic_stacked {isCas : Bool}
    (hok : s.atRule n r.addr r.mkey r.mgen (r.opnd0.toNat / 2 ^ 32 + (if isCas then r.opnd1.toNat / 2 ^ 32 else 0)) = stOk)
    (hspace : ySpace r.addr = 0) : s.takeAtomic n h r isCas =
      (let old := BitVec.ofNat 64 (memNat s.dram (yOff r.addr) 8)
       let new := atomicNew old r.opnd0 (if isCas then some r.opnd1 else none)
       (((s.setDram (memWriteL s.dram (yOff r.addr) (leBytes 8 new.toNat))).rule n h.psn stOk).respond n 6 h.psn stOk old []).tagged n h) := by
  rw [State.takeAtomic, if_neg (not_not_intro hok)]
  cases isCas <;> simp [State.yAtomic, hspace, atomicNew]

theorem State.takeChAdd_accepted (hok : s.addRule n r.addr r.opnd0 = stOk) : s.takeChAdd n h r =
    ((s.chEffect (yChamber r.addr) (.add (BitVec.ofNat 32 r.opnd0.toNat))).rule n h.psn stOk).tagged n h := if_neg (not_not_intro hok)

theorem State.takeChAdd_refused (hno : s.addRule n r.addr r.opnd0 ≠ stOk) :
    s.takeChAdd n h r = s.refuseAs n h.psn (s.addRule n r.addr r.opnd0) := if_pos hno

theorem State.tagged_plain (hen : h.en = false) : s.tagged n h = s := by simp [State.tagged, hen]

/-- A FLUSH without durable mode answers the first refusal since the last. -/
theorem State.takeFlush_plain (hen : h.en = false) : s.takeFlush n h false =
    (s.setConn n { s.conn n with rxFailed := 0 }).respond n 9 h.psn (s.conn n).rxFailed 0 [] :=
  State.tagged_plain hen

theorem State.takeFlush_noTwin (hen : h.en = false) (hpair : s.twin.pair ≠ 2) : s.takeFlush n h true =
    (s.setConn n { s.conn n with rxFailed := 0 }).respond n 9 h.psn stNoTwin 0 [] := by
  rw [State.takeFlush, State.tagged_plain hen]
  simp [hpair]

theorem State.enableTag_kept {tag : Nat} (hnone : enableIn tag (s.conn n).queue = none) (hroom : (s.conn n).latch.length < 8) :
    s.enableTag n tag = s.setConn n { s.conn n with latch := (s.conn n).latch ++ [tag] } := by
  simp only [State.enableTag, hnone, if_pos hroom]

theorem State.enableTag_enables {tag : Nat} {q : List WR} (hq : enableIn tag (s.conn n).queue = some q) :
    s.enableTag n tag = s.setConn n { s.conn n with queue := q } := by
  simp only [State.enableTag, hq]

end

/-! ### Answers at the requester (R283, R284, R287, R288) -/

section
variable {s : State} {n : Nat} {r : RespExt} {l : LiveWR} {d : List Byte}

/-- Data short of a host's read are placed behind those that came before, and the read goes on. -/
theorem State.takeReadResp_part (hl : (s.conn n).answered r.rpsn 1 = some l) (hok : r.status = stOk) (hhost : l.wr.core = none)
    (hpart : l.got + d.length < l.wr.len) : s.takeReadResp n r d =
      (s.setDram (memWriteL s.dram (l.wr.laddr + l.got) d)).setConn n { s.conn n with
        liveWr := (s.conn n).liveWr.map fun x => if x.id = l.id then { l with got := l.got + d.length } else x } := by
  have hall : d.take (l.wr.len - l.got) = d := List.take_of_length_le (by omega)
  simp [State.takeReadResp, hl, hok, hhost, hall, hpart]

theorem State.takeReadResp_failed (hl : (s.conn n).answered r.rpsn 1 = some l) (hno : r.status ≠ stOk) :
    s.takeReadResp n r d = s.liveDone n l.id r.status 0 [] := by
  simp only [State.takeReadResp, hl, if_pos hno]

theorem State.takeReadResp_unasked (hl : (s.conn n).answered r.rpsn 1 = none) : s.takeReadResp n r d = s := by
  simp only [State.takeReadResp, hl]

theorem State.takeAtomicResp_answered (hl : (s.conn n).answered r.rpsn 4 = some l) :
    s.takeAtomicResp n r = s.liveDone n l.id r.status r.result [] := by
  simp only [State.takeAtomicResp, hl, Option.orElse_some]

theorem State.takeFlushResp_answered (hl : (s.conn n).answered r.rpsn 8 = some l) : s.takeFlushResp n r =
    (s.setConn n { s.conn n with failed := (s.conn n).failed.filter (fun f => decide (l.id < f.1)) }).liveDone n l.id
      ((s.conn n).flushStatus l.id r.status) 0 [] := by
  simp only [State.takeFlushResp, hl]

end

/-- Settles O42: each request at its target by its ruling, then each answer at the requester. -/
theorem packetEffects : Obligations.PacketEffects := by
  unfold Obligations.PacketEffects
  refine ⟨fun s n h r => ⟨fun hok hspace => ?read, fun hno => ?readRefused,
      fun d hfirst hlast hen hquiet hok hspace hlen => ?write, fun d hfirst hlast hno => ?writeRefused, fun hok hspace => ?add,
      fun hok hspace => ?cas, fun hok => ?chAdd, fun hno => ?chAddRefused, fun hen => ?flush, fun hen hpair => ?flushNoTwin,
      fun tag hnone hroom => ?enableKept, fun tag q hq => ?enable⟩,
    fun s n h r l => ⟨fun d hl hok hhost hpart => ?readResp, fun d hl hno => ?readFailed, fun d hl => ?unasked, fun hl => ?atomicResp,
      fun hl => ?flushResp⟩⟩
  case read => exact State.takeRead_accepted hok hspace
  case readRefused => exact State.takeRead_refused hno
  case write => exact State.dram_takeWrite_accepted hfirst hlast hen hquiet hok hspace hlen
  case writeRefused => exact State.dram_takeWrite_refused hfirst hlast hno
  case add => exact State.takeAtomic_stacked (isCas := false) hok hspace
  case cas => exact State.takeAtomic_stacked (isCas := true) hok hspace
  case chAdd => exact State.takeChAdd_accepted hok
  case chAddRefused => exact State.takeChAdd_refused hno
  case flush => exact State.takeFlush_plain hen
  case flushNoTwin => exact State.takeFlush_noTwin hen hpair
  case enableKept => exact congrArg (fun t => t.rule n h.psn stOk) (State.enableTag_kept hnone hroom)
  case enable => exact congrArg (fun t => t.rule n h.psn stOk) (State.enableTag_enables hq)
  case readResp =>
    refine ⟨_, rfl, ?_⟩
    rw [State.deliver, State.takeReadResp_part hl hok hhost hpart, State.conn_setConn]
    refine ⟨rfl, fun m hm hid => ?_⟩
    obtain ⟨x, -, rfl⟩ := List.mem_map.mp hm
    by_cases hx : x.id = l.id
    · rw [if_pos hx]
    · rw [if_neg hx] at hid
      exact absurd hid hx
  case readFailed => exact State.takeReadResp_failed hl hno
  case unasked => exact State.takeReadResp_unasked hl
  case atomicResp => exact State.takeAtomicResp_answered hl
  case flushResp => exact State.takeFlushResp_answered hl

end Sys2Proof.Machine
end

section
/-! Event and exception records and the heads of their rings (R327 to R329, R343, R344). -/

namespace Sys2Proof.Machine

/-! ### The event ring (R327, R343, R344) -/

/-- A record put at the tail of a basin's event ring, before the interrupt of basin 0 (R344). -/
def State.eventPut (s : State) (b : Nat) (rec32 : List Byte) : State :=
  (s.setDram (memWriteL s.dram ((s.basin b).hostBase * 0x14000 + 0x10000 + 32 * (s.basin b).evt.tail) rec32)).setBasin b
    { s.basin b with evt := { (s.basin b).evt with tail := ((s.basin b).evt.tail + 1) % 1024 } }

section
variable {s : State} {b : Nat} {rec32 : List Byte}

theorem State.event_room (h : ((s.basin b).evt.tail + 1) % 1024 ≠ (s.basin b).evt.head) :
    s.event b rec32 = if b = 0 then (s.eventPut b rec32).raiseMsix 0 else s.eventPut b rec32 := by
  simp only [State.event, logPut, if_neg h, and_true, State.eventPut]

theorem State.event_full (h : ((s.basin b).evt.tail + 1) % 1024 = (s.basin b).evt.head) :
    s.event b rec32 = s.setBasin b { s.basin b with evt := { (s.basin b).evt with lost := satAdd 16 (s.basin b).evt.lost 1 } } := by
  simp only [State.event, logPut, if_pos h, Bool.false_eq_true, and_false, if_false]

/-- The interrupt of a new record leaves the basins and the memory as the record left them. -/
theorem State.event_room_leaves (h : ((s.basin b).evt.tail + 1) % 1024 ≠ (s.basin b).evt.head) :
    (s.event b rec32).host = (s.eventPut b rec32).host ∧ (s.event b rec32).dram = (s.eventPut b rec32).dram := by
  rw [State.event_room h]
  split
  · exact ⟨State.host_of_raiseMsix .., State.dram_of_raiseMsix ..⟩
  · exact ⟨rfl, rfl⟩

theorem State.event_room_evt (h : ((s.basin b).evt.tail + 1) % 1024 ≠ (s.basin b).evt.head) :
    ((s.event b rec32).basin b).evt = { (s.basin b).evt with tail := ((s.basin b).evt.tail + 1) % 1024 } := by
  rw [State.basin_congr (State.event_room_leaves h).1, State.eventPut, State.basin_setBasin]

/-- A record put while the event ring has room is read back from the place of the tail. -/
theorem State.event_recorded {n : Nat} (hwf : Memory.wf s.dram = true)
    (h : ((s.basin b).evt.tail + 1) % 1024 ≠ (s.basin b).evt.head) (hlen : rec32.length = n) :
    memReadN (s.event b rec32).dram ((s.basin b).hostBase * 0x14000 + 0x10000 + 32 * (s.basin b).evt.tail) n = rec32 := by
  rw [(State.event_room_leaves h).2, State.eventPut, State.setBasin_dram, State.setDram_dram, ← hlen, memReadN_memWriteL hwf]

end

/-! ### Writes of EVT_HEAD and EXC_HEAD (R328, R329, R343) -/

section
variable {s : State} {b : BitVec 6} {v : BitVec 64}

theorem execEvtHead_moves (hs : s.inService = true) (hst : (s.basin b.toNat).st ≠ 0)
    (h : moves 10 (s.basin b.toNat).evt.head (fld v 0 10) (s.basin b.toNat).evt.tail = true) : execEvtHead b v s =
      .next (s.setBasin b.toNat { s.basin b.toNat with evt := { (s.basin b.toNat).evt with head := fld v 0 10 } }) := by
  simp [execEvtHead, hs, hst, h]

theorem execExcHead_moves (hs : s.inService = true) (hst : (s.basin b.toNat).st ≠ 0)
    (h : moves 10 (s.basin b.toNat).exc.head (fld v 0 10) (s.basin b.toNat).exc.tail = true) : execExcHead b v s =
      .next (s.setBasin b.toNat { s.basin b.toNat with exc := { (s.basin b.toNat).exc with head := fld v 0 10 } }) := by
  simp [execExcHead, hs, hst, h]

end

/-- Settles O23: each ring by whether it has room for the record, then the head each write moves. -/
theorem eventRings : Obligations.EventRings := by
  unfold Obligations.EventRings
  refine ⟨fun s b rec32 hlen => ⟨fun hroom => ?evtRoom, fun hfull => ?evtFull, fun hroom => ?excRoom, fun hfull => ?excFull⟩,
    fun s b v hs hst => ⟨fun h => ?evtHead, fun h => ?excHead⟩⟩
  case evtRoom => exact ⟨State.event_room_evt hroom, fun hwf => State.event_recorded hwf hroom hlen⟩
  case evtFull =>
    rw [State.event_full hfull]
    exact ⟨rfl, by rw [State.basin_setBasin]⟩
  case excRoom =>
    refine ⟨?_, fun hwf => State.excLog_recorded hwf hroom hlen⟩
    rw [State.excLog_room _ hroom, State.basin_setBasin]
  case excFull =>
    rw [State.excLog_full _ hfull]
    exact ⟨rfl, by rw [State.basin_setBasin]⟩
  case evtHead => exact ⟨_, execEvtHead_moves hs hst h, by rw [State.basin_setBasin]⟩
  case excHead => exact ⟨_, execExcHead_moves hs hst h, by rw [State.basin_setBasin]⟩

end Sys2Proof.Machine
end

section
/-! What a completion leaves as it was (R331, R335, R336), and one composition operation from its descriptor (R349, R350). -/

namespace Sys2Proof.Machine

/-! ### Completions -/

/-- A completion for basin `b` posted: the basin's completion rings, memory and outputs change, and of the registers only BSN_CMD_RES
and the pending MSI-X vectors. -/
structure State.Posted (s t : State) (b : Nat) : Prop where
  frame : ∃ regs dram sent basins, t = { s with regs := regs, dram := dram, sent := sent, host := { s.host with basins := basins } }
  basin : ∃ cqs, t.basin b = { s.basin b with cqs := cqs }
  others : ∀ x, x ≠ b → t.basin x = s.basin x
  reg : ∀ o, rMsixPba ≠ o → rBsnCmdRes ≠ o → t.reg o = s.reg o

theorem State.Posted.refl (s : State) (b : Nat) : s.Posted s b := ⟨⟨_, _, _, _, rfl⟩, ⟨_, rfl⟩, fun _ _ => rfl, fun _ _ _ => rfl⟩

theorem State.Posted.trans {s t u : State} {b : Nat} (h : s.Posted t b) (h' : t.Posted u b) : s.Posted u b := by
  obtain ⟨⟨_, _, _, _, rfl⟩, ⟨c, hc⟩, hothers, hreg⟩ := h
  obtain ⟨⟨_, _, _, _, rfl⟩, ⟨c', hc'⟩, hothers', hreg'⟩ := h'
  exact ⟨⟨_, _, _, _, rfl⟩, ⟨c', by rw [hc', hc]⟩, fun x hx => (hothers' x hx).trans (hothers x hx),
    fun o hmsi hcmd => (hreg' o hmsi hcmd).trans (hreg o hmsi hcmd)⟩

theorem State.posted_send (s : State) (m : OutMsg) (b : Nat) : s.Posted (s.send m) b := by
  unfold State.send
  split
  · exact .refl s b
  · exact ⟨⟨_, _, _, _, rfl⟩, ⟨_, rfl⟩, fun _ _ => rfl, fun _ _ _ => rfl⟩

theorem State.posted_raiseMsix (s : State) (v b : Nat) : s.Posted (s.raiseMsix v) b := by
  unfold State.raiseMsix
  split
  · exact ⟨⟨_, _, _, _, rfl⟩, ⟨_, rfl⟩, fun _ _ => rfl, fun o hmsi _ => s.reg_setFld_ne _ _ _ hmsi⟩
  · exact s.posted_send _ b

theorem State.posted_putCqs (s : State) (b : Nat) (cqs : AL Nat CQ) : s.Posted (s.setBasin b { s.basin b with cqs := cqs }) b :=
  ⟨⟨_, _, _, _, rfl⟩, ⟨cqs, State.basin_setBasin ..⟩, fun _ hx => State.basin_setBasin_ne _ _ _ hx.symm, fun _ _ _ => rfl⟩

theorem State.posted_setDram (s : State) (m : Memory) (b : Nat) : s.Posted (s.setDram m) b :=
  ⟨⟨_, _, _, _, rfl⟩, ⟨_, rfl⟩, fun _ _ => rfl, fun _ _ _ => rfl⟩

theorem State.posted_cqWrite (s : State) (b c : Nat) (q : CQ) (e : List Byte) : s.Posted (cqWrite s b c q e) b := by
  unfold cqWrite
  dsimp only
  split
  · exact (s.posted_setDram _ b).trans ((State.posted_putCqs _ b _).trans (State.posted_raiseMsix _ _ b))
  · exact (s.posted_setDram _ b).trans (State.posted_putCqs _ b _)

theorem State.posted_postCq (s : State) (b ring : Nat) (e : List Byte) : s.Posted (s.postCq b ring e) b := by
  unfold State.postCq
  dsimp only
  split
  case isTrue => exact ⟨⟨_, _, _, _, rfl⟩, ⟨_, rfl⟩, fun _ _ => rfl, fun o _ hcmd => s.reg_setReg_ne _ _ hcmd⟩
  case isFalse =>
    split
    case h_1 => exact .refl s b
    case h_2 =>
      split
      · exact s.posted_putCqs b _
      · exact s.posted_cqWrite ..

theorem State.posted_complete (s : State) (b ring wrid op : Nat) (cq : Bool) (status result : Nat) :
    s.Posted (s.complete b ring wrid op cq status result) b := by
  unfold State.complete
  split
  · exact s.posted_postCq ..
  · exact .refl s b

section
variable (s : State) (d : Dsc) (status result : Nat)

theorem State.posted_fin : s.Posted (s.fin d status result) d.basin := s.posted_complete ..

@[simp] theorem State.fab_of_fin : (s.fin d status result).fab = s.fab := by
  obtain ⟨_, _, _, _, h⟩ := (s.posted_fin d status result).frame; rw [h]
@[simp] theorem State.sec_of_fin : (s.fin d status result).sec = s.sec := by
  obtain ⟨_, _, _, _, h⟩ := (s.posted_fin d status result).frame; rw [h]
@[simp] theorem State.ledger_of_fin : (s.fin d status result).ledger = s.ledger := by
  obtain ⟨_, _, _, _, h⟩ := (s.posted_fin d status result).frame; rw [h]
@[simp] theorem State.composeQ_of_fin : (s.fin d status result).host.composeQ = s.host.composeQ := by
  obtain ⟨_, _, _, _, h⟩ := (s.posted_fin d status result).frame; rw [h]

/-- A completion leaves of every basin all but its completion rings. -/
theorem State.basin_fin (b : Nat) : ∃ cqs, (s.fin d status result).basin b = { s.basin b with cqs := cqs } := by
  by_cases hb : b = d.basin
  · subst hb; exact (s.posted_fin d status result).basin
  · exact ⟨_, (s.posted_fin d status result).others b hb⟩

@[simp] theorem State.st_basin_fin (b : Nat) : ((s.fin d status result).basin b).st = (s.basin b).st := by
  obtain ⟨_, h⟩ := s.basin_fin d status result b; rw [h]
@[simp] theorem State.tenants_basin_fin (b : Nat) : ((s.fin d status result).basin b).tenants = (s.basin b).tenants := by
  obtain ⟨_, h⟩ := s.basin_fin d status result b; rw [h]

end

/-! ### The composition queue (R349) -/

/-- The state with the operation in progress replaced. -/
def State.setComposing (s : State) (o : Option ComposeOp) : State := { s with host := { s.host with composing := o } }

@[simp] theorem State.basin_setComposing (s : State) (o : Option ComposeOp) (b : Nat) : (s.setComposing o).basin b = s.basin b := rfl
@[simp] theorem State.composing_setComposing (s : State) (o : Option ComposeOp) : (s.setComposing o).host.composing = o := rfl
@[simp] theorem State.cluster_setComposing (s : State) (o : Option ComposeOp) (c : Nat) : (s.setComposing o).cluster c = s.cluster c := rfl
@[simp] theorem State.chamber_setComposing (s : State) (o : Option ComposeOp) (c : Nat) : (s.setComposing o).chamber c = s.chamber c := rfl

/-- The operation a descriptor starts. -/
def Dsc.composeOp (d : Dsc) : ComposeOp := { ring := d.ring, desc := d.bytes }

section
variable {s : State}

theorem State.composeGo_lone {o : ComposeOp} {a : Advance} (n : Nat) (hidle : s.host.composing = none)
    (hstep : (({ s with host := { s.host with composeQ := [] } } : State).setComposing (some o)).composeStep o = a) :
    ({ s with host := { s.host with composeQ := [o] } } : State).composeGo (n + 1) =
      if a.op.isNone then (a.st.setComposing a.op).composeGo n else a.st.setComposing a.op := by
  subst hstep
  rw [State.composeGo]
  simp only [hidle]
  rfl

theorem State.composeGo_idle (n : Nat) (hidle : s.host.composing = none) (hqueue : s.host.composeQ = []) : s.composeGo n = s := by
  cases n <;> simp [State.composeGo, hidle, hqueue]

theorem State.composeOn_idle (hidle : s.host.composing = none) (hqueue : s.host.composeQ = []) : s.composeOn = s :=
  State.composeGo_idle _ hidle hqueue

theorem State.front_dscOf {b r : Nat} {d : Dsc} (h : s.front b r = some d) : dscOf b r d.bytes = d := by
  unfold State.front at h
  split at h
  · cases h
  · split at h
    · cases h
    · cases h; rfl

theorem State.front_ring {b r : Nat} {d : Dsc} (h : s.front b r = some d) : d.basin = b ∧ d.ring = r := by
  rw [← State.front_dscOf h]; exact ⟨rfl, rfl⟩

variable {op : Nat} {d : Dsc}

/-- The operation a descriptor starts, once the clusters it needs pass to and from basin `b`. -/
def Dsc.passOp (d : Dsc) (b : Nat) (cs : List Nat) : ComposeOp := { d.composeOp with step := 2, basin := b, clusters := cs }

theorem Dsc.passOp_stands (d : Dsc) (b : Nat) (cs : List Nat) : (d.passOp b cs).step = 2 ∧ (d.passOp b cs).clusters = cs := ⟨rfl, rfl⟩

/-- The state in which the operation of a descriptor at the head of basin 0's ring 0 is carried out. -/
def Dsc.begun (d : Dsc) (s : State) : State := (s.takeEntry 0 0).setComposing (some d.composeOp)

theorem Composes.dscOf_composeOp (h : Composes s op d) : dscOf 0 d.composeOp.ring d.composeOp.desc = d := by
  have hring := (State.front_ring h.front).2
  rw [Dsc.composeOp, hring, State.front_dscOf h.front]

/-- What does not rest on a basin's own record stays as it was when an entry is taken from a ring. -/
theorem State.takeEntry_keeps {β : Type} {g : State → β} (s : State) (b r : Nat) (hg : ∀ x, g (s.setBasin b x) = g s) :
    g (s.takeEntry b r) = g s := by
  obtain h | ⟨x, h⟩ := s.takeEntry_eq b r
  · rw [h]
  · rw [h, hg]

theorem Dsc.composeQ_begun (d : Dsc) (s : State) : (d.begun s).host.composeQ = s.host.composeQ :=
  s.takeEntry_keeps (g := fun t => t.host.composeQ) 0 0 fun _ => rfl

/-- A composition descriptor is queued, and its operation taken as far as its first advance goes. -/
theorem Composes.composeFrom_eq {t : State} {o : Option ComposeOp} (h : Composes s op d) (hmeant : reservedOp op = false)
    (hstep : (d.begun s).composeStep d.composeOp = { st := t, op := o }) (hlast : t.host.composeQ = s.host.composeQ) :
    composeFrom op (.ring 0 0) s = t.setComposing o := by
  obtain ⟨hbasin, hring⟩ := State.front_ring h.front
  have hserve : composeFrom op (.ring 0 0) s = doCompose d (s.takeEntry 0 0) := serve_of_op doCompose h.front h.names hmeant
  have hrefuse : (if decide (d.op = 0x23) || decide (d.op = 0x28) || decide (d.op = 0x29) then none
      else (s.takeEntry 0 0).tenantRefuse 0 d.tenant) = none := by
    rw [h.names]
    rcases h.tenant with rfl | rfl | rfl | hnone
    · rfl
    · rfl
    · rfl
    · rw [hnone, ite_self]
  have hqueue : (s.takeEntry 0 0).host.composeQ = [] := (d.composeQ_begun s).trans h.queue
  have hidle := (s.takeEntry_keeps (g := fun t => t.host.composing) 0 0 fun _ => rfl).trans h.idle
  have hbegun : ({ s.takeEntry 0 0 with host := { (s.takeEntry 0 0).host with composeQ := [] } } : State).setComposing (some d.composeOp) =
      d.begun s := by
    rw [← hqueue]; rfl
  have hdo : doCompose d (s.takeEntry 0 0) =
      ({ s.takeEntry 0 0 with host := { (s.takeEntry 0 0).host with composeQ := [d.composeOp] } } : State).composeGo (1 + 1) := by
    simp only [doCompose, hbasin, hring, hrefuse, ne_eq, not_true_eq_false, false_and, or_self, if_false, State.composeOn, hqueue,
      List.nil_append, List.length_singleton, Dsc.composeOp]
  rw [hserve, hdo, State.composeGo_lone 1 hidle (hbegun ▸ hstep)]
  cases o with
  | none => exact State.composeGo_idle 1 rfl (hlast.trans h.queue)
  | some o => rfl

end
end Sys2Proof.Machine
end

section
/-! Composition of basins (R347 to R352; log entries 106 to 112). -/

namespace Sys2Proof.Machine

/-! ### Clusters that pass (R14, R351 step 5) -/

/-- The clusters of a list begin to pass to a basin. -/
def State.passTo (s : State) (cs : List Nat) (b : Nat) : State :=
  cs.foldl (fun s c => s.setCluster c { s.cluster c with passing := some b }) s

theorem State.cluster_passTo (s : State) (cs : List Nat) (b x : Nat) :
    (s.passTo cs b).cluster x = if x ∈ cs then { s.cluster x with passing := some b } else s.cluster x := by
  induction cs generalizing s with
  | nil => rfl
  | cons c cs ih =>
    rw [show s.passTo (c :: cs) b = (s.setCluster c { s.cluster c with passing := some b }).passTo cs b from rfl, ih]
    by_cases hc : c = x
    · subst hc; simp
    · simp [State.cluster_setCluster_ne _ _ _ hc, Ne.symm hc]

theorem State.passing_passTo (s : State) {cs : List Nat} (b : Nat) {x : Nat} (h : x ∈ cs) : ((s.passTo cs b).cluster x).passing = some b := by
  rw [State.cluster_passTo, if_pos h]

theorem State.cluster_passTo_out (s : State) {cs : List Nat} (b : Nat) {x : Nat} (h : x ∉ cs) : (s.passTo cs b).cluster x = s.cluster x := by
  rw [State.cluster_passTo, if_neg h]

theorem State.passTo_keeps {β : Type} {g : State → β} (hg : ∀ t c x, g (State.setCluster t c x) = g t) (s : State) (cs : List Nat) (b : Nat) :
    g (s.passTo cs b) = g s := State.foldl_keeps (fun t _ => hg t _ _) cs s

@[simp] theorem State.host_passTo (s : State) (cs : List Nat) (b : Nat) : (s.passTo cs b).host = s.host :=
  State.passTo_keeps (g := State.host) (fun _ _ _ => rfl) s cs b

@[simp] theorem State.chamber_passTo (s : State) (cs : List Nat) (b ch : Nat) : (s.passTo cs b).chamber ch = s.chamber ch :=
  State.passTo_keeps (g := fun t => t.chamber ch) (fun _ _ _ => rfl) s cs b

@[simp] theorem State.basin_passTo (s : State) (cs : List Nat) (b x : Nat) : (s.passTo cs b).basin x = s.basin x :=
  State.basin_congr (s.host_passTo cs b) x

/-! ### Chamber blocks given to a basin (R259) -/

theorem State.giveBlocks_keeps {β : Type} {g : State → β} (hg : ∀ t c x, g (State.setChamber t c x) = g t) (s : State) (b r n : Nat) :
    g (s.giveBlocks b r n) = g s := State.foldl_keeps (fun t _ => hg t _ _) _ s

@[simp] theorem State.host_giveBlocks (s : State) (b r n : Nat) : (s.giveBlocks b r n).host = s.host :=
  State.giveBlocks_keeps (g := State.host) (fun _ _ _ => rfl) s b r n

@[simp] theorem State.cluster_giveBlocks (s : State) (b r n c : Nat) : (s.giveBlocks b r n).cluster c = s.cluster c :=
  State.giveBlocks_keeps (g := fun t => t.cluster c) (fun _ _ _ => rfl) s b r n

theorem State.chamberRun_congr {s t : State} (h : t.fab = s.fab) (b n : Nat) : t.chamberRun b n = s.chamberRun b n := by
  have hfree : t.blockFree = s.blockFree := by funext x; simp only [State.blockFree, State.chamber, h]
  have hcluster : t.cluster = s.cluster := by funext x; simp only [State.cluster, h]
  rw [State.chamberRun, State.chamberRun, hfree, hcluster]

/-! ### COMPOSE (R350, R351) -/

/-- A run of slots taken out of the staging copies' reach. -/
def State.dropCopies (s : State) (lo n : Nat) : State :=
  { s with tiers := { s.tiers with copies := s.tiers.copies.filter (fun p => decide (p.2.slot < lo) || decide (lo + n ≤ p.2.slot)) } }

theorem State.emptyRun_unused {s : State} {lo n : Nat} (h : s.usedIn lo n = []) : s.emptyRun lo n = s.dropCopies lo n := by
  have hcopies : (s.dropCopies lo n).usedIn lo n = [] := h
  exact congrArg (List.foldl State.emptySlot (s.dropCopies lo n)) hcopies

/-- The basin a COMPOSE takes, with its run of slots, before anything else of it is known. -/
def Dsc.placed (d : Dsc) (s : State) (n base : Nat) : State := s.setBasin n { st := 1, hostBase := base, hostSlots := d.f 0x18 4 }

section
variable {s : State} {d : Dsc} {n base : Nat}

/-- A COMPOSE whose fields pass their checks, and the empty run of slots it takes. -/
structure MayCompose (s : State) (d : Dsc) (n base : Nat) : Prop where
  names : s.composeBasin d = .ok n
  share : d.shareOk = true
  pkey : s.pkeyOk d = true
  mask : s.maskRefuse n d.mask = none
  run : lowestRun s.hostRuns 4194304 4980736 (d.f 0x18 4) = some base
  unused : s.usedIn base (d.f 0x18 4) = []

theorem State.composeStart_placed (h : MayCompose s d n base) (o : ComposeOp) :
    s.composeStart o d = { st := (d.placed s n base).dropCopies base (d.f 0x18 4), op := some { o with step := 1, basin := n } } := by
  obtain ⟨hnames, hshare, hpkey, hmask, hrun, hunused⟩ := h
  have hplaced : (d.placed s n base).usedIn base (d.f 0x18 4) = [] := hunused
  unfold Dsc.placed at hplaced ⊢
  simp only [State.composeStart, hnames, hshare, hpkey, hmask, hrun, Bool.not_true, Bool.false_eq_true, if_false, hplaced, List.length_nil,
    Nat.not_lt_zero, State.emptyRun_unused hplaced]

/-- The share of basin `n` from MiB `m` on, and chamber blocks from `r` on where any are asked for. -/
def Dsc.shared (d : Dsc) (s : State) (n m r : Nat) : State :=
  let t := s.setBasin n { s.basin n with moorBase := m, moorLen := d.f 0x20 2 }
  if d.f 0x12 2 = 0 then t else t.giveBlocks n r (d.f 0x12 2)

theorem Dsc.host_shared (d : Dsc) (s : State) (n m r : Nat) :
    (d.shared s n m r).host = (s.setBasin n { s.basin n with moorBase := m, moorLen := d.f 0x20 2 }).host := by
  unfold Dsc.shared; dsimp only; split <;> simp

theorem Dsc.cluster_shared (d : Dsc) (s : State) (n m r c : Nat) : (d.shared s n m r).cluster c = s.cluster c := by
  unfold Dsc.shared; dsimp only; split <;> simp

theorem Dsc.basin_shared (d : Dsc) (s : State) (n m r : Nat) :
    (d.shared s n m r).basin n = { s.basin n with moorBase := m, moorLen := d.f 0x20 2 } := by
  rw [State.basin_congr (d.host_shared s n m r), State.basin_setBasin]

theorem Dsc.chamber_shared {d : Dsc} (h : d.f 0x12 2 ≠ 0) (s : State) (n m r : Nat) {i : Nat} (hi : i < 16 * d.f 0x12 2) :
    ((d.shared s n m r).chamber (16 * r + i)).owner = n ∧ ((d.shared s n m r).chamber (16 * r + i)).alloc = true := by
  unfold Dsc.shared
  rw [if_neg h, State.chamber_giveBlocks, if_pos (by omega)]
  exact ⟨rfl, rfl⟩

theorem State.composeTake_taken {m r : Nat} {o : ComposeOp}
    (hm : (if d.f 0x20 2 = 0 then some 0 else lowestRun s.moorRuns 0 512 (d.f 0x20 2)) = some m)
    (hr : (if d.f 0x12 2 = 0 then some 0 else s.chamberRun o.basin (d.f 0x12 2)) = some r) :
    s.composeTake o d = { st := (d.shared s o.basin m r).passTo d.mask o.basin, op := some { o with step := 2, clusters := d.mask } } := by
  simp only [State.composeTake, hm, hr]
  rfl

/-- An empty run of slots and a share found: COMPOSE begins the passes of its clusters. -/
theorem State.composeStep_compose {m r : Nat} {o : ComposeOp} (hd : dscOf 0 o.ring o.desc = d) (hop : d.op = 0x20) (hstep : o.step = 0)
    (h : MayCompose s d n base)
    (hm : (if d.f 0x20 2 = 0 then some 0 else lowestRun (d.placed s n base).moorRuns 0 512 (d.f 0x20 2)) = some m)
    (hr : (if d.f 0x12 2 = 0 then some 0 else (d.placed s n base).chamberRun n (d.f 0x12 2)) = some r) :
    s.composeStep o =
      { st := (d.shared ((d.placed s n base).dropCopies base (d.f 0x18 4)) n m r).passTo d.mask n,
        op := some { o with step := 2, basin := n, clusters := d.mask } } := by
  have hunused : ((d.placed s n base).dropCopies base (d.f 0x18 4)).usedIn base (d.f 0x18 4) = [] := h.unused
  have hbase : (((d.placed s n base).dropCopies base (d.f 0x18 4)).basin n).hostBase = base :=
    congrArg Basin.hostBase (State.basin_setBasin s n _)
  simp only [State.composeStep, hd, hop, hstep, State.composeStart_placed h, hbase, hunused, List.isEmpty_nil, if_true]
  exact State.composeTake_taken (o := { o with step := 1, basin := n }) hm ((if_congr Iff.rfl rfl (State.chamberRun_congr (by rfl) _ _)).trans hr)

/-! ### RESIZE (R350, R352) -/

/-- A RESIZE whose fields pass their checks, with no chamber blocks to add. -/
structure MayResize (s : State) (d : Dsc) (b : Nat) : Prop where
  names : d.f 0x10 1 = b
  low : 1 ≤ b
  high : b ≤ 63
  st : (s.basin b).st = 2
  share : d.shareOk = true
  slots : d.f 0x18 4 = (s.basin b).hostSlots
  moor : d.f 0x20 2 = (s.basin b).moorLen
  pkey : s.pkeyOk d = true
  mask : s.maskRefuse b d.mask = none
  blocks : d.f 0x12 2 = 0

/-- Clusters a RESIZE of basin `b` takes in, and those it gives up. -/
def Dsc.more (d : Dsc) (s : State) (b : Nat) : List Nat := d.mask.filter (fun c => decide ((s.cluster c).owner ≠ some b))
def Dsc.less (d : Dsc) (s : State) (b : Nat) : List Nat := (s.upOf b).filter (fun c => !d.mask.contains c)

theorem Dsc.not_mem_less {b c : Nat} (h : c ∈ d.more s b) : c ∉ d.less s b := by
  intro hless
  have hmask := (List.mem_filter.mp h).1
  simpa [hmask] using (List.mem_filter.mp hless).2

theorem State.resizeStart_passes {b : Nat} (h : MayResize s d b) (o : ComposeOp) :
    s.resizeStart o d = { st := (s.passTo (d.more s b) b).passTo (d.less s b) 0,
                          op := some { o with step := 2, basin := b, clusters := d.more s b ++ d.less s b } } := by
  obtain ⟨rfl, hlow, hhigh, hst, hshare, hslots, hmoor, hpkey, hmask, hblocks⟩ := h
  have hzero : d.f 0x10 1 ≠ 0 := by omega
  simp only [State.resizeStart, hzero, Nat.not_lt.mpr hhigh, hst, hshare, hslots, hmoor, hpkey, hmask, hblocks, ne_eq, not_true_eq_false,
    Bool.not_true, Bool.false_eq_true, or_self, if_false, if_true]
  rfl

section
variable {b : Nat} {o : ComposeOp} (hd : dscOf 0 o.ring o.desc = d) (hop : d.op = 0x21) (hstep : o.step = 0) (h : MayResize s d b)
include hd hop hstep h

theorem State.composeStep_resize_ends (hnone : d.more s b ++ d.less s b = []) :
    s.composeStep o = { st := (s.setBasin b (s.installShare d (s.basin b))).fin d stOk 0 } := by
  obtain ⟨hmore, hless⟩ := List.append_eq_nil_iff.mp hnone
  simp only [State.composeStep, hd, hop, hstep, State.resizeStart_passes h, hmore, hless, List.append_nil, List.isEmpty_nil, if_true]
  rfl

theorem State.composeStep_resize_passes (hsome : d.more s b ++ d.less s b ≠ []) :
    s.composeStep o = { st := (s.passTo (d.more s b) b).passTo (d.less s b) 0,
                        op := some { o with step := 2, basin := b, clusters := d.more s b ++ d.less s b } } := by
  simp only [State.composeStep, hd, hop, hstep, State.resizeStart_passes h, List.isEmpty_iff, hsome, if_false]

end

/-! ### DECOMPOSE (R350, R352) -/

section
variable {b : Nat} {o : ComposeOp} (hd : dscOf 0 o.ring o.desc = d) (hop : d.op = 0x22) (hstep : o.step = 0) (hb : d.f 0x10 1 = b)
  (hlow : 1 ≤ b) (hhigh : b ≤ 63)
include hd hop hstep hb hlow hhigh

theorem State.composeStep_decompose_notActive (hst : (s.basin b).st ≠ 2) : s.composeStep o = { st := s.fin d stNotFound 0 } := by
  have hrange : ¬ (b = 0 ∨ 63 < b) := by omega
  simp only [State.composeStep, hd, hop, hstep, State.decomposeStart, hb, if_neg hrange, if_pos hst]

theorem State.composeStep_decompose_passes (hst : (s.basin b).st = 2) (hempty : s.notEmpty b = false) (hsome : s.clustersOf b ≠ []) :
    s.composeStep o = { st := (s.setBasin b { s.basin b with st := 3 }).passTo (s.clustersOf b) 0,
                        op := some { o with step := 2, basin := b, clusters := s.clustersOf b } } := by
  have hrange : ¬ (b = 0 ∨ 63 < b) := by omega
  simp only [State.composeStep, hd, hop, hstep, State.decomposeStart, hb, if_neg hrange, hst, hempty, ne_eq, not_true_eq_false, if_false,
    Bool.false_eq_true, List.isEmpty_iff, hsome]
  rfl

end
end

/-! ### CLUSTER_PASS (R14, R351 step 5) -/

section
variable {s : State} {c b : Nat}

/-- A core as its cluster's pass leaves it. -/
def Core.zeroed (x : Core) : Core := { x with ls := [], hdr := [], scratch := [] }

theorem State.core_foldl_zeroed (l : List Nat) (s : State) (x : Nat) :
    (l.foldl (fun t i => t.setCore (8 * c + i) (t.core (8 * c + i)).zeroed) s).core x =
      if ∃ i ∈ l, 8 * c + i = x then (s.core x).zeroed else s.core x := by
  induction l generalizing s with
  | nil => simp
  | cons i l ih =>
    rw [List.foldl_cons, ih]
    by_cases hi : 8 * c + i = x
    · subst hi; simp [Core.zeroed]
    · simp [State.core_setCore_ne _ _ _ hi, hi]

/-- The cores of cluster `c` zeroed. -/
def State.zeroCores (s : State) (c : Nat) : State :=
  (List.range 8).foldl (fun t i => t.setCore (8 * c + i) (t.core (8 * c + i)).zeroed) s

theorem State.passCluster_eq (s : State) (c b : Nat) : s.passCluster c b =
    (s.zeroCores c).setCluster c { s.cluster c with owner := some b, passing := none, plb := [], bays := [], scores := [] } := rfl

theorem State.host_passCluster (s : State) (c b : Nat) : (s.passCluster c b).host = s.host := by
  rw [State.passCluster_eq, State.setCluster_host]
  exact State.foldl_keeps (g := State.host) (f := fun t i => t.setCore (8 * c + i) (t.core (8 * c + i)).zeroed) (fun _ _ => rfl) _ s

theorem State.core_passCluster (s : State) (b : Nat) {i : Nat} (h : i < 8) :
    (s.passCluster c b).core (8 * c + i) = (s.core (8 * c + i)).zeroed := by
  rw [State.passCluster_eq, State.core_of_setCluster, State.zeroCores, State.core_foldl_zeroed, if_pos ⟨i, List.mem_range.mpr h, rfl⟩]

theorem State.cluster_passCluster (s : State) (c b : Nat) :
    (s.passCluster c b).cluster c = { s.cluster c with owner := some b, passing := none, plb := [], bays := [], scores := [] } :=
  State.cluster_setCluster ..

theorem execClusterPass_still {cl : BitVec 9} (h : (s.cluster cl.toNat).passing = none) : execClusterPass cl s = .next s := by
  simp only [execClusterPass, h]

theorem execClusterPass_running {cl : BitVec 9} (h : (s.cluster cl.toNat).passing = some b)
    (hrun : ∃ i < 8, (s.core (8 * cl.toNat + i)).run.isSome = true) : execClusterPass cl s = .next s := by
  have hany : (List.range 8).any (fun i => (s.core (8 * cl.toNat + i)).run.isSome) = true := by
    obtain ⟨i, hi, hsome⟩ := hrun
    exact List.any_eq_true.mpr ⟨i, List.mem_range.mpr hi, hsome⟩
  simp only [execClusterPass, h, hany, if_true]

theorem execClusterPass_passes {cl : BitVec 9} (h : (s.cluster cl.toNat).passing = some b)
    (hrun : ∀ i < 8, (s.core (8 * cl.toNat + i)).run = none) : execClusterPass cl s = .next (s.passCluster cl.toNat b).composeOn := by
  have hany : (List.range 8).any (fun i => (s.core (8 * cl.toNat + i)).run.isSome) = false :=
    List.any_eq_false.mpr fun i hi => by rw [hrun i (List.mem_range.mp hi)]; simp
  simp only [execClusterPass, h, hany, Bool.false_eq_true, if_false]

end

/-! ### Where composition descriptors come from (R349, R362) -/

/-- The composition operations and their codes. -/
def compositions : List ((ComposeSrc → Instr) × Nat) :=
  [(fun src => .compose src, 0x20), (fun src => .resize src, 0x21), (fun src => .decompose src, 0x22), (fun src => .basinTenant src, 0x23),
    (fun src => .mapEpoch src, 0x24), (fun src => .tenantReserve src, 0x28), (fun src => .tenantRemove src, 0x29)]

theorem exec_composition {e : (ComposeSrc → Instr) × Nat} (h : e ∈ compositions) (src : ComposeSrc) (s : State) :
    exec (e.1 src) s = .next (composeFrom e.2 src s) := by
  simp only [compositions, List.mem_cons, List.not_mem_nil, or_false] at h
  rcases h with rfl | rfl | rfl | rfl | rfl | rfl | rfl <;> rfl

theorem reservedOp_composition {e : (ComposeSrc → Instr) × Nat} (h : e ∈ compositions) : reservedOp e.2 = false := by
  simp only [compositions, List.mem_cons, List.not_mem_nil, or_false] at h
  rcases h with rfl | rfl | rfl | rfl | rfl | rfl | rfl <;> rfl

section
variable {s : State} {op : Nat}

theorem composeFrom_cmd_notServed (h : s.inService = false) : composeFrom op .cmd s = s.turnedAway := by
  simp [composeFrom, h]

theorem composeFrom_cmd_busy (hs : s.inService = true) (h : s.cmdBusy = true) : composeFrom op .cmd s = s := by
  simp [composeFrom, hs, h]

theorem composeFrom_cmd_taken (hs : s.inService = true) (h : s.cmdBusy = false) (hop : (dscOf 0 cmdRing s.cmdBuf).op = op) :
    composeFrom op .cmd s = doCompose (dscOf 0 cmdRing s.cmdBuf) (s.setFld rBsnCmdRes 16 1 1) := by
  simp [composeFrom, hs, h, hop]

/-- Of another basin or ring, a composition descriptor is refused. -/
theorem composeFrom_ring_denied {x : BitVec 6} {r : BitVec 8} {d : Dsc} (h : s.front x.toNat r.toNat = some d) (hop : d.op = op)
    (hmeant : reservedOp op = false) (hout : x ≠ 0 ∨ r ≠ 0) :
    composeFrom op (.ring x r) s = (s.takeEntry x.toNat r.toNat).fin d stAccessDenied 0 := by
  obtain ⟨hbasin, hring⟩ := State.front_ring h
  have hcmd : r.toNat ≠ cmdRing := Nat.ne_of_lt r.isLt
  have hdenied : d.basin ≠ 0 ∨ d.ring ≠ 0 ∧ d.ring ≠ cmdRing := by
    rw [hbasin, hring]
    exact hout.imp (fun hx hzero => hx (BitVec.eq_of_toNat_eq hzero)) (fun hr => ⟨fun hzero => hr (BitVec.eq_of_toNat_eq hzero), hcmd⟩)
  rw [composeFrom, serve_of_op doCompose h hop hmeant, doCompose, if_pos hdenied]

end

/-- The state once COMPOSE has taken the share of basin `n` and its clusters begin to pass. -/
def Dsc.composed (d : Dsc) (s : State) (n base m r : Nat) : State :=
  (d.shared ((d.placed (d.begun s) n base).dropCopies base (d.f 0x18 4)) n m r).passTo d.mask n

section
variable {s : State} {d : Dsc} {n base m r : Nat}

theorem Dsc.basin_composed : (d.composed s n base m r).basin n =
    { st := 1, hostBase := base, hostSlots := d.f 0x18 4, moorBase := m, moorLen := d.f 0x20 2 } := by
  have hplaced : ((d.placed (d.begun s) n base).dropCopies base (d.f 0x18 4)).basin n =
      { st := 1, hostBase := base, hostSlots := d.f 0x18 4 } := State.basin_setBasin ..
  rw [Dsc.composed, State.basin_passTo, Dsc.basin_shared, hplaced]

theorem Dsc.cluster_composed {c : Nat} (h : c ∉ d.mask) : (d.composed s n base m r).cluster c = s.cluster c := by
  rw [Dsc.composed, State.cluster_passTo_out _ _ h, Dsc.cluster_shared]
  exact s.takeEntry_keeps (g := fun t => t.cluster c) 0 0 fun _ => rfl

theorem Composes.exec_compose (h : Composes s 0x20 d) (hmay : MayCompose (d.begun s) d n base)
    (hm : (if d.f 0x20 2 = 0 then some 0 else lowestRun (d.placed (d.begun s) n base).moorRuns 0 512 (d.f 0x20 2)) = some m)
    (hr : (if d.f 0x12 2 = 0 then some 0 else (d.placed (d.begun s) n base).chamberRun n (d.f 0x12 2)) = some r) :
    exec (.compose (.ring 0 0)) s = .next ((d.composed s n base m r).setComposing (some (d.passOp n d.mask))) := by
  have hlast : (d.composed s n base m r).host.composeQ = s.host.composeQ := by
    rw [Dsc.composed, State.host_passTo, Dsc.host_shared]
    exact d.composeQ_begun s
  have hstep : (d.begun s).composeStep d.composeOp = { st := d.composed s n base m r, op := some (d.passOp n d.mask) } :=
    State.composeStep_compose h.dscOf_composeOp h.names rfl hmay hm hr
  exact congrArg Host.Outcome.next (h.composeFrom_eq rfl hstep hlast)

end

section
variable {s : State} {d : Dsc} {b : Nat}

theorem Composes.exec_resize_ends (h : Composes s 0x21 d) (hmay : MayResize (d.begun s) d b)
    (hnone : d.more (d.begun s) b ++ d.less (d.begun s) b = []) : exec (.resize (.ring 0 0)) s =
      .next ((((d.begun s).setBasin b ((d.begun s).installShare d ((d.begun s).basin b))).fin d stOk 0).setComposing none) := by
  have hstep := State.composeStep_resize_ends h.dscOf_composeOp h.names rfl hmay hnone
  exact congrArg Host.Outcome.next (h.composeFrom_eq rfl hstep ((State.composeQ_of_fin ..).trans (d.composeQ_begun s)))

theorem Composes.exec_resize_passes (h : Composes s 0x21 d) (hmay : MayResize (d.begun s) d b)
    (hsome : d.more (d.begun s) b ++ d.less (d.begun s) b ≠ []) : exec (.resize (.ring 0 0)) s =
      .next ((((d.begun s).passTo (d.more (d.begun s) b) b).passTo (d.less (d.begun s) b) 0).setComposing
        (some (d.passOp b (d.more (d.begun s) b ++ d.less (d.begun s) b)))) := by
  have hstep := State.composeStep_resize_passes h.dscOf_composeOp h.names rfl hmay hsome
  exact congrArg Host.Outcome.next (h.composeFrom_eq rfl hstep (by rw [State.host_passTo, State.host_passTo, d.composeQ_begun]))

section
variable (h : Composes s 0x22 d) (hb : d.f 0x10 1 = b) (hlow : 1 ≤ b) (hhigh : b ≤ 63)
include h hb hlow hhigh

theorem Composes.exec_decompose_notActive (hst : ((d.begun s).basin b).st ≠ 2) :
    exec (.decompose (.ring 0 0)) s = .next (((d.begun s).fin d stNotFound 0).setComposing none) := by
  have hstep := State.composeStep_decompose_notActive h.dscOf_composeOp h.names rfl hb hlow hhigh hst
  exact congrArg Host.Outcome.next (h.composeFrom_eq rfl hstep ((State.composeQ_of_fin ..).trans (d.composeQ_begun s)))

theorem Composes.exec_decompose_passes (hst : ((d.begun s).basin b).st = 2) (hempty : (d.begun s).notEmpty b = false)
    (hsome : (d.begun s).clustersOf b ≠ []) : exec (.decompose (.ring 0 0)) s =
      .next ((((d.begun s).setBasin b { (d.begun s).basin b with st := 3 }).passTo ((d.begun s).clustersOf b) 0).setComposing
        (some (d.passOp b ((d.begun s).clustersOf b)))) := by
  have hstep := State.composeStep_decompose_passes h.dscOf_composeOp h.names rfl hb hlow hhigh hst hempty hsome
  exact congrArg Host.Outcome.next (h.composeFrom_eq rfl hstep (by rw [State.host_passTo, State.setBasin_host_composeQ, d.composeQ_begun]))

end
end

/-- Settles O48: the descriptor's source, then each operation by the outcome of its checks, and a cluster's pass by its cores' runs. -/
theorem composition : Obligations.Composition := by
  unfold Obligations.Composition
  intro s d u b
  refine ⟨fun e he => ?source, fun h n base hnames hshare hpkey hmask hrun hunused => ?compose,
    fun h hlow hhigh hst hshare hslots hmoor hpkey hmask hblocks => ?resize, fun h hlow hhigh => ?decompose, fun cl n hn => ?pass,
    fun cl hnone => execClusterPass_still hnone⟩
  case source =>
    have hmeant := reservedOp_composition he
    simp only [exec_composition he]
    refine ⟨fun hs => ?_, fun hs hbusy => ?_, fun hs hfree hop => ?_, fun x r hnone => ?_, fun x r d hd hop hout => ?_⟩
    · rw [composeFrom_cmd_notServed hs]
    · rw [composeFrom_cmd_busy hs hbusy]
    · rw [composeFrom_cmd_taken hs hfree hop]
    · rw [composeFrom, serve_of_front_none _ _ hnone]
    · rw [composeFrom_ring_denied hd hop hmeant hout]
  case compose =>
    have hmay : MayCompose (d.begun s) d n base := ⟨hnames, hshare, hpkey, hmask, hrun, hunused⟩
    refine ⟨fun m hmoor hm hzero => ⟨_, d.passOp n d.mask, h.exec_compose hmay (r := 0) ((if_neg hmoor).trans hm) (if_pos hzero), ?_⟩,
      fun r hzero hblocks hr => ⟨_, h.exec_compose hmay (m := 0) (if_pos hzero) ((if_neg hblocks).trans hr), ?_⟩⟩
    · have hbasin := Dsc.basin_composed (s := s) (d := d) (n := n) (base := base) (m := m) (r := 0)
      simp only [State.basin_setComposing, State.cluster_setComposing, State.composing_setComposing, hbasin]
      exact ⟨trivial, trivial, trivial, trivial, trivial, fun c hc => State.passing_passTo _ _ hc,
        fun c hc => Dsc.cluster_composed hc, trivial, d.passOp_stands n d.mask⟩
    · have hbasin := Dsc.basin_composed (s := s) (d := d) (n := n) (base := base) (m := 0) (r := r)
      simp only [State.basin_setComposing, State.cluster_setComposing, State.chamber_setComposing, hbasin]
      refine ⟨trivial, fun i hi => ?_, fun c hc => State.passing_passTo _ _ hc⟩
      rw [Dsc.composed, State.chamber_passTo]
      exact Dsc.chamber_shared hblocks _ n 0 r hi
  case resize =>
    have hmay : MayResize (d.begun s) d b := ⟨rfl, hlow, hhigh, hst, hshare, hslots, hmoor, hpkey, hmask, hblocks⟩
    refine ⟨fun hnone => ⟨_, h.exec_resize_ends hmay hnone, ?_⟩, fun hsome => ⟨_, h.exec_resize_passes hmay hsome, ?_⟩⟩
    · obtain ⟨cqs, hbasin⟩ := ((d.begun s).setBasin b ((d.begun s).installShare d ((d.begun s).basin b))).basin_fin d stOk 0 b
      simp only [State.basin_setComposing, State.composing_setComposing, hbasin, State.basin_setBasin]
      exact ⟨rfl, rfl, rfl, hst, trivial⟩
    · simp only [State.cluster_setComposing, State.composing_setComposing]
      refine ⟨fun c (hc : c ∈ d.more (d.begun s) b) => ?_, fun c hc => State.passing_passTo _ _ hc, rfl⟩
      rw [State.cluster_passTo_out _ _ (Dsc.not_mem_less hc), State.passing_passTo _ _ hc]
  case decompose =>
    refine ⟨fun hst => ⟨_, h.exec_decompose_notActive (b := b) rfl hlow hhigh hst, ?_⟩,
      fun hst hempty hsome => ⟨_, h.exec_decompose_passes (b := b) rfl hlow hhigh hst hempty hsome, ?_⟩⟩
    · simp only [State.basin_setComposing, State.composing_setComposing, State.st_basin_fin]
      exact ⟨rfl, trivial, (State.fab_of_fin ..).trans (s.takeEntry_keeps (g := State.fab) 0 0 fun _ => rfl)⟩
    · simp only [State.basin_setComposing, State.cluster_setComposing, State.composing_setComposing, State.basin_passTo, State.basin_setBasin]
      exact ⟨trivial, fun c hc => State.passing_passTo _ _ hc, rfl⟩
  case pass =>
    refine ⟨execClusterPass_running hn, fun hrun hidle hqueue => ⟨_, execClusterPass_passes hn hrun, ?_⟩⟩
    have hhost := s.host_passCluster cl.toNat n
    rw [State.composeOn_idle (by rw [hhost, hidle]) (by rw [hhost, hqueue]), State.cluster_passCluster]
    exact ⟨rfl, rfl, rfl, rfl, fun i hi => by rw [State.core_passCluster s n hi]; exact ⟨rfl, rfl⟩⟩

end Sys2Proof.Machine
end

section
/-! Tenants of a basin, the map epoch, BSN_CMD and a tenant's slot (R353, R356, R362, R370, R379, R380; log entries 106, 108, 117). -/

namespace Sys2Proof.Machine

/-! ### What a finished job leaves (R331, R335) -/

theorem State.finishJob_frame (s : State) (id status result : Nat) : ∃ regs dram sent basins jobs, s.finishJob id status result =
    { s with regs := regs, dram := dram, sent := sent, host := { s.host with basins := basins, jobs := jobs } } := by
  unfold State.finishJob
  split
  · exact ⟨_, _, _, _, _, rfl⟩
  · rename_i j _
    obtain ⟨_, _, _, _, h⟩ := (State.posted_complete { s with host := { s.host with jobs := s.host.jobs.filter (fun j => decide (j.id ≠ id)) } }
      j.basin j.ring j.wrid j.op j.cq status result).frame
    exact ⟨_, _, _, _, _, h⟩

@[simp] theorem State.sec_of_finishJob (s : State) (id status result : Nat) : (s.finishJob id status result).sec = s.sec := by
  obtain ⟨_, _, _, _, _, h⟩ := s.finishJob_frame id status result; rw [h]
@[simp] theorem State.tiers_of_finishJob (s : State) (id status result : Nat) : (s.finishJob id status result).tiers = s.tiers := by
  obtain ⟨_, _, _, _, _, h⟩ := s.finishJob_frame id status result; rw [h]
@[simp] theorem State.composeQ_of_finishJob (s : State) (id status result : Nat) :
    (s.finishJob id status result).host.composeQ = s.host.composeQ := by
  obtain ⟨_, _, _, _, _, h⟩ := s.finishJob_frame id status result; rw [h]

theorem State.keySlot_congr {s t : State} (h : t.sec = s.sec) (x : Nat) : t.keySlot x = s.keySlot x := by
  unfold State.keySlot; rw [h]

theorem State.keySlot_begun (s : State) (d : Dsc) (x : Nat) : (d.begun s).keySlot x = s.keySlot x :=
  State.keySlot_congr (s.takeEntry_keeps (g := State.sec) 0 0 fun _ => rfl) x

/-! ### The map epoch (R356) -/

theorem leNat_lt (l : List Byte) : leNat l < 256 ^ l.length := by
  induction l with
  | nil => simp [leNat]
  | cons b bs ih =>
    have hb := b.isLt
    simp only [leNat, List.length_cons, Nat.pow_succ]
    omega

theorem Dsc.f_lt (d : Dsc) (o n : Nat) : d.f o n < 256 ^ n := by
  have hlen : (bytesAt d.bytes o n).length = n := by simp [bytesAt, padTo]
  have h := leNat_lt (bytesAt d.bytes o n)
  rwa [hlen] at h

/-- The state with a map epoch installed. -/
def State.withEpoch (s : State) (e : Nat) : State := (s.setFld rBsnEpoch 0 16 e).setFld rBsnEpoch 18 1 0

section
variable {s : State} {e : Nat}

theorem State.setEpoch_newer (h : s.epochUnset = true ∨ epochNewer e s.epoch = true) : s.setEpoch e = some (s.withEpoch e) := if_pos h

theorem State.setEpoch_refused (hset : s.epochUnset = false) (hold : epochNewer e s.epoch = false) : s.setEpoch e = none := by
  simp [State.setEpoch, hset, hold]

theorem State.epoch_withEpoch (h : e < 2 ^ 16) : (s.withEpoch e).epoch = e ∧ (s.withEpoch e).epochUnset = false := by
  have hfield : (s.withEpoch e).fld rBsnEpoch 0 16 = e := by
    rw [State.withEpoch, State.fld_setFld_apart _ _ _ (by omega) (by omega), State.fld_setFld _ _ _ (by omega), Nat.mod_eq_of_lt h]
  have hunset : (s.withEpoch e).fld rBsnEpoch 18 1 = 0 := State.fld_setFld _ _ _ (by omega)
  exact ⟨hfield, by rw [State.epochUnset, hunset]; rfl⟩

theorem State.epoch_congr {t : State} (h : t.reg rBsnEpoch = s.reg rBsnEpoch) : t.epoch = s.epoch ∧ t.epochUnset = s.epochUnset := by
  rw [State.epoch, State.epochUnset, State.fld_congr h, State.fld_congr h]
  exact ⟨rfl, rfl⟩

theorem State.epoch_fin (s : State) (d : Dsc) (status result : Nat) :
    (s.fin d status result).epoch = s.epoch ∧ (s.fin d status result).epochUnset = s.epochUnset :=
  State.epoch_congr ((s.posted_fin d status result).reg _ (by decide) (by decide))

theorem State.epoch_begun (s : State) (d : Dsc) : (d.begun s).epoch = s.epoch ∧ (d.begun s).epochUnset = s.epochUnset :=
  State.epoch_congr (s.takeEntry_keeps (g := fun t => t.reg rBsnEpoch) 0 0 fun _ => rfl)

section
variable {d : Dsc} (h : Composes s 0x24 d)
include h

theorem Composes.exec_mapEpoch_newer (hnew : s.epochUnset = true ∨ epochNewer (d.f 0x10 2) s.epoch = true) :
    exec (.mapEpoch (.ring 0 0)) s =
      .next ((((d.begun s).withEpoch (d.f 0x10 2)).fin d stOk (d.begun s).epoch).setComposing none) := by
  rw [← (s.epoch_begun d).1, ← (s.epoch_begun d).2] at hnew
  have hstep : (d.begun s).composeStep d.composeOp = { st := ((d.begun s).withEpoch (d.f 0x10 2)).fin d stOk (d.begun s).epoch } := by
    simp only [State.composeStep, h.dscOf_composeOp, h.names, State.setEpoch_newer hnew]
  exact congrArg Host.Outcome.next (h.composeFrom_eq rfl hstep ((State.composeQ_of_fin ..).trans (d.composeQ_begun s)))

theorem Composes.exec_mapEpoch_refused (hset : s.epochUnset = false) (hold : epochNewer (d.f 0x10 2) s.epoch = false) :
    exec (.mapEpoch (.ring 0 0)) s = .next (((d.begun s).fin d stInvalidField 0).setComposing none) := by
  rw [← (s.epoch_begun d).1] at hold
  rw [← (s.epoch_begun d).2] at hset
  have hstep : (d.begun s).composeStep d.composeOp = { st := (d.begun s).fin d stInvalidField 0 } := by
    simp only [State.composeStep, h.dscOf_composeOp, h.names, State.setEpoch_refused hset hold]
  exact congrArg Host.Outcome.next (h.composeFrom_eq rfl hstep ((State.composeQ_of_fin ..).trans (d.composeQ_begun s)))

end

/-- BSN_EPOCH once the W1C bits of a write are cleared. -/
def State.epochAcked (s : State) (v : W64) : State :=
  let s1 := if vfld v 16 1 = 1 then s.setFld rBsnEpoch 16 1 0 else s
  if vfld v 17 1 = 1 then s1.setFld rBsnEpoch 17 1 0 else s1

theorem State.epoch_epochAcked (s : State) (v : W64) : (s.epochAcked v).epoch = s.epoch ∧ (s.epochAcked v).epochUnset = s.epochUnset := by
  have hclear (t : State) {lo : Nat} (h : 16 ≤ lo ∧ lo ≤ 17) : (t.setFld rBsnEpoch lo 1 0).epoch = t.epoch ∧
      (t.setFld rBsnEpoch lo 1 0).epochUnset = t.epochUnset := by
    rw [State.epoch, State.epochUnset, State.fld_setFld_apart _ _ _ (by omega) (by omega),
      State.fld_setFld_apart _ _ _ (by omega) (by omega)]
    exact ⟨rfl, rfl⟩
  unfold State.epochAcked
  dsimp only
  split <;> split <;> simp [hclear]

theorem State.epochWrite_newer {v : W64} (h : s.epochUnset = true ∨ epochNewer (Sys2Proof.fld v 0 16) s.epoch = true) :
    s.epochWrite v = (s.epochAcked v).withEpoch (Sys2Proof.fld v 0 16) := by
  rw [← (s.epoch_epochAcked v).1, ← (s.epoch_epochAcked v).2] at h
  have hset : (s.epochAcked v).setEpoch (vfld v 0 16) = some ((s.epochAcked v).withEpoch (Sys2Proof.fld v 0 16)) := State.setEpoch_newer h
  unfold State.epochAcked at hset ⊢
  simp only [State.epochWrite, hset]

theorem State.epochWrite_refused {v : W64} (hset : s.epochUnset = false) (hold : epochNewer (Sys2Proof.fld v 0 16) s.epoch = false) :
    s.epochWrite v = (s.epochAcked v).setFld rBsnEpoch 16 1 1 := by
  rw [← (s.epoch_epochAcked v).1] at hold
  rw [← (s.epoch_epochAcked v).2] at hset
  have hnone : (s.epochAcked v).setEpoch (vfld v 0 16) = none := State.setEpoch_refused hset hold
  unfold State.epochAcked at hnone ⊢
  simp only [State.epochWrite, hnone]

end

/-! ### BSN_CMD (R362) -/

section
variable {s : State} {v : W64}

theorem State.cmdGo_ignored (h : s.cmdBusy = true ∨ Sys2Proof.fld v 0 1 = 0) : s.cmdGo v = s := if_pos h.symm

theorem State.cmdGo_run (hfree : s.cmdBusy = false) (hgo : Sys2Proof.fld v 0 1 = 1) :
    s.cmdGo v = (s.setFld rBsnCmdRes 16 1 1).cmdRun (dscOf 0 cmdRing s.cmdBuf) := by
  have hgo' : vfld v 0 1 = 1 := hgo
  simp [State.cmdGo, hfree, hgo']

theorem State.cmdRun_reserved {d : Dsc} (h : reservedOp d.op = true) : s.cmdRun d = s.fin d stInvalidField 0 := by
  unfold State.cmdRun
  split
  case h_27 => rfl
  all_goals
    rename_i hop
    rw [hop] at h
    exact absurd h (by decide)

/-- A completion of BSN_CMD with a status alone stands in BSN_CMD_RES, with BUSY clear. -/
theorem State.fin_cmd {d : Dsc} (h : d.ring = cmdRing) : s.fin d stInvalidField 0 = s.setReg rBsnCmdRes (BitVec.ofNat 64 stInvalidField) := by
  have hstatus : leNat (bytesAt (cqEntry d.wrid stInvalidField d.op 0 0 d.ring) 8 2) = stInvalidField := rfl
  have hresult : leNat (bytesAt (cqEntry d.wrid stInvalidField d.op 0 0 d.ring) 0x10 4) = 0 := rfl
  have hring : decide (d.ring = cmdRing) = true := decide_eq_true h
  rw [State.fin, State.complete, hring, Bool.or_true, if_pos rfl, State.postCq, if_pos h, hstatus, hresult, Nat.zero_mul,
    Nat.add_zero]

end

/-! ### Tenants of a basin (R353) -/

/-- What an insert makes of the ledger does not rest on anything but the ledger and the key slots. -/
theorem State.ldgInsert_congr {s t v : State} {key care : BitVec 128} {val : W64} {fence : Bool} (hledger : t.ledger = s.ledger)
    (hsec : t.sec = s.sec) (h : s.ldgInsert key care val fence = .ok v) : t.ldgInsert key care val fence = .ok (t.setLedger v.ledger) := by
  have hactive (x : Nat) : t.active x = s.active x := by rw [State.active, State.active, State.keySlot_congr hsec]
  have hsame : t.ldgSame key care val = s.ldgSame key care val := by rw [State.ldgSame, State.ldgSame, hledger]
  unfold State.ldgInsert at h ⊢
  rw [hactive, hsame, hledger]
  split at h
  case isTrue => cases h
  case isFalse hgo =>
    rw [if_neg hgo]
    split at h
    case h_1 => cases h; simp [State.ldgPut, hledger]
    case h_2 =>
      split at h
      case h_1 => cases h; simp [State.ldgPut, hledger]
      case h_2 => cases h

/-- A basin with a tenant added, and with one taken away. -/
def Basin.withTenant (b : Basin) (t : Nat) : Basin := { b with tenants := if b.tenants.contains t then b.tenants else b.tenants ++ [t] }
def Basin.withoutTenant (b : Basin) (t : Nat) : Basin := { b with tenants := b.tenants.filter (fun x => decide (x ≠ t)) }

theorem Basin.contains_withTenant (b : Basin) (t : Nat) : (b.withTenant t).tenants.contains t = true := by
  unfold Basin.withTenant
  dsimp only
  split
  case isTrue h => exact h
  case isFalse => simp

theorem Basin.contains_withoutTenant (b : Basin) (t : Nat) : (b.withoutTenant t).tenants.contains t = false := by
  simp [Basin.withoutTenant]

section
variable {s u v : State} {t b : Nat}

/-- A tenant's bit is set in the same way in two states of one ledger and the same key slots. -/
theorem State.tenantBit_set (hledger : s.ledger = u.ledger) (hsec : s.sec = u.sec) (h : u.tenantBit t b true = .ok v) :
    s.tenantBit t b true = .ok ((s.setLedger v.ledger).setBasin b ((s.basin b).withTenant t)) := by
  have hsame : s.ldgSame (tenantKeyOf t) tenantCare = u.ldgSame (tenantKeyOf t) tenantCare := by rw [State.ldgSame, State.ldgSame, hledger]
  have hentry (i : Nat) : s.ldgEntry i = u.ldgEntry i := by rw [State.ldgEntry, State.ldgEntry, hledger]
  simp only [State.tenantBit, State.ldgAdd, if_true, hsame, hentry] at h ⊢
  split at h
  case h_1 => cases h
  case h_2 w hadd =>
    split at hadd
    case h_1 hins =>
      cases hadd; cases h
      rw [State.ldgInsert_congr hledger hsec hins]
      rfl
    case h_2 => cases hadd

theorem State.tenantBit_cleared (s : State) (t b : Nat) : ∃ w : State, w.host = s.host ∧
    s.tenantBit t b false = .ok (w.setBasin b ((s.basin b).withoutTenant t)) := by
  have hdrop (key care : BitVec 128) : (s.ldgDrop key care).host = s.host := by unfold State.ldgDrop; split <;> rfl
  have hleft (v : W64) : (if v = 0 then s.ldgDrop (tenantKeyOf t) tenantCare else match s.ldgSame (tenantKeyOf t) tenantCare with
      | some i => s.ldgPut i (LEntry.make (tenantKeyOf t) tenantCare v)
      | none => s).host = s.host := by
    split
    · exact hdrop _ _
    · split <;> rfl
  exact ⟨_, hleft _, rfl⟩

variable {d : Dsc}

theorem State.basinTenant_added (hb : d.f 0x10 1 = b) (hrange : b ≤ 63) (hst : (s.basin b).st = 2) (hact : d.f 0x11 1 = 1)
    (hbit : s.tenantBit d.tenant b true = .ok v) : s.basinTenant d = v.fin d stOk 0 := by
  simp [State.basinTenant, hb, Nat.not_lt.mpr hrange, hst, hact, hbit]

theorem State.basinTenant_removed (hb : d.f 0x10 1 = b) (hrange : b ≤ 63) (hst : (s.basin b).st = 2) (hact : d.f 0x11 1 = 2)
    (hobjects : s.tiers.objects = []) (hconns : s.net.conns = []) (hmoorings : s.net.moorings = [])
    (hbit : s.tenantBit d.tenant b false = .ok v) : s.basinTenant d = v.fin d stOk 0 := by
  simp [State.basinTenant, hb, Nat.not_lt.mpr hrange, hst, hact, hbit, hobjects, hconns, hmoorings]

theorem Composes.exec_basinTenant (h : Composes s 0x23 d) (hdone : (d.begun s).basinTenant d = v.fin d stOk 0)
    (hlast : v.host.composeQ = (d.begun s).host.composeQ) :
    exec (.basinTenant (.ring 0 0)) s = .next ((v.fin d stOk 0).setComposing none) := by
  have hstep : (d.begun s).composeStep d.composeOp = { st := v.fin d stOk 0 } := by
    simp only [State.composeStep, h.dscOf_composeOp, h.names, hdone]
  exact congrArg Host.Outcome.next (h.composeFrom_eq rfl hstep ((State.composeQ_of_fin ..).trans (hlast.trans (d.composeQ_begun s))))

end

/-! ### A tenant's slot reserved, and its removal begun (R379, R380 step 1) -/

section
variable {s : State} {d : Dsc}

theorem Composes.exec_tenantReserve (h : Composes s 0x28 d) : exec (.tenantReserve (.ring 0 0)) s =
    .next ((if d.tenant = 0 ∨ (s.keySlot d.tenant).st ≠ 0 then (d.begun s).fin d stSlotState 0
      else ((d.begun s).setKeySlot d.tenant { st := 1, owner := BitVec.ofNat 384 (d.f 0x10 48) }).fin d stOk 0).setComposing none) := by
  have hstep : (d.begun s).composeStep d.composeOp = { st := (d.begun s).tenantReserve d } := by
    simp only [State.composeStep, h.dscOf_composeOp, h.names]
  have hlast : ((d.begun s).tenantReserve d).host.composeQ = s.host.composeQ := by
    rw [← d.composeQ_begun s]
    unfold State.tenantReserve
    split <;> rw [State.composeQ_of_fin]
    rfl
  rw [← s.keySlot_begun d]
  exact congrArg Host.Outcome.next (h.composeFrom_eq rfl hstep hlast)

/-- The waiting work of a tenant ends: none of it is left, and the jobs it held are all that changes besides. -/
theorem State.drainTenant_leaves (s : State) (t : Nat) : (s.drainTenant t).sec = s.sec ∧
    (s.drainTenant t).host.composeQ = s.host.composeQ ∧
    (s.drainTenant t).tiers.writes = s.tiers.writes.filter (fun o => decide (o.key.tenant ≠ t)) ∧
    (s.drainTenant t).tiers.bargeQ = s.tiers.bargeQ.filter (fun q => decide (q.key.tenant ≠ t)) := by
  have hjobs {β : Type} (g : State → β) (hg : ∀ (u : State) (o : BerthOp), g (u.finishJob o.job stTenantRetired 0) = g u) (l : List BerthOp)
      (u : State) : g (l.foldl (fun u o => u.finishJob o.job stTenantRetired 0) u) = g u := State.foldl_keeps hg l u
  unfold State.drainTenant
  dsimp only
  rw [hjobs State.sec (fun u o => u.sec_of_finishJob ..), hjobs State.tiers (fun u o => u.tiers_of_finishJob ..),
    hjobs (fun u => u.host.composeQ) (fun u o => u.composeQ_of_finishJob ..)]
  exact ⟨rfl, rfl, rfl, rfl⟩

/-- The removal of a tenant as TENANT_REMOVE begins it. -/
def Dsc.removal (d : Dsc) (s : State) : Removal := { tenant := d.tenant, report := d.f 0x10 8, start := s.now }

/-- The state of a part that begins to remove a tenant: its slot is in REMOVAL, and its waiting work has ended. -/
def Dsc.removing (d : Dsc) (s : State) : State :=
  (({ s with sec := { s.sec with removal := some (d.removal s) } } : State).setKeySlot d.tenant { s.keySlot d.tenant with st := 3 }).drainTenant
    d.tenant

theorem Dsc.removing_leaves (d : Dsc) (s : State) : ((d.removing s).keySlot d.tenant).st = 3 ∧ (d.removing s).sec.removal = some (d.removal s) ∧
    (∀ o ∈ (d.removing s).tiers.writes, o.key.tenant ≠ d.tenant) ∧ (∀ q ∈ (d.removing s).tiers.bargeQ, q.key.tenant ≠ d.tenant) := by
  obtain ⟨hsec, -, hwrites, hbarges⟩ := State.drainTenant_leaves (({ s with sec := { s.sec with removal := some (d.removal s) } } :
    State).setKeySlot d.tenant { s.keySlot d.tenant with st := 3 }) d.tenant
  rw [Dsc.removing, hwrites, hbarges, State.keySlot_congr hsec, State.keySlot_setKeySlot, hsec]
  exact ⟨rfl, rfl, fun o ho => by simpa using (List.mem_filter.mp ho).2, fun q hq => by simpa using (List.mem_filter.mp hq).2⟩

section
variable (h : Composes s 0x29 d) (htenant : d.tenant ≠ 0) (hin : (d.begun s).inHost 0 (d.f 0x10 8) 64 = true)
include h htenant hin

theorem Composes.exec_tenantRemove_active (hst : (s.keySlot d.tenant).st = 2) : exec (.tenantRemove (.ring 0 0)) s =
    .next ((d.removing (d.begun s)).setComposing (some { d.composeOp with step := 1 })) := by
  rw [← s.keySlot_begun d] at hst
  have hstep : (d.begun s).composeStep d.composeOp = { st := d.removing (d.begun s), op := some { d.composeOp with step := 1 } } := by
    simp only [State.composeStep, h.dscOf_composeOp, h.names, State.removeStart, htenant, hst, hin]
    rfl
  exact congrArg Host.Outcome.next (h.composeFrom_eq rfl hstep ((State.drainTenant_leaves _ _).2.1.trans (d.composeQ_begun s)))

theorem Composes.exec_tenantRemove_reserved (hst : (s.keySlot d.tenant).st = 1) : exec (.tenantRemove (.ring 0 0)) s =
    .next (((d.begun s).removeEnd (d.removal (d.begun s)) d).setComposing none) := by
  rw [← s.keySlot_begun d] at hst
  have hstep : (d.begun s).composeStep d.composeOp = { st := (d.begun s).removeEnd (d.removal (d.begun s)) d } := by
    simp only [State.composeStep, h.dscOf_composeOp, h.names, State.removeStart, htenant, hst, hin]
    rfl
  exact congrArg Host.Outcome.next (h.composeFrom_eq rfl hstep ((State.composeQ_of_fin ..).trans (d.composeQ_begun s)))

end

/-- The state once a removal's record is written and its slot EMPTY. -/
def State.reported (s : State) (r : Removal) : State :=
  let s1 := (s.setDram (memWriteL s.dram r.report (r.record s.now))).setKeySlot r.tenant {}
  { s1 with sec := { s1.sec with removal := none } }

theorem State.removeEnd_eq (s : State) (r : Removal) (d : Dsc) :
    s.removeEnd r d = (s.reported r).fin d stOk (r.fenced % 2 ^ 32 + (r.dram + r.flash) % 2 ^ 32 * 2 ^ 32) := by
  unfold State.removeEnd State.reported; rfl

theorem State.removeEnd_leaves (s : State) (r : Removal) (d : Dsc) : (s.removeEnd r d).keySlot r.tenant = {} ∧
    (s.removeEnd r d).sec.removal = none ∧ (s.removeEnd r d).host.composeQ = s.host.composeQ := by
  have hslot : (s.reported r).keySlot r.tenant = {} := alGetD_alPut_self ..
  rw [State.removeEnd_eq, State.keySlot_congr (State.sec_of_fin ..), hslot, State.sec_of_fin, State.composeQ_of_fin]
  exact ⟨rfl, rfl, rfl⟩

end

/-! ### Bound data (R194, R196, R374 to R376) -/

section
variable {u : State} {d : Dsc}

theorem doBind_outside (h : u.inHost d.basin (d.f 0x10 8) (d.f 0x18 8) = false) :
    doBind d u = (u.bump rSecErr 16 16 1).fin d stAccessDenied 0 := by
  simp [doBind, h]

section
variable (hin : u.inHost d.basin (d.f 0x10 8) (d.f 0x18 8) = true)
include hin

theorem doBind_bound {t : State} (h : u.bindPackage d.basin (u.buffer (d.f 0x10 8) (d.f 0x18 8)) = .ok t) :
    doBind d u = t.fin d stOk (dsc (u.buffer (d.f 0x10 8) (d.f 0x18 8)) 8 4) := by
  simp [doBind, hin, h]

theorem doBind_refused {e : Nat} (h : u.bindPackage d.basin (u.buffer (d.f 0x10 8) (d.f 0x18 8)) = .error e) :
    doBind d u = (if e = stAuthFail then u.bump rSecErr 0 16 1 else u.bump rSecErr 16 16 1).fin d e 0 := by
  simp [doBind, hin, h]

end

/-- Whether a binding is the one an UNBIND names. -/
def Dsc.unbinds (d : Dsc) (x : Binding) : Bool :=
  decide (x.kind = d.f 0x10 1) && decide (x.object = d.f 0x14 4) && (decide (d.f 0x10 1 = 1) || decide (x.entry = d.f 0x11 1))

theorem doUnbind_wrongKind (h : d.f 0x10 1 = 0 ∨ 2 < d.f 0x10 1) : doUnbind d u = u.fin d stInvalidField 0 := if_pos h

theorem doUnbind_unbound (hkind : d.f 0x10 1 = 1 ∨ d.f 0x10 1 = 2) (h : (u.basin d.basin).binds.any d.unbinds = false) :
    doUnbind d u = u.fin d stNotFound 0 := by
  have hrange : ¬ (d.f 0x10 1 = 0 ∨ 2 < d.f 0x10 1) := by omega
  unfold Dsc.unbinds at h
  simp only [doUnbind, if_neg hrange, h, Bool.not_false, if_true]

theorem doUnbind_inUse (hkind : d.f 0x10 1 = 1) (h : (u.basin d.basin).binds.any d.unbinds = true)
    (hused : u.tiers.objects.any (fun o => decide (o.2.basin = d.basin) && decide (o.2.base = d.f 0x14 4)) = true) :
    doUnbind d u = u.fin d stBaseInUse 0 := by
  have hrange : ¬ (d.f 0x10 1 = 0 ∨ 2 < d.f 0x10 1) := by omega
  unfold Dsc.unbinds at h
  simp only [doUnbind, if_neg hrange, h, Bool.not_true, Bool.false_eq_true, if_false, if_pos (And.intro hkind hused)]

theorem doUnbind_program (hkind : d.f 0x10 1 = 2) (h : (u.basin d.basin).binds.any d.unbinds = true) : doUnbind d u =
    (u.setBasin d.basin { u.basin d.basin with binds := (u.basin d.basin).binds.filter (fun x => !d.unbinds x) }).fin d stOk 0 := by
  have hrange : ¬ (d.f 0x10 1 = 0 ∨ 2 < d.f 0x10 1) := by omega
  have hnotBase : d.f 0x10 1 ≠ 1 := by omega
  unfold Dsc.unbinds at h ⊢
  simp only [doUnbind, if_neg hrange, h, Bool.not_true, Bool.false_eq_true, if_false, if_neg hnotBase, if_neg (not_and_of_not_left _ hnotBase)]

end

/-- Settles O49: each composition operation by its outcome, the writes of BSN_EPOCH and BSN_CMD, then BIND and UNBIND by their checks. -/
theorem tenancyAndBinding : Obligations.TenancyAndBinding := by
  unfold Obligations.TenancyAndBinding
  refine ⟨fun s d => ?slots, fun s b r d => ?binding⟩
  case binding =>
    intro u
    refine ⟨fun h => ?bind, fun h => ?unbind⟩
    case bind =>
      have hexec : exec (.bind b r) s = .next (doBind d u) := congrArg _ (serve_of_submitted doBind h rfl)
      dsimp only
      rw [hexec]
      refine ⟨fun hout => ?_, fun hin => ⟨fun t ht => ?_, fun he => ?_, fun e he hne => ?_⟩⟩
      · rw [doBind_outside hout]
      · rw [doBind_bound hin ht]
      · rw [doBind_refused hin he, if_pos rfl]
      · rw [doBind_refused hin he, if_neg hne]
    case unbind =>
      have hexec : exec (.unbind b r) s = .next (doUnbind d u) := congrArg _ (serve_of_submitted doUnbind h rfl)
      dsimp only
      rw [hexec]
      refine ⟨fun hwrong => ?_, fun hkind hnone => ?_, fun hkind hany hused => ?_, fun hkind hany => ?_⟩
      · rw [doUnbind_wrongKind hwrong]
      · rw [doUnbind_unbound hkind hnone]
      · rw [doUnbind_inUse hkind hany hused]
      · rw [doUnbind_program hkind hany]; rfl
  case slots =>
    intro u b
    refine ⟨fun h hb hst hact v hv => ?added, fun h hb hst hact hobjects hconns hmoorings => ?removed, fun h => ?epoch, fun v hs => ?epochWrite,
      fun v hs hfree hgo => ?go, fun v hs hno => ?ignored, fun v hs hfree hgo hop => ?reserved, fun h => ?reserve,
      fun h htenant hin => ⟨fun hst => ?active, fun hst => ?empty⟩⟩
    case added =>
      have hbit := State.tenantBit_set (s := d.begun s) (u := u) rfl rfl hv
      have hdone := State.basinTenant_added (s := d.begun s) rfl hb hst hact hbit
      refine ⟨_, h.exec_basinTenant hdone rfl, ?_, ?_, rfl⟩
      · rw [State.basin_setComposing, State.tenants_basin_fin, State.basin_setBasin, Basin.contains_withTenant]
      · exact congrArg Ledger.entries (State.ledger_of_fin ..)
    case removed =>
      obtain ⟨w, hhost, hbit⟩ := (d.begun s).tenantBit_cleared d.tenant b
      have hnet : u.net = s.net := s.takeEntry_keeps 0 0 fun _ => rfl
      have htiers : u.tiers = s.tiers := s.takeEntry_keeps 0 0 fun _ => rfl
      have hdone := State.basinTenant_removed (s := d.begun s) rfl hb hst hact ((congrArg Tiers.objects htiers).trans hobjects)
        ((congrArg Net.conns hnet).trans hconns) ((congrArg Net.moorings hnet).trans hmoorings) hbit
      have hlast : w.host.composeQ = (d.begun s).host.composeQ := by rw [hhost]
      refine ⟨_, h.exec_basinTenant hdone hlast, ?_, rfl⟩
      rw [State.basin_setComposing, State.tenants_basin_fin, State.basin_setBasin, Basin.contains_withoutTenant]
    case epoch =>
      refine ⟨fun hnew => ⟨_, h.exec_mapEpoch_newer hnew, ?_⟩, fun hset hold => ⟨_, h.exec_mapEpoch_refused hset hold, ?_⟩⟩
      · obtain ⟨hepoch, hunset⟩ := ((d.begun s).withEpoch (d.f 0x10 2)).epoch_fin d stOk (d.begun s).epoch
        obtain ⟨hinstalled, hclear⟩ := State.epoch_withEpoch (s := d.begun s) (d.f_lt 0x10 2)
        exact ⟨hepoch.trans hinstalled, hunset.trans hclear⟩
      · obtain ⟨hepoch, hunset⟩ := (d.begun s).epoch_fin d stInvalidField 0
        obtain ⟨hsame, hstill⟩ := s.epoch_begun d
        exact ⟨hepoch.trans hsame, hunset.trans (hstill.trans hset)⟩
    case epochWrite =>
      have hexec : exec (.bsnEpochWrite v) s = .next (s.epochWrite v) := congrArg _ (if_pos hs)
      rw [hexec]
      refine ⟨fun hnew => ⟨_, rfl, ?_⟩, fun hset hold => ⟨_, rfl, ?_⟩⟩
      · rw [State.epochWrite_newer hnew]
        exact State.epoch_withEpoch (fld_lt v 0 16)
      · rw [State.epochWrite_refused hset hold, State.epoch, State.fld_setFld_apart _ _ _ (by omega) (by omega), State.fld_setFld _ _ _ (by omega)]
        exact ⟨(s.epoch_epochAcked v).1, rfl⟩
    case go =>
      have hexec : exec (.bsnCmdGo v) s = .next (s.cmdGo v) := congrArg _ (if_pos hs)
      rw [hexec, State.cmdGo_run hfree hgo]
    case ignored =>
      have hexec : exec (.bsnCmdGo v) s = .next (s.cmdGo v) := congrArg _ (if_pos hs)
      rw [hexec, State.cmdGo_ignored hno]
    case reserved =>
      have hexec : exec (.bsnCmdGo v) s = .next (s.cmdGo v) := congrArg _ (if_pos hs)
      refine ⟨_, hexec, ?_⟩
      rw [State.cmdGo_run hfree hgo, State.cmdRun_reserved hop, State.fin_cmd rfl, State.fld_setReg, State.fld_setReg]
      exact ⟨rfl, rfl⟩
    case reserve =>
      refine ⟨fun htenant hst => ⟨_, h.exec_tenantReserve, ?_⟩, fun hrefused => ⟨_, h.exec_tenantReserve, fun x => ?_⟩⟩
      · rw [if_neg (by simp [htenant, hst])]
        refine ⟨(State.keySlot_congr (State.sec_of_fin ..) _).trans (State.keySlot_setKeySlot ..), fun x hx => ?_⟩
        exact (State.keySlot_congr (State.sec_of_fin ..) x).trans ((State.keySlot_setKeySlot_ne _ _ _ hx.symm).trans (s.keySlot_begun d x))
      · rw [if_pos hrefused]
        exact (State.keySlot_congr (State.sec_of_fin ..) x).trans (s.keySlot_begun d x)
    case active =>
      obtain ⟨hslot, hremoval, hwrites, hbarges⟩ := d.removing_leaves (d.begun s)
      rw [Dsc.removal, show (d.begun s).now = s.now from s.takeEntry_keeps (g := State.now) 0 0 fun _ => rfl] at hremoval
      exact ⟨_, h.exec_tenantRemove_active htenant hin hst, hslot, hremoval, hwrites, hbarges⟩
    case empty =>
      obtain ⟨hslot, hremoval, -⟩ := (d.begun s).removeEnd_leaves (d.removal (d.begun s)) d
      refine ⟨_, h.exec_tenantRemove_reserved htenant hin hst, ?_, hremoval, rfl⟩
      exact congrArg KeySlot.st hslot

end Sys2Proof.Machine
end

section
/-! Objects moved to another basin or another part (R347, R354, R355; log entries 114 to 116). -/

namespace Sys2Proof.Machine

/-! ### MOVE_OBJECT (R354, R355) -/

section
variable {u : State} {d : Dsc} {o : Obj}

/-- A MOVE_OBJECT of an object that its basin holds, and that is on no move yet. -/
structure MovesOwn (u : State) (d : Dsc) (o : Obj) : Prop where
  obj : u.obj d.tenant (d.f 0x10 4) = some o
  basin : o.basin = d.basin
  notBase : o.isBase = false
  still : o.moving = none
  unmoved : o.moveBasin = none

theorem MovesOwn.owned (h : MovesOwn u d o) : ¬ (o.basin ≠ d.basin ∨ o.isBase = true) := by simp [h.basin, h.notBase]

theorem doMoveObject_noBasin (h : MovesOwn u d o) (hpkg : d.f 0x16 2 = 0xFFFF) (hb : 63 < d.f 0x14 1 ∨ (u.basin (d.f 0x14 1)).st ≠ 2) :
    doMoveObject d u = u.fin d stInvalidField 0 := by
  have hwrong : 63 < d.f 0x14 1 ∨ (u.basin (d.f 0x14 1)).st ≠ 2 ∨ o.moving.isSome = true ∨
      (o.moveBasin.isSome = true ∧ o.moveBasin ≠ some (d.f 0x14 1)) := hb.imp_right .inl
  simp only [doMoveObject, h.obj, if_neg h.owned, if_pos hpkg, if_pos hwrong]

theorem doMoveObject_noPackage (h : MovesOwn u d o) (hpkg : d.f 0x16 2 ≠ 0xFFFF) (hwrong : 1023 < d.f 0x16 2 ∨ d.f 0x16 2 = selfPkg) :
    doMoveObject d u = u.fin d stInvalidField 0 := by
  have hwrong' : 1023 < d.f 0x16 2 ∨ d.f 0x16 2 = selfPkg ∨ o.moveBasin.isSome = true ∨
      (o.moving.isSome = true ∧ o.moving ≠ some (d.f 0x16 2)) := hwrong.imp_right .inl
  simp only [doMoveObject, h.obj, if_neg h.owned, if_neg hpkg, if_pos hwrong']

/-- The state with an object on its way to another basin. -/
def Dsc.basinMove (d : Dsc) (u : State) (o : Obj) : State := u.setObj d.tenant (d.f 0x10 4) { o with moveBasin := some (d.f 0x14 1) }

/-- A move to a basin that serves the tenant takes effect at once where no convoy armed before is left. -/
theorem doMoveObject_basin (h : MovesOwn u d o) (hpkg : d.f 0x16 2 = 0xFFFF) (hb : d.f 0x14 1 ≤ 63) (hst : (u.basin (d.f 0x14 1)).st = 2)
    (htenant : (u.basin (d.f 0x14 1)).tenants.contains d.tenant = true) (hother : d.f 0x14 1 ≠ o.basin) :
    doMoveObject d u = (if (d.basinMove u o).armedBefore d.tenant (d.f 0x10 4) o.basin then d.basinMove u o
      else (d.basinMove u o).switchBasin d.tenant (d.f 0x10 4) o (d.f 0x14 1)).fin d stOk (u.homesOf d.tenant (d.f 0x10 4)).length := by
  have hright : ¬ (63 < d.f 0x14 1 ∨ (u.basin (d.f 0x14 1)).st ≠ 2 ∨ o.moving.isSome = true ∨
      (o.moveBasin.isSome = true ∧ o.moveBasin ≠ some (d.f 0x14 1))) := by
    simp [Nat.not_lt.mpr hb, hst, h.still, h.unmoved]
  simp only [doMoveObject, h.obj, if_neg h.owned, if_pos hpkg, if_neg hright, htenant, Bool.not_true, Bool.false_eq_true, if_false,
    if_neg hother]
  rfl

/-- A move to a part that knows the object asks for its berths to be barged. -/
theorem doMoveObject_package (h : MovesOwn u d o) (hmost : d.f 0x16 2 ≤ 1023) (hother : d.f 0x16 2 ≠ selfPkg)
    (hset : o.pset.contains (d.f 0x16 2) = true) (hpeer : Config.peerObject (d.f 0x16 2) d.tenant (d.f 0x10 4) u.fresh = true) :
    doMoveObject d u =
      (((u.drawn.setObj d.tenant (d.f 0x10 4) { o with moving := some (d.f 0x16 2), touched := [] }).moveOn d.tenant (d.f 0x10 4)).moveDone
        d.tenant (d.f 0x10 4)).fin d stOk (u.homesOf d.tenant (d.f 0x10 4)).length := by
  have hpkg : d.f 0x16 2 ≠ 0xFFFF := by omega
  have hright : ¬ (1023 < d.f 0x16 2 ∨ d.f 0x16 2 = selfPkg ∨ o.moveBasin.isSome = true ∨
      (o.moving.isSome = true ∧ o.moving ≠ some (d.f 0x16 2))) := by
    simp [Nat.not_lt.mpr hmost, hother, h.still, h.unmoved]
  have htouched : (if o.moving.isSome then o.touched else []) = [] := by simp [h.still]
  simp only [doMoveObject, h.obj, if_neg h.owned, if_neg hpkg, if_neg hright, hset, hpeer, Bool.not_true, Bool.false_eq_true, or_self, if_false,
    htouched]

end

/-! ### MOVE_LEDGER_SWITCH (R354) -/

section
variable {s : State} {tn : BitVec 12} {ob : BitVec 32} {o : Obj}

theorem execMoveLedgerSwitch_still (h : s.obj tn.toNat ob.toNat = some o) (hnone : o.moveBasin = none) : execMoveLedgerSwitch tn ob s = .next s := by
  simp only [execMoveLedgerSwitch, h, hnone]

theorem execMoveLedgerSwitch_moving {n : Nat} (h : s.obj tn.toNat ob.toNat = some o) (hn : o.moveBasin = some n) :
    execMoveLedgerSwitch tn ob s =
      if s.armedBefore tn.toNat ob.toNat o.basin then .next s else .next (s.switchBasin tn.toNat ob.toNat o n) := by
  simp only [execMoveLedgerSwitch, h, hn]

end

/-! ### BACKGROUND_PULL (R355 step 4) -/

section
variable {s : State} {k : BerthKey} {o : Obj} {pkg : Nat}

/-- A berth's score, 0 where no table holds the berth. -/
def State.berthScore (s : State) (x : BerthKey) : Nat := ((s.pte x).map (·.score)).getD 0

/-- The barge that pulls a berth to a peer. -/
def State.pullOf (s : State) (k : BerthKey) (pkg : Nat) : BargeReq :=
  { key := k, why := .move, toFlash := isFlash (((s.pte k).map (·.slot)).getD 0), peer := some pkg }

theorem execBackgroundPull_not (ho : s.obj k.tenant k.object = some o) (hmoved : o.movedTo = some pkg)
    (h : s.fld rBsnCtl 16 16 = 0 ∨ k ∉ s.pullable o k.tenant k.object) : execBackgroundPull k s = .next s := by
  have hstay : s.fld rBsnCtl 16 16 = 0 ∨ (!(s.pullable o k.tenant k.object).contains k) = true ∨
      (s.pullable o k.tenant k.object).any (fun x => bfLt (s.berthScore k) (s.berthScore x)) = true := by
    refine h.imp_right fun hout => .inl ?_
    simpa using hout
  unfold State.berthScore at hstay
  simp only [execBackgroundPull, ho, hmoved, if_pos hstay]

theorem State.queueBarge_new {r : BargeReq} (hqueue : s.tiers.bargeQ.any (fun q => decide (q.key = r.key)) = false)
    (hbarge : alGet s.tiers.barges r.key = none) :
    s.queueBarge r = { s with tiers := { s.tiers with bargeQ := s.tiers.bargeQ ++ [r] } } := by
  simp [State.queueBarge, hqueue, hbarge]

theorem execBackgroundPull_best (ho : s.obj k.tenant k.object = some o) (hmoved : o.movedTo = some pkg) (hrate : s.fld rBsnCtl 16 16 ≠ 0)
    (hk : k ∈ s.pullable o k.tenant k.object)
    (hbest : ∀ x ∈ s.pullable o k.tenant k.object, bfLt (s.berthScore k) (s.berthScore x) = false) :
    execBackgroundPull k s = .next { s with tiers := { s.tiers with bargeQ := s.tiers.bargeQ ++ [s.pullOf k pkg] } } := by
  have hgo : ¬ (s.fld rBsnCtl 16 16 = 0 ∨ (!(s.pullable o k.tenant k.object).contains k) = true ∨
      (s.pullable o k.tenant k.object).any (fun x => bfLt (s.berthScore k) (s.berthScore x)) = true) := by
    rintro (hno | hno | hno)
    · exact hrate hno
    · simp [hk] at hno
    · obtain ⟨x, hx, hlt⟩ := List.any_eq_true.mp hno
      rw [hbest x hx] at hlt
      cases hlt
  have hfree := (List.mem_filter.mp hk).2
  simp only [Bool.and_eq_true, Bool.not_eq_true', Option.isNone_iff_eq_none] at hfree
  obtain ⟨⟨-, hqueue⟩, hbarge⟩ := hfree
  rw [← State.queueBarge_new (r := s.pullOf k pkg) hqueue hbarge]
  unfold State.berthScore at hgo
  simp only [execBackgroundPull, ho, hmoved, if_neg hgo]
  rfl

end

end Sys2Proof.Machine
end

section
/-! The steps of a tenant's removal (R347, R380 to R382; log entries 117 and 118). -/

namespace Sys2Proof.Machine

/-! ### Closing connections leaves the key slots (R299, R305, R370) -/

@[simp] theorem State.sec_of_send (s : State) (m : OutMsg) : (s.send m).sec = s.sec := by
  unfold State.send; split <;> rfl

@[simp] theorem State.sec_of_raiseMsix (s : State) (v : Nat) : (s.raiseMsix v).sec = s.sec := by
  unfold State.raiseMsix; split <;> simp

@[simp] theorem State.sec_of_wake (s : State) (src : WaitSrc) (ok : Bool) : (s.wake src ok).sec = s.sec := by
  unfold State.wake; dsimp only; (repeat' split) <;> rfl

@[simp] theorem State.sec_of_chRemote (s : State) (ch : Nat) (op : ChOp) : (s.chRemote ch op).sec = s.sec := by
  have hall (t : State) : (t.wakeAll ch).sec = t.sec :=
    State.foldl_keeps (g := State.sec) (f := fun t (w : Waiter) => t.wake w.src true) (fun t w => t.sec_of_wake w.src true) _ _
  unfold State.chRemote State.chEffect
  split
  · rfl
  · dsimp only; split <;> simp [hall]

@[simp] theorem State.sec_of_connCq (s : State) (n : Nat) (b : List Byte) : (s.connCq n b).sec = s.sec := by
  unfold State.connCq State.connPut State.connChamber
  dsimp only
  split
  · rfl
  · split <;> simp

@[simp] theorem State.sec_of_wrDone (s : State) (n id : Nat) (w : WR) (status : Nat) (result : W64) (data : List Byte) :
    (s.wrDone n id w status result data).sec = s.sec := by
  have hcore (t : State) (k f : Nat) : (t.fxResult k f status result data).sec = t.sec := by
    unfold State.fxResult; dsimp only; (repeat' split) <;> rfl
  unfold State.wrDone
  dsimp only
  (repeat' split) <;> simp [hcore]

@[simp] theorem State.sec_of_failLive (s : State) (n status : Nat) : (s.failLive n status).sec = s.sec := by
  have hdone (t : State) (id status : Nat) : (t.liveDone n id status 0 []).sec = t.sec := by
    unfold State.liveDone
    dsimp only
    split <;> simp
  unfold State.failLive
  dsimp only
  rw [State.setConn_sec]
  exact State.foldl_keeps (g := State.sec) (fun t l => hdone ..) _ _

@[simp] theorem State.sec_of_failFirst (s : State) (n status : Nat) : (s.failFirst n status).sec = s.sec := by
  unfold State.failFirst State.popWr
  dsimp only
  split
  case h_1 h =>
    split at h
    · cases h
    · cases h; simp
  case h_2 => rfl

@[simp] theorem State.sec_of_failQueue (s : State) (n status : Nat) : (s.failQueue n status).sec = s.sec := by
  have hwaiter : (s.dropWaiter n).sec = s.sec := by
    unfold State.dropWaiter; dsimp only; (repeat' split) <;> rfl
  exact (State.foldl_keeps (g := State.sec) (f := fun t (_ : Nat) => t.failFirst n status) (fun t _ => t.sec_of_failFirst ..) _ _).trans hwaiter

@[simp] theorem State.sec_of_dropInMsg (s : State) (n : Nat) : (s.dropInMsg n).sec = s.sec := by
  have hdrop (t : State) (key care : BitVec 128) : (t.ldgDrop key care).sec = t.sec := by
    unfold State.ldgDrop; split <;> rfl
  have hsettle (t : State) (i : Nat) : (t.moorSettle i).sec = t.sec := by
    unfold State.moorSettle
    dsimp only
    split
    · rw [State.foldl_keeps (g := State.sec) (fun u j => u.sec_of_finishJob j stOk 0), hdrop]; rfl
    · rfl
  unfold State.dropInMsg State.moorLeave
  dsimp only
  (repeat' split) <;> simp [hsettle]

@[simp] theorem State.sec_of_dropFrames (s : State) (n : Nat) : (s.dropFrames n).sec = s.sec := by
  unfold State.dropFrames; dsimp only; split <;> rfl

@[simp] theorem State.sec_of_closeConn (s : State) (n status : Nat) : (s.closeConn n status).sec = s.sec := by
  unfold State.closeConn
  dsimp only
  split <;> simp

/-! ### Slots freed leave the key slots and the tables -/

theorem State.freeHome_leaves (s : State) (slot : Nat) : (s.freeHome slot).sec = s.sec ∧ (s.freeHome slot).tiers.layers = s.tiers.layers ∧
    (s.freeHome slot).tiers.objects = s.tiers.objects ∧ (s.freeHome slot).tiers.copies = s.tiers.copies := by
  unfold State.freeHome; split <;> exact ⟨rfl, rfl, rfl, rfl⟩

theorem State.foldl_freeHome_leaves {α : Type} (f : α → Nat) (l : List α) (s : State) :
    (l.foldl (fun s x => s.freeHome (f x)) s).sec = s.sec ∧ (l.foldl (fun s x => s.freeHome (f x)) s).tiers.layers = s.tiers.layers ∧
      (l.foldl (fun s x => s.freeHome (f x)) s).tiers.objects = s.tiers.objects ∧
      (l.foldl (fun s x => s.freeHome (f x)) s).tiers.copies = s.tiers.copies := by
  have hkeeps {β : Type} (g : State → β) (hg : ∀ t slot, g (State.freeHome t slot) = g t) : g (l.foldl (fun s x => s.freeHome (f x)) s) = g s :=
    State.foldl_keeps (fun t x => hg t (f x)) l s
  exact ⟨hkeeps State.sec fun t slot => (t.freeHome_leaves slot).1, hkeeps (fun t => t.tiers.layers) fun t slot => (t.freeHome_leaves slot).2.1,
    hkeeps (fun t => t.tiers.objects) fun t slot => (t.freeHome_leaves slot).2.2.1,
    hkeeps (fun t => t.tiers.copies) fun t slot => (t.freeHome_leaves slot).2.2.2⟩

theorem State.dropTables_leaves (s : State) : s.dropTables.sec = s.sec ∧ s.dropTables.tiers.layers = s.tiers.layers ∧
    s.dropTables.tiers.objects = s.tiers.objects ∧ s.dropTables.tiers.copies = s.tiers.copies :=
  State.foldl_freeHome_leaves (fun p : Nat × FSlot => p.1 + 0x01000000) _ s

/-! ### The step a removal stands at -/

section
variable {s : State} {rm : Removal}

theorem State.removalAt_step (h : s.sec.removal = some rm) : s.removalAt rm.step = some rm := by
  simp [State.removalAt, h]

theorem State.removalAt_other (h : s.sec.removal = some rm) {n : Nat} (hn : rm.step ≠ n) : s.removalAt n = none := by
  simp [State.removalAt, h, hn]

/-! ### The fence (R380 step 2) -/

theorem execRemovalFence_at (h : s.removalAt 1 = some rm) :
    ∃ t n, execRemovalFence s = .next (State.setRemoval t { rm with step := 2, fenced := n }) := by
  simp only [execRemovalFence, h]
  exact ⟨_, _, rfl⟩

/-! ### Sweeps, members and barges ended (R380 step 3) -/

theorem execRemovalCancel_none (h : s.removalAt 2 = some rm) (hsweeps : s.sweeps.accepted = []) (hmembers : s.sweeps.members = [])
    (hbarges : s.tiers.barges = []) :
    execRemovalCancel s = .next (s.setRemoval { rm with step := 3, sweeps := 0, barges := rm.barges }) := by
  simp [execRemovalCancel, h, hsweeps, hmembers, hbarges]

theorem State.cancelAll_leaves (s : State) (c : Convoy) : (s.cancelAll c).sweeps = s.sweeps ∧ (s.cancelAll c).tiers = s.tiers := by
  have hkeeps {β : Type} (g : State → β) (hg : ∀ t m, g (State.send t m) = g t) : g (s.cancelAll c) = g s := by
    refine State.foldl_keeps (fun t x => ?_) _ _
    dsimp only
    (repeat' split) <;> simp [hg]
  exact ⟨hkeeps State.sweeps State.sweeps_of_send, hkeeps State.tiers State.tiers_of_send⟩

theorem State.endSweep_leaves (s : State) (a : ASweep) (st code : Nat) :
    (s.endSweep a st code).sweeps.members = s.sweeps.members ∧ (s.endSweep a st code).tiers = s.tiers := by
  unfold State.endSweep State.sweepCompletion
  dsimp only
  split
  · exact ⟨rfl, rfl⟩
  · split
    · rw [State.sweeps_of_postCq, State.tiers_of_postCq]; exact ⟨rfl, rfl⟩
    · exact ⟨rfl, rfl⟩

/-- A sweep's convoy at its merge point stopped, and its request for merge room withdrawn (R71). -/
def State.stopConvoy (s : State) (a : ASweep) : State :=
  let g := gsidOf selfPkg a.num
  let s1 := match s.convoy g with
    | some c =>
      if c.seq = a.seq ∧ c.origin = selfPkg ∧ !c.finished then ((s.freePool c).setConvoy { c with finished := true }).cancelAll c
      else s
    | none => if a.times.isSome then s.send (.cancel a.mergePkg g a.seq) else s
  { s1 with sweeps := { s1.sweeps with poolQ := s1.sweeps.poolQ.filter (fun q => decide (q.gsid ≠ g)) } }

theorem State.stopConvoy_leaves (s : State) (a : ASweep) :
    (s.stopConvoy a).sweeps.members = s.sweeps.members ∧ (s.stopConvoy a).tiers = s.tiers := by
  unfold State.stopConvoy
  dsimp only
  split
  case h_1 c _ =>
    split
    · obtain ⟨hsweeps, htiers⟩ := ((s.freePool c).setConvoy { c with finished := true }).cancelAll_leaves c
      rw [hsweeps, htiers]
      unfold State.freePool
      split <;> exact ⟨rfl, rfl⟩
    · exact ⟨rfl, rfl⟩
  case h_2 => split <;> simp

/-- A sweep abandoned where no member works leaves no member, and the tiers as they were. -/
theorem State.abandon_leaves (a : ASweep) (code : Nat) (hmembers : s.sweeps.members = []) :
    (s.abandon a code).sweeps.members = [] ∧ (s.abandon a code).tiers = s.tiers := by
  obtain ⟨hstopped, htiers⟩ := s.stopConvoy_leaves a
  have hmember : (s.stopConvoy a).member (gsidOf selfPkg a.num) a.seq false = none := by
    rw [State.member, hstopped, hmembers]; rfl
  have habandon : s.abandon a code = (s.stopConvoy a).endSweep a 7 code := by
    have heq : s.abandon a code = ((match (s.stopConvoy a).member (gsidOf selfPkg a.num) a.seq false with
      | some m => if m.stage < 3 then (s.stopConvoy a).stopMember m else s.stopConvoy a
      | none => s.stopConvoy a)).endSweep a 7 code := rfl
    rw [heq, hmember]
  obtain ⟨hend, hendTiers⟩ := (s.stopConvoy a).endSweep_leaves a 7 code
  rw [habandon, hend, hstopped, hmembers, hendTiers, htiers]
  exact ⟨rfl, rfl⟩

theorem execRemovalCancel_one {a : ASweep} (h : s.removalAt 2 = some rm) (hsweeps : s.sweeps.accepted = [(a.num, a)])
    (htenant : a.tenant = rm.tenant) (hstate : a.state < 5) (hmembers : s.sweeps.members = []) (hbarges : s.tiers.barges = []) :
    execRemovalCancel s =
      .next (((s.zeroHalves a).abandon a stTenantRetired).setRemoval { rm with step := 3, sweeps := 1, barges := rm.barges }) := by
  obtain ⟨hnone, htiers⟩ := State.abandon_leaves (s := s.zeroHalves a) a stTenantRetired hmembers
  have hnoBarge : ((s.zeroHalves a).abandon a stTenantRetired).tiers.barges = [] := (congrArg Tiers.barges htiers).trans hbarges
  simp [execRemovalCancel, h, hsweeps, htenant, hstate, hnone, hnoBarge]

/-! ### Keys, storage and entries given up (R380 step 4) -/

theorem execRemovalScrub_at (h : s.removalAt 3 = some rm) : ∃ t q, execRemovalScrub s = .next t ∧ t.sec.removal = some q ∧ q.step = 4 ∧
    t.keySlot rm.tenant = { st := 4, owner := (s.keySlot rm.tenant).owner } ∧ (∀ l ∈ t.tiers.layers, l.1.tenant ≠ rm.tenant) ∧
    (∀ o ∈ t.tiers.objects, o.1.1 ≠ rm.tenant) ∧ (∀ c ∈ t.tiers.copies, c.1.tenant ≠ rm.tenant) := by
  simp only [execRemovalScrub, h]
  have hjobs (l : List Nat) (u : State) : (l.foldl (fun u j => u.finishJob j stOk 0) u).tiers = u.tiers :=
    State.foldl_keeps (g := State.tiers) (fun u j => u.tiers_of_finishJob j stOk 0) l u
  refine ⟨_, _, rfl, rfl, rfl, ?slot, ?layers, ?objects, ?copies⟩
  case slot =>
    have hconns (l : List Nat) (u : State) : (l.foldl (fun u n => (u.closeConn n stWrCancelled).send (.connClose n)) u).sec = u.sec :=
      State.foldl_keeps (g := State.sec) (fun u n => by rw [State.sec_of_send, State.sec_of_closeConn]) l u
    have hmoors (l : List Nat) (u : State) :
        (l.foldl (fun u i => u.setMooring i { u.mooring i with st := 3, inflight := 0, jobs := [] }) u).sec = u.sec :=
      State.foldl_keeps (g := State.sec) (f := fun u i => u.setMooring i { u.mooring i with st := 3, inflight := 0, jobs := [] }) (fun _ _ => rfl) l u
    have hjobsSec (l : List Nat) (u : State) : (l.foldl (fun u j => u.finishJob j stOk 0) u).sec = u.sec :=
      State.foldl_keeps (g := State.sec) (fun u j => u.sec_of_finishJob j stOk 0) l u
    have hslots := s.keySlot_setKeySlot rm.tenant { st := 4, owner := (s.keySlot rm.tenant).owner }
    have hslot (u : State) (q : Removal) (hu : u.sec = (s.setKeySlot rm.tenant { st := 4, owner := (s.keySlot rm.tenant).owner }).sec) :
        (u.setRemoval q).keySlot rm.tenant = { st := 4, owner := (s.keySlot rm.tenant).owner } := (State.keySlot_congr hu _).trans hslots
    refine hslot _ _ ((State.dropTables_leaves _).1.trans ((hjobsSec _ _).trans ?_))
    exact (hmoors _ _).trans ((hconns _ _).trans ((State.foldl_freeHome_leaves _ _ _).1.trans (State.foldl_freeHome_leaves _ _ _).1))
  case layers =>
    rw [State.setRemoval_tiers, (State.dropTables_leaves _).2.1, hjobs]
    exact fun l hl => by simpa using (List.mem_filter.mp hl).2
  case objects =>
    rw [State.setRemoval_tiers, (State.dropTables_leaves _).2.2.1, hjobs]
    exact fun o ho => by simpa using (List.mem_filter.mp ho).2
  case copies =>
    rw [State.setRemoval_tiers, (State.dropTables_leaves _).2.2.2, hjobs]
    exact fun c hc => by simpa using (List.mem_filter.mp hc).2

/-! ### The report (R382) -/

theorem execRemovalReport_at {o : ComposeOp} (h : s.removalAt 4 = some rm) (ho : s.host.composing = some o) (hqueue : s.host.composeQ = []) :
    execRemovalReport s = .next ((s.removeEnd rm (dscOf 0 o.ring o.desc)).setComposing none) := by
  obtain ⟨-, -, hlast⟩ := s.removeEnd_leaves rm (dscOf 0 o.ring o.desc)
  have hidle := State.composeOn_idle (s := (s.removeEnd rm (dscOf 0 o.ring o.desc)).setComposing none) rfl (hlast.trans hqueue)
  simp only [execRemovalReport, h, ho]
  exact congrArg Host.Outcome.next hidle

end

/-- Settles O50: a move by its target, its switch and its pulls; then each step of a removal, at its step and at any other. -/
theorem objectMovesAndRemoval : Obligations.ObjectMovesAndRemoval := by
  unfold Obligations.ObjectMovesAndRemoval
  refine ⟨fun s b r d => ?moves, fun s rm h => ?removal⟩
  case moves =>
    intro u object
    refine ⟨fun h o ho hbasin hbase hmoving hmoveBasin => ?move, fun tn ob o n ho hn => ?switch, fun tn ob o ho hnone => ?still,
      fun k o pkg ho hmoved => ?pull⟩
    case move =>
      have hexec : exec (.moveObject b r) s = .next (doMoveObject d u) := congrArg _ (serve_of_submitted doMoveObject h rfl)
      have hmay : MovesOwn u d o := ⟨ho, hbasin, hbase, hmoving, hmoveBasin⟩
      rw [hexec]
      refine ⟨fun hpkg hb hst htenant hother => ?_, fun hpkg hwrong => ?_, fun hpkg hwrong => ?_, fun hmost hother hset hpeer => ?_⟩
      · rw [doMoveObject_basin hmay hpkg hb hst htenant hother]
        refine ⟨fun (harmed : (d.basinMove u o).armedBefore d.tenant (d.f 0x10 4) o.basin = true) => ?_,
          fun (hclear : (d.basinMove u o).armedBefore d.tenant (d.f 0x10 4) o.basin = false) => ?_⟩
        · rw [if_pos harmed]; rfl
        · rw [if_neg (Bool.eq_false_iff.mp hclear)]; rfl
      · rw [doMoveObject_noBasin hmay hpkg hwrong]
      · rw [doMoveObject_noPackage hmay hpkg hwrong]
      · rw [doMoveObject_package hmay hmost hother hset hpeer]
    case switch =>
      have hexec := execMoveLedgerSwitch_moving ho hn
      exact ⟨fun harmed => hexec.trans (if_pos harmed), fun hclear => hexec.trans (if_neg (Bool.eq_false_iff.mp hclear))⟩
    case still => exact execMoveLedgerSwitch_still ho hnone
    case pull =>
      exact ⟨fun hrate hk hbest => ⟨_, s.pullOf k pkg, execBackgroundPull_best ho hmoved hrate hk hbest, rfl, rfl, rfl⟩,
        execBackgroundPull_not ho hmoved⟩
  case removal =>
    have hat {n : Nat} (hn : rm.step = n) : s.removalAt n = some rm := hn ▸ State.removalAt_step h
    have hother {n : Nat} (hn : rm.step ≠ n) : s.removalAt n = none := State.removalAt_other h hn
    refine ⟨fun hstep => ?fence, fun hstep _ _ => ?fenced, fun hstep => ?fenceOther, fun hstep => ?cancelNone, fun a hstep => ?cancelOne,
      fun hstep => ?cancelOther, fun hstep _ => ?scrub, fun hstep => ?scrubOther, fun o hstep ho hqueue => ?report, fun hstep => ?reportOther⟩
    case fence =>
      obtain ⟨t, n, hexec⟩ := execRemovalFence_at (hat hstep)
      exact ⟨_, _, hexec, rfl, rfl, rfl, rfl, rfl⟩
    case fenced =>
      obtain ⟨t, n, hexec⟩ := execRemovalFence_at (hat hstep)
      exact ⟨_, hexec, n, rfl⟩
    case fenceOther => simp only [exec_removalFence, execRemovalFence, hother hstep]
    case cancelNone => exact execRemovalCancel_none (hat hstep)
    case cancelOne => exact execRemovalCancel_one (hat hstep)
    case cancelOther => simp only [exec_removalCancel, execRemovalCancel, hother hstep]
    case scrub => exact execRemovalScrub_at (hat hstep)
    case scrubOther => simp only [exec_removalScrub, execRemovalScrub, hother hstep]
    case report =>
      obtain ⟨hslot, hremoval, -⟩ := s.removeEnd_leaves rm (dscOf 0 o.ring o.desc)
      exact ⟨_, execRemovalReport_at (hat hstep) ho hqueue, hremoval, hslot, rfl⟩
    case reportOther => simp only [exec_removalReport, execRemovalReport, hother hstep]

end Sys2Proof.Machine
end
